-- ==== Sys2Proof/Word.lean ====
section
/-!
DEFINITION. The words of the model: bytes, object values and the value of an S32 or S64 member read as a number.
-/
namespace Sys2Proof.Machine

/-- One octet of a frame, a block area or a memory. -/
abbrev Byte := BitVec 8

/-- The 64 bits every dictionary member occupies on PCIe (R116), and a tutor register (R354). -/
abbrev W64 := BitVec 64

/-- An octet string, first octet first. -/
abbrev Bytes := List Byte

end Sys2Proof.Machine
end

