-- ==== Sys2Proof/Machine/SMap.lean ====
section
/-!
DEFINITION. Sparse maps from numbers to values in one canonical form: keys strictly rising, and no entry equal to what
an unlisted key reads as. Registers, tables and byte memories are all held so, and equal contents are equal lists.
-/
namespace Sys2Proof.Machine

/-- A sparse map; `SMap Byte` is a list of `Host.Cell`. -/
abbrev SMap (α : Type) := List (Nat × α)

variable {α : Type}

/-- The listed value of a key. -/
def SMap.find (m : SMap α) (k : Nat) : Option α :=
  match m with
  | [] => none
  | (j, v) :: r => if j = k then some v else SMap.find r k

/-- The value of a key, `d k` where the key is not listed. -/
def SMap.get (d : Nat → α) (m : SMap α) (k : Nat) : α := (SMap.find m k).getD (d k)

/-- The map without a key. -/
def SMap.erase (m : SMap α) (k : Nat) : SMap α := m.filter (fun e => !(e.1 == k))

/-- The map with a key listed at its place in rising order. -/
def SMap.put (m : SMap α) (k : Nat) (v : α) : SMap α :=
  match m with
  | [] => [(k, v)]
  | (j, w) :: r => if j < k then (j, w) :: SMap.put r k v else if j = k then (k, v) :: r else (k, v) :: (j, w) :: r

/-- Writing a key: a value equal to the unlisted one removes the entry. -/
def SMap.set [DecidableEq α] (d : Nat → α) (m : SMap α) (k : Nat) (v : α) : SMap α :=
  if v = d k then SMap.erase m k else SMap.put m k v

/-- The map without the keys for which `p` holds: those read as unlisted from then on. -/
def SMap.clear (m : SMap α) (p : Nat → Bool) : SMap α := m.filter (fun e => !p e.1)

/-- Keys strictly rise. -/
def SMap.rising (m : SMap α) : Bool :=
  match m with
  | [] => true
  | (j, _) :: r => (match r with | [] => true | (k, _) :: _ => decide (j < k)) && SMap.rising r

/-- The canonical form. -/
def SMap.wf [DecidableEq α] (d : Nat → α) (m : SMap α) : Bool :=
  SMap.rising m && m.all (fun e => !decide (e.2 = d e.1))

/-- The unlisted byte: memory is cleared to zero (R107), and a block area reads zero where nothing was written. -/
def zeroByte (_ : Nat) : Byte := 0

/-- The canonical form of a byte memory. -/
def Memory.wf (m : List Host.Cell) : Bool := SMap.wf zeroByte m

/-- One byte of a byte memory. -/
def Memory.read (m : List Host.Cell) (a : Nat) : Byte := SMap.get zeroByte m a

/-- Write one byte. -/
def Memory.write (m : List Host.Cell) (a : Nat) (b : Byte) : List Host.Cell := SMap.set zeroByte m a b

/-- `n` bytes from an address. -/
def Memory.readBytes (m : List Host.Cell) (a n : Nat) : Bytes := (List.range n).map (fun i => Memory.read m (a + i))

/-- Write a byte string from an address up. -/
def Memory.writeBytes (m : List Host.Cell) (a : Nat) (bs : Bytes) : List Host.Cell :=
  match bs with
  | [] => m
  | b :: r => Memory.writeBytes (Memory.write m a b) (a + 1) r

/-- Clear a range of bytes to zero. -/
def Memory.clear (m : List Host.Cell) (lo hi : Nat) : List Host.Cell :=
  SMap.clear m (fun a => decide (lo ≤ a) && decide (a < hi))

end Sys2Proof.Machine
end

