-- ==== Sys2Proof/Machine/Bits.lean ====
section
/-!
DEFINITION. Byte strings and bit fields: byte order (R7), fields of numbers (R6), the cyclic checks of the check-value
unit and of IEEE 802.3, and the one's-complement checksum of IPv4, TCP, UDP and ICMP.
-/
namespace Sys2Proof.Machine

/-- Bits [lo + w - 1 : lo] of a number (R6). -/
def fld (v lo w : Nat) : Nat := v / 2 ^ lo % 2 ^ w

/-- A number with bits [lo + w - 1 : lo] replaced. -/
def setFld (v lo w x : Nat) : Nat := v - fld v lo w * 2 ^ lo + x % 2 ^ w * 2 ^ lo

/-- Bit `i` of a number. -/
def bitOf (v i : Nat) : Bool := v.testBit i

/-- A truth value as the number 0 or 1. -/
def b2n (b : Bool) : Nat := if b then 1 else 0

/-- Byte `i` of an octet string as a number, zero past its end. -/
def byteAt (bs : Bytes) (i : Nat) : Nat := (bs.getD i 0).toNat

/-- A number as one byte. -/
def toByte (n : Nat) : Byte := BitVec.ofNat 8 n

/-- The most significant byte first (R7: fields in frames). -/
def beVal (bs : Bytes) : Nat := bs.foldl (fun a b => a * 256 + b.toNat) 0

/-- The least significant byte first (R7: descriptors and objects over PCIe). -/
def leVal (bs : Bytes) : Nat := bs.foldr (fun b a => a * 256 + b.toNat) 0

/-- `n` bytes of a string from an offset, zero past its end. -/
def slice (bs : Bytes) (off n : Nat) : Bytes := (List.range n).map (fun i => bs.getD (off + i) 0)

/-- The big-endian number in `n` bytes from an offset. -/
def beAt (bs : Bytes) (off n : Nat) : Nat := beVal (slice bs off n)

/-- The little-endian number in `n` bytes from an offset. -/
def leAt (bs : Bytes) (off n : Nat) : Nat := leVal (slice bs off n)

/-- A number as `n` bytes, most significant first. -/
def toBE (n v : Nat) : Bytes := (List.range n).map (fun i => toByte (v / 256 ^ (n - 1 - i)))

/-- A number as `n` bytes, least significant first. -/
def toLE (n v : Nat) : Bytes := (List.range n).map (fun i => toByte (v / 256 ^ i))

/-- A string with the bytes from an offset replaced, cut to the string's own length. -/
def patch (bs : Bytes) (off : Nat) (new : Bytes) : Bytes :=
  bs.take off ++ (new.take (bs.length - off)) ++ bs.drop (off + new.length)

/-- A string cut or padded with zeros to `n` bytes. -/
def fit (n : Nat) (bs : Bytes) : Bytes := slice bs 0 n

/-- The signed value of the low `w` bits. -/
def sgn (w v : Nat) : Int := if fld v (w - 1) 1 = 1 then (fld v 0 w : Int) - 2 ^ w else fld v 0 w

/-- A signed value in `w` bits of two's complement. -/
def unsgn (w : Nat) (i : Int) : Nat := (i % (2 ^ w : Int)).toNat

/-- Bit reversal of the low `w` bits. -/
def revBits (w v : Nat) : Nat := (List.range w).foldl (fun a i => a + fld v i 1 * 2 ^ (w - 1 - i)) 0

/-- One byte into a check-value register of width `w` (R486): the byte enters at the most significant end, most
significant bit first. -/
def crcByte (w poly : Nat) (reg b : Nat) : Nat :=
  (List.range 8).foldl (fun r i =>
    let top := (fld r (w - 1) 1 + fld b (7 - i) 1) % 2
    let sh := fld (r * 2) 0 w
    if top = 1 then sh ^^^ poly else sh) reg

/-- A byte string into a check-value register, each byte bit-reversed first when `refIn` holds. -/
def crcFeed (w poly : Nat) (refIn : Bool) (reg : Nat) (bs : Bytes) : Nat :=
  bs.foldl (fun r b => crcByte w poly r (if refIn then revBits 8 b.toNat else b.toNat)) reg

/-- The result taken from a check-value register (R486). -/
def crcOut (w : Nat) (refOut inv : Bool) (reg : Nat) : Nat :=
  let r := if refOut then revBits w reg else reg
  if inv then 2 ^ w - 1 - r else r

/-- CRC-32C: width 32, polynomial 0x1EDC_6F41, all ones first, reflected, inverted (the defaults of R494). -/
def crc32c (bs : Bytes) : Nat := crcOut 32 true true (crcFeed 32 0x1EDC6F41 true 0xFFFFFFFF bs)

/-- The CRC-32 of IEEE 802.3, as the number whose low byte is sent first. -/
def crcEth (bs : Bytes) : Nat := crcOut 32 true true (crcFeed 32 0x04C11DB7 true 0xFFFFFFFF bs)

/-- The one's-complement sum of 16-bit words, an odd last byte padded with zero. -/
def ocSum (bs : Bytes) : Nat :=
  match bs with
  | [] => 0
  | [a] => a.toNat * 256
  | a :: b :: r => let t := a.toNat * 256 + b.toNat + ocSum r; t % 65536 + t / 65536

/-- The one's-complement checksum. -/
def ocCheck (bs : Bytes) : Nat := 65535 - ocSum bs

end Sys2Proof.Machine
end

