-- ==== Sys2Proof/Machine/Members.lean ====
section
/-!
DEFINITION. The object dictionary's members: the number of each (R9), its type, rights, range and default, as the
tables of R47, R58, R91, R115, R133, R171, R172, R192, R219 to R221, R244, R245, R264, R265, R295 to R298, R319,
R349 to R353, R380, R381, R404 to R406, R429, R430, R455, R483, R494, R509, R510, R533, R534 and R549 give them.
-/
namespace Sys2Proof.Machine

/-- The member types of R116. -/
inductive MType where
  | bool | u8 | u16 | u32 | u64 | s32 | s64 | enum8 | bits32 | bits64 | time64 | octets8
  deriving DecidableEq, Repr

/-- The access codes of R120; `none` is "no right". -/
inductive Right where
  | none | r | rw | rws | rc | x
  deriving DecidableEq, Repr

/-- The stated range of a member (R119). -/
inductive Range where
  | any
  | between (lo hi : Nat)
  | zeroOr (lo hi : Nat)
  | mult (lo hi step : Nat)
  | pow2 (lo hi : Nat)
  | signed (lo hi : Int)
  deriving DecidableEq, Repr

/-- One row of a member table: members `lo` to `hi` of instances 0 to `insts - 1` of its class, with the rights of
the four principals of R121 and the mask of the bits that are stored (R8). -/
structure MemberRow where
  lo : Nat
  hi : Nat
  insts : Nat
  ty : MType
  k : Right
  u : Right
  d : Right
  t : Right
  range : Range
  mask : Nat
  deriving DecidableEq, Repr

/-- Members of class 0x01. -/
def rowsOfDevice : List MemberRow := [
  ⟨0x00, 0x00, 1, .u32, .r, .r, .r, .r, .any, 0xFFFFFFFF⟩,
  ⟨0x01, 0x01, 1, .enum8, .r, .r, .r, .r, .any, 0xFF⟩,
  ⟨0x02, 0x02, 1, .enum8, .r, .none, .r, .r, .any, 0xFF⟩,
  ⟨0x03, 0x03, 1, .octets8, .r, .none, .r, .none, .any, 0xFFFFFFFFFFFFFFFF⟩,
  ⟨0x04, 0x04, 1, .u16, .r, .r, .r, .r, .any, 0xFFFF⟩,
  ⟨0x05, 0x05, 1, .bits64, .r, .r, .r, .r, .any, 0xFFFFFFFFFFFFFFFF⟩,
  ⟨0x06, 0x06, 1, .u32, .r, .none, .r, .none, .any, 0xFFFFFFFF⟩,
  ⟨0x07, 0x07, 1, .time64, .r, .none, .r, .none, .any, 0xFFFFFFFFFFFFFFFF⟩,
  ⟨0x08, 0x08, 1, .u16, .rc, .none, .r, .none, .any, 0xFFFF⟩,
  ⟨0x09, 0x09, 1, .u32, .r, .none, .r, .none, .any, 0xFFFFFFFF⟩,
  ⟨0x0A, 0x0A, 1, .u64, .r, .none, .r, .none, .any, 0xFFFFFFFFFFFFFFFF⟩,
  ⟨0x0B, 0x0B, 1, .u64, .r, .none, .r, .none, .any, 0xFFFFFFFFFFFFFFFF⟩,
  ⟨0x0C, 0x0C, 1, .u64, .r, .none, .r, .none, .any, 0xFFFFFFFFFFFFFFFF⟩,
  ⟨0x0D, 0x0D, 1, .u64, .r, .none, .r, .none, .any, 0xFFFFFFFFFFFFFFFF⟩,
  ⟨0x0E, 0x0E, 1, .u64, .rw, .none, .rw, .rw, .any, 0xFFFFFFFFFFFFFFFF⟩]

/-- Members of class 0x02. -/
def rowsOfStart : List MemberRow := [
  ⟨0x10, 0x10, 1, .enum8, .r, .r, .r, .r, .any, 0xFF⟩,
  ⟨0x11, 0x11, 1, .enum8, .rw, .none, .rw, .none, (.between 0 3), 0xFF⟩,
  ⟨0x12, 0x12, 1, .bits32, .rw, .none, .rw, .none, .any, 0xFFFF⟩,
  ⟨0x13, 0x13, 1, .bits32, .r, .r, .r, .r, .any, 0xFFFFFFFF⟩,
  ⟨0x14, 0x14, 1, .u8, .x, .none, .x, .none, .any, 0xFF⟩,
  ⟨0x15, 0x15, 1, .u16, .r, .none, .r, .none, .any, 0xFFFF⟩,
  ⟨0x16, 0x16, 1, .bits32, .r, .none, .r, .r, .any, 0xFFFFFFFF⟩,
  ⟨0x17, 0x17, 1, .u64, .r, .none, .r, .none, .any, 0xFFFFFFFFFFFFFFFF⟩,
  ⟨0x18, 0x18, 1, .u64, .r, .none, .r, .none, .any, 0xFFFFFFFFFFFFFFFF⟩,
  ⟨0x19, 0x19, 1, .u8, .x, .none, .x, .none, .any, 0xFF⟩,
  ⟨0x00, 0x00, 1, .enum8, .r, .r, .r, .r, .any, 0xFF⟩,
  ⟨0x01, 0x01, 1, .u8, .r, .none, .r, .none, .any, 0xFF⟩,
  ⟨0x02, 0x02, 1, .bool, .rw, .none, .rw, .none, .any, 0x1⟩,
  ⟨0x03, 0x03, 1, .u8, .x, .none, .x, .none, .any, 0xFF⟩,
  ⟨0x04, 0x04, 1, .u8, .x, .none, .x, .none, .any, 0xFF⟩,
  ⟨0x05, 0x05, 1, .u8, .r, .none, .r, .none, .any, 0xFF⟩,
  ⟨0x06, 0x06, 1, .u16, .r, .none, .r, .none, .any, 0xFFFF⟩,
  ⟨0x07, 0x07, 1, .bool, .r, .r, .r, .r, .any, 0x1⟩,
  ⟨0x08, 0x08, 1, .u16, .r, .none, .r, .none, .any, 0xFFFF⟩,
  ⟨0x09, 0x09, 1, .u8, .r, .none, .r, .none, .any, 0xFF⟩,
  ⟨0x0A, 0x0A, 1, .u8, .r, .none, .r, .none, .any, 0xFF⟩,
  ⟨0x0B, 0x0B, 1, .u8, .r, .none, .r, .none, .any, 0xFF⟩,
  ⟨0x0C, 0x0C, 1, .bool, .r, .none, .r, .none, .any, 0x1⟩,
  ⟨0x0D, 0x0D, 1, .enum8, .r, .none, .r, .none, .any, 0xFF⟩,
  ⟨0x0E, 0x0E, 1, .u64, .r, .none, .r, .none, .any, 0xFFFFFFFFFFFFFFFF⟩,
  ⟨0x0F, 0x0F, 1, .u64, .r, .none, .r, .none, .any, 0xFFFFFFFFFFFFFFFF⟩,
  ⟨0x1A, 0x1A, 1, .u16, .r, .none, .r, .none, .any, 0xFFFF⟩,
  ⟨0x20, 0x20, 1, .u32, .rw, .none, .r, .none, .any, 0xFFFFFFFF⟩,
  ⟨0x21, 0x21, 1, .u32, .rw, .none, .r, .none, .any, 0xFFFFFFFF⟩,
  ⟨0x22, 0x22, 1, .u32, .rw, .none, .r, .none, .any, 0xFFFFFFFF⟩,
  ⟨0x23, 0x23, 1, .u8, .x, .none, .none, .none, .any, 0xFF⟩]

/-- Members of class 0x03. -/
def rowsOfPower : List MemberRow := [
  ⟨0x00, 0x00, 1, .enum8, .r, .r, .r, .r, .any, 0xFF⟩,
  ⟨0x01, 0x01, 1, .u16, .r, .none, .r, .none, .any, 0xFFFF⟩,
  ⟨0x02, 0x02, 1, .u16, .r, .none, .r, .none, .any, 0xFFFF⟩,
  ⟨0x03, 0x03, 1, .u16, .r, .none, .r, .none, .any, 0xFFFF⟩,
  ⟨0x04, 0x04, 1, .s32, .r, .r, .r, .r, .any, 0xFFFFFFFF⟩,
  ⟨0x05, 0x05, 1, .s32, .rc, .none, .r, .none, .any, 0xFFFFFFFF⟩,
  ⟨0x06, 0x06, 1, .s32, .rw, .none, .rw, .none, (.between 60000 105000), 0xFFFFFFFF⟩,
  ⟨0x07, 0x07, 1, .u16, .rw, .none, .rw, .none, (.between 1 4096), 0xFFFF⟩,
  ⟨0x08, 0x08, 1, .enum8, .rw, .none, .rw, .none, (.between 1 3), 0xFF⟩,
  ⟨0x09, 0x09, 1, .bool, .r, .r, .r, .none, .any, 0x1⟩,
  ⟨0x0A, 0x0A, 1, .u8, .r, .none, .r, .none, .any, 0xFF⟩,
  ⟨0x0B, 0x0B, 1, .u16, .rc, .none, .r, .none, .any, 0xFFFF⟩,
  ⟨0x0C, 0x0C, 1, .bits32, .rc, .none, .rc, .none, .any, 0x3F⟩,
  ⟨0x0D, 0x0D, 1, .u64, .r, .r, .r, .none, .any, 0xFFFFFFFFFFFFFFFF⟩,
  ⟨0x0E, 0x0E, 1, .u64, .r, .r, .r, .none, .any, 0xFFFFFFFFFFFFFFFF⟩,
  ⟨0x0F, 0x0F, 1, .u64, .r, .r, .r, .none, .any, 0xFFFFFFFFFFFFFFFF⟩,
  ⟨0x10, 0x10, 1, .u64, .r, .r, .r, .none, .any, 0xFFFFFFFFFFFFFFFF⟩,
  ⟨0x11, 0x11, 1, .u64, .r, .r, .r, .none, .any, 0xFFFFFFFFFFFFFFFF⟩,
  ⟨0x12, 0x12, 1, .u64, .r, .none, .r, .none, .any, 0xFFFFFFFFFFFFFFFF⟩,
  ⟨0x13, 0x13, 1, .u64, .r, .none, .r, .none, .any, 0xFFFFFFFFFFFFFFFF⟩,
  ⟨0x14, 0x14, 1, .u64, .r, .none, .r, .none, .any, 0xFFFFFFFFFFFFFFFF⟩,
  ⟨0x15, 0x15, 1, .u8, .x, .none, .x, .none, .any, 0xFF⟩,
  ⟨0x16, 0x16, 1, .u8, .x, .none, .x, .none, .any, 0xFF⟩,
  ⟨0x17, 0x17, 1, .enum8, .r, .r, .r, .r, .any, 0xFF⟩,
  ⟨0x18, 0x18, 1, .enum8, .r, .none, .r, .none, .any, 0xFF⟩,
  ⟨0x19, 0x19, 1, .u16, .r, .none, .r, .none, .any, 0xFFFF⟩,
  ⟨0x1A, 0x1A, 1, .u8, .r, .none, .r, .none, .any, 0xFF⟩,
  ⟨0x1B, 0x1B, 1, .u16, .r, .none, .r, .none, .any, 0xFFFF⟩,
  ⟨0x1C, 0x1C, 1, .u64, .r, .none, .r, .none, .any, 0xFFFFFFFFFFFFFFFF⟩,
  ⟨0x1D, 0x1D, 1, .u16, .r, .r, .r, .none, .any, 0xFFFF⟩]

/-- Members of class 0x04. -/
def rowsOfBell : List MemberRow := [
  ⟨0x00, 0x00, 1, .u32, .r, .r, .r, .r, .any, 0xFFFFFFFF⟩,
  ⟨0x01, 0x01, 1, .u32, .r, .r, .r, .r, .any, 0xFFFFFFFF⟩,
  ⟨0x02, 0x02, 1, .u32, .r, .r, .r, .r, .any, 0xFFFFFFFF⟩,
  ⟨0x03, 0x03, 1, .u16, .r, .none, .r, .none, .any, 0xFFFF⟩,
  ⟨0x04, 0x04, 1, .u16, .r, .none, .r, .none, .any, 0xFFFF⟩,
  ⟨0x05, 0x05, 1, .u16, .rc, .none, .r, .none, .any, 0xFFFF⟩,
  ⟨0x06, 0x06, 1, .u32, .rw, .none, .rw, .none, .any, 0xFFFFFFFF⟩,
  ⟨0x07, 0x07, 1, .u32, .rw, .none, .rw, .none, .any, 0xFFFFFFFF⟩,
  ⟨0x08, 0x08, 1, .u8, .x, .none, .x, .none, .any, 0xFF⟩,
  ⟨0x09, 0x09, 1, .u64, .r, .r, .r, .none, .any, 0xFFFFFFFFFFFFFFFF⟩,
  ⟨0x0A, 0x0A, 1, .bits32, .rc, .none, .r, .none, .any, 0x3FF⟩,
  ⟨0x0B, 0x0B, 1, .enum8, .r, .r, .r, .r, .any, 0xFF⟩]

/-- Members of class 0x05. -/
def rowsOfTxn : List MemberRow := [
  ⟨0x00, 0x00, 1, .enum8, .r, .r, .r, .r, .any, 0xFF⟩,
  ⟨0x01, 0x01, 1, .u16, .r, .none, .r, .none, .any, 0xFFFF⟩,
  ⟨0x02, 0x02, 1, .u8, .x, .none, .x, .none, .any, 0xFF⟩,
  ⟨0x03, 0x03, 1, .u8, .x, .none, .x, .none, .any, 0xFF⟩,
  ⟨0x04, 0x04, 1, .u8, .x, .none, .x, .none, .any, 0xFF⟩,
  ⟨0x05, 0x05, 1, .u16, .r, .none, .r, .none, .any, 0xFFFF⟩,
  ⟨0x06, 0x06, 1, .u32, .r, .none, .r, .none, .any, 0xFFFFFFFF⟩,
  ⟨0x07, 0x07, 1, .u16, .r, .none, .r, .none, .any, 0xFFFF⟩,
  ⟨0x08, 0x08, 1, .u32, .r, .none, .r, .none, .any, 0xFFFFFFFF⟩,
  ⟨0x09, 0x09, 1, .u32, .r, .none, .r, .none, .any, 0xFFFFFFFF⟩,
  ⟨0x0A, 0x0A, 1, .u32, .rw, .none, .rw, .none, (.between 0 8388607), 0xFFFFFFFF⟩,
  ⟨0x0D, 0x0D, 1, .u64, .r, .none, .r, .none, .any, 0xFFFFFFFFFFFFFFFF⟩,
  ⟨0x0E, 0x0E, 1, .u64, .r, .none, .r, .none, .any, 0xFFFFFFFFFFFFFFFF⟩,
  ⟨0x0F, 0x0F, 1, .u64, .r, .none, .r, .none, .any, 0xFFFFFFFFFFFFFFFF⟩,
  ⟨0x10, 0x10, 1, .u64, .r, .none, .r, .none, .any, 0xFFFFFFFFFFFFFFFF⟩,
  ⟨0x20, 0x2F, 1, .bits64, .rws, .none, .rws, .none, .any, 0xF000FFFFFFFFFFFF⟩]

/-- Members of class 0x06. -/
def rowsOfEdition : List MemberRow := [
  ⟨0x00, 0x00, 1, .u8, .r, .r, .r, .r, .any, 0xFF⟩,
  ⟨0x01, 0x01, 1, .u8, .r, .none, .r, .r, .any, 0xFF⟩,
  ⟨0x02, 0x02, 1, .bool, .r, .none, .r, .r, .any, 0x1⟩,
  ⟨0x05, 0x05, 1, .u32, .r, .none, .r, .none, .any, 0xFFFFFFFF⟩,
  ⟨0x06, 0x06, 1, .u32, .r, .none, .r, .none, .any, 0xFFFFFFFF⟩,
  ⟨0x07, 0x07, 1, .u32, .r, .none, .r, .none, .any, 0xFFFFFFFF⟩,
  ⟨0x08, 0x08, 1, .u64, .r, .r, .r, .none, .any, 0xFFFFFFFFFFFFFFFF⟩,
  ⟨0x09, 0x09, 1, .u64, .r, .none, .r, .none, .any, 0xFFFFFFFFFFFFFFFF⟩,
  ⟨0x0A, 0x0A, 1, .u64, .r, .r, .r, .none, .any, 0xFFFFFFFFFFFFFFFF⟩,
  ⟨0x0B, 0x0B, 1, .u16, .r, .none, .r, .r, .any, 0xFFFF⟩,
  ⟨0x0C, 0x0C, 1, .u64, .r, .r, .r, .none, .any, 0xFFFFFFFFFFFFFFFF⟩,
  ⟨0x0D, 0x0D, 1, .u32, .r, .none, .r, .none, .any, 0xFFFFFFFF⟩]

/-- Members of class 0x08. -/
def rowsOfTime : List MemberRow := [
  ⟨0x00, 0x00, 1, .u32, .r, .r, .r, .r, .any, 0xFFFFFFFF⟩,
  ⟨0x01, 0x01, 1, .s64, .x, .none, .x, .none, .any, 0xFFFFFFFFFFFFFFFF⟩,
  ⟨0x02, 0x02, 1, .s64, .rw, .none, .rw, .none, .any, 0xFFFFFFFFFFFFFFFF⟩,
  ⟨0x03, 0x03, 1, .s32, .r, .none, .r, .none, .any, 0xFFFFFFFF⟩,
  ⟨0x04, 0x04, 1, .s32, .rw, .none, .rw, .none, .any, 0xFFFFFFFF⟩,
  ⟨0x05, 0x05, 1, .u8, .rw, .none, .rw, .none, (.between 0 31), 0xFF⟩,
  ⟨0x06, 0x06, 1, .u8, .rw, .none, .rw, .none, (.between 0 31), 0xFF⟩,
  ⟨0x07, 0x07, 1, .u16, .rw, .none, .rw, .none, (.between 1 1000), 0xFFFF⟩,
  ⟨0x08, 0x08, 1, .s64, .r, .none, .r, .none, .any, 0xFFFFFFFFFFFFFFFF⟩,
  ⟨0x09, 0x09, 1, .enum8, .r, .r, .r, .r, .any, 0xFF⟩,
  ⟨0x0A, 0x0A, 1, .u8, .x, .none, .x, .none, .any, 0xFF⟩,
  ⟨0x0B, 0x0B, 1, .u32, .rw, .none, .rw, .none, (.between 1 1000000), 0xFFFFFFFF⟩,
  ⟨0x0C, 0x0C, 1, .u32, .rw, .none, .rw, .none, (.between 1 8388607), 0xFFFFFFFF⟩,
  ⟨0x0D, 0x0D, 1, .s64, .r, .none, .r, .none, .any, 0xFFFFFFFFFFFFFFFF⟩,
  ⟨0x10, 0x10, 1, .u64, .rw, .none, .rw, .none, (.between 0 281474976710655), 0xFFFFFFFFFFFFFFFF⟩,
  ⟨0x11, 0x11, 1, .u32, .rw, .none, .rw, .none, .any, 0xFFFFFFFF⟩,
  ⟨0x12, 0x12, 1, .bool, .rw, .none, .rw, .none, .any, 0x1⟩,
  ⟨0x13, 0x13, 1, .s32, .rw, .none, .rw, .none, (.signed (-500000000) 500000000), 0xFFFFFFFF⟩,
  ⟨0x14, 0x14, 1, .u32, .rw, .none, .rw, .none, (.between 100 900000000), 0xFFFFFFFF⟩,
  ⟨0x15, 0x15, 1, .u32, .r, .none, .r, .none, .any, 0xFFFFFFFF⟩,
  ⟨0x20, 0x20, 1, .u64, .r, .none, .r, .none, .any, 0xFFFFFFFFFFFFFFFF⟩,
  ⟨0x21, 0x21, 1, .u64, .r, .none, .r, .none, .any, 0xFFFFFFFFFFFFFFFF⟩,
  ⟨0x22, 0x22, 1, .u64, .r, .none, .r, .none, .any, 0xFFFFFFFFFFFFFFFF⟩,
  ⟨0x23, 0x23, 1, .u64, .r, .none, .r, .none, .any, 0xFFFFFFFFFFFFFFFF⟩,
  ⟨0x24, 0x24, 1, .u64, .r, .none, .r, .none, .any, 0xFFFFFFFFFFFFFFFF⟩,
  ⟨0x25, 0x25, 1, .u64, .r, .none, .r, .none, .any, 0xFFFFFFFFFFFFFFFF⟩]

/-- Members of class 0x10. -/
def rowsOfLane : List MemberRow := [
  ⟨0x00, 0x00, 256, .enum8, .r, .none, .r, .none, .any, 0xFF⟩,
  ⟨0x01, 0x01, 256, .bool, .rws, .none, .rws, .none, .any, 0x1⟩,
  ⟨0x02, 0x02, 256, .bool, .rws, .none, .rws, .none, .any, 0x1⟩,
  ⟨0x03, 0x03, 256, .enum8, .rw, .none, .rw, .none, (.between 0 2), 0xFF⟩,
  ⟨0x04, 0x04, 256, .u16, .r, .r, .r, .none, .any, 0xFFFF⟩,
  ⟨0x05, 0x05, 256, .bool, .r, .none, .r, .none, .any, 0x1⟩,
  ⟨0x10, 0x10, 256, .u64, .r, .r, .r, .none, .any, 0xFFFFFFFFFFFFFFFF⟩]

/-- Members of class 0x11. -/
def rowsOfPort : List MemberRow := [
  ⟨0x00, 0x00, 256, .enum8, .rws, .none, .rws, .none, (.between 0 11), 0xFF⟩,
  ⟨0x01, 0x01, 256, .bool, .rws, .none, .rws, .none, .any, 0x1⟩,
  ⟨0x02, 0x02, 256, .bool, .r, .r, .r, .r, .any, 0x1⟩,
  ⟨0x03, 0x03, 256, .enum8, .rws, .none, .rws, .none, (.between 0 4), 0xFF⟩,
  ⟨0x04, 0x04, 256, .enum8, .rws, .none, .rws, .none, (.between 0 2), 0xFF⟩,
  ⟨0x05, 0x05, 256, .u8, .rws, .none, .rws, .none, (.between 0 7), 0xFF⟩,
  ⟨0x06, 0x06, 256, .u32, .rws, .none, .rws, .none, .any, 0xFFFFFF⟩,
  ⟨0x07, 0x07, 256, .enum8, .rws, .none, .rws, .none, (.between 0 2), 0xFF⟩,
  ⟨0x08, 0x08, 256, .bits32, .rws, .none, .rws, .none, .any, 0xFF⟩,
  ⟨0x09, 0x09, 256, .bits32, .r, .none, .r, .none, .any, 0xFF⟩,
  ⟨0x0A, 0x0A, 256, .u32, .rw, .none, .rw, .none, (.zeroOr 1000 10000000), 0xFFFFFFFF⟩,
  ⟨0x0B, 0x0B, 256, .u32, .rw, .none, .rw, .none, (.between 1000 10000000), 0xFFFFFFFF⟩,
  ⟨0x0C, 0x0C, 256, .enum8, .rws, .none, .rws, .none, (.between 0 1), 0xFF⟩,
  ⟨0x0D, 0x0D, 256, .bool, .rws, .none, .rws, .none, .any, 0x1⟩,
  ⟨0x0E, 0x0E, 256, .u16, .rw, .none, .rw, .none, (.between 10 1000), 0xFFFF⟩,
  ⟨0x0F, 0x0F, 256, .u16, .r, .none, .r, .none, .any, 0xFFFF⟩,
  ⟨0x10, 0x10, 256, .bits32, .rw, .none, .rw, .none, .any, 0xFFFF⟩,
  ⟨0x11, 0x11, 256, .u8, .x, .none, .x, .none, .any, 0xFF⟩,
  ⟨0x12, 0x12, 256, .u32, .rw, .none, .rw, .none, (.between 1 1000000), 0xFFFFFFFF⟩,
  ⟨0x13, 0x13, 256, .bool, .rws, .none, .rws, .none, .any, 0x1⟩,
  ⟨0x14, 0x14, 256, .u16, .rws, .none, .rws, .none, (.between 1518 10240), 0xFFFF⟩,
  ⟨0x20, 0x20, 256, .u64, .r, .r, .r, .none, .any, 0xFFFFFFFFFFFFFFFF⟩,
  ⟨0x21, 0x21, 256, .u64, .r, .r, .r, .none, .any, 0xFFFFFFFFFFFFFFFF⟩,
  ⟨0x22, 0x22, 256, .u64, .r, .r, .r, .none, .any, 0xFFFFFFFFFFFFFFFF⟩,
  ⟨0x23, 0x23, 256, .u64, .r, .r, .r, .none, .any, 0xFFFFFFFFFFFFFFFF⟩,
  ⟨0x24, 0x24, 256, .u64, .r, .r, .r, .none, .any, 0xFFFFFFFFFFFFFFFF⟩,
  ⟨0x25, 0x25, 256, .u64, .r, .r, .r, .none, .any, 0xFFFFFFFFFFFFFFFF⟩,
  ⟨0x26, 0x26, 256, .u64, .r, .r, .r, .none, .any, 0xFFFFFFFFFFFFFFFF⟩,
  ⟨0x27, 0x27, 256, .u64, .r, .r, .r, .none, .any, 0xFFFFFFFFFFFFFFFF⟩,
  ⟨0x28, 0x28, 256, .u64, .r, .r, .r, .none, .any, 0xFFFFFFFFFFFFFFFF⟩,
  ⟨0x29, 0x29, 256, .u64, .r, .r, .r, .none, .any, 0xFFFFFFFFFFFFFFFF⟩,
  ⟨0x2A, 0x2A, 256, .u64, .r, .none, .r, .none, .any, 0xFFFFFFFFFFFFFFFF⟩,
  ⟨0x2B, 0x2B, 256, .u64, .r, .r, .r, .none, .any, 0xFFFFFFFFFFFFFFFF⟩,
  ⟨0x2C, 0x2C, 256, .u64, .r, .none, .r, .none, .any, 0xFFFFFFFFFFFFFFFF⟩,
  ⟨0x2D, 0x2D, 256, .u64, .r, .r, .r, .none, .any, 0xFFFFFFFFFFFFFFFF⟩,
  ⟨0x2E, 0x2E, 256, .u64, .r, .none, .r, .none, .any, 0xFFFFFFFFFFFFFFFF⟩,
  ⟨0x2F, 0x2F, 256, .u64, .r, .none, .r, .none, .any, 0xFFFFFFFFFFFFFFFF⟩,
  ⟨0x30, 0x30, 256, .u64, .r, .none, .r, .none, .any, 0xFFFFFFFFFFFFFFFF⟩,
  ⟨0x31, 0x31, 256, .u64, .r, .none, .r, .none, .any, 0xFFFFFFFFFFFFFFFF⟩,
  ⟨0x32, 0x32, 256, .u64, .r, .none, .r, .none, .any, 0xFFFFFFFFFFFFFFFF⟩,
  ⟨0x33, 0x33, 256, .u64, .r, .r, .r, .none, .any, 0xFFFFFFFFFFFFFFFF⟩,
  ⟨0x34, 0x34, 256, .u64, .r, .r, .r, .none, .any, 0xFFFFFFFFFFFFFFFF⟩,
  ⟨0x40, 0x40, 256, .u64, .r, .r, .r, .none, .any, 0xFFFFFFFFFFFFFFFF⟩,
  ⟨0x41, 0x41, 256, .u64, .r, .r, .r, .none, .any, 0xFFFFFFFFFFFFFFFF⟩,
  ⟨0x42, 0x42, 256, .u64, .r, .r, .r, .none, .any, 0xFFFFFFFFFFFFFFFF⟩,
  ⟨0x43, 0x43, 256, .u64, .r, .r, .r, .none, .any, 0xFFFFFFFFFFFFFFFF⟩,
  ⟨0x44, 0x44, 256, .u64, .r, .r, .r, .none, .any, 0xFFFFFFFFFFFFFFFF⟩,
  ⟨0x48, 0x48, 256, .u64, .r, .r, .r, .none, .any, 0xFFFFFFFFFFFFFFFF⟩,
  ⟨0x49, 0x49, 256, .u64, .r, .r, .r, .none, .any, 0xFFFFFFFFFFFFFFFF⟩,
  ⟨0x4A, 0x4A, 256, .u64, .r, .r, .r, .none, .any, 0xFFFFFFFFFFFFFFFF⟩,
  ⟨0x4B, 0x4B, 256, .u64, .r, .r, .r, .none, .any, 0xFFFFFFFFFFFFFFFF⟩,
  ⟨0x4C, 0x4C, 256, .u64, .r, .r, .r, .none, .any, 0xFFFFFFFFFFFFFFFF⟩,
  ⟨0x4D, 0x4D, 256, .u64, .r, .r, .r, .none, .any, 0xFFFFFFFFFFFFFFFF⟩,
  ⟨0x4E, 0x4E, 256, .u64, .r, .r, .r, .none, .any, 0xFFFFFFFFFFFFFFFF⟩,
  ⟨0x50, 0x57, 256, .u32, .rws, .none, .rws, .none, .any, 0xFFFFFFFF⟩,
  ⟨0x58, 0x5F, 256, .u32, .rws, .none, .rws, .none, .any, 0xFFFFFFFF⟩,
  ⟨0x60, 0x60, 256, .u32, .rws, .none, .rws, .none, .any, 0xFFFFFFFF⟩,
  ⟨0x61, 0x61, 256, .u64, .r, .r, .r, .none, .any, 0xFFFFFFFFFFFFFFFF⟩,
  ⟨0x62, 0x62, 256, .u64, .r, .r, .r, .none, .any, 0xFFFFFFFFFFFFFFFF⟩,
  ⟨0x63, 0x63, 256, .u64, .r, .r, .r, .none, .any, 0xFFFFFFFFFFFFFFFF⟩,
  ⟨0x64, 0x64, 256, .u64, .r, .r, .r, .none, .any, 0xFFFFFFFFFFFFFFFF⟩,
  ⟨0x65, 0x65, 256, .u64, .r, .r, .r, .none, .any, 0xFFFFFFFFFFFFFFFF⟩,
  ⟨0x66, 0x66, 256, .u64, .r, .r, .r, .none, .any, 0xFFFFFFFFFFFFFFFF⟩,
  ⟨0x68, 0x6F, 256, .u64, .r, .r, .r, .none, .any, 0xFFFFFFFFFFFFFFFF⟩,
  ⟨0x70, 0x77, 256, .u64, .r, .r, .r, .none, .any, 0xFFFFFFFFFFFFFFFF⟩,
  ⟨0x80, 0x80, 256, .enum8, .rws, .none, .rws, .none, (.between 0 1), 0xFF⟩,
  ⟨0x81, 0x81, 256, .u32, .rws, .none, .rws, .none, (.between 0 131071), 0xFFFFFFFF⟩,
  ⟨0x82, 0x82, 256, .u32, .rws, .none, .rws, .none, (.between 0 12500000), 0xFFFFFFFF⟩,
  ⟨0x83, 0x83, 256, .u16, .rws, .none, .rws, .none, .any, 0xFFFF⟩,
  ⟨0x84, 0x84, 256, .u8, .rws, .none, .rws, .none, (.between 0 64), 0xFF⟩,
  ⟨0x85, 0x85, 256, .bool, .rws, .none, .rws, .none, .any, 0x1⟩,
  ⟨0x86, 0x86, 256, .u8, .rws, .none, .rws, .none, (.between 0 22), 0xFF⟩,
  ⟨0x87, 0x87, 256, .u32, .rws, .none, .rws, .none, .any, 0xFFFFFFFF⟩,
  ⟨0x88, 0x88, 256, .u16, .rws, .none, .rws, .none, (.between 1 256), 0xFFFF⟩,
  ⟨0x89, 0x89, 256, .bits32, .r, .none, .r, .none, .any, 0xFF⟩,
  ⟨0x8A, 0x8A, 256, .u32, .rc, .none, .r, .none, .any, 0xFFFFFFFF⟩,
  ⟨0x90, 0x90, 256, .u64, .r, .r, .r, .none, .any, 0xFFFFFFFFFFFFFFFF⟩,
  ⟨0x91, 0x91, 256, .u64, .r, .r, .r, .none, .any, 0xFFFFFFFFFFFFFFFF⟩,
  ⟨0x92, 0x92, 256, .u64, .r, .r, .r, .none, .any, 0xFFFFFFFFFFFFFFFF⟩,
  ⟨0x93, 0x93, 256, .u64, .r, .r, .r, .none, .any, 0xFFFFFFFFFFFFFFFF⟩,
  ⟨0x94, 0x94, 256, .u64, .r, .r, .r, .none, .any, 0xFFFFFFFFFFFFFFFF⟩,
  ⟨0x95, 0x95, 256, .u32, .rc, .none, .r, .none, .any, 0xFFFFFFFF⟩,
  ⟨0x96, 0x96, 256, .u64, .r, .r, .r, .none, .any, 0xFFFFFFFFFFFFFFFF⟩,
  ⟨0x97, 0x97, 256, .u64, .r, .r, .r, .none, .any, 0xFFFFFFFFFFFFFFFF⟩,
  ⟨0xA0, 0xA0, 256, .enum8, .rws, .none, .rws, .none, (.between 0 3), 0xFF⟩,
  ⟨0xA1, 0xA1, 256, .s32, .rw, .none, .rw, .none, (.signed (-1000000) 1000000), 0xFFFFFFFF⟩,
  ⟨0xA2, 0xA2, 256, .s32, .rw, .none, .rw, .none, (.signed (-1000000) 1000000), 0xFFFFFFFF⟩,
  ⟨0xA8, 0xA8, 256, .u64, .r, .none, .r, .none, .any, 0xFFFFFFFFFFFFFFFF⟩,
  ⟨0xA9, 0xA9, 256, .u64, .r, .none, .r, .none, .any, 0xFFFFFFFFFFFFFFFF⟩,
  ⟨0xAA, 0xAA, 256, .u64, .r, .none, .r, .none, .any, 0xFFFFFFFFFFFFFFFF⟩] ++ [
  ⟨0xAB, 0xAB, 256, .u64, .r, .none, .r, .none, .any, 0xFFFFFFFFFFFFFFFF⟩,
  ⟨0xB0, 0xB0, 256, .u16, .rws, .none, .rws, .none, (.between 0 256), 0xFFFF⟩,
  ⟨0xB1, 0xB1, 256, .u64, .r, .r, .r, .none, .any, 0xFFFFFFFFFFFFFFFF⟩]

/-- Members of class 0x12. -/
def rowsOfBlock : List MemberRow := [
  ⟨0x00, 0x00, 32, .u8, .r, .none, .r, .none, .any, 0xFF⟩,
  ⟨0x01, 0x01, 32, .u32, .rc, .none, .r, .none, .any, 0xFFFFFFFF⟩,
  ⟨0x10, 0x10, 32, .u64, .r, .r, .r, .none, .any, 0xFFFFFFFFFFFFFFFF⟩]

/-- Members of class 0x20. -/
def rowsOfParser : List MemberRow := [
  ⟨0x00, 0x00, 1, .enum8, .rws, .none, .rws, .none, (.between 0 2), 0xFF⟩,
  ⟨0x01, 0x01, 1, .u8, .rws, .none, .rws, .none, (.between 0 119), 0xFF⟩,
  ⟨0x02, 0x02, 1, .u16, .rws, .none, .rws, .none, (.between 0 8192), 0xFFFF⟩,
  ⟨0x03, 0x03, 1, .u8, .rws, .none, .rws, .none, (.between 0 119), 0xFF⟩,
  ⟨0x04, 0x04, 16, .u64, .r, .r, .r, .none, .any, 0xFFFFFFFFFFFFFFFF⟩,
  ⟨0x05, 0x05, 16, .u64, .r, .r, .r, .none, .any, 0xFFFFFFFFFFFFFFFF⟩,
  ⟨0x10, 0x10, 16, .u64, .r, .r, .r, .none, .any, 0xFFFFFFFFFFFFFFFF⟩,
  ⟨0x11, 0x11, 16, .u64, .r, .r, .r, .none, .any, 0xFFFFFFFFFFFFFFFF⟩,
  ⟨0x12, 0x12, 16, .u64, .r, .r, .r, .none, .any, 0xFFFFFFFFFFFFFFFF⟩,
  ⟨0x13, 0x13, 16, .u64, .r, .r, .r, .none, .any, 0xFFFFFFFFFFFFFFFF⟩,
  ⟨0x14, 0x14, 16, .u64, .r, .r, .r, .none, .any, 0xFFFFFFFFFFFFFFFF⟩,
  ⟨0x15, 0x15, 16, .u64, .r, .r, .r, .none, .any, 0xFFFFFFFFFFFFFFFF⟩,
  ⟨0x16, 0x16, 16, .u64, .r, .r, .r, .none, .any, 0xFFFFFFFFFFFFFFFF⟩,
  ⟨0x17, 0x17, 16, .u64, .r, .r, .r, .none, .any, 0xFFFFFFFFFFFFFFFF⟩,
  ⟨0x18, 0x18, 16, .u64, .r, .r, .r, .none, .any, 0xFFFFFFFFFFFFFFFF⟩,
  ⟨0x19, 0x19, 16, .u64, .r, .r, .r, .none, .any, 0xFFFFFFFFFFFFFFFF⟩,
  ⟨0x20, 0x20, 16, .u64, .r, .r, .r, .none, .any, 0xFFFFFFFFFFFFFFFF⟩,
  ⟨0x21, 0x21, 16, .u64, .r, .r, .r, .none, .any, 0xFFFFFFFFFFFFFFFF⟩,
  ⟨0x22, 0x22, 16, .u64, .r, .r, .r, .none, .any, 0xFFFFFFFFFFFFFFFF⟩]

/-- Members of class 0x21. -/
def rowsOfTcam : List MemberRow := [
  ⟨0x00, 0x07, 1, .enum8, .rws, .none, .rws, .none, (.between 0 3), 0xFF⟩,
  ⟨0x08, 0x0F, 1, .u8, .rws, .none, .rws, .none, (.between 0 15), 0xFF⟩,
  ⟨0x10, 0x10, 1, .bits32, .rws, .none, .rws, .none, .any, 0xFF⟩,
  ⟨0x11, 0x11, 1, .enum8, .rws, .none, .rws, .none, (.between 0 4), 0xFF⟩,
  ⟨0x12, 0x12, 1, .bool, .rws, .none, .rws, .none, .any, 0x1⟩,
  ⟨0x13, 0x13, 1, .u32, .r, .none, .r, .none, .any, 0xFFFFFFFF⟩,
  ⟨0x20, 0x20, 16, .u64, .r, .r, .r, .none, .any, 0xFFFFFFFFFFFFFFFF⟩,
  ⟨0x21, 0x21, 16, .u64, .r, .r, .r, .none, .any, 0xFFFFFFFFFFFFFFFF⟩,
  ⟨0x22, 0x22, 16, .u64, .r, .r, .r, .none, .any, 0xFFFFFFFFFFFFFFFF⟩,
  ⟨0x23, 0x23, 16, .u64, .r, .r, .r, .none, .any, 0xFFFFFFFFFFFFFFFF⟩,
  ⟨0x24, 0x24, 16, .u64, .r, .r, .r, .none, .any, 0xFFFFFFFFFFFFFFFF⟩,
  ⟨0x25, 0x25, 16, .u64, .r, .none, .r, .none, .any, 0xFFFFFFFFFFFFFFFF⟩,
  ⟨0x26, 0x26, 16, .u64, .r, .none, .r, .none, .any, 0xFFFFFFFFFFFFFFFF⟩,
  ⟨0x27, 0x27, 16, .u64, .r, .none, .r, .none, .any, 0xFFFFFFFFFFFFFFFF⟩,
  ⟨0x28, 0x28, 16, .u64, .r, .none, .r, .none, .any, 0xFFFFFFFFFFFFFFFF⟩,
  ⟨0x29, 0x29, 16, .u16, .r, .none, .r, .none, .any, 0xFFFF⟩]

/-- Members of class 0x22. -/
def rowsOfLpm : List MemberRow := [
  ⟨0x00, 0x00, 1, .enum8, .rws, .none, .rws, .none, (.between 0 1), 0xFF⟩,
  ⟨0x01, 0x01, 1, .u8, .rws, .none, .rws, .none, (.between 0 119), 0xFF⟩,
  ⟨0x02, 0x02, 1, .u32, .r, .none, .r, .none, .any, 0xFFFFFFFF⟩,
  ⟨0x03, 0x03, 1, .u32, .r, .none, .r, .none, .any, 0xFFFFFFFF⟩,
  ⟨0x04, 0x04, 1, .u32, .r, .none, .r, .none, .any, 0xFFFFFFFF⟩,
  ⟨0x20, 0x20, 16, .u64, .r, .r, .r, .none, .any, 0xFFFFFFFFFFFFFFFF⟩,
  ⟨0x21, 0x21, 16, .u64, .r, .r, .r, .none, .any, 0xFFFFFFFFFFFFFFFF⟩,
  ⟨0x22, 0x22, 16, .u64, .r, .r, .r, .none, .any, 0xFFFFFFFFFFFFFFFF⟩]

/-- Members of class 0x23. -/
def rowsOfL2 : List MemberRow := [
  ⟨0x00, 0x00, 1, .u8, .rws, .none, .rws, .none, (.between 1 64), 0xFF⟩,
  ⟨0x01, 0x01, 1, .u32, .rws, .none, .rws, .none, (.zeroOr 2 4294967295), 0xFFFFFFFF⟩,
  ⟨0x02, 0x05, 1, .bits64, .rws, .none, .rws, .none, .any, 0xFFFFFFFFFFFFFFFF⟩,
  ⟨0x08, 0x08, 1, .u64, .r, .r, .r, .none, .any, 0xFFFFFFFFFFFFFFFF⟩,
  ⟨0x09, 0x09, 1, .u64, .r, .r, .r, .none, .any, 0xFFFFFFFFFFFFFFFF⟩,
  ⟨0x0A, 0x0A, 1, .u64, .r, .r, .r, .none, .any, 0xFFFFFFFFFFFFFFFF⟩,
  ⟨0x0B, 0x0B, 1, .u64, .r, .r, .r, .none, .any, 0xFFFFFFFFFFFFFFFF⟩,
  ⟨0x0C, 0x0C, 1, .u64, .r, .none, .r, .none, .any, 0xFFFFFFFFFFFFFFFF⟩,
  ⟨0x20, 0x20, 16, .u32, .r, .none, .r, .none, .any, 0xFFFFFFFF⟩,
  ⟨0x21, 0x21, 16, .u64, .r, .r, .r, .none, .any, 0xFFFFFFFFFFFFFFFF⟩,
  ⟨0x22, 0x22, 16, .u64, .r, .r, .r, .none, .any, 0xFFFFFFFFFFFFFFFF⟩,
  ⟨0x23, 0x23, 16, .u64, .r, .r, .r, .none, .any, 0xFFFFFFFFFFFFFFFF⟩,
  ⟨0x24, 0x24, 16, .u64, .r, .none, .r, .none, .any, 0xFFFFFFFFFFFFFFFF⟩,
  ⟨0x25, 0x25, 16, .u64, .r, .none, .r, .none, .any, 0xFFFFFFFFFFFFFFFF⟩,
  ⟨0x26, 0x26, 16, .u64, .r, .none, .r, .none, .any, 0xFFFFFFFFFFFFFFFF⟩,
  ⟨0x27, 0x27, 16, .u64, .r, .none, .r, .none, .any, 0xFFFFFFFFFFFFFFFF⟩,
  ⟨0x28, 0x28, 16, .u64, .r, .none, .r, .none, .any, 0xFFFFFFFFFFFFFFFF⟩]

/-- Members of class 0x30. -/
def rowsOfRoll : List MemberRow := [
  ⟨0x00, 0x00, 1, .u32, .r, .none, .r, .r, .any, 0xFFFFFFFF⟩,
  ⟨0x01, 0x01, 1, .u32, .r, .none, .r, .r, .any, 0xFFFFFFFF⟩,
  ⟨0x02, 0x02, 1, .u32, .r, .r, .r, .none, .any, 0xFFFFFFFF⟩,
  ⟨0x03, 0x03, 1, .u32, .r, .none, .r, .none, .any, 0xFFFFFFFF⟩,
  ⟨0x04, 0x04, 1, .u32, .r, .none, .r, .none, .any, 0xFFFFFFFF⟩,
  ⟨0x05, 0x05, 1, .u16, .rw, .none, .rw, .none, (.between 150 2400), 0xFFFF⟩,
  ⟨0x06, 0x06, 1, .u8, .x, .none, .x, .none, .any, 0xFF⟩,
  ⟨0x07, 0x07, 1, .u32, .r, .none, .r, .none, .any, 0xFFFFFFFF⟩,
  ⟨0x08, 0x08, 1, .u32, .r, .none, .r, .none, .any, 0xFFFFFFFF⟩,
  ⟨0x09, 0x09, 1, .u32, .r, .none, .r, .none, .any, 0xFFFFFFFF⟩,
  ⟨0x0A, 0x0A, 1, .u32, .r, .none, .r, .none, .any, 0xFFFFFFFF⟩,
  ⟨0x0B, 0x0B, 1, .u32, .r, .none, .r, .none, .any, 0xFFFFFFFF⟩,
  ⟨0x0C, 0x0C, 1, .u8, .r, .none, .r, .none, .any, 0xFF⟩,
  ⟨0x10, 0x10, 1, .u64, .r, .none, .r, .none, .any, 0xFFFFFFFFFFFFFFFF⟩,
  ⟨0x11, 0x11, 1, .u64, .r, .r, .r, .none, .any, 0xFFFFFFFFFFFFFFFF⟩,
  ⟨0x12, 0x12, 1, .u64, .r, .none, .r, .none, .any, 0xFFFFFFFFFFFFFFFF⟩,
  ⟨0x13, 0x13, 1, .u64, .r, .r, .r, .none, .any, 0xFFFFFFFFFFFFFFFF⟩,
  ⟨0x20, 0x20, 16, .u64, .r, .r, .r, .none, .any, 0xFFFFFFFFFFFFFFFF⟩,
  ⟨0x21, 0x21, 16, .u64, .r, .r, .r, .none, .any, 0xFFFFFFFFFFFFFFFF⟩,
  ⟨0x22, 0x22, 16, .u64, .r, .r, .r, .none, .any, 0xFFFFFFFFFFFFFFFF⟩,
  ⟨0x23, 0x23, 16, .u16, .r, .none, .r, .none, .any, 0xFFFF⟩,
  ⟨0x24, 0x24, 16, .u16, .r, .r, .r, .none, .any, 0xFFFF⟩,
  ⟨0x25, 0x25, 16, .u16, .rc, .none, .r, .none, .any, 0xFFFF⟩,
  ⟨0x26, 0x26, 16, .u64, .r, .none, .r, .none, .any, 0xFFFFFFFFFFFFFFFF⟩,
  ⟨0x27, 0x27, 16, .u64, .r, .none, .r, .none, .any, 0xFFFFFFFFFFFFFFFF⟩,
  ⟨0x28, 0x28, 16, .u64, .r, .none, .r, .none, .any, 0xFFFFFFFFFFFFFFFF⟩,
  ⟨0x14, 0x14, 1, .u32, .rws, .none, .rws, .none, .any, 0xFFFFFFFF⟩,
  ⟨0x15, 0x15, 1, .u32, .rws, .none, .rws, .none, .any, 0xFFFFFFFF⟩,
  ⟨0x16, 0x16, 1, .u32, .rws, .none, .rws, .none, .any, 0xFFFFFFFF⟩,
  ⟨0x17, 0x17, 1, .u32, .rws, .none, .rws, .none, .any, 0xFFFFFFFF⟩,
  ⟨0x18, 0x18, 1, .u16, .rws, .none, .rws, .none, (.mult 256 2048 4), 0xFFFF⟩,
  ⟨0x19, 0x19, 1, .u32, .r, .none, .r, .none, .any, 0xFFFFFFFF⟩,
  ⟨0x1A, 0x1A, 1, .u32, .r, .none, .r, .none, .any, 0xFFFFFFFF⟩,
  ⟨0x1B, 0x1B, 1, .u64, .r, .r, .r, .none, .any, 0xFFFFFFFFFFFFFFFF⟩,
  ⟨0x1C, 0x1C, 1, .u64, .r, .r, .r, .none, .any, 0xFFFFFFFFFFFFFFFF⟩,
  ⟨0x1D, 0x1D, 1, .u64, .r, .r, .r, .none, .any, 0xFFFFFFFFFFFFFFFF⟩,
  ⟨0x1E, 0x1E, 1, .u64, .r, .none, .r, .none, .any, 0xFFFFFFFFFFFFFFFF⟩,
  ⟨0x1F, 0x1F, 1, .u64, .r, .none, .r, .none, .any, 0xFFFFFFFFFFFFFFFF⟩,
  ⟨0x29, 0x29, 16, .u64, .r, .r, .r, .none, .any, 0xFFFFFFFFFFFFFFFF⟩,
  ⟨0x30, 0x30, 1, .u64, .r, .none, .r, .none, .any, 0xFFFFFFFFFFFFFFFF⟩,
  ⟨0x31, 0x31, 1, .u64, .r, .none, .r, .none, .any, 0xFFFFFFFFFFFFFFFF⟩,
  ⟨0x32, 0x32, 1, .u64, .r, .none, .r, .none, .any, 0xFFFFFFFFFFFFFFFF⟩,
  ⟨0x33, 0x33, 1, .u64, .r, .none, .r, .none, .any, 0xFFFFFFFFFFFFFFFF⟩,
  ⟨0x34, 0x34, 1, .u64, .r, .none, .r, .none, .any, 0xFFFFFFFFFFFFFFFF⟩]

/-- Members of class 0x31. -/
def rowsOfFrontrow : List MemberRow := [
  ⟨0x00, 0x00, 1, .u32, .r, .none, .r, .r, .any, 0xFFFFFFFF⟩,
  ⟨0x01, 0x01, 1, .u32, .r, .none, .r, .r, .any, 0xFFFFFFFF⟩,
  ⟨0x02, 0x02, 1, .u32, .r, .none, .r, .none, .any, 0xFFFFFFFF⟩,
  ⟨0x03, 0x03, 1, .u16, .rw, .none, .rw, .none, (.between 1 4096), 0xFFFF⟩,
  ⟨0x04, 0x04, 1, .u16, .r, .none, .r, .none, .any, 0xFFFF⟩,
  ⟨0x10, 0x10, 1, .u64, .r, .r, .r, .none, .any, 0xFFFFFFFFFFFFFFFF⟩,
  ⟨0x11, 0x11, 1, .u64, .r, .r, .r, .none, .any, 0xFFFFFFFFFFFFFFFF⟩,
  ⟨0x12, 0x12, 1, .u64, .r, .r, .r, .none, .any, 0xFFFFFFFFFFFFFFFF⟩,
  ⟨0x13, 0x13, 1, .u64, .r, .none, .r, .none, .any, 0xFFFFFFFFFFFFFFFF⟩,
  ⟨0x14, 0x14, 1, .u64, .r, .none, .r, .none, .any, 0xFFFFFFFFFFFFFFFF⟩,
  ⟨0x15, 0x15, 1, .u64, .r, .none, .r, .none, .any, 0xFFFFFFFFFFFFFFFF⟩,
  ⟨0x16, 0x16, 1, .u64, .r, .none, .r, .none, .any, 0xFFFFFFFFFFFFFFFF⟩]

/-- Members of class 0x32. -/
def rowsOfEndpoint : List MemberRow := [
  ⟨0x00, 0x00, 1, .bool, .rws, .none, .rws, .none, .any, 0x1⟩,
  ⟨0x01, 0x01, 1, .u32, .rws, .none, .rws, .none, (.between 0 16777215), 0xFFFFFFFF⟩,
  ⟨0x02, 0x02, 1, .u32, .r, .none, .r, .r, .any, 0xFFFFFFFF⟩,
  ⟨0x10, 0x13, 1, .bits64, .rws, .none, .rws, .none, .any, 0xFFFFFFFFFFFFFFFF⟩,
  ⟨0x14, 0x17, 1, .bits64, .rws, .none, .rws, .none, .any, 0xFFFFFFFFFFFFFFFF⟩,
  ⟨0x18, 0x1B, 1, .bits64, .rws, .none, .rws, .none, .any, 0xFFFFFFFFFFFFFFFF⟩,
  ⟨0x20, 0x20, 1, .u64, .r, .none, .r, .none, .any, 0xFFFFFFFFFFFFFFFF⟩,
  ⟨0x21, 0x21, 1, .u64, .r, .r, .r, .none, .any, 0xFFFFFFFFFFFFFFFF⟩,
  ⟨0x22, 0x22, 1, .u64, .r, .none, .r, .none, .any, 0xFFFFFFFFFFFFFFFF⟩,
  ⟨0x23, 0x23, 1, .u64, .r, .none, .r, .none, .any, 0xFFFFFFFFFFFFFFFF⟩,
  ⟨0x24, 0x24, 1, .u64, .r, .none, .r, .none, .any, 0xFFFFFFFFFFFFFFFF⟩,
  ⟨0x25, 0x25, 1, .u64, .r, .r, .r, .none, .any, 0xFFFFFFFFFFFFFFFF⟩,
  ⟨0x26, 0x26, 1, .u64, .r, .r, .r, .none, .any, 0xFFFFFFFFFFFFFFFF⟩]

/-- Members of class 0x38. -/
def rowsOfNat : List MemberRow := [
  ⟨0x00, 0x00, 1, .u32, .rws, .none, .rws, .none, (.between 1 4294967295), 0xFFFFFFFF⟩,
  ⟨0x01, 0x01, 1, .u16, .rws, .none, .rws, .none, (.between 1 4096), 0xFFFF⟩,
  ⟨0x02, 0x02, 1, .u32, .r, .none, .r, .none, .any, 0xFFFFFFFF⟩,
  ⟨0x10, 0x10, 1, .u64, .r, .r, .r, .none, .any, 0xFFFFFFFFFFFFFFFF⟩,
  ⟨0x11, 0x11, 1, .u64, .r, .none, .r, .none, .any, 0xFFFFFFFFFFFFFFFF⟩,
  ⟨0x12, 0x12, 1, .u64, .r, .r, .r, .none, .any, 0xFFFFFFFFFFFFFFFF⟩,
  ⟨0x13, 0x13, 1, .u64, .r, .r, .r, .none, .any, 0xFFFFFFFFFFFFFFFF⟩,
  ⟨0x14, 0x14, 1, .u64, .r, .none, .r, .none, .any, 0xFFFFFFFFFFFFFFFF⟩,
  ⟨0x15, 0x15, 1, .u64, .r, .r, .r, .none, .any, 0xFFFFFFFFFFFFFFFF⟩,
  ⟨0x16, 0x16, 1, .u64, .r, .none, .r, .none, .any, 0xFFFFFFFFFFFFFFFF⟩,
  ⟨0x17, 0x17, 1, .u64, .r, .none, .r, .none, .any, 0xFFFFFFFFFFFFFFFF⟩,
  ⟨0x18, 0x18, 1, .u64, .r, .none, .r, .none, .any, 0xFFFFFFFFFFFFFFFF⟩,
  ⟨0x19, 0x19, 1, .u64, .r, .none, .r, .none, .any, 0xFFFFFFFFFFFFFFFF⟩]

/-- Members of class 0x39. -/
def rowsOfLb : List MemberRow := [
  ⟨0x00, 0x00, 1, .u32, .r, .none, .r, .none, .any, 0xFFFFFFFF⟩,
  ⟨0x01, 0x01, 1, .u32, .r, .none, .r, .none, .any, 0xFFFFFFFF⟩,
  ⟨0x10, 0x10, 1, .u64, .r, .r, .r, .none, .any, 0xFFFFFFFFFFFFFFFF⟩,
  ⟨0x11, 0x11, 1, .u64, .r, .r, .r, .none, .any, 0xFFFFFFFFFFFFFFFF⟩,
  ⟨0x12, 0x12, 1, .u64, .r, .r, .r, .none, .any, 0xFFFFFFFFFFFFFFFF⟩]

/-- Members of class 0x3A. -/
def rowsOfFilter : List MemberRow := [
  ⟨0x10, 0x10, 1, .u64, .r, .r, .r, .none, .any, 0xFFFFFFFFFFFFFFFF⟩,
  ⟨0x11, 0x11, 1, .u64, .r, .r, .r, .none, .any, 0xFFFFFFFFFFFFFFFF⟩,
  ⟨0x12, 0x12, 1, .u64, .r, .none, .r, .none, .any, 0xFFFFFFFFFFFFFFFF⟩,
  ⟨0x13, 0x13, 1, .u64, .r, .none, .r, .none, .any, 0xFFFFFFFFFFFFFFFF⟩]

/-- Members of class 0x3B. -/
def rowsOfExport : List MemberRow := [
  ⟨0x00, 0x00, 1, .enum8, .rws, .none, .rws, .none, (.between 0 2), 0xFF⟩,
  ⟨0x01, 0x01, 1, .u8, .rws, .none, .rws, .none, .any, 0xFF⟩,
  ⟨0x02, 0x02, 1, .u8, .rws, .none, .rws, .none, (.between 0 119), 0xFF⟩,
  ⟨0x03, 0x03, 1, .u32, .rws, .none, .rws, .none, .any, 0xFFFFFFFF⟩,
  ⟨0x04, 0x04, 1, .u32, .rws, .none, .rws, .none, .any, 0xFFFFFFFF⟩,
  ⟨0x05, 0x05, 1, .u32, .rws, .none, .rws, .none, .any, 0xFFFFFFFF⟩,
  ⟨0x06, 0x06, 1, .u32, .rws, .none, .rws, .none, (.between 1 4294967295), 0xFFFFFFFF⟩,
  ⟨0x07, 0x07, 1, .u16, .rws, .none, .rws, .none, (.between 512 9000), 0xFFFF⟩,
  ⟨0x08, 0x08, 1, .u32, .rws, .none, .rws, .none, .any, 0xFFFFFFFF⟩,
  ⟨0x09, 0x09, 1, .u32, .rw, .none, .rw, .none, .any, 0xFFFFFFFF⟩,
  ⟨0x0A, 0x0A, 1, .u32, .rw, .none, .rw, .none, (.between 0 999999999), 0xFFFFFFFF⟩,
  ⟨0x10, 0x10, 1, .u64, .r, .r, .r, .none, .any, 0xFFFFFFFFFFFFFFFF⟩,
  ⟨0x11, 0x11, 1, .u64, .r, .r, .r, .none, .any, 0xFFFFFFFFFFFFFFFF⟩,
  ⟨0x12, 0x12, 1, .u64, .r, .none, .r, .none, .any, 0xFFFFFFFFFFFFFFFF⟩,
  ⟨0x13, 0x13, 1, .u64, .r, .none, .r, .none, .any, 0xFFFFFFFFFFFFFFFF⟩,
  ⟨0x14, 0x14, 1, .u64, .r, .none, .r, .none, .any, 0xFFFFFFFFFFFFFFFF⟩,
  ⟨0x15, 0x15, 1, .u64, .r, .none, .r, .none, .any, 0xFFFFFFFFFFFFFFFF⟩,
  ⟨0x16, 0x16, 1, .u32, .r, .none, .r, .none, .any, 0xFFFFFFFF⟩]

/-- Members of class 0x40. -/
def rowsOfTutor : List MemberRow := [
  ⟨0x00, 0x00, 1, .enum8, .rw, .none, .rw, .none, (.between 0 2), 0xFF⟩,
  ⟨0x01, 0x01, 1, .u64, .rw, .none, .rw, .none, .any, 0xFFFFFFFFFFFFFFFF⟩,
  ⟨0x02, 0x02, 1, .u32, .rw, .none, .rw, .none, .any, 0xFFFFFFFF⟩,
  ⟨0x03, 0x03, 1, .u8, .x, .none, .x, .none, .any, 0xFF⟩,
  ⟨0x04, 0x04, 1, .u16, .r, .none, .r, .none, .any, 0xFFFF⟩,
  ⟨0x05, 0x05, 1, .u32, .r, .r, .r, .r, .any, 0xFFFFFFFF⟩,
  ⟨0x06, 0x06, 1, .u16, .r, .none, .r, .r, .any, 0xFFFF⟩,
  ⟨0x07, 0x07, 1, .enum8, .r, .none, .r, .none, .any, 0xFF⟩,
  ⟨0x08, 0x08, 1, .u32, .rw, .none, .rw, .none, (.between 1024 16777216), 0xFFFFFFFF⟩,
  ⟨0x09, 0x09, 1, .u32, .rw, .none, .rw, .none, (.between 256 1048576), 0xFFFFFFFF⟩,
  ⟨0x0A, 0x0A, 1, .enum8, .rw, .none, .rw, .none, (.between 0 2), 0xFF⟩,
  ⟨0x0B, 0x0B, 1, .bits32, .rw, .none, .rw, .none, .any, 0x1FFE⟩,
  ⟨0x0C, 0x0C, 1, .u8, .rw, .none, .rw, .none, (.between 0 15), 0xFF⟩,
  ⟨0x0D, 0x0D, 1, .u64, .r, .none, .r, .none, .any, 0xFFFFFFFFFFFFFFFF⟩,
  ⟨0x20, 0x20, 64, .enum8, .r, .none, .r, .none, .any, 0xFF⟩,
  ⟨0x21, 0x21, 64, .bool, .rw, .none, .rw, .none, .any, 0x1⟩,
  ⟨0x22, 0x22, 64, .u16, .r, .none, .r, .none, .any, 0xFFFF⟩,
  ⟨0x23, 0x23, 64, .u16, .r, .none, .r, .none, .any, 0xFFFF⟩,
  ⟨0x24, 0x24, 64, .u8, .r, .none, .r, .none, .any, 0xFF⟩,
  ⟨0x25, 0x25, 64, .u64, .r, .r, .r, .none, .any, 0xFFFFFFFFFFFFFFFF⟩,
  ⟨0x26, 0x26, 64, .u64, .r, .r, .r, .none, .any, 0xFFFFFFFFFFFFFFFF⟩,
  ⟨0x27, 0x27, 64, .u64, .r, .none, .r, .none, .any, 0xFFFFFFFFFFFFFFFF⟩,
  ⟨0x28, 0x28, 64, .u64, .r, .none, .r, .none, .any, 0xFFFFFFFFFFFFFFFF⟩,
  ⟨0x29, 0x29, 64, .u64, .r, .none, .r, .none, .any, 0xFFFFFFFFFFFFFFFF⟩,
  ⟨0x2A, 0x2A, 64, .u64, .r, .r, .r, .none, .any, 0xFFFFFFFFFFFFFFFF⟩]

/-- Members of class 0x41. -/
def rowsOfTask : List MemberRow := [
  ⟨0x00, 0x00, 16, .u16, .r, .r, .r, .none, .any, 0xFFFF⟩,
  ⟨0x01, 0x01, 16, .u16, .r, .none, .r, .none, .any, 0xFFFF⟩,
  ⟨0x02, 0x02, 16, .u32, .r, .none, .r, .none, .any, 0xFFFFFFFF⟩,
  ⟨0x10, 0x10, 16, .u64, .r, .r, .r, .none, .any, 0xFFFFFFFFFFFFFFFF⟩,
  ⟨0x11, 0x11, 16, .u64, .r, .r, .r, .none, .any, 0xFFFFFFFFFFFFFFFF⟩,
  ⟨0x12, 0x12, 16, .u64, .r, .r, .r, .none, .any, 0xFFFFFFFFFFFFFFFF⟩,
  ⟨0x13, 0x13, 16, .u64, .r, .r, .r, .none, .any, 0xFFFFFFFFFFFFFFFF⟩,
  ⟨0x14, 0x14, 16, .u64, .r, .none, .r, .none, .any, 0xFFFFFFFFFFFFFFFF⟩,
  ⟨0x15, 0x15, 16, .u64, .r, .none, .r, .none, .any, 0xFFFFFFFFFFFFFFFF⟩,
  ⟨0x16, 0x16, 16, .u64, .r, .none, .r, .none, .any, 0xFFFFFFFFFFFFFFFF⟩,
  ⟨0x17, 0x17, 16, .u64, .r, .none, .r, .none, .any, 0xFFFFFFFFFFFFFFFF⟩,
  ⟨0x18, 0x18, 16, .u64, .r, .none, .r, .none, .any, 0xFFFFFFFFFFFFFFFF⟩,
  ⟨0x19, 0x19, 16, .u64, .r, .none, .r, .none, .any, 0xFFFFFFFFFFFFFFFF⟩,
  ⟨0x1A, 0x1A, 16, .u64, .r, .none, .r, .none, .any, 0xFFFFFFFFFFFFFFFF⟩]

/-- Members of class 0x48. -/
def rowsOfBuffer : List MemberRow := [
  ⟨0x00, 0x00, 1, .u32, .r, .none, .r, .r, .any, 0xFFFFFFFF⟩,
  ⟨0x01, 0x01, 1, .u32, .r, .r, .r, .none, .any, 0xFFFFFFFF⟩,
  ⟨0x02, 0x02, 1, .u32, .rc, .none, .r, .none, .any, 0xFFFFFFFF⟩,
  ⟨0x10, 0x10, 1, .u64, .r, .r, .r, .none, .any, 0xFFFFFFFFFFFFFFFF⟩,
  ⟨0x11, 0x11, 1, .u64, .r, .r, .r, .none, .any, 0xFFFFFFFFFFFFFFFF⟩,
  ⟨0x12, 0x12, 1, .u64, .r, .r, .r, .none, .any, 0xFFFFFFFFFFFFFFFF⟩,
  ⟨0x13, 0x13, 1, .u64, .r, .r, .r, .none, .any, 0xFFFFFFFFFFFFFFFF⟩]

/-- Members of class 0x49. -/
def rowsOfPool : List MemberRow := [
  ⟨0x00, 0x00, 5, .u32, .r, .none, .r, .r, .any, 0xFFFFFFFF⟩,
  ⟨0x01, 0x01, 5, .u16, .rws, .none, .rws, .none, .any, 0xFFFF⟩,
  ⟨0x02, 0x02, 5, .u32, .r, .none, .r, .r, .any, 0xFFFFFFFF⟩,
  ⟨0x03, 0x03, 5, .u32, .r, .r, .r, .r, .any, 0xFFFFFFFF⟩,
  ⟨0x04, 0x04, 5, .u32, .rc, .none, .r, .none, .any, 0xFFFFFFFF⟩,
  ⟨0x05, 0x05, 5, .u64, .r, .r, .r, .none, .any, 0xFFFFFFFFFFFFFFFF⟩,
  ⟨0x06, 0x06, 5, .u64, .r, .r, .r, .none, .any, 0xFFFFFFFFFFFFFFFF⟩,
  ⟨0x07, 0x07, 5, .u64, .r, .r, .r, .none, .any, 0xFFFFFFFFFFFFFFFF⟩,
  ⟨0x08, 0x08, 5, .u64, .r, .r, .r, .none, .any, 0xFFFFFFFFFFFFFFFF⟩,
  ⟨0x09, 0x09, 5, .u64, .r, .none, .r, .none, .any, 0xFFFFFFFFFFFFFFFF⟩,
  ⟨0x0A, 0x0A, 5, .u64, .r, .none, .r, .none, .any, 0xFFFFFFFFFFFFFFFF⟩,
  ⟨0x0B, 0x0B, 5, .u64, .r, .none, .r, .none, .any, 0xFFFFFFFFFFFFFFFF⟩,
  ⟨0x0C, 0x0C, 5, .u64, .r, .none, .r, .none, .any, 0xFFFFFFFFFFFFFFFF⟩,
  ⟨0x20, 0x20, 1, .u32, .x, .none, .none, .none, .any, 0xFFFFFFFF⟩,
  ⟨0x21, 0x21, 1, .bits64, .r, .none, .none, .none, .any, 0xFFFFFFFFFFFFFFFF⟩,
  ⟨0x22, 0x22, 1, .u64, .x, .none, .none, .none, .any, 0xFFFFFFFFFFFFFFFF⟩,
  ⟨0x23, 0x23, 1, .u16, .r, .none, .none, .none, .any, 0xFFFF⟩,
  ⟨0x24, 0x24, 1, .u8, .r, .none, .r, .none, .any, 0xFF⟩,
  ⟨0x25, 0x25, 1, .u64, .r, .none, .r, .none, .any, 0xFFFFFFFFFFFFFFFF⟩]

/-- Members of class 0x4A. -/
def rowsOfTimetable : List MemberRow := [
  ⟨0x00, 0x00, 1, .u32, .r, .none, .r, .none, .any, 0xFFFFFFFF⟩,
  ⟨0x01, 0x01, 1, .u32, .r, .none, .r, .none, .any, 0xFFFFFFFF⟩,
  ⟨0x02, 0x02, 1, .u32, .r, .none, .r, .none, .any, 0xFFFFFFFF⟩,
  ⟨0x10, 0x10, 1, .u64, .r, .none, .r, .none, .any, 0xFFFFFFFFFFFFFFFF⟩,
  ⟨0x11, 0x11, 1, .u64, .r, .none, .r, .none, .any, 0xFFFFFFFFFFFFFFFF⟩,
  ⟨0x12, 0x12, 1, .u64, .r, .r, .r, .none, .any, 0xFFFFFFFFFFFFFFFF⟩,
  ⟨0x13, 0x13, 1, .u64, .r, .r, .r, .none, .any, 0xFFFFFFFFFFFFFFFF⟩,
  ⟨0x14, 0x14, 1, .u64, .r, .r, .r, .none, .any, 0xFFFFFFFFFFFFFFFF⟩]

/-- Members of class 0x50. -/
def rowsOfMemch : List MemberRow := [
  ⟨0x00, 0x00, 16, .enum8, .r, .none, .r, .r, .any, 0xFF⟩,
  ⟨0x01, 0x01, 16, .enum8, .r, .r, .r, .none, .any, 0xFF⟩,
  ⟨0x02, 0x02, 16, .u16, .r, .none, .r, .none, .any, 0xFFFF⟩,
  ⟨0x03, 0x03, 16, .u8, .x, .none, .x, .none, .any, 0xFF⟩,
  ⟨0x04, 0x04, 16, .u32, .rw, .none, .rw, .none, (.between 1000 1000000), 0xFFFFFFFF⟩,
  ⟨0x05, 0x05, 16, .u8, .rw, .none, .rw, .none, (.between 0 64), 0xFF⟩,
  ⟨0x06, 0x06, 16, .u16, .rw, .none, .rw, .none, (.between 1 65535), 0xFFFF⟩,
  ⟨0x07, 0x07, 16, .bits64, .rc, .none, .r, .none, .any, 0xFFFFFFFFFFFFFFFF⟩,
  ⟨0x08, 0x08, 16, .u32, .rc, .none, .r, .none, .any, 0xFFFFFFFF⟩,
  ⟨0x10, 0x10, 16, .u64, .r, .r, .r, .none, .any, 0xFFFFFFFFFFFFFFFF⟩,
  ⟨0x11, 0x11, 16, .u64, .r, .r, .r, .none, .any, 0xFFFFFFFFFFFFFFFF⟩,
  ⟨0x12, 0x12, 16, .u64, .r, .r, .r, .none, .any, 0xFFFFFFFFFFFFFFFF⟩,
  ⟨0x13, 0x13, 16, .u64, .r, .none, .r, .none, .any, 0xFFFFFFFFFFFFFFFF⟩,
  ⟨0x14, 0x14, 16, .u64, .r, .r, .r, .none, .any, 0xFFFFFFFFFFFFFFFF⟩,
  ⟨0x15, 0x15, 16, .u64, .r, .none, .r, .none, .any, 0xFFFFFFFFFFFFFFFF⟩,
  ⟨0x16, 0x16, 16, .u64, .r, .none, .r, .none, .any, 0xFFFFFFFFFFFFFFFF⟩,
  ⟨0x17, 0x17, 16, .u64, .r, .r, .r, .none, .any, 0xFFFFFFFFFFFFFFFF⟩,
  ⟨0x18, 0x18, 16, .u64, .r, .r, .r, .none, .any, 0xFFFFFFFFFFFFFFFF⟩,
  ⟨0x19, 0x19, 16, .u64, .r, .none, .r, .none, .any, 0xFFFFFFFFFFFFFFFF⟩,
  ⟨0x40, 0x47, 1, .u32, .rw, .none, .rw, .none, (.between 100 1000000), 0xFFFFFFFF⟩,
  ⟨0x50, 0x50, 1, .u64, .r, .r, .r, .none, .any, 0xFFFFFFFFFFFFFFFF⟩,
  ⟨0x51, 0x51, 1, .u64, .r, .none, .r, .none, .any, 0xFFFFFFFFFFFFFFFF⟩,
  ⟨0x52, 0x52, 1, .u64, .r, .r, .r, .none, .any, 0xFFFFFFFFFFFFFFFF⟩,
  ⟨0x53, 0x53, 1, .u64, .r, .none, .r, .none, .any, 0xFFFFFFFFFFFFFFFF⟩,
  ⟨0x54, 0x54, 1, .u64, .r, .none, .r, .none, .any, 0xFFFFFFFFFFFFFFFF⟩,
  ⟨0x55, 0x55, 1, .u64, .r, .none, .r, .none, .any, 0xFFFFFFFFFFFFFFFF⟩,
  ⟨0x56, 0x56, 1, .u64, .r, .r, .r, .none, .any, 0xFFFFFFFFFFFFFFFF⟩,
  ⟨0x57, 0x57, 1, .u32, .r, .none, .r, .none, .any, 0xFFFFFFFF⟩]

/-- Members of class 0x58. -/
def rowsOfRing : List MemberRow := [
  ⟨0x00, 0x00, 256, .bool, .rw, .none, .r, .none, .any, 0x1⟩,
  ⟨0x01, 0x01, 256, .enum8, .r, .none, .r, .none, .any, 0xFF⟩,
  ⟨0x02, 0x02, 256, .u64, .rw, .none, .none, .none, (.mult 0 18446744073709551615 4096), 0xFFFFFFFFFFFFFFFF⟩,
  ⟨0x03, 0x03, 256, .u16, .rw, .none, .r, .none, (.pow2 64 32768), 0xFFFF⟩,
  ⟨0x04, 0x04, 256, .u8, .rw, .none, .r, .none, (.between 1 2), 0xFF⟩,
  ⟨0x05, 0x05, 256, .enum8, .rw, .none, .r, .none, (.between 0 1), 0xFF⟩,
  ⟨0x06, 0x06, 256, .u16, .rw, .none, .r, .none, .any, 0xFFFF⟩,
  ⟨0x07, 0x07, 256, .u16, .rw, .none, .r, .none, .any, 0xFFFF⟩,
  ⟨0x08, 0x08, 256, .u64, .rw, .none, .none, .none, .any, 0xFFFFFFFFFFFFFFFF⟩,
  ⟨0x09, 0x09, 256, .u8, .rw, .none, .none, .none, .any, 0xFF⟩,
  ⟨0x0A, 0x0A, 256, .u16, .rw, .none, .none, .none, (.between 0 32768), 0xFFFF⟩,
  ⟨0x0B, 0x0B, 256, .u16, .rw, .none, .none, .none, .any, 0xFFFF⟩,
  ⟨0x0C, 0x0C, 256, .enum8, .rw, .none, .none, .none, (.between 0 1), 0xFF⟩,
  ⟨0x0D, 0x0D, 256, .bits32, .rw, .none, .none, .none, .any, 0x7⟩,
  ⟨0x0E, 0x0E, 256, .u16, .r, .none, .r, .none, .any, 0xFFFF⟩,
  ⟨0x10, 0x10, 256, .u64, .r, .r, .r, .none, .any, 0xFFFFFFFFFFFFFFFF⟩,
  ⟨0x11, 0x11, 256, .u64, .r, .r, .r, .none, .any, 0xFFFFFFFFFFFFFFFF⟩,
  ⟨0x12, 0x12, 256, .u64, .r, .r, .r, .none, .any, 0xFFFFFFFFFFFFFFFF⟩,
  ⟨0x13, 0x13, 256, .u64, .r, .none, .r, .none, .any, 0xFFFFFFFFFFFFFFFF⟩,
  ⟨0x14, 0x14, 256, .u64, .r, .none, .r, .none, .any, 0xFFFFFFFFFFFFFFFF⟩,
  ⟨0x15, 0x15, 256, .u64, .r, .none, .r, .none, .any, 0xFFFFFFFFFFFFFFFF⟩,
  ⟨0x16, 0x16, 256, .u64, .r, .none, .r, .none, .any, 0xFFFFFFFFFFFFFFFF⟩,
  ⟨0x17, 0x17, 256, .u64, .r, .none, .r, .none, .any, 0xFFFFFFFFFFFFFFFF⟩,
  ⟨0x18, 0x18, 256, .u64, .r, .none, .r, .none, .any, 0xFFFFFFFFFFFFFFFF⟩,
  ⟨0x80, 0x83, 1, .enum8, .rw, .none, .none, .none, (.between 0 5), 0xFF⟩,
  ⟨0x84, 0x87, 1, .u64, .rw, .none, .none, .none, (.mult 0 18446744073709551615 4096), 0xFFFFFFFFFFFFFFFF⟩,
  ⟨0x88, 0x88, 1, .u8, .rws, .none, .rws, .none, (.between 0 119), 0xFF⟩,
  ⟨0x89, 0x89, 1, .u16, .r, .none, .r, .none, .any, 0xFFFF⟩,
  ⟨0x8A, 0x8A, 1, .u64, .r, .none, .r, .none, .any, 0xFFFFFFFFFFFFFFFF⟩,
  ⟨0x8B, 0x8B, 1, .u16, .r, .none, .r, .none, .any, 0xFFFF⟩,
  ⟨0x8C, 0x8C, 1, .u64, .r, .none, .r, .none, .any, 0xFFFFFFFFFFFFFFFF⟩]

/-- Members of class 0x60. -/
def rowsOfCheck : List MemberRow := [
  ⟨0x00, 0x00, 8, .u8, .rw, .none, .rw, .none, (.between 8 64), 0xFF⟩,
  ⟨0x01, 0x01, 8, .u64, .rw, .none, .rw, .none, .any, 0xFFFFFFFFFFFFFFFF⟩,
  ⟨0x02, 0x02, 8, .u64, .rw, .none, .rw, .none, .any, 0xFFFFFFFFFFFFFFFF⟩,
  ⟨0x03, 0x03, 8, .bits32, .rw, .none, .rw, .none, .any, 0x7⟩,
  ⟨0x04, 0x04, 8, .enum8, .rw, .none, .rw, .none, (.between 0 2), 0xFF⟩,
  ⟨0x05, 0x05, 8, .u64, .rw, .none, .rw, .none, .any, 0xFFFFFFFFFFFFFFFF⟩,
  ⟨0x06, 0x06, 8, .u32, .rw, .none, .rw, .none, .any, 0xFFFFFFFF⟩,
  ⟨0x07, 0x07, 8, .u64, .rw, .none, .rw, .none, .any, 0xFFFFFFFFFFFFFFFF⟩,
  ⟨0x08, 0x08, 8, .u64, .r, .none, .r, .none, .any, 0xFFFFFFFFFFFFFFFF⟩,
  ⟨0x09, 0x09, 8, .u64, .rw, .none, .rw, .none, .any, 0xFFFFFFFFFFFFFFFF⟩,
  ⟨0x0A, 0x0A, 8, .u8, .x, .none, .x, .none, .any, 0xFF⟩,
  ⟨0x0B, 0x0B, 8, .u8, .x, .none, .x, .none, .any, 0xFF⟩,
  ⟨0x0C, 0x0C, 8, .u8, .x, .none, .x, .none, .any, 0xFF⟩,
  ⟨0x0D, 0x0D, 8, .u16, .r, .none, .r, .none, .any, 0xFFFF⟩,
  ⟨0x0E, 0x0E, 8, .u32, .r, .none, .r, .none, .any, 0xFFFFFFFF⟩,
  ⟨0x0F, 0x0F, 8, .bool, .rw, .none, .rw, .none, .any, 0x1⟩,
  ⟨0x10, 0x10, 8, .u64, .r, .none, .r, .none, .any, 0xFFFFFFFFFFFFFFFF⟩,
  ⟨0x11, 0x11, 8, .u64, .r, .none, .r, .none, .any, 0xFFFFFFFFFFFFFFFF⟩]

/-- Members of class 0x68. -/
def rowsOfPerf : List MemberRow := [
  ⟨0x00, 0x00, 16, .u64, .r, .r, .r, .none, .any, 0xFFFFFFFFFFFFFFFF⟩,
  ⟨0x01, 0x01, 16, .u64, .r, .r, .r, .none, .any, 0xFFFFFFFFFFFFFFFF⟩,
  ⟨0x02, 0x02, 16, .u64, .r, .r, .r, .none, .any, 0xFFFFFFFFFFFFFFFF⟩,
  ⟨0x03, 0x03, 16, .u64, .r, .r, .r, .none, .any, 0xFFFFFFFFFFFFFFFF⟩,
  ⟨0x04, 0x04, 16, .u64, .r, .r, .r, .none, .any, 0xFFFFFFFFFFFFFFFF⟩,
  ⟨0x05, 0x05, 16, .u64, .r, .r, .r, .none, .any, 0xFFFFFFFFFFFFFFFF⟩,
  ⟨0x06, 0x06, 16, .u64, .r, .r, .r, .none, .any, 0xFFFFFFFFFFFFFFFF⟩,
  ⟨0x07, 0x07, 16, .u64, .r, .r, .r, .none, .any, 0xFFFFFFFFFFFFFFFF⟩,
  ⟨0x08, 0x08, 16, .u32, .r, .none, .r, .none, .any, 0xFFFFFFFF⟩,
  ⟨0x10, 0x10, 16, .u8, .rw, .none, .rw, .none, (.zeroOr 8 24), 0xFF⟩,
  ⟨0x11, 0x11, 16, .u32, .rw, .none, .rw, .none, .any, 0xFFFFFFFF⟩,
  ⟨0x12, 0x12, 16, .enum8, .rw, .none, .rw, .none, (.between 1 2), 0xFF⟩,
  ⟨0x13, 0x13, 16, .u16, .r, .none, .r, .none, .any, 0xFFFF⟩,
  ⟨0x14, 0x14, 16, .u64, .r, .r, .r, .none, .any, 0xFFFFFFFFFFFFFFFF⟩,
  ⟨0x15, 0x15, 16, .u64, .r, .none, .r, .none, .any, 0xFFFFFFFFFFFFFFFF⟩,
  ⟨0x16, 0x16, 16, .u64, .r, .r, .r, .none, .any, 0xFFFFFFFFFFFFFFFF⟩,
  ⟨0x40, 0x40, 1, .bits64, .rw, .none, .none, .none, .any, 0xFFFFFFFFFFFFFFFF⟩,
  ⟨0x41, 0x41, 1, .bits64, .rw, .none, .none, .none, .any, 0xFFFFFFFFFFFFFFFF⟩,
  ⟨0x42, 0x42, 1, .bool, .rw, .none, .rw, .none, .any, 0x1⟩,
  ⟨0x43, 0x43, 1, .u8, .rw, .none, .rw, .none, (.between 0 20), 0xFF⟩,
  ⟨0x44, 0x44, 1, .u16, .rw, .none, .rw, .none, (.between 0 504), 0xFFFF⟩,
  ⟨0x45, 0x45, 1, .u64, .rw, .none, .none, .none, (.mult 0 18446744073709551615 4096), 0xFFFFFFFFFFFFFFFF⟩,
  ⟨0x46, 0x46, 1, .u32, .r, .r, .r, .none, .any, 0xFFFFFFFF⟩,
  ⟨0x47, 0x47, 1, .u64, .r, .none, .r, .none, .any, 0xFFFFFFFFFFFFFFFF⟩,
  ⟨0x48, 0x48, 1, .u64, .r, .none, .r, .none, .any, 0xFFFFFFFFFFFFFFFF⟩,
  ⟨0x49, 0x49, 1, .u8, .rw, .none, .rw, .none, (.between 0 15), 0xFF⟩,
  ⟨0x4A, 0x4A, 1, .u16, .rw, .none, .rw, .none, (.mult 0 3584 512), 0xFFFF⟩]

/-- Members of class 0x70. -/
def rowsOfBuddy : List MemberRow := [
  ⟨0x00, 0x00, 1, .bool, .rws, .none, .rws, .none, .any, 0x1⟩,
  ⟨0x01, 0x01, 1, .u8, .rws, .none, .rws, .none, .any, 0xFF⟩,
  ⟨0x02, 0x02, 1, .u8, .rws, .none, .rws, .none, .any, 0xFF⟩,
  ⟨0x03, 0x03, 1, .u16, .rws, .none, .r, .none, (.between 1536 65535), 0xFFFF⟩,
  ⟨0x04, 0x04, 1, .bool, .r, .none, .r, .r, .any, 0x1⟩,
  ⟨0x05, 0x05, 1, .enum8, .r, .r, .r, .r, .any, 0xFF⟩,
  ⟨0x06, 0x06, 1, .u8, .r, .none, .r, .none, .any, 0xFF⟩,
  ⟨0x07, 0x07, 1, .u16, .r, .none, .r, .none, .any, 0xFFFF⟩,
  ⟨0x08, 0x08, 1, .u32, .r, .none, .r, .none, .any, 0xFFFFFFFF⟩,
  ⟨0x09, 0x09, 1, .bool, .rws, .none, .rws, .none, .any, 0x1⟩,
  ⟨0x0A, 0x0A, 1, .u8, .rws, .none, .rws, .none, (.between 2 64), 0xFF⟩,
  ⟨0x0B, 0x0B, 1, .bool, .rw, .none, .rw, .none, .any, 0x1⟩,
  ⟨0x0C, 0x0C, 1, .u8, .x, .none, .x, .none, .any, 0xFF⟩,
  ⟨0x0D, 0x0D, 1, .u32, .r, .none, .r, .none, .any, 0xFFFFFFFF⟩,
  ⟨0x0E, 0x0E, 1, .u32, .r, .none, .r, .none, .any, 0xFFFFFFFF⟩,
  ⟨0x0F, 0x0F, 1, .u8, .r, .none, .r, .none, .any, 0xFF⟩,
  ⟨0x10, 0x10, 1, .u64, .r, .r, .r, .none, .any, 0xFFFFFFFFFFFFFFFF⟩,
  ⟨0x11, 0x11, 1, .u64, .r, .r, .r, .none, .any, 0xFFFFFFFFFFFFFFFF⟩,
  ⟨0x12, 0x12, 1, .u64, .r, .none, .r, .none, .any, 0xFFFFFFFFFFFFFFFF⟩,
  ⟨0x13, 0x13, 1, .u64, .r, .none, .r, .none, .any, 0xFFFFFFFFFFFFFFFF⟩,
  ⟨0x14, 0x14, 1, .u64, .r, .none, .r, .none, .any, 0xFFFFFFFFFFFFFFFF⟩,
  ⟨0x15, 0x15, 1, .u64, .r, .r, .r, .none, .any, 0xFFFFFFFFFFFFFFFF⟩,
  ⟨0x16, 0x16, 1, .u64, .r, .none, .r, .none, .any, 0xFFFFFFFFFFFFFFFF⟩,
  ⟨0x17, 0x17, 1, .u64, .r, .r, .r, .none, .any, 0xFFFFFFFFFFFFFFFF⟩,
  ⟨0x18, 0x18, 1, .u64, .r, .none, .r, .none, .any, 0xFFFFFFFFFFFFFFFF⟩,
  ⟨0x19, 0x19, 1, .u64, .r, .none, .r, .none, .any, 0xFFFFFFFFFFFFFFFF⟩,
  ⟨0x1A, 0x1A, 1, .u64, .r, .r, .r, .none, .any, 0xFFFFFFFFFFFFFFFF⟩,
  ⟨0x1B, 0x1B, 1, .u64, .r, .none, .r, .none, .any, 0xFFFFFFFFFFFFFFFF⟩,
  ⟨0x1C, 0x1C, 1, .u64, .r, .r, .r, .none, .any, 0xFFFFFFFFFFFFFFFF⟩,
  ⟨0x1D, 0x1D, 1, .u64, .r, .none, .r, .none, .any, 0xFFFFFFFFFFFFFFFF⟩,
  ⟨0x1E, 0x1E, 1, .u64, .r, .none, .r, .none, .any, 0xFFFFFFFFFFFFFFFF⟩]

/-- Members of class 0x78. -/
def rowsOfDenlys : List MemberRow := [
  ⟨0x00, 0x00, 1, .u16, .rw, .none, .r, .none, (.between 1536 65535), 0xFFFF⟩,
  ⟨0x02, 0x02, 1, .u8, .rw, .none, .r, .none, (.between 1 255), 0xFF⟩,
  ⟨0x03, 0x03, 1, .u8, .rw, .none, .r, .none, .any, 0xFF⟩,
  ⟨0x04, 0x04, 1, .u16, .rw, .none, .rw, .none, (.between 10 10000), 0xFFFF⟩,
  ⟨0x05, 0x05, 1, .u16, .rw, .none, .rw, .none, .any, 0xFFFF⟩,
  ⟨0x06, 0x06, 1, .u8, .rw, .none, .r, .none, (.between 1 3), 0xFF⟩,
  ⟨0x07, 0x07, 1, .u8, .r, .none, .r, .none, .any, 0xFF⟩,
  ⟨0x08, 0x08, 1, .octets8, .r, .none, .r, .none, .any, 0xFFFFFFFFFFFFFFFF⟩,
  ⟨0x09, 0x09, 1, .u8, .x, .none, .none, .none, .any, 0xFF⟩,
  ⟨0x0A, 0x0A, 1, .bits32, .r, .none, .r, .none, .any, 0x7⟩,
  ⟨0x10, 0x10, 1, .u64, .r, .none, .r, .none, .any, 0xFFFFFFFFFFFFFFFF⟩,
  ⟨0x11, 0x11, 1, .u64, .r, .none, .r, .none, .any, 0xFFFFFFFFFFFFFFFF⟩,
  ⟨0x12, 0x12, 1, .u64, .r, .none, .r, .none, .any, 0xFFFFFFFFFFFFFFFF⟩,
  ⟨0x13, 0x13, 1, .u64, .r, .none, .r, .none, .any, 0xFFFFFFFFFFFFFFFF⟩,
  ⟨0x14, 0x14, 1, .u64, .r, .none, .r, .none, .any, 0xFFFFFFFFFFFFFFFF⟩,
  ⟨0x15, 0x15, 1, .u64, .r, .none, .r, .none, .any, 0xFFFFFFFFFFFFFFFF⟩,
  ⟨0x16, 0x16, 1, .u64, .r, .none, .r, .none, .any, 0xFFFFFFFFFFFFFFFF⟩,
  ⟨0x17, 0x17, 1, .u64, .r, .none, .r, .none, .any, 0xFFFFFFFFFFFFFFFF⟩,
  ⟨0x18, 0x18, 1, .u64, .r, .none, .r, .none, .any, 0xFFFFFFFFFFFFFFFF⟩,
  ⟨0x19, 0x19, 1, .u64, .r, .none, .r, .none, .any, 0xFFFFFFFFFFFFFFFF⟩]

/-- The member rows of a class number (R128, R129); a class without members has none (R130, R562). -/
def rowsOfClass (c : Nat) : List MemberRow :=
  if c = 0x01 then rowsOfDevice else
  if c = 0x02 then rowsOfStart else
  if c = 0x03 then rowsOfPower else
  if c = 0x04 then rowsOfBell else
  if c = 0x05 then rowsOfTxn else
  if c = 0x06 then rowsOfEdition else
  if c = 0x08 then rowsOfTime else
  if c = 0x10 then rowsOfLane else
  if c = 0x11 then rowsOfPort else
  if c = 0x12 then rowsOfBlock else
  if c = 0x20 then rowsOfParser else
  if c = 0x21 then rowsOfTcam else
  if c = 0x22 then rowsOfLpm else
  if c = 0x23 then rowsOfL2 else
  if c = 0x30 then rowsOfRoll else
  if c = 0x31 then rowsOfFrontrow else
  if c = 0x32 then rowsOfEndpoint else
  if c = 0x38 then rowsOfNat else
  if c = 0x39 then rowsOfLb else
  if c = 0x3A then rowsOfFilter else
  if c = 0x3B then rowsOfExport else
  if c = 0x40 then rowsOfTutor else
  if c = 0x41 then rowsOfTask else
  if c = 0x48 then rowsOfBuffer else
  if c = 0x49 then rowsOfPool else
  if c = 0x4A then rowsOfTimetable else
  if c = 0x50 then rowsOfMemch else
  if c = 0x58 then rowsOfRing else
  if c = 0x60 then rowsOfCheck else
  if c = 0x68 then rowsOfPerf else
  if c = 0x70 then rowsOfBuddy else
  if c = 0x78 then rowsOfDenlys else
  []

/-- The default of a member other than zero (R3, R127); `inst` matters for defaults that name the port. -/
def nonzeroDefault (cls inst mem : Nat) : Nat :=
  if cls = 0x01 then
    if mem = 0x00 then 9572 else  -- PART_NUMBER, R133
    if mem = 0x01 then 1 else  -- REVISION: B1, R2, R133
    if mem = 0x04 then 1 else  -- DICT_LEVEL, R133
    0 else
  if cls = 0x02 then
    if mem = 0x0A then 255 else  -- STRAP_NODEID with the balls open, R93, R555
    if mem = 0x10 then 1 else  -- PALETTE_ACTIVE, R58
    if mem = 0x11 then 1 else  -- PALETTE_NEXT, R58
    if mem = 0x16 then 65535 else  -- ROLL_CHANNELS, R58
    if mem = 0x17 then 20401094656 else  -- HOST_REGION_BYTES, R58
    if mem = 0x20 then 4294967295 else  -- ROLL_SEED_1, R298
    if mem = 0x21 then 1013904242 else  -- ROLL_SEED_2, R298
    if mem = 0x22 then 2773480762 else  -- ROLL_SEED_3, R298
    0 else
  if cls = 0x03 then
    if mem = 0x01 then 800 else  -- VCORE_TARGET, R91
    if mem = 0x06 then 100000 else  -- THERM_WARN, R91
    if mem = 0x07 then 16 else  -- THROTTLE_AFTER, R91
    if mem = 0x08 then 3 else  -- THROTTLE_N_STEP, R91
    0 else
  if cls = 0x08 then
    if mem = 0x05 then 8 else  -- TIME_KP_SHIFT, R509
    if mem = 0x06 then 14 else  -- TIME_KI_SHIFT, R509
    if mem = 0x07 then 1000 else  -- TIME_SLEW_MAX, R509
    if mem = 0x0B then 100 else  -- TIME_LOCK_THRESHOLD, R509
    if mem = 0x0C then 4096 else  -- TIME_HOLDOVER_LESSONS, R509
    if mem = 0x14 then 100000000 else  -- TIME_PPS_OUT_WIDTH, R509
    0 else
  if cls = 0x11 then
    if mem = 0x06 then 16434824 else  -- PORT_PCP_MAP, R220
    if mem = 0x0A then 100000 else  -- PORT_PAUSE_WD_LIMIT, R220
    if mem = 0x0B then 100000 else  -- PORT_PAUSE_WD_HOLDOFF, R220
    if mem = 0x0E then 30 else  -- PORT_LPI_TW_TX, R220
    if mem = 0x0F then 10 else  -- PORT_LPI_TW_RX, R220
    if mem = 0x12 then 50 else  -- PORT_LPI_IDLE, R220
    if mem = 0x14 then 1518 else  -- PORT_MAX_FRAME, R220
    if 0x50 ≤ mem ∧ mem ≤ 0x57 then 1048576 else  -- BUF_INGRESS_LIMIT, R406
    if 0x58 ≤ mem ∧ mem ≤ 0x5F then 1048576 else  -- BUF_EGRESS_LIMIT, R406
    if mem = 0x60 then 262144 else  -- PORT_PFC_HEADROOM, R406
    if mem = 0x83 then 160 else  -- TT_PORT_BURST, R430
    if mem = 0x84 then 20 else  -- TT_SHAPE_OVERHEAD, R430
    if mem = 0x88 then 1 else  -- TT_GATE_COUNT, R430
    if mem = 0x89 then 255 else  -- TT_GATE_STATE, R430
    if mem = 0xB0 then 256 else  -- PORT_FAILOVER, R534
    if mem = 0x81 then inst else  -- TT_SUB_DEFAULT, R430: the port number
    0 else
  if cls = 0x20 then
    if mem = 0x02 then 1024 else  -- PARSER_FRAG_TUTOR_LIMIT, R244
    0 else
  if cls = 0x21 then
    if mem = 0x10 then 255 else  -- TCAM_BANK_ENABLE, R245
    if mem = 0x12 then 1 else  -- TCAM_MISS_STATEFUL, R245
    0 else
  if cls = 0x23 then
    if mem = 0x00 then 4 else  -- L2_SETTLE, R265
    if mem = 0x01 then 300 else  -- L2_AGE_LESSONS, R265
    if 0x02 ≤ mem ∧ mem ≤ 0x05 then 18446744073709551615 else  -- L2_LEARN_PORTS, R265
    0 else
  if cls = 0x30 then
    if mem = 0x05 then 600 else  -- ROLL_MISS_QUEUE_LIMIT, R295
    if mem = 0x14 then 286102 else  -- ROLL_AGE_TCP_EST, R319
    if mem = 0x15 then 28610 else  -- ROLL_AGE_TCP_OTHER, R319
    if mem = 0x16 then 114441 else  -- ROLL_AGE_UDP, R319
    if mem = 0x17 then 28610 else  -- ROLL_AGE_OTHER, R319
    if mem = 0x18 then 2048 else  -- ROLL_CALL_SLICE, R319
    0 else
  if cls = 0x31 then
    if mem = 0x03 then 64 else  -- FR_CLEAN_AGE, R296
    0 else
  if cls = 0x38 then
    if mem = 0x00 then 114441 else  -- NAT_MAP_HOLD, R350
    if mem = 0x01 then 32 else  -- NAT_PROBE_LIMIT, R350
    0 else
  if cls = 0x39 then
    if mem = 0x00 then 4194304 else  -- LB_MEMBER_CAPACITY, R351
    0 else
  if cls = 0x3B then
    if mem = 0x04 then 57221 else  -- EXPORT_ACTIVE, R353
    if mem = 0x06 then 572205 else  -- EXPORT_TEMPLATE_INTERVAL, R353
    if mem = 0x07 then 1400 else  -- EXPORT_MSG_BYTES, R353
    0 else
  if cls = 0x40 then
    if mem = 0x08 then 65536 else  -- TASK_CYCLE_LIMIT, R380
    if mem = 0x09 then 4096 else  -- TUTOR_HANG_CYCLES, R380
    if mem = 0x0B then 8190 else  -- TASK_TRACE_KINDS, R380
    if mem = 0x21 then 1 else  -- TUTOR_ENABLE, R380
    0 else
  if cls = 0x41 then
    if mem = 0x00 then 8192 else  -- TASK_SLOTS_FREE, R381
    0 else
  if cls = 0x49 then
    if mem = 0x01 then (if inst = 0 then 0 else 64) else  -- POOL_SHARE, R405
    if mem = 0x24 then 16 else  -- POOL_SEG_RESERVE_FREE, R405
    0 else
  if cls = 0x4A then
    if mem = 0x01 then 256 else  -- TT_SUBS_VALID, R429
    if mem = 0x02 then 2048 else  -- TT_QUEUES_VALID, R429
    0 else
  if cls = 0x50 then
    if mem = 0x04 then 10000 else  -- MEMCH_SR_IDLE, R455
    if mem = 0x05 then 4 else  -- MEMCH_SCRUB_RATE, R455
    if mem = 0x06 then 16 else  -- MEMCH_FAIL_LIMIT, R455
    if mem = 0x40 then 400 else  -- MEMCH_TARGET_0, R455
    if mem = 0x41 then 1000 else  -- MEMCH_TARGET_1, R455
    if mem = 0x42 then 2000 else  -- MEMCH_TARGET_2, R455
    if mem = 0x43 then 4000 else  -- MEMCH_TARGET_3, R455
    if mem = 0x44 then 8000 else  -- MEMCH_TARGET_4, R455
    if mem = 0x45 then 20000 else  -- MEMCH_TARGET_5, R455
    if mem = 0x46 then 10000 else  -- MEMCH_TARGET_6, R455
    if mem = 0x47 then 100000 else  -- MEMCH_TARGET_7, R455
    0 else
  if cls = 0x58 then
    if mem = 0x03 then 64 else  -- RING_SIZE, R483
    if mem = 0x04 then 1 else  -- RING_FORMAT, R483
    if mem = 0x0A then 1 else  -- RING_IRQ_COUNT, R483
    0 else
  if cls = 0x60 then
    if mem = 0x00 then 32 else  -- CHK_WIDTH, R494
    if mem = 0x01 then 517762881 else  -- CHK_POLY, R494
    if mem = 0x02 then 4294967295 else  -- CHK_INIT, R494
    if mem = 0x03 then 7 else  -- CHK_FLAGS, R494
    0 else
  if cls = 0x68 then
    if mem = 0x11 then 1 else  -- PERF_TAG_SEED, R549
    if mem = 0x12 then 1 else  -- PERF_TAG_MODE, R549
    if mem = 0x43 then 10 else  -- PERF_SNAP_LOG2, R549
    0 else
  if cls = 0x70 then
    if mem = 0x03 then 34998 else  -- BUDDY_ETHERTYPE, R533
    if mem = 0x09 then 1 else  -- BUDDY_SYNC_CREATE, R533
    if mem = 0x0A then 8 else  -- BUDDY_CREATE_WAIT, R533
    if mem = 0x0B then 1 else  -- BUDDY_HANDBACK_AUTO, R533
    0 else
  if cls = 0x78 then
    if mem = 0x00 then 34997 else  -- DENLYS_ETHERTYPE, R192
    if mem = 0x02 then 8 else  -- PLCA_NODE_COUNT, R192
    if mem = 0x03 then 32 else  -- PLCA_TO_TIMER, R192
    if mem = 0x04 then 100 else  -- HEARTBEAT_INTERVAL, R192
    if mem = 0x05 then 1000 else  -- SESSION_TIMEOUT, R192
    if mem = 0x06 then 3 else  -- DENLYS_VERSION_MAX, R192
    0 else
  0

/-! ## The object IDs by name (R9) -/
namespace M
abbrev PERIOD_COUNT : Nat := 0x04000000
abbrev LESSON_COUNT : Nat := 0x04000001
abbrev BELL_TIME : Nat := 0x04000002
abbrev CYCLES_LAST : Nat := 0x04000003
abbrev WORK_CYCLES_LAST : Nat := 0x04000004
abbrev WORK_CYCLES_MAX : Nat := 0x04000005
abbrev PERIOD_PRESET : Nat := 0x04000006
abbrev LESSON_PRESET : Nat := 0x04000007
abbrev BELL_LOAD : Nat := 0x04000008
abbrev CNT_PERIOD_OVERRUN : Nat := 0x04000009
abbrev OVERRUN_ITEMS : Nat := 0x0400000A
abbrev BELL_STATE : Nat := 0x0400000B
abbrev PALETTE_ACTIVE : Nat := 0x02000010
abbrev PALETTE_NEXT : Nat := 0x02000011
abbrev PIPE_GATE_NEXT : Nat := 0x02000012
abbrev PIPE_GATE_ACTIVE : Nat := 0x02000013
abbrev DATAPATH_RESTART : Nat := 0x02000014
abbrev RESTART_STATUS : Nat := 0x02000015
abbrev ROLL_CHANNELS : Nat := 0x02000016
abbrev HOST_REGION_BYTES : Nat := 0x02000017
abbrev CNT_DATAPATH_RESTART : Nat := 0x02000018
abbrev PALETTE_SAVE : Nat := 0x02000019
abbrev CLOCK_STEP : Nat := 0x03000000
abbrev VCORE_TARGET : Nat := 0x03000001
abbrev VCORE_MEASURED : Nat := 0x03000002
abbrev VCORE_CURRENT : Nat := 0x03000003
abbrev TJ_NOW : Nat := 0x03000004
abbrev TJ_PEAK : Nat := 0x03000005
abbrev THERM_WARN : Nat := 0x03000006
abbrev THROTTLE_AFTER : Nat := 0x03000007
abbrev THROTTLE_N_STEP : Nat := 0x03000008
abbrev THROTTLE_STATE : Nat := 0x03000009
abbrev THROTTLE_CUTOFF : Nat := 0x0300000A
abbrev SAG_PEAK : Nat := 0x0300000B
abbrev ALERT_CAUSE : Nat := 0x0300000C
abbrev CNT_SAG_STRETCH : Nat := 0x0300000D
abbrev CNT_LOWEST_STEP_PERIODS : Nat := 0x0300000E
abbrev CNT_THROTTLE_PERIODS : Nat := 0x0300000F
abbrev CNT_THROTTLE_DROP : Nat := 0x03000010
abbrev CNT_THROTTLE_PAUSE : Nat := 0x03000011
abbrev CNT_THROTTLE_PIN : Nat := 0x03000012
abbrev CNT_AVS_FAULT : Nat := 0x03000013
abbrev CNT_THERM_WARN : Nat := 0x03000014
abbrev RECESS_ENTER : Nat := 0x03000015
abbrev RECESS_EXIT : Nat := 0x03000016
abbrev RECESS_STATE : Nat := 0x03000017
abbrev RECESS_WAKE_CAUSE : Nat := 0x03000018
abbrev RECESS_WAKE_PORT : Nat := 0x03000019
abbrev RECESS_WAKE_PATTERN : Nat := 0x0300001A
abbrev RECESS_STATUS : Nat := 0x0300001B
abbrev CNT_RECESS_DISCARD : Nat := 0x0300001C
abbrev POWER_NOW : Nat := 0x0300001D
abbrev START_STATE : Nat := 0x02000000
abbrev START_STEP : Nat := 0x02000001
abbrev START_HOLD : Nat := 0x02000002
abbrev START_RELEASE : Nat := 0x02000003
abbrev START_RETRY : Nat := 0x02000004
abbrev START_FAIL_STEP : Nat := 0x02000005
abbrev START_FAIL_UNIT : Nat := 0x02000006
abbrev ROLL_READY : Nat := 0x02000007
abbrev START_TIME_MS : Nat := 0x02000008
abbrev ROLL_ZERO_PROGRESS : Nat := 0x02000009
abbrev STRAP_NODEID : Nat := 0x0200000A
abbrev STRAP_BOOTSEL : Nat := 0x0200000B
abbrev STRAP_BUDDY_ROLE : Nat := 0x0200000C
abbrev BOOT_IMAGE : Nat := 0x0200000D
abbrev CNT_LANE_CAL_FAIL : Nat := 0x0200000E
abbrev CNT_RAIL_LOSS : Nat := 0x0200000F
abbrev START_FAIL_CODE : Nat := 0x0200001A
abbrev PART_NUMBER : Nat := 0x01000000
abbrev REVISION : Nat := 0x01000001
abbrev TEMP_GRADE : Nat := 0x01000002
abbrev SERIAL : Nat := 0x01000003
abbrev DICT_LEVEL : Nat := 0x01000004
abbrev FEATURES : Nat := 0x01000005
abbrev ISLAND_FW_VERSION : Nat := 0x01000006
abbrev ISLAND_UPTIME : Nat := 0x01000007
abbrev LAST_WRITE_STATUS : Nat := 0x01000008
abbrev LAST_WRITE_ID : Nat := 0x01000009
abbrev CNT_WRITE_REJECT : Nat := 0x0100000A
abbrev CNT_ACCESS_DENIED : Nat := 0x0100000B
abbrev CNT_NO_OBJECT : Nat := 0x0100000C
abbrev CNT_TBL_BUSY_WRITE : Nat := 0x0100000D
abbrev SCRATCH : Nat := 0x0100000E
abbrev TXN_STATE : Nat := 0x05000000
abbrev TXN_OWNER : Nat := 0x05000001
abbrev TXN_BEGIN : Nat := 0x05000002
abbrev TXN_COMMIT : Nat := 0x05000003
abbrev TXN_ROLLBACK : Nat := 0x05000004
abbrev TXN_STATUS : Nat := 0x05000005
abbrev TXN_FAIL_ID : Nat := 0x05000006
abbrev TXN_STAGED_OBJECTS : Nat := 0x05000007
abbrev TXN_STAGED_ENTRIES : Nat := 0x05000008
abbrev TXN_PREPARED_ENTRIES : Nat := 0x05000009
abbrev TXN_IDLE_LIMIT : Nat := 0x0500000A
abbrev CNT_TXN_COMMIT : Nat := 0x0500000D
abbrev CNT_TXN_FAIL : Nat := 0x0500000E
abbrev CNT_TXN_ROLLBACK : Nat := 0x0500000F
abbrev CNT_TXN_ABORT : Nat := 0x05000010
abbrev REDECIDE_SEL (k : Nat) : Nat := 0x05000020 + k
abbrev EDITION_CURRENT : Nat := 0x06000000
abbrev EDITION_DRAINING : Nat := 0x06000001
abbrev EDITION_DRAIN_VALID : Nat := 0x06000002
abbrev INFLIGHT_CURRENT : Nat := 0x06000005
abbrev INFLIGHT_DRAINING : Nat := 0x06000006
abbrev EDITION_FLIP_PERIOD : Nat := 0x06000007
abbrev CNT_FLIP : Nat := 0x06000008
abbrev CNT_FLIP_HELD : Nat := 0x06000009
abbrev CNT_EDITION_RESTAMP : Nat := 0x0600000A
abbrev DECISION_GEN : Nat := 0x0600000B
abbrev CNT_REDECIDE : Nat := 0x0600000C
abbrev SETTLE_REMAINING : Nat := 0x0600000D
abbrev DENLYS_ETHERTYPE : Nat := 0x78000000
abbrev PLCA_NODE_COUNT : Nat := 0x78000002
abbrev PLCA_TO_TIMER : Nat := 0x78000003
abbrev HEARTBEAT_INTERVAL : Nat := 0x78000004
abbrev SESSION_TIMEOUT : Nat := 0x78000005
abbrev DENLYS_VERSION_MAX : Nat := 0x78000006
abbrev SESSIONS_OPEN : Nat := 0x78000007
abbrev DENLYS_MAC : Nat := 0x78000008
abbrev KEY_SAVE : Nat := 0x78000009
abbrev KEY_SLOTS_SET : Nat := 0x7800000A
abbrev CNT_DENLYS_RX : Nat := 0x78000010
abbrev CNT_DENLYS_TX : Nat := 0x78000011
abbrev CNT_DENLYS_BAD_TAG : Nat := 0x78000012
abbrev CNT_DENLYS_REPLAY : Nat := 0x78000013
abbrev CNT_DENLYS_LATE : Nat := 0x78000014
abbrev CNT_DENLYS_NO_SESSION : Nat := 0x78000015
abbrev CNT_DENLYS_NOTIFY_DROP : Nat := 0x78000016
abbrev CNT_DENLYS_SESSION_TIMEOUT : Nat := 0x78000017
abbrev CNT_DENLYS_FCS : Nat := 0x78000018
abbrev CNT_DENLYS_NO_KEY : Nat := 0x78000019
abbrev LANE_CAL_STATUS (i : Nat) : Nat := 0x10000000 + i * 256
abbrev LANE_TX_INVERT (i : Nat) : Nat := 0x10000001 + i * 256
abbrev LANE_RX_INVERT (i : Nat) : Nat := 0x10000002 + i * 256
abbrev LANE_LOOPBACK (i : Nat) : Nat := 0x10000003 + i * 256
abbrev LANE_SNR (i : Nat) : Nat := 0x10000004 + i * 256
abbrev LANE_SIGNAL (i : Nat) : Nat := 0x10000005 + i * 256
abbrev CNT_FEC_CORRECTED_SYMBOLS (i : Nat) : Nat := 0x10000010 + i * 256
abbrev PORT_MODE (i : Nat) : Nat := 0x11000000 + i * 256
abbrev PORT_ADMIN (i : Nat) : Nat := 0x11000001 + i * 256
abbrev PORT_LINK (i : Nat) : Nat := 0x11000002 + i * 256
abbrev PORT_FEC (i : Nat) : Nat := 0x11000003 + i * 256
abbrev PORT_TRUST (i : Nat) : Nat := 0x11000004 + i * 256
abbrev PORT_DEFAULT_CLASS (i : Nat) : Nat := 0x11000005 + i * 256
abbrev PORT_PCP_MAP (i : Nat) : Nat := 0x11000006 + i * 256
abbrev PORT_FC_MODE (i : Nat) : Nat := 0x11000007 + i * 256
abbrev PORT_LOSSLESS (i : Nat) : Nat := 0x11000008 + i * 256
abbrev PORT_PAUSE_STATE (i : Nat) : Nat := 0x11000009 + i * 256
abbrev PORT_PAUSE_WD_LIMIT (i : Nat) : Nat := 0x1100000A + i * 256
abbrev PORT_PAUSE_WD_HOLDOFF (i : Nat) : Nat := 0x1100000B + i * 256
abbrev PORT_OVERFLOW_ACTION (i : Nat) : Nat := 0x1100000C + i * 256
abbrev PORT_LPI_ENABLE (i : Nat) : Nat := 0x1100000D + i * 256
abbrev PORT_LPI_TW_TX (i : Nat) : Nat := 0x1100000E + i * 256
abbrev PORT_LPI_TW_RX (i : Nat) : Nat := 0x1100000F + i * 256
abbrev PORT_WAKE_ENABLE (i : Nat) : Nat := 0x11000010 + i * 256
abbrev PORT_WAKE_PREPARE (i : Nat) : Nat := 0x11000011 + i * 256
abbrev PORT_LPI_IDLE (i : Nat) : Nat := 0x11000012 + i * 256
abbrev PORT_AN (i : Nat) : Nat := 0x11000013 + i * 256
abbrev PORT_MAX_FRAME (i : Nat) : Nat := 0x11000014 + i * 256
abbrev CNT_RX_FRAMES (i : Nat) : Nat := 0x11000020 + i * 256
abbrev CNT_RX_BYTES (i : Nat) : Nat := 0x11000021 + i * 256
abbrev CNT_TX_FRAMES (i : Nat) : Nat := 0x11000022 + i * 256
abbrev CNT_TX_BYTES (i : Nat) : Nat := 0x11000023 + i * 256
abbrev CNT_SYMBOL_ERROR (i : Nat) : Nat := 0x11000024 + i * 256
abbrev CNT_ALIGNMENT (i : Nat) : Nat := 0x11000025 + i * 256
abbrev CNT_RUNT (i : Nat) : Nat := 0x11000026 + i * 256
abbrev CNT_OVERSIZE (i : Nat) : Nat := 0x11000027 + i * 256
abbrev CNT_FCS_ERROR (i : Nat) : Nat := 0x11000028 + i * 256
abbrev CNT_LENGTH_FIELD (i : Nat) : Nat := 0x11000029 + i * 256
abbrev CNT_MAC_CONTROL_OTHER (i : Nat) : Nat := 0x1100002A + i * 256
abbrev CNT_PAUSE_RX (i : Nat) : Nat := 0x1100002B + i * 256
abbrev CNT_PAUSE_IGNORED (i : Nat) : Nat := 0x1100002C + i * 256
abbrev CNT_PAUSE_WATCHDOG (i : Nat) : Nat := 0x1100002D + i * 256
abbrev CNT_PAUSE_HOLDOFF (i : Nat) : Nat := 0x1100002E + i * 256
abbrev CNT_LPI_ENTRY (i : Nat) : Nat := 0x1100002F + i * 256
abbrev CNT_SEG_REQUEST (i : Nat) : Nat := 0x11000030 + i * 256
abbrev CNT_SEG_FRAMES (i : Nat) : Nat := 0x11000031 + i * 256
abbrev CNT_WAKE_MATCH (i : Nat) : Nat := 0x11000032 + i * 256
abbrev CNT_LINK_DOWN (i : Nat) : Nat := 0x11000033 + i * 256
abbrev CNT_FEC_UNCORRECTED (i : Nat) : Nat := 0x11000034 + i * 256
abbrev BLOCK_PORTS_ACTIVE (i : Nat) : Nat := 0x12000000 + i * 256
abbrev BLOCK_INGRESS_FILL_MAX (i : Nat) : Nat := 0x12000001 + i * 256
abbrev CNT_BLOCK_INGRESS_OVERFLOW (i : Nat) : Nat := 0x12000010 + i * 256
abbrev PARSER_MALFORMED_ACTION : Nat := 0x20000000
abbrev PARSER_MALFORMED_RING : Nat := 0x20000001
abbrev PARSER_FRAG_TUTOR_LIMIT : Nat := 0x20000002
abbrev PARSER_FRAG_RING : Nat := 0x20000003
abbrev CNT_PARSED (i : Nat) : Nat := 0x20000004 + i * 256
abbrev CNT_MALFORMED (i : Nat) : Nat := 0x20000005 + i * 256
abbrev CNT_MALF_L2 (i : Nat) : Nat := 0x20000010 + i * 256
abbrev CNT_MALF_IPV4_HDR (i : Nat) : Nat := 0x20000011 + i * 256
abbrev CNT_MALF_IPV4_CSUM (i : Nat) : Nat := 0x20000012 + i * 256
abbrev CNT_MALF_IPV4_LEN (i : Nat) : Nat := 0x20000013 + i * 256
abbrev CNT_MALF_IPV6_LEN (i : Nat) : Nat := 0x20000014 + i * 256
abbrev CNT_MALF_IPV6_CHAIN (i : Nat) : Nat := 0x20000015 + i * 256
abbrev CNT_MALF_FRAG (i : Nat) : Nat := 0x20000016 + i * 256
abbrev CNT_MALF_TCP (i : Nat) : Nat := 0x20000017 + i * 256
abbrev CNT_MALF_UDP (i : Nat) : Nat := 0x20000018 + i * 256
abbrev CNT_MALF_L4_TRUNC (i : Nat) : Nat := 0x20000019 + i * 256
abbrev CNT_FRAG_TUTOR (i : Nat) : Nat := 0x20000020 + i * 256
abbrev CNT_FRAG_HOST (i : Nat) : Nat := 0x20000021 + i * 256
abbrev CNT_FRAG_DROP (i : Nat) : Nat := 0x20000022 + i * 256
abbrev TCAM_BANK_PROFILE (k : Nat) : Nat := 0x21000000 + k
abbrev TCAM_BANK_PREC (k : Nat) : Nat := 0x21000008 + k
abbrev TCAM_BANK_ENABLE : Nat := 0x21000010
abbrev TCAM_MISS_ACTION : Nat := 0x21000011
abbrev TCAM_MISS_STATEFUL : Nat := 0x21000012
abbrev TCAM_PARTS_USED : Nat := 0x21000013
abbrev CNT_TCAM_SEARCH (i : Nat) : Nat := 0x21000020 + i * 256
abbrev CNT_TCAM_HIT (i : Nat) : Nat := 0x21000021 + i * 256
abbrev CNT_TCAM_MISS (i : Nat) : Nat := 0x21000022 + i * 256
abbrev CNT_TCAM_TIE (i : Nat) : Nat := 0x21000023 + i * 256
abbrev CNT_TCAM_MULTI (i : Nat) : Nat := 0x21000024 + i * 256
abbrev CNT_TCAM_SLOT_STEAL (i : Nat) : Nat := 0x21000025 + i * 256
abbrev CNT_TCAM_SHADOW_MISMATCH (i : Nat) : Nat := 0x21000026 + i * 256
abbrev CNT_TCAM_VERIFY_FAIL (i : Nat) : Nat := 0x21000027 + i * 256
abbrev CNT_TCAM_SHADOW_REPAIR (i : Nat) : Nat := 0x21000028 + i * 256
abbrev TCAM_COMPARE_POSITION (i : Nat) : Nat := 0x21000029 + i * 256
abbrev LPM_MISS_ACTION : Nat := 0x22000000
abbrev LPM_EXCEPTION_RING : Nat := 0x22000001
abbrev LPM_UNITS_USED : Nat := 0x22000002
abbrev LPM_PREFIXES_V4 : Nat := 0x22000003
abbrev LPM_PREFIXES_V6 : Nat := 0x22000004
abbrev CNT_LPM_LOOKUP (i : Nat) : Nat := 0x22000020 + i * 256
abbrev CNT_LPM_MISS (i : Nat) : Nat := 0x22000021 + i * 256
abbrev CNT_LPM_TTL (i : Nat) : Nat := 0x22000022 + i * 256
abbrev L2_SETTLE : Nat := 0x23000000
abbrev L2_AGE_LESSONS : Nat := 0x23000001
abbrev L2_LEARN_PORTS (k : Nat) : Nat := 0x23000002 + k
abbrev CNT_L2_LEARN : Nat := 0x23000008
abbrev CNT_L2_STATION_MOVE : Nat := 0x23000009
abbrev CNT_L2_MOVE : Nat := 0x2300000A
abbrev CNT_L2_FLAP_LOCK : Nat := 0x2300000B
abbrev CNT_L2_LEARN_UNSETTLED : Nat := 0x2300000C
abbrev L2_ENTRIES_USED (i : Nat) : Nat := 0x23000020 + i * 256
abbrev CNT_L2_DA_MISS (i : Nat) : Nat := 0x23000021 + i * 256
abbrev CNT_L2_FLOOD (i : Nat) : Nat := 0x23000022 + i * 256
abbrev CNT_L2_SAME_PORT (i : Nat) : Nat := 0x23000023 + i * 256
abbrev CNT_L2_LEARN_LIMIT (i : Nat) : Nat := 0x23000024 + i * 256
abbrev CNT_L2_LEARN_FULL (i : Nat) : Nat := 0x23000025 + i * 256
abbrev CNT_L2_STATIC_VIOLATION (i : Nat) : Nat := 0x23000026 + i * 256
abbrev CNT_L2_LOCKED_LEARN (i : Nat) : Nat := 0x23000027 + i * 256
abbrev CNT_L2_AGED (i : Nat) : Nat := 0x23000028 + i * 256
abbrev ROLL_SLOTS : Nat := 0x30000000
abbrev ROLL_BUCKETS : Nat := 0x30000001
abbrev ROLL_SLOTS_USED : Nat := 0x30000002
abbrev ROLL_EXTENDED_USED : Nat := 0x30000003
abbrev ROLL_LINKS_USED : Nat := 0x30000004
abbrev ROLL_MISS_QUEUE_LIMIT : Nat := 0x30000005
abbrev ROLL_PROBE : Nat := 0x30000006
abbrev ROLL_PROBE_H1 : Nat := 0x30000007
abbrev ROLL_PROBE_H2 : Nat := 0x30000008
abbrev ROLL_PROBE_H3 : Nat := 0x30000009
abbrev ROLL_PROBE_HOME : Nat := 0x3000000A
abbrev ROLL_PROBE_SECOND : Nat := 0x3000000B
abbrev ROLL_PROBE_TAG : Nat := 0x3000000C
abbrev CNT_ROLL_CREATE_RACE : Nat := 0x30000010
abbrev CNT_ROLL_TAG_FALSE : Nat := 0x30000011
abbrev CNT_ROLL_TAG_REPAIR : Nat := 0x30000012
abbrev CNT_ROLL_LINK_FOLLOW : Nat := 0x30000013
abbrev CNT_ROLL_LOOKUP (i : Nat) : Nat := 0x30000020 + i * 256
abbrev CNT_ROLL_FETCH_UNITS (i : Nat) : Nat := 0x30000021 + i * 256
abbrev CNT_ROLL_BUDGET_EXHAUSTED (i : Nat) : Nat := 0x30000022 + i * 256
abbrev ROLL_MISS_QUEUE (i : Nat) : Nat := 0x30000023 + i * 256
abbrev ROLL_CORRIDOR_USED (i : Nat) : Nat := 0x30000024 + i * 256
abbrev ROLL_CORRIDOR_MAX (i : Nat) : Nat := 0x30000025 + i * 256
abbrev CNT_ROLL_HOLD_ALIAS (i : Nat) : Nat := 0x30000026 + i * 256
abbrev CNT_ROLL_FILL_WAIT (i : Nat) : Nat := 0x30000027 + i * 256
abbrev CNT_ROLL_UNAVAILABLE (i : Nat) : Nat := 0x30000028 + i * 256
abbrev FR_LINES : Nat := 0x31000000
abbrev FR_SETS : Nat := 0x31000001
abbrev FR_DIRTY : Nat := 0x31000002
abbrev FR_CLEAN_AGE : Nat := 0x31000003
abbrev FR_WB_USED : Nat := 0x31000004
abbrev CNT_FR_FILL : Nat := 0x31000010
abbrev CNT_FR_EVICT_DIRTY : Nat := 0x31000011
abbrev CNT_FR_WRITEBACK : Nat := 0x31000012
abbrev CNT_FR_SET_PINNED : Nat := 0x31000013
abbrev CNT_FR_WB_FORWARD : Nat := 0x31000014
abbrev CNT_FR_LOST_DIRTY : Nat := 0x31000015
abbrev CNT_FR_WB_FULL : Nat := 0x31000016
abbrev CNT_ROLL_SERVED_HIT (i : Nat) : Nat := 0x11000040 + i * 256
abbrev CNT_ROLL_SERVED_CREATE (i : Nat) : Nat := 0x11000041 + i * 256
abbrev CNT_ROLL_DELAY_MISS (i : Nat) : Nat := 0x11000042 + i * 256
abbrev CNT_ROLL_DELAY_BUDGET (i : Nat) : Nat := 0x11000043 + i * 256
abbrev CNT_ROLL_DELAY_HOLD (i : Nat) : Nat := 0x11000044 + i * 256
abbrev CNT_ROLL_REFUSE_NOT_READY (i : Nat) : Nat := 0x11000048 + i * 256
abbrev CNT_ROLL_REFUSE_CORRIDOR (i : Nat) : Nat := 0x11000049 + i * 256
abbrev CNT_ROLL_REFUSE_QUEUE (i : Nat) : Nat := 0x1100004A + i * 256
abbrev CNT_ROLL_REFUSE_BUCKET (i : Nat) : Nat := 0x1100004B + i * 256
abbrev CNT_ROLL_REFUSE_UNAVAILABLE (i : Nat) : Nat := 0x1100004C + i * 256
abbrev CNT_ROLL_REFUSE_ORDER (i : Nat) : Nat := 0x1100004D + i * 256
abbrev CNT_ROLL_CREATED_LATE (i : Nat) : Nat := 0x1100004E + i * 256
abbrev ROLL_SEED_1 : Nat := 0x02000020
abbrev ROLL_SEED_2 : Nat := 0x02000021
abbrev ROLL_SEED_3 : Nat := 0x02000022
abbrev ROLL_SEED_SAVE : Nat := 0x02000023
abbrev ROLL_AGE_TCP_EST : Nat := 0x30000014
abbrev ROLL_AGE_TCP_OTHER : Nat := 0x30000015
abbrev ROLL_AGE_UDP : Nat := 0x30000016
abbrev ROLL_AGE_OTHER : Nat := 0x30000017
abbrev ROLL_CALL_SLICE : Nat := 0x30000018
abbrev ROLL_CALL_POSITION : Nat := 0x30000019
abbrev ROLL_CALL_LAST_SWEEP : Nat := 0x3000001A
abbrev CNT_ROLL_AGED : Nat := 0x3000001B
abbrev CNT_ROLL_AGE_DEFEATED : Nat := 0x3000001C
abbrev CNT_ROLL_REBORN : Nat := 0x3000001D
abbrev CNT_ROLL_AGE_EXPORT_FULL : Nat := 0x3000001E
abbrev CNT_ROLL_ORPHAN_LINK : Nat := 0x3000001F
abbrev CNT_ROLL_CREATED (i : Nat) : Nat := 0x30000029 + i * 256
abbrev CNT_ROLL_UPDATE_STALE : Nat := 0x30000030
abbrev CNT_ROLL_UPDATE_MERGED : Nat := 0x30000031
abbrev CNT_ROLL_HOST_WRITE : Nat := 0x30000032
abbrev CNT_ROLL_HOST_DELETE : Nat := 0x30000033
abbrev CNT_ROLL_CALL_CHECKED : Nat := 0x30000034
abbrev ENDPOINT_METERING : Nat := 0x32000000
abbrev ENDPOINT_DEFAULT : Nat := 0x32000001
abbrev LEASE_CLOCK : Nat := 0x32000002
abbrev ADDR_PROXY_PORTS (k : Nat) : Nat := 0x32000010 + k
abbrev ADDR_TRUST_PORTS (k : Nat) : Nat := 0x32000014 + k
abbrev ADDR_GUARD_PORTS (k : Nat) : Nat := 0x32000018 + k
abbrev CNT_EP_DEFAULT : Nat := 0x32000020
abbrev CNT_ADM_DENY : Nat := 0x32000021
abbrev CNT_ARP_PROXY : Nat := 0x32000022
abbrev CNT_ND_PROXY : Nat := 0x32000023
abbrev CNT_DHCP_BIND : Nat := 0x32000024
abbrev CNT_DHCP_SPOOF : Nat := 0x32000025
abbrev CNT_GUARD_DROP : Nat := 0x32000026
abbrev NAT_MAP_HOLD : Nat := 0x38000000
abbrev NAT_PROBE_LIMIT : Nat := 0x38000001
abbrev NAT_MAPS_LIVE : Nat := 0x38000002
abbrev CNT_NAT_MAP_CREATED : Nat := 0x38000010
abbrev CNT_NAT_MAP_RACE : Nat := 0x38000011
abbrev CNT_NAT_PORT_EXHAUSTED : Nat := 0x38000012
abbrev CNT_NAT_BLOCK_EXHAUSTED : Nat := 0x38000013
abbrev CNT_NAT_MAP_LIMIT : Nat := 0x38000014
abbrev CNT_NAT_IN_NO_MAP : Nat := 0x38000015
abbrev CNT_NAT_HAIRPIN : Nat := 0x38000016
abbrev CNT_NAT_HAIRPIN_NO_MAP : Nat := 0x38000017
abbrev CNT_NAT_NOT_IPV4 : Nat := 0x38000018
abbrev CNT_NAT_ICMP_ERROR : Nat := 0x38000019
abbrev LB_MEMBER_CAPACITY : Nat := 0x39000000
abbrev LB_MEMBERS_USED : Nat := 0x39000001
abbrev CNT_LB_CHOICE : Nat := 0x39000010
abbrev CNT_LB_NO_MEMBER : Nat := 0x39000011
abbrev CNT_LB_FAILOVER : Nat := 0x39000012
abbrev CNT_FILTER_NO_SYN : Nat := 0x3A000010
abbrev CNT_FILTER_INVALID : Nat := 0x3A000011
abbrev CNT_FILTER_MIDSTREAM : Nat := 0x3A000012
abbrev CNT_FILTER_REOPEN : Nat := 0x3A000013
abbrev EXPORT_MODE : Nat := 0x3B000000
abbrev EXPORT_PORT : Nat := 0x3B000001
abbrev EXPORT_HOST_RING : Nat := 0x3B000002
abbrev EXPORT_DOMAIN : Nat := 0x3B000003
abbrev EXPORT_ACTIVE : Nat := 0x3B000004
abbrev EXPORT_PEN : Nat := 0x3B000005
abbrev EXPORT_TEMPLATE_INTERVAL : Nat := 0x3B000006
abbrev EXPORT_MSG_BYTES : Nat := 0x3B000007
abbrev EXPORT_REPORT_SAMPLE : Nat := 0x3B000008
abbrev EXPORT_SECONDS : Nat := 0x3B000009
abbrev EXPORT_NS : Nat := 0x3B00000A
abbrev CNT_EXPORT_NOTICE : Nat := 0x3B000010
abbrev CNT_EXPORT_RECORDS : Nat := 0x3B000011
abbrev CNT_EXPORT_MESSAGES : Nat := 0x3B000012
abbrev CNT_EXPORT_INTERVAL_SKIPPED : Nat := 0x3B000013
abbrev CNT_EXPORT_REPORT_DROP : Nat := 0x3B000014
abbrev EXPORT_RING_USED : Nat := 0x3B000015
abbrev EXPORT_QUEUE_USED : Nat := 0x3B000016
abbrev TUTOR_IMAGE_SOURCE : Nat := 0x40000000
abbrev TUTOR_IMAGE_ADDR : Nat := 0x40000001
abbrev TUTOR_IMAGE_LEN : Nat := 0x40000002
abbrev TUTOR_IMAGE_LOAD : Nat := 0x40000003
abbrev TUTOR_IMAGE_STATUS : Nat := 0x40000004
abbrev TUTOR_IMAGE_VERSION : Nat := 0x40000005
abbrev TUTOR_ABI : Nat := 0x40000006
abbrev TUTOR_KEY_POLICY : Nat := 0x40000007
abbrev TASK_CYCLE_LIMIT : Nat := 0x40000008
abbrev TUTOR_HANG_CYCLES : Nat := 0x40000009
abbrev TASK_TRACE_MODE : Nat := 0x4000000A
abbrev TASK_TRACE_KINDS : Nat := 0x4000000B
abbrev TASK_TRACE_PIPE : Nat := 0x4000000C
abbrev CNT_TUTOR_STORE_REPAIR : Nat := 0x4000000D
abbrev TUTOR_STATE (i : Nat) : Nat := 0x40000020 + i * 256
abbrev TUTOR_ENABLE (i : Nat) : Nat := 0x40000021 + i * 256
abbrev TUTOR_PC (i : Nat) : Nat := 0x40000022 + i * 256
abbrev TUTOR_TASK (i : Nat) : Nat := 0x40000023 + i * 256
abbrev TUTOR_LAST_TRAP (i : Nat) : Nat := 0x40000024 + i * 256
abbrev CNT_TUTOR_WORDS (i : Nat) : Nat := 0x40000025 + i * 256
abbrev CNT_TUTOR_STALL (i : Nat) : Nat := 0x40000026 + i * 256
abbrev CNT_TUTOR_TRAP (i : Nat) : Nat := 0x40000027 + i * 256
abbrev CNT_TUTOR_HANG (i : Nat) : Nat := 0x40000028 + i * 256
abbrev CNT_TUTOR_STORE_CORRECTED (i : Nat) : Nat := 0x40000029 + i * 256
abbrev CNT_TUTOR_IDLE (i : Nat) : Nat := 0x4000002A + i * 256
abbrev TASK_SLOTS_FREE (i : Nat) : Nat := 0x41000000 + i * 256
abbrev TASK_READY (i : Nat) : Nat := 0x41000001 + i * 256
abbrev TASK_RELEASE_QUEUE (i : Nat) : Nat := 0x41000002 + i * 256
abbrev CNT_TASK_READY (i : Nat) : Nat := 0x41000010 + i * 256
abbrev CNT_TASK_DISPATCH (i : Nat) : Nat := 0x41000011 + i * 256
abbrev CNT_TASK_PREEMPT (i : Nat) : Nat := 0x41000012 + i * 256
abbrev CNT_TASK_RELEASE (i : Nat) : Nat := 0x41000013 + i * 256
abbrev CNT_TASK_RELEASE_HELD (i : Nat) : Nat := 0x41000014 + i * 256
abbrev CNT_TASK_CANCEL (i : Nat) : Nat := 0x41000015 + i * 256
abbrev CNT_TASK_WITHDRAWN (i : Nat) : Nat := 0x41000016 + i * 256
abbrev CNT_TASK_REISSUE (i : Nat) : Nat := 0x41000017 + i * 256
abbrev CNT_TASK_ABANDONED (i : Nat) : Nat := 0x41000018 + i * 256
abbrev CNT_TASK_BACKPRESSURE (i : Nat) : Nat := 0x41000019 + i * 256
abbrev CNT_TASK_TRACE (i : Nat) : Nat := 0x4100001A + i * 256
abbrev BUF_CELLS : Nat := 0x48000000
abbrev BUF_CELLS_FREE : Nat := 0x48000001
abbrev BUF_CELLS_FREE_MIN : Nat := 0x48000002
abbrev CNT_MC_FRAMES : Nat := 0x48000010
abbrev CNT_MC_COPIES : Nat := 0x48000011
abbrev CNT_MC_PARTIAL : Nat := 0x48000012
abbrev CNT_MC_ALL_DROPPED : Nat := 0x48000013
abbrev POOL_BUFFER_BYTES (i : Nat) : Nat := 0x49000000 + i * 256
abbrev POOL_SHARE (i : Nat) : Nat := 0x49000001 + i * 256
abbrev POOL_BUFFERS (i : Nat) : Nat := 0x49000002 + i * 256
abbrev POOL_FREE (i : Nat) : Nat := 0x49000003 + i * 256
abbrev POOL_FREE_MIN (i : Nat) : Nat := 0x49000004 + i * 256
abbrev CNT_POOL_ALLOC (i : Nat) : Nat := 0x49000005 + i * 256
abbrev CNT_POOL_FREE (i : Nat) : Nat := 0x49000006 + i * 256
abbrev CNT_POOL_EXHAUSTED (i : Nat) : Nat := 0x49000007 + i * 256
abbrev CNT_POOL_CONTENDED (i : Nat) : Nat := 0x49000008 + i * 256
abbrev CNT_POOL_DOUBLE_FREE (i : Nat) : Nat := 0x49000009 + i * 256
abbrev CNT_POOL_FOREIGN_FREE (i : Nat) : Nat := 0x4900000A + i * 256
abbrev CNT_POOL_QUARANTINE (i : Nat) : Nat := 0x4900000B + i * 256
abbrev CNT_POOL_META_CORRECTED (i : Nat) : Nat := 0x4900000C + i * 256
abbrev POOL_HOST_ALLOC : Nat := 0x49000020
abbrev POOL_HOST_RESULT : Nat := 0x49000021
abbrev POOL_HOST_FREE : Nat := 0x49000022
abbrev POOL_HOST_FREE_STATUS : Nat := 0x49000023
abbrev POOL_SEG_RESERVE_FREE : Nat := 0x49000024
abbrev CNT_POOL_BAD_PTR : Nat := 0x49000025
abbrev BUF_INGRESS_LIMIT (i k : Nat) : Nat := 0x11000050 + i * 256 + k
abbrev BUF_EGRESS_LIMIT (i k : Nat) : Nat := 0x11000058 + i * 256 + k
abbrev PORT_PFC_HEADROOM (i : Nat) : Nat := 0x11000060 + i * 256
abbrev CNT_BUF_NO_CELL (i : Nat) : Nat := 0x11000061 + i * 256
abbrev CNT_PORT_FLUSH_FRAMES (i : Nat) : Nat := 0x11000062 + i * 256
abbrev CNT_PORT_FLUSH_CELLS (i : Nat) : Nat := 0x11000063 + i * 256
abbrev CNT_BUF_PORT_DOWN (i : Nat) : Nat := 0x11000064 + i * 256
abbrev CNT_MC_COPY_DROP (i : Nat) : Nat := 0x11000065 + i * 256
abbrev CNT_PFC_TX (i : Nat) : Nat := 0x11000066 + i * 256
abbrev CNT_BUF_INGRESS_DROP (i k : Nat) : Nat := 0x11000068 + i * 256 + k
abbrev CNT_BUF_EGRESS_DROP (i k : Nat) : Nat := 0x11000070 + i * 256 + k
abbrev TT_SAMPLE_NEXT : Nat := 0x4A000000
abbrev TT_SUBS_VALID : Nat := 0x4A000001
abbrev TT_QUEUES_VALID : Nat := 0x4A000002
abbrev CNT_TT_SUB_MISMATCH : Nat := 0x4A000010
abbrev CNT_TT_SAMPLES : Nat := 0x4A000011
abbrev CNT_POLICE_GREEN : Nat := 0x4A000012
abbrev CNT_POLICE_YELLOW : Nat := 0x4A000013
abbrev CNT_POLICE_RED : Nat := 0x4A000014
abbrev TT_SUB_MODE (i : Nat) : Nat := 0x11000080 + i * 256
abbrev TT_SUB_DEFAULT (i : Nat) : Nat := 0x11000081 + i * 256
abbrev TT_PORT_RATE (i : Nat) : Nat := 0x11000082 + i * 256
abbrev TT_PORT_BURST (i : Nat) : Nat := 0x11000083 + i * 256
abbrev TT_SHAPE_OVERHEAD (i : Nat) : Nat := 0x11000084 + i * 256
abbrev TT_GATE_ENABLE (i : Nat) : Nat := 0x11000085 + i * 256
abbrev TT_GATE_CYCLE_LOG2 (i : Nat) : Nat := 0x11000086 + i * 256
abbrev TT_GATE_BASE (i : Nat) : Nat := 0x11000087 + i * 256
abbrev TT_GATE_COUNT (i : Nat) : Nat := 0x11000088 + i * 256
abbrev TT_GATE_STATE (i : Nat) : Nat := 0x11000089 + i * 256
abbrev TT_DELAY_MAX (i : Nat) : Nat := 0x1100008A + i * 256
abbrev CNT_TT_QUEUE_INVALID (i : Nat) : Nat := 0x11000090 + i * 256
abbrev CNT_TT_QUEUE_DROP (i : Nat) : Nat := 0x11000091 + i * 256
abbrev CNT_TT_YELLOW_DROP (i : Nat) : Nat := 0x11000092 + i * 256
abbrev CNT_TT_GATE_HOLD (i : Nat) : Nat := 0x11000093 + i * 256
abbrev CNT_TT_GATE_OVERSIZE (i : Nat) : Nat := 0x11000094 + i * 256
abbrev TT_GATE_HOLD_MAX (i : Nat) : Nat := 0x11000095 + i * 256
abbrev CNT_POLICE_RED_DROP (i : Nat) : Nat := 0x11000096 + i * 256
abbrev CNT_EP_POLICE_RED_DROP (i : Nat) : Nat := 0x11000097 + i * 256
abbrev MEMCH_CLASS (i : Nat) : Nat := 0x50000000 + i * 256
abbrev MEMCH_STATE (i : Nat) : Nat := 0x50000001 + i * 256
abbrev MEMCH_TRAIN_STATUS (i : Nat) : Nat := 0x50000002 + i * 256
abbrev MEMCH_RETRAIN (i : Nat) : Nat := 0x50000003 + i * 256
abbrev MEMCH_SR_IDLE (i : Nat) : Nat := 0x50000004 + i * 256
abbrev MEMCH_SCRUB_RATE (i : Nat) : Nat := 0x50000005 + i * 256
abbrev MEMCH_FAIL_LIMIT (i : Nat) : Nat := 0x50000006 + i * 256
abbrev MEMCH_LAST_ERROR (i : Nat) : Nat := 0x50000007 + i * 256
abbrev MEMCH_LATENCY_MAX (i : Nat) : Nat := 0x50000008 + i * 256
abbrev CNT_MEM_CORRECTED (i : Nat) : Nat := 0x50000010 + i * 256
abbrev CNT_MEM_CHECK_SYMBOL (i : Nat) : Nat := 0x50000011 + i * 256
abbrev CNT_MEM_UNCORRECTABLE (i : Nat) : Nat := 0x50000012 + i * 256
abbrev CNT_MEMCH_CORRECTIVE_WRITE (i : Nat) : Nat := 0x50000013 + i * 256
abbrev CNT_MEMCH_LATE (i : Nat) : Nat := 0x50000014 + i * 256
abbrev CNT_MEMCH_REFRESH_FORCED (i : Nat) : Nat := 0x50000015 + i * 256
abbrev CNT_MEMCH_SR_ENTRY (i : Nat) : Nat := 0x50000016 + i * 256
abbrev CNT_MEMCH_READ_BYTES (i : Nat) : Nat := 0x50000017 + i * 256
abbrev CNT_MEMCH_WRITE_BYTES (i : Nat) : Nat := 0x50000018 + i * 256
abbrev CNT_MEMCH_SCRUB (i : Nat) : Nat := 0x50000019 + i * 256
abbrev MEMCH_TARGET (k : Nat) : Nat := 0x50000040 + k
abbrev CNT_SRAM_CORRECTED : Nat := 0x50000050
abbrev CNT_SRAM_CHECK_SYMBOL : Nat := 0x50000051
abbrev CNT_SRAM_UNCORRECTABLE : Nat := 0x50000052
abbrev CNT_PKTBUF_CORRECTED : Nat := 0x50000053
abbrev CNT_PKTBUF_CHECK_SYMBOL : Nat := 0x50000054
abbrev CNT_PKTBUF_UNCORRECTABLE : Nat := 0x50000055
abbrev CNT_MEM_PKT_UNCORRECTABLE : Nat := 0x50000056
abbrev SRAM_SCRUB_PASS_PERIODS : Nat := 0x50000057
abbrev RING_ENABLE (i : Nat) : Nat := 0x58000000 + i * 256
abbrev RING_STATE (i : Nat) : Nat := 0x58000001 + i * 256
abbrev RING_BASE (i : Nat) : Nat := 0x58000002 + i * 256
abbrev RING_SIZE (i : Nat) : Nat := 0x58000003 + i * 256
abbrev RING_FORMAT (i : Nat) : Nat := 0x58000004 + i * 256
abbrev RING_OWNERSHIP (i : Nat) : Nat := 0x58000005 + i * 256
abbrev RING_PROD (i : Nat) : Nat := 0x58000006 + i * 256
abbrev RING_CONS (i : Nat) : Nat := 0x58000007 + i * 256
abbrev RING_HEAD_ADDR (i : Nat) : Nat := 0x58000008 + i * 256
abbrev RING_VECTOR (i : Nat) : Nat := 0x58000009 + i * 256
abbrev RING_IRQ_COUNT (i : Nat) : Nat := 0x5800000A + i * 256
abbrev RING_IRQ_DELAY (i : Nat) : Nat := 0x5800000B + i * 256
abbrev RING_RX_MODE (i : Nat) : Nat := 0x5800000C + i * 256
abbrev RING_EVENT_MASK (i : Nat) : Nat := 0x5800000D + i * 256
abbrev RING_STATUS (i : Nat) : Nat := 0x5800000E + i * 256
abbrev CNT_RING_DONE (i : Nat) : Nat := 0x58000010 + i * 256
abbrev CNT_RING_RX_DROP (i : Nat) : Nat := 0x58000011 + i * 256
abbrev CNT_RING_RX_NO_BUFFER (i : Nat) : Nat := 0x58000012 + i * 256
abbrev CNT_RING_PUSH_USED (i : Nat) : Nat := 0x58000013 + i * 256
abbrev CNT_RING_PUSH_DISCARD (i : Nat) : Nat := 0x58000014 + i * 256
abbrev CNT_RING_DISCARDED (i : Nat) : Nat := 0x58000015 + i * 256
abbrev CNT_RING_BAD_DESC (i : Nat) : Nat := 0x58000016 + i * 256
abbrev CNT_RING_NOTICE_DROP (i : Nat) : Nat := 0x58000017 + i * 256
abbrev CNT_RING_IRQ (i : Nat) : Nat := 0x58000018 + i * 256
abbrev WIN_REGION (k : Nat) : Nat := 0x58000080 + k
abbrev WIN_BASE (k : Nat) : Nat := 0x58000084 + k
abbrev RX_TRAP_RING : Nat := 0x58000088
abbrev EVENT_QUEUE_USED : Nat := 0x58000089
abbrev CNT_EVENT_MERGED : Nat := 0x5800008A
abbrev PCIE_LINK : Nat := 0x5800008B
abbrev CNT_WIN_UNCORRECTABLE : Nat := 0x5800008C
abbrev CHK_WIDTH (i : Nat) : Nat := 0x60000000 + i * 256
abbrev CHK_POLY (i : Nat) : Nat := 0x60000001 + i * 256
abbrev CHK_INIT (i : Nat) : Nat := 0x60000002 + i * 256
abbrev CHK_FLAGS (i : Nat) : Nat := 0x60000003 + i * 256
abbrev CHK_SPACE (i : Nat) : Nat := 0x60000004 + i * 256
abbrev CHK_START_ADDR (i : Nat) : Nat := 0x60000005 + i * 256
abbrev CHK_LENGTH (i : Nat) : Nat := 0x60000006 + i * 256
abbrev CHK_RUNNING (i : Nat) : Nat := 0x60000007 + i * 256
abbrev CHK_RESULT (i : Nat) : Nat := 0x60000008 + i * 256
abbrev CHK_EXPECT (i : Nat) : Nat := 0x60000009 + i * 256
abbrev CHK_RUN (i : Nat) : Nat := 0x6000000A + i * 256
abbrev CHK_CONTINUE (i : Nat) : Nat := 0x6000000B + i * 256
abbrev CHK_ABORT (i : Nat) : Nat := 0x6000000C + i * 256
abbrev CHK_STATUS (i : Nat) : Nat := 0x6000000D + i * 256
abbrev CHK_DONE_BYTES (i : Nat) : Nat := 0x6000000E + i * 256
abbrev CHK_COMPARE (i : Nat) : Nat := 0x6000000F + i * 256
abbrev CNT_CHK_JOBS (i : Nat) : Nat := 0x60000010 + i * 256
abbrev CNT_CHK_MISMATCH (i : Nat) : Nat := 0x60000011 + i * 256
abbrev TIME_NS : Nat := 0x08000000
abbrev TIME_STEP : Nat := 0x08000001
abbrev TIME_OFFSET_IN : Nat := 0x08000002
abbrev TIME_FREQ_OUT : Nat := 0x08000003
abbrev TIME_DRIFT : Nat := 0x08000004
abbrev TIME_KP_SHIFT : Nat := 0x08000005
abbrev TIME_KI_SHIFT : Nat := 0x08000006
abbrev TIME_SLEW_MAX : Nat := 0x08000007
abbrev TIME_SLEW_REMAINING : Nat := 0x08000008
abbrev TIME_SERVO_STATE : Nat := 0x08000009
abbrev TIME_SERVO_RESET : Nat := 0x0800000A
abbrev TIME_LOCK_THRESHOLD : Nat := 0x0800000B
abbrev TIME_HOLDOVER_LESSONS : Nat := 0x0800000C
abbrev TIME_OFFSET_LAST : Nat := 0x0800000D
abbrev TIME_ANCHOR_SEC : Nat := 0x08000010
abbrev TIME_ANCHOR_NS : Nat := 0x08000011
abbrev TIME_PPS_OUT_ENABLE : Nat := 0x08000012
abbrev TIME_PPS_OUT_OFFSET : Nat := 0x08000013
abbrev TIME_PPS_OUT_WIDTH : Nat := 0x08000014
abbrev TIME_PPS_IN_STAMP : Nat := 0x08000015
abbrev CNT_TIME_SERVO_STEPS : Nat := 0x08000020
abbrev CNT_TIME_OFFSET_OVERWRITTEN : Nat := 0x08000021
abbrev CNT_TIME_HARD_STEP : Nat := 0x08000022
abbrev CNT_TIME_ANCHOR_STALE : Nat := 0x08000023
abbrev CNT_PPS_IN : Nat := 0x08000024
abbrev CNT_TIME_SLEW_LIMITED : Nat := 0x08000025
abbrev PTP_MODE (i : Nat) : Nat := 0x110000A0 + i * 256
abbrev PTP_TX_DELAY (i : Nat) : Nat := 0x110000A1 + i * 256
abbrev PTP_RX_DELAY (i : Nat) : Nat := 0x110000A2 + i * 256
abbrev CNT_PTP_ONESTEP (i : Nat) : Nat := 0x110000A8 + i * 256
abbrev CNT_PTP_TC_CORRECTED (i : Nat) : Nat := 0x110000A9 + i * 256
abbrev CNT_PTP_NOT_MODIFIED (i : Nat) : Nat := 0x110000AA + i * 256
abbrev CNT_PTP_CF_SATURATED (i : Nat) : Nat := 0x110000AB + i * 256
abbrev BUDDY_ENABLE : Nat := 0x70000000
abbrev BUDDY_PORT_0 : Nat := 0x70000001
abbrev BUDDY_PORT_1 : Nat := 0x70000002
abbrev BUDDY_ETHERTYPE : Nat := 0x70000003
abbrev BUDDY_SIDE : Nat := 0x70000004
abbrev BUDDY_STATE : Nat := 0x70000005
abbrev BUDDY_VERSION : Nat := 0x70000006
abbrev BUDDY_REFUSE_REASON : Nat := 0x70000007
abbrev BUDDY_PEER_PERIOD : Nat := 0x70000008
abbrev BUDDY_SYNC_CREATE : Nat := 0x70000009
abbrev BUDDY_CREATE_WAIT : Nat := 0x7000000A
abbrev BUDDY_HANDBACK_AUTO : Nat := 0x7000000B
abbrev BUDDY_HANDBACK : Nat := 0x7000000C
abbrev BUDDY_MIRROR_QUEUE : Nat := 0x7000000D
abbrev BUDDY_TAKEOVER_PERIOD : Nat := 0x7000000E
abbrev BUDDY_REPAIR_PROGRESS : Nat := 0x7000000F
abbrev CNT_BUDDY_TX : Nat := 0x70000010
abbrev CNT_BUDDY_RX : Nat := 0x70000011
abbrev CNT_BUDDY_RESEND : Nat := 0x70000012
abbrev CNT_BUDDY_MIRROR_DROP : Nat := 0x70000013
abbrev CNT_BUDDY_CONFLICT : Nat := 0x70000014
abbrev CNT_BUDDY_RELAY : Nat := 0x70000015
abbrev CNT_BUDDY_CREATE_TIMEOUT : Nat := 0x70000016
abbrev CNT_BUDDY_REMOTE_FETCH : Nat := 0x70000017
abbrev CNT_BUDDY_DELTA_OVERFLOW : Nat := 0x70000018
abbrev CNT_BUDDY_LATE_DELTA : Nat := 0x70000019
abbrev CNT_BUDDY_TAKEOVER : Nat := 0x7000001A
abbrev CNT_BUDDY_HANDBACK : Nat := 0x7000001B
abbrev CNT_RECORD_LOST : Nat := 0x7000001C
abbrev CNT_BUDDY_FOREIGN : Nat := 0x7000001D
abbrev CNT_BUDDY_RELAY_LOST : Nat := 0x7000001E
abbrev PORT_FAILOVER (i : Nat) : Nat := 0x110000B0 + i * 256
abbrev CNT_PORT_FAILOVER (i : Nat) : Nat := 0x110000B1 + i * 256
abbrev PERF_SLOT_TOTAL (i : Nat) : Nat := 0x68000000 + i * 256
abbrev PERF_SLOT_RETIRED (i : Nat) : Nat := 0x68000001 + i * 256
abbrev PERF_SLOT_WASTED (i : Nat) : Nat := 0x68000002 + i * 256
abbrev PERF_SLOT_FRONT (i : Nat) : Nat := 0x68000003 + i * 256
abbrev PERF_SLOT_BACK_CORRIDOR (i : Nat) : Nat := 0x68000004 + i * 256
abbrev PERF_SLOT_BACK_BUFFER (i : Nat) : Nat := 0x68000005 + i * 256
abbrev PERF_SLOT_BACK_SAG (i : Nat) : Nat := 0x68000006 + i * 256
abbrev PERF_SLOT_BACK_STEAL (i : Nat) : Nat := 0x68000007 + i * 256
abbrev PERF_PASSES_INFLIGHT (i : Nat) : Nat := 0x68000008 + i * 256
abbrev PERF_TAG_LOG2 (i : Nat) : Nat := 0x68000010 + i * 256
abbrev PERF_TAG_SEED (i : Nat) : Nat := 0x68000011 + i * 256
abbrev PERF_TAG_MODE (i : Nat) : Nat := 0x68000012 + i * 256
abbrev PERF_TAG_WRITE_INDEX (i : Nat) : Nat := 0x68000013 + i * 256
abbrev CNT_TAG_RECORDS (i : Nat) : Nat := 0x68000014 + i * 256
abbrev CNT_TAG_LOST (i : Nat) : Nat := 0x68000015 + i * 256
abbrev CNT_TAG_SELECTED (i : Nat) : Nat := 0x68000016 + i * 256
abbrev PERF_U_GRANT_0 : Nat := 0x68000040
abbrev PERF_U_GRANT_1 : Nat := 0x68000041
abbrev PERF_SNAP_ENABLE : Nat := 0x68000042
abbrev PERF_SNAP_LOG2 : Nat := 0x68000043
abbrev PERF_SNAP_COUNT : Nat := 0x68000044
abbrev PERF_SNAP_ADDR : Nat := 0x68000045
abbrev PERF_SNAP_SEQ : Nat := 0x68000046
abbrev CNT_SNAP_WRITTEN : Nat := 0x68000047
abbrev CNT_SNAP_SKIPPED : Nat := 0x68000048
abbrev PERF_TAG_VIEW_PIPE : Nat := 0x68000049
abbrev PERF_TAG_VIEW_BASE : Nat := 0x6800004A
end M

end Sys2Proof.Machine
end

