-- ==== Sys2Proof/Machine/Device.lean ====
section
/-!
DEFINITION. The device's state, as plain data: one structure for each unit the spec describes, and `Dev`, which holds
them all but the bell. Values that are members of the object dictionary stand in `Dev.reg` under their object ID,
unless a unit below says otherwise.
-/
namespace Sys2Proof.Machine

/-! ## Pins, island and start-up (R70, R93 to R115) -/

/-- Levels of the input balls (R70) and of the outputs that are state of their own (R111). -/
structure Pins where
  /-- VAUX is within its range (R71, R551). -/
  vaux : Bool
  /-- VCORE_PG (R98, R109). -/
  vcorePg : Bool
  /-- PERST_N is high (R103, R108). -/
  perstHigh : Bool
  /-- THROTTLE_N is low (R79). -/
  throttleLow : Bool
  /-- READY ball (R111). -/
  ready : Bool
  /-- LIFE level, and whether it toggles (R112). -/
  life : Bool
  lifeRuns : Bool
  /-- THERMTRIP_N latch: the output is low (R86, R110). -/
  thermtrip : Bool
  /-- PPS_OUT level (R504). -/
  ppsOut : Bool
  deriving DecidableEq, Repr

/-- The management island (R93 to R96). -/
inductive Island where
  /-- VAUX out of range: nothing runs. -/
  | off
  /-- In reset or starting its firmware. -/
  | starting
  | running
  /-- No allowed image verifies (R94). -/
  | failed
  deriving DecidableEq, Repr

/-- Whether the island's firmware answers: also where no image verifies, since it answers Denlys in state FAILED (R94, R95). -/
def Island.answers : Island → Bool
  | .off | .starting => false
  | .running | .failed => true

/-- START_STATE (R115). -/
inductive StartState where
  | mainOff | starting | hold | ready | restarting | recess | failed
  deriving DecidableEq, Repr

/-- RECESS_STATE (R91). -/
inductive RecessState where
  | awake | entering | recess | waking
  deriving DecidableEq, Repr

/-- What the boot store keeps (R59, R185, R298): `none` where nothing was saved. -/
structure BootStore where
  palette : Option (Nat × Nat)
  seeds : Option (Nat × Nat × Nat)
  /-- Denlys key slots (32 bytes each, `none` for an unwritten slot) and settings members (ID, value). -/
  keys : Option (List (Option Bytes))
  settings : List (Nat × W64)
  deriving DecidableEq, Repr

structure Start where
  island : Island
  state : StartState
  /-- Palette and gate mask latched at step 3 or by DATAPATH_RESTART (R61, R98). -/
  latched : Option (Nat × Nat)
  /-- Seeds latched with it (R273). -/
  seeds : Nat × Nat × Nat
  /-- READY rises at the next bell (R98, R99). -/
  readyDue : Bool
  /-- READY falls at the next bell: a restart or Recess entry was accepted (R62, R88). -/
  fallDue : Bool
  /-- Milliseconds of the main sequence so far, hold excluded (R98). -/
  elapsedMs : Nat
  /-- Every SerDes and PCIe transmitter is in electrical idle (R62, R86, R101, R109). -/
  txIdle : Bool
  /-- Core, SerDes and memory clocks are stopped (R86). -/
  clocksStopped : Bool
  /-- Step 2 of the main sequence has finished (R103). -/
  pllLocked : Bool
  pcieUp : Bool
  /-- A Function Level Reset or PERST_N cleared PCIe configuration space, and nothing has written it since (R457). -/
  pcieConfigReset : Bool
  recess : RecessState
  /-- A wake cause latched while entry runs (R89): cause, port, pattern. -/
  wakeLatch : Option (Nat × Nat × Nat)
  /-- Dirty lines of Recess entry are written back (R88 step 4). -/
  drained : Bool
  boot : BootStore
  /-- Roll zeroing runs (R104, R105). -/
  zeroing : Bool
  deriving DecidableEq, Repr

/-! ## Power (R73 to R92) -/

structure Power where
  /-- The lower and the new target while a change settles (R74), mV. -/
  avsOld : Option Nat
  /-- Consecutive AVSBus failures, and the hold they cause (R75). -/
  avsFails : Nat
  avsFault : Bool
  /-- A failed transaction waits for the next bell: whether it is a read (R75). -/
  avsRetry : Option Bool
  /-- Consecutive periods wholly at step 3 (R81). -/
  lowestRun : Nat
  /-- In the running period: some cycle, every cycle was at step 3. -/
  someLowest : Bool
  allLowest : Bool
  /-- Admission cutoff of each pipe (R82). -/
  cutoff : SMap Nat
  /-- Pipes with back-starved slots caused by the sag throttle in this period (R82). -/
  starved : List Nat
  /-- TJ_NOW was above THERM_WARN when last sampled (R85). -/
  warm : Bool
  /-- Classes paused by throttling: port × 8 + class, and the period of the last pause frames (R83). -/
  paused : List Nat
  pausedAt : Nat
  /-- Frames dropped by throttling, by ingress port × 8 + class (R82). -/
  throttleDrops : SMap Nat
  deriving DecidableEq, Repr

/-! ## Events (R477 to R480) -/

/-- One event record of the event queue (R477, R480). -/
structure EvRec where
  code : Nat
  period : Nat
  ns : Nat
  object : Nat
  detail : Nat
  repeats : Nat
  deriving DecidableEq, Repr

/-! ## What leaves the device -/

/-- An effect outside the package, in the order made: frames on ports, Denlys frames, writes into host memory, MSI-X
messages, AVSBus writes, pulses of SAG_N and ALERT_N are read from the state itself. -/
inductive Out where
  | frame (port : Nat) (bytes : Bytes)
  /-- A frame that the MAC has started and ends with an error control character (R453). -/
  | frameError (port : Nat) (bytes : Bytes)
  | denlys (bytes : Bytes)
  | beacon (nodes : Nat)
  /-- A write to host memory; `relaxed` is its Relaxed Ordering attribute (R459). -/
  | dma (addr : Nat) (bytes : Bytes) (relaxed : Bool)
  | msix (vector : Nat)
  | avs (mV : Nat)
  | avsRead
  | i2cStop
  | readData (bytes : Bytes)
  deriving DecidableEq, Repr

/-! ## Transactions and editions (R145 to R173) -/

inductive TxnState where
  | idle | opened | validating | preparing | prepared | rollingBack
  deriving DecidableEq, Repr

/-- The window of an edition-tagged entry (R166): birth edition and last edition, modulo 4. -/
structure Window where
  first : Option Nat
  last : Option Nat
  deriving DecidableEq, Repr

/-- One row of a table with editions: its bytes as TBL_DATA holds them, with window and VALID bits left out, the window,
and whether the row holds an entry. A deleted row keeps its bytes (R137, READ). -/
structure Row where
  data : Bytes
  win : Window
  valid : Bool
  deriving DecidableEq, Repr

/-- A staged table operation (R150): WRITE 2, INSERT 3 or DELETE 5. -/
structure StagedOp where
  table : Nat
  op : Nat
  pipe : Nat
  /-- Pipes that a later operation of theirs on the same key has taken out of an operation for every pipe (R150, R255). -/
  without : List Nat
  index : Nat
  key : Bytes
  data : Bytes
  deriving DecidableEq, Repr

/-- What prepare changed, for rollback (R158): a row it wrote, or a row it marked dying with the window it had. -/
inductive Undo where
  | born (row : Nat)
  | dying (row : Nat) (was : Window)
  deriving DecidableEq, Repr

structure Txn where
  state : TxnState
  /-- Staged member values (R149). -/
  members : SMap (Option W64)
  /-- Staged bytes of the block areas of R151, by BAR0 address. -/
  areas : SMap (Option Byte)
  ops : List StagedOp
  /-- Operations not yet applied by prepare. -/
  toPrepare : List StagedOp
  undo : List Undo
  /-- Why ROLLING_BACK runs: true for TXN_ROLLBACK, false for an abort (R158, R159). -/
  byTrigger : Bool
  /-- Lessons in OPEN since the last staged write (R159). -/
  idleLessons : Nat
  /-- Validation has passed, and prepare starts at the next bell (R146, R153). -/
  passed : Bool
  /-- Rows left to settle (R165). -/
  settle : List Nat
  settling : Bool
  /-- Pools that held an allocated buffer when validation started (R395). -/
  heldPools : List Nat
  /-- Selector sets of the last 16 generations, newest first (R169). -/
  selectors : List (List Nat)
  /-- Trie units, layer-2 places and member-store blocks reserved by check 8 (R153). -/
  reservedUnits : Nat
  reservedPlaces : List (Nat × Nat)
  reservedBlocks : List Nat
  deriving DecidableEq, Repr

/-! ## Table command interfaces (R134 to R144, R564) -/

/-- A command in TBL_CMD (R136). -/
structure TblCmd where
  table : Nat
  op : Nat
  staged : Bool
  merge : Bool
  keyed : Bool
  pipe : Nat
  index : Nat
  deriving DecidableEq, Repr

/-- What a table command ends with (R139): status, row index, flags, and the bytes for TBL_DATA if it returns an entry. -/
structure TblResult where
  status : Nat
  index : Nat
  valid : Bool
  multi : Bool
  data : Option Bytes
  deriving DecidableEq, Repr

structure TblIf where
  /-- TBL_CMD without BUSY, and TBL_STATUS. -/
  cmd : Nat
  status : Nat
  key : Bytes
  data : Bytes
  cmpValue : Bytes
  cmpMask : Bytes
  /-- The running command, and its result once its operation has been applied. -/
  running : Option TblCmd
  result : Option TblResult
  age : Nat
  deriving DecidableEq, Repr

/-! ## Packets (R223, R224, R233) -/

/-- The header vector and the parse result (R224). A field the packet does not carry is zero. -/
structure Hdr where
  port : Nat
  cls : Nat
  macDst : Nat
  macSrc : Nat
  etherType : Nat
  vlanCount : Nat
  vlanId : Nat
  pcp : Nat
  /-- DEI of the outer tag, and the TCI of the inner one. -/
  dei : Nat
  innerTci : Nat
  l2Len : Nat
  l3 : Nat
  dscp : Nat
  ecn : Nat
  ttl : Nat
  ipSrc : Nat
  ipDst : Nat
  ipId : Nat
  fragOff : Nat
  mf : Bool
  flowLabel : Nat
  proto : Nat
  l4Type : Nat
  l4Off : Nat
  ipEnd : Nat
  l4Src : Nat
  l4Dst : Nat
  tcpFlags : Nat
  tcpSeq : Nat
  tcpAck : Nat
  tcpOff : Nat
  icmpType : Nat
  icmpCode : Nat
  icmpId : Nat
  frag : Nat
  opts : Bool
  ext : Bool
  dhcp : Bool
  nd : Bool
  ptp : Bool
  malformed : Nat
  deriving DecidableEq, Repr

/-! ## The Roll (R267 to R292) -/

/-- One Front Row line that is in use: its slot, its 64 bytes as one number's bits, and its state (R278). Slots from
`epSlotBase` up are endpoint records (R325). -/
structure Line where
  slot : Nat
  data : BitVec 512
  dirty : Bool
  pending : Bool
  referenced : Bool
  /-- PERIOD_COUNT of the last update (R280). -/
  updated : Nat
  deriving DecidableEq, Repr

/-- One line in the write buffer (R280). -/
structure WbLine where
  slot : Nat
  data : BitVec 512
  /-- Its write is issued and not complete. -/
  issued : Bool
  deriving DecidableEq, Repr

/-- An ageing candidate (R307, R308). -/
structure Candidate where
  slot : Nat
  lastHit : Nat
  rseq : Nat
  /-- PERIOD_COUNT of its slice (R566). -/
  slice : Nat
  deriving DecidableEq, Repr

/-- A Roll read of the roll call that waits (R307): the slot read, the slot judged (a link reads its primary), and of its slice
the period, the lesson (R43) and the first bucket (R566). -/
structure RollRead where
  slot : Nat
  judged : Nat
  slice : Nat
  lesson : Nat
  start : Nat
  deriving DecidableEq, Repr

structure RollSt where
  /-- Seeds latched at the last data-path start (R273). -/
  seed1 : Nat
  seed2 : Nat
  seed3 : Nat
  /-- Tag band: 0 for a free slot (R274); the pipe that wrote a slot's tag, plus 1, where a pipe did (R285); and the buckets whose tags
  wait to be rebuilt (R281). -/
  tags : SMap Nat
  writer : SMap Nat
  rebuild : List Nat
  /-- Front Row: line of set × 16 + way (R278), and each set's replacement hand (R279). -/
  lines : SMap (Option Line)
  hands : SMap Nat
  /-- The write buffer, oldest first (R280). -/
  wb : List WbLine
  /-- Updates whose placement waits for a line, oldest first: slot and the value it takes (R279). -/
  late : List (Nat × BitVec 512)
  /-- Item 9's place in its sweep of the sets. -/
  sweepSet : Nat
  candidates : List Candidate
  /-- Keys deleted at the last bell, for REBORN (R311). -/
  reborn : List Bytes
  /-- The roll call's queue of Roll reads, oldest first (R307). -/
  reads : List RollRead
  /-- The slot the roll call checks next (R306); ROLL_CALL_POSITION is behind it while Roll reads wait (R566). -/
  nextCheck : Nat
  /-- PERIOD_COUNT at the start of the running sweep (R306). -/
  sweepStart : Option Nat
  /-- LESSON_COUNT at a wake from a Recess of 2^23 lessons or more, until a full sweep has ended; whether the sweep that
  runs began before that wake; and the lessons the running Recess has lasted (R305). -/
  wakeLesson : Option Nat
  sweepPartial : Bool
  recessLesson : Nat
  /-- Updates in flight that a replacement made stale: task slots or packet numbers, with whether to merge (R314). -/
  stale : List (Nat × Bool)
  /-- Decision generation in force while each live edition was current, by edition modulo 4 (R318). -/
  genOf : SMap Nat
  deriving DecidableEq, Repr

/-! ## Frames, copies and queues (R383 to R393, R408 to R423) -/

/-- A frame whose cells are in the packet buffer (R383). -/
structure Frame where
  bytes : Bytes
  port : Nat
  cls : Nat
  /-- Receive stamp (R506). -/
  rxNs : Nat
  cells : Nat
  /-- Its cells count toward the ingress limit of (port, class) (R385). -/
  limited : Bool
  /-- Its class is lossless on its ingress port (R387). -/
  lossless : Bool
  /-- 0 received on a port, 1 sent by the host with TX_FRAME or TX_SEG, 2 sent by a tutor (R507). -/
  source : Nat
  /-- Pool 0 buffers of the cells it still holds, in order; each carries its own owner tag and reference count (R393, R397). -/
  held : List Nat
  /-- Code words of its cells that are uncorrectable, as cell × 8 + word (R451, R453). -/
  bad : List Nat
  deriving DecidableEq, Repr

/-- What a tag follows (R545 to R547): the record so far, as its 512-bit value, and the pipe it goes to. -/
structure Tag where
  pipe : Nat
  bits : Nat
  deriving DecidableEq, Repr

/-- One copy of a frame, from enqueue to transmission. It holds its own bytes, since a pass may have changed them. -/
structure Copy where
  frame : Nat
  bytes : Bytes
  port : Nat
  cls : Nat
  cells : Nat
  yellow : Bool
  /-- PERIOD_COUNT at the enqueue (R423), and the stamp of its descriptor. -/
  enqueued : Nat
  /-- Its first gate hold, as a counter value (R418, R419). -/
  heldAt : Option Nat
  /-- The ring and index of the TX_FRAME descriptor it came from (R507). -/
  ring : Option (Nat × Nat)
  tag : Option Tag
  deriving DecidableEq, Repr

/-- Tokens of a service or port shaper (R413). -/
structure Shaper where
  tokens : Int
  last : Nat
  deriving DecidableEq, Repr

/-- A class meter (R421, R422). -/
structure Meter where
  tc : Nat
  te : Nat
  last : Nat
  deriving DecidableEq, Repr

structure Switch where
  /-- Frames in the packet buffer by number, and the next number. -/
  frames : SMap (Option Frame)
  nextFrame : Nat
  /-- Cells held toward the ingress limit and toward the egress limit, by port × 8 + class (R385). -/
  ingress : SMap Nat
  egress : SMap Nat
  /-- Egress queues (R408, R410), and MAC transmit queues by port × 8 + class (R411). -/
  queues : SMap (List Copy)
  macq : SMap (List Copy)
  /-- Round robin of each port and class over services; deficit turn of each service and band over subscribers, and of
  each subscriber and class over queues (R411). -/
  svcTurn : SMap (Option Nat)
  subTurn : SMap (Option Nat)
  queueTurn : SMap (Option Nat)
  /-- Service shapers, port shapers, class meters (R413, R422). -/
  svcShaper : SMap Shaper
  portShaper : SMap Shaper
  meters : SMap Meter
  /-- Rows staged by prepare: next configuration by row key (R412). -/
  nextRows : SMap (Option Bytes)
  /-- Frames whose unlinked copies still hold cells, in the order their ports went down (R390): port, frame, cells left. -/
  flush : List (Nat × Nat × List Nat)
  /-- Ports with PFC or pause out: port × 8 + class, and the period of the last one (R389). -/
  xoff : List (Nat × Nat)
  /-- What the learn ring remembers (R258): key (MAC × 4096 + VLAN), port, period of the key's last NEW or MOVE notice. -/
  learnMem : List (Nat × Nat × Nat)
  deriving DecidableEq, Repr

/-! ## Ports (R194 to R218) -/

/-- Pause state of one class of a port, or of the whole port as class 0 (R206 to R209). -/
structure Pause where
  /-- Counter value at which the timer ends. -/
  until_ : Nat
  /-- Counter value since which the class has been paused without a break (R208). -/
  since : Nat
  deriving DecidableEq, Repr

structure Ports where
  /-- Paused classes by port × 8 + class. -/
  pause : SMap (Option Pause)
  /-- Classes that ignore pause after the watchdog, by port × 8 + class: the counter value at which that ends (R208). -/
  holdoff : SMap (Option Nat)
  /-- Ports in low-power idle; the counter value at which a port that leaves it may start its frame; and the counter value at
  which a port's transmit queues last became empty (R211). -/
  lpi : List Nat
  waking : SMap (Option Nat)
  quiet : SMap Nat
  /-- Lanes that failed calibration (R100). -/
  badLanes : List Nat
  /-- Pause and PFC frames received and not yet applied, oldest first: port and frame (R206). -/
  control : List (Nat × Bytes)
  /-- Frames accepted by the MAC and not yet parsed, oldest first: pipe and frame (R200, R223). -/
  arrivals : List (Nat × Nat)
  deriving DecidableEq, Repr

/-- A segmentation request (R212 to R214, R470). -/
structure SegReq where
  ring : Nat
  index : Nat
  port : Nat
  cls : Nat
  mss : Nat
  hdr : Bytes
  payAddr : Nat
  payLen : Nat
  /-- Payload bytes fetched so far, and of the segments made. -/
  done : Nat
  seq : Nat
  dropped : Bool
  /-- Chunk buffers of the reserve it holds, with the frames still reading each (R214, R401). -/
  chunks : List (Nat × List Nat)
  deriving DecidableEq, Repr

/-! ## Pipes and the Corridor (R16 to R28, R223, R282 to R293) -/

/-- A normalised key (R270, R271) with the direction of the packet that formed it. -/
structure FlowKey where
  v6 : Bool
  proto : Nat
  addrA : Nat
  addrB : Nat
  portA : Nat
  portB : Nat
  deriving DecidableEq, Repr

/-- Why a descriptor waits in its pipe (R287, R289, R367). -/
inductive Wait where
  /-- Waiting for the fill of a slot or of an endpoint record. -/
  | fetch (slot : Nat)
  /-- A Front Row line could not be placed (R279). -/
  | place
  /-- Behind the descriptor that creates its record (HOLD). -/
  | hold (leader : Nat)
  /-- A tutor task works on it. -/
  | task (slot : Nat)
  /-- Waiting for a task slot. -/
  | slot
  /-- Relayed to the owner, in the period given (R524). -/
  | relay (period : Nat)
  /-- Its record was created and waits for the peer to acknowledge the period (R526). -/
  | syncCreate (period : Nat)
  /-- Its record is asked of the peer while this device returns, in the period given (R532). -/
  | peer (period : Nat)
  /-- To be parsed again: verdict 4, or a recirculation. -/
  | recirc
  deriving DecidableEq, Repr

/-- A packet in a pipe. -/
structure Desc where
  id : Nat
  pipe : Nat
  frame : Nat
  bytes : Bytes
  hdr : Hdr
  /-- Edition stamped at parse, DGEN of it, and the period of the stamp (R162, R164). -/
  edition : Nat
  dgen : Nat
  stamp : Nat
  pass : Nat
  /-- Classifier result (112 bits) and the index of the winning entry, 32,768 for a miss (R233, R238). -/
  result : Nat
  rule : Nat
  yellow : Bool
  /-- Flow key, direction (true when the source is side B), h1 (R271, R272). -/
  key : Option FlowKey
  dirB : Bool
  h1 : Nat
  wait : Wait
  /-- Slots among its candidates already found to hold another key (R282). -/
  tried : List Nat
  /-- Its candidates at its tag read (R285). -/
  cands : Option (List Nat)
  /-- Its Roll outcome so far, coded as ROLL of R547; 0 until one is counted (R289). -/
  outcome : Nat
  /-- Metadata: ROLL_DELAYED and ROLL_REFUSED (R291), TIE and MULTI (R237), USER_TAG of its route (R251). -/
  delayed : Bool
  refused : Bool
  tie : Bool
  multi : Bool
  userTag : Nat
  /-- The parts of the re-decision its task makes, as its hit found them (R170). -/
  parts : Nat
  /-- PERIOD_COUNT at its arrival at the Roll stage (R289, cause BUDGET). -/
  arrived : Nat
  /-- Its endpoint, once attributed (R323). -/
  endpoint : Option Nat
  /-- Slot of its record, once known. -/
  slot : Option Nat
  /-- Its address task is made once its record's fetch is complete (R22). -/
  detour : Bool
  /-- Where it goes on: 0 parse, 1 classification with a recovered key, 2 Roll stage not yet reached, 3 forwarding after a
  trap, 4 second pass of a hairpin, 5 source guard, 6 act stage of a record just created, 7 in the Roll stage, 8 trap task
  to be made, 9 address task to be made, 10 ICMP error task to be made, 11 act stage under its classifier result, 12 as 6
  with its creation known to the peer, 13 lookup of the flow an ICMP error is about, 14 address task to be made in the Roll
  stage, 15 address task to be made after a refusal. -/
  stage : Nat
  tag : Option Tag
  deriving DecidableEq, Repr

structure Pipe where
  /-- Outstanding reads: slots (R282), and whether endpoint reads. -/
  reads : List Nat
  /-- Reads waiting for the period's budget, oldest first (R288); those among them that the peer is asked for (R529). -/
  missQueue : List Nat
  remote : List Nat
  /-- Units issued in this period (R28, R288). -/
  unitsUsed : Nat
  /-- Refusal maps: newer first; hashes of the two lessons (R292). -/
  refusal : List Nat
  refusalOld : List Nat
  /-- Learn notices waiting in the ring, oldest first, as numbers (R256, R257). -/
  learned : List Nat
  /-- Passes entered, and slots taken by periodic work and TCAM commands, in the running period (R542, R543). -/
  entered : Nat
  stolen : Nat
  /-- Notices placed in the running period (R256). -/
  placed : Nat
  /-- Events of this lesson already raised: shadow mismatch, failed verification (R240, R241). -/
  mismatchRaised : Bool
  verifyRaised : Bool
  /-- Delayed or refused packets since the last report (R348). -/
  reports : Nat
  deriving DecidableEq, Repr

/-! ## Flow services (R320 to R348) -/

/-- An export notice (R344): a flow with its flowEndReason (R347) and final record, or a packet report (R348). -/
inductive Notice where
  | flow (reason record : Nat)
  | report (v6 : Bool) (src dst sport dport proto port ns outcome : Nat)
  deriving DecidableEq, Repr

structure Services where
  /-- The export notice queue, oldest first (R344). -/
  exportQueue : List Notice
  /-- The export ring: complete messages, oldest first, each with the number of its data records (R345, R346). -/
  exportPending : List (Nat × Bytes)
  /-- Offset in the export ring's region at which the next message starts (R50). -/
  exportAt : Nat
  exportSeq : Nat
  /-- Export clock: the remainder in ns (R346). -/
  exportRem : Nat
  /-- LESSON_COUNT of the last template sets, and the next IPv4 identification (R346). -/
  templateLesson : Nat
  exportIpId : Nat
  /-- NAT_RELEASE requests waiting for a reserved slot, by pipe (R376): pipe and record. -/
  natRelease : List (Nat × Nat)
  deriving DecidableEq, Repr

/-! ## Tutors and tasks (R354 to R382) -/

/-- A memory operation that has been issued and not completed (R355, R361). -/
structure MemOp where
  op : Nat
  /-- Register loaded or stored, byte address, bytes, and the stored value. -/
  reg : Nat
  addr : Nat
  width : Nat
  value : Nat
  age : Nat
  deriving DecidableEq, Repr

/-- What a trap frame or a level frame saves (R366, R372). -/
structure Saved where
  pc : Nat
  z : Bool
  n : Bool
  c : Bool
  v : Bool
  stack : List Nat
  regs : SMap W64
  status : Nat
  slot : Nat
  cycles : Nat
  /-- A trap was being handled, and the traps that wait for its end (R366). -/
  trapping : Bool
  due : List (Nat × Nat × Nat)
  deriving DecidableEq, Repr

structure Tutor where
  offline : Bool
  /-- Running task slot. -/
  task : Option Nat
  pc : Nat
  z : Bool
  n : Bool
  c : Bool
  v : Bool
  /-- Micro-call stack, newest first. -/
  stack : List Nat
  regs : SMap W64
  /-- G31 (R354). -/
  status : Nat
  masked : Bool
  /-- A trap is being handled (R366), the traps that wait for a word boundary, oldest first (cause, INFO, saved PC), and
  whether one was raised while another was handled: a double fault. -/
  trapping : Bool
  due : List (Nat × Nat × Nat)
  double : Bool
  /-- The BUDGET trap of the running task has been taken (R371). -/
  budget : Bool
  ops : List MemOp
  /-- Level frames by level (R354, R372). -/
  levels : SMap (Option Saved)
  /-- Local memory (R354). -/
  localMem : List Host.Cell
  /-- Hangs in the running lesson (R371). -/
  hangs : Nat
  /-- A pre-emption for this level waits for the word boundary (R372). -/
  preempt : Option Nat
  /-- A WAIT word has issued, and its operations are outstanding (R358). -/
  waiting : Bool
  deriving DecidableEq, Repr

/-- The state of a task (R372 to R374). -/
inductive TaskState where
  | ready
  | running (tutor : Nat)
  | preempted (tutor : Nat)
  /-- Released, and held for its order (R373), with its verdict. -/
  | held (verdict : Nat)
  deriving DecidableEq, Repr

/-- What the release of a task does with its packet (R322, R367, R370): what its verdict says; drop it, with those held behind it,
under a counter; or send it, a fragment, to the ring of fragments. -/
inductive TaskFate where
  | verdict
  | fail (counter : Nat)
  | toHost
  deriving DecidableEq, Repr

structure TaskRec where
  pipe : Nat
  slot : Nat
  kind : Nat
  prio : Nat
  reissue : Nat
  state : TaskState
  /-- The packet it works on. -/
  desc : Option Nat
  /-- Slot and copy of its record, and the bytes the task wrote (R365). -/
  recSlot : Option Nat
  recCopy : Nat
  /-- The record as it was copied, for the increments of a merged update (R314). -/
  recOrig : Nat
  recMask : Nat
  epIndex : Option Nat
  epCopy : Nat
  epMask : Nat
  word : Bytes
  /-- Order key (R373); none for a task without a frame. -/
  order : Option Nat
  cancelled : Bool
  /-- Ring and index of the TASK descriptor (R471). -/
  host : Option (Nat × Nat)
  /-- Tutors it hung on, tried last at a reissue (R371). -/
  avoid : List Nat
  /-- PERIOD_COUNT as it was made ready (R375, log 8). -/
  readied : Nat
  fate : TaskFate
  deriving DecidableEq, Repr

/-- A tutor image (R376). -/
structure Image where
  minor : Nat
  version : Nat
  words : Nat
  entry : List Nat
  store : SMap Nat
  /-- Loaded from the boot store: the Raneus default image, whose services the spec gives and whose words it does not. -/
  native : Bool
  deriving DecidableEq, Repr

/-- Where an image load stands (R378): waiting for a bell, stopping tasks, waiting for the bell after. -/
inductive LoadState where
  | idle | checking | stopDue | stopping | resumeDue
  deriving DecidableEq, Repr

/-- One datagram of the default image's fragment table (R370). -/
structure Datagram where
  pipe : Nat
  src : Nat
  dst : Nat
  proto : Nat
  ident : Nat
  /-- Ports taken from the first fragment. -/
  ports : Option (Nat × Nat)
  count : Nat
  lastLesson : Nat
  /-- Tasks waiting for the first fragment: slot and lesson of arrival. -/
  waiting : List (Nat × Nat)
  deriving DecidableEq, Repr

structure Tutors where
  tutors : SMap Tutor
  tasks : List TaskRec
  /-- Ready tasks, first to run first within a level: pipe × 8192 + slot (R372). -/
  ready : List Nat
  image : Option Image
  load : LoadState
  loading : Option Image
  /-- Control-store words found uncorrectable: cluster × 32768 + address (R356). -/
  storeBad : List Nat
  datagrams : List Datagram
  /-- Tutor data region (R335), and what a tutor wrote where its form is open (log 39). -/
  data : List Host.Cell
  tdKnown : SMap (Option Byte)
  /-- Trace buffers, 128-bit records by pipe × 4096 + n, and records written by pipe (R379). -/
  trace : SMap Nat
  deriving DecidableEq, Repr

/-! ## Buffer pools (R394 to R403) -/

structure Pools where
  /-- Owner tag and count by pool × 2^24 + buffer; a free buffer reads (0xFF, 0) (R397). -/
  bufs : SMap (Nat × Nat)
  quarantined : List Nat
  /-- Bitmap words awaiting their rebuild: pool × 2^24 + word (R402). -/
  badWords : List Nat
  /-- Pools whose share a running transaction changes (R395). -/
  resizing : List Nat
  hostAlloc : Option Nat
  hostFree : Option Nat
  /-- Pools that have granted a buffer since the last bell (R400, log 8). -/
  grantedNow : List Nat
  /-- Locker bytes, by pool × 2^40 + offset (R394). -/
  bytes : List Host.Cell
  deriving DecidableEq, Repr

/-! ## Memory channels (R431 to R456) -/

/-- A request in a channel's controller (R440 to R444). -/
structure MemReq where
  port : Nat
  /-- 64-byte unit: its channel offset / 64. -/
  unit : Nat
  write : Bool
  roll : Bool
  /-- A corrective write (R438), scheduled at port 6. -/
  corrective : Bool
  /-- Counter value at which it reached the controller. -/
  since : Nat
  issued : Bool
  /-- Counter value at its issue (R449). -/
  issuedAt : Nat
  /-- Another write to its unit has reached the controller since it was issued (R438). -/
  overtaken : Bool
  /-- Whether it ends uncorrectable, where its requester's command has said so already (R439). -/
  known : Option Bool
  deriving DecidableEq, Repr

structure Channel where
  reqs : List MemReq
  /-- Bank that last received an activate (R442), and the open row of each bank of a bulk channel with the counter value of
  its last access (R443). -/
  lastBank : Nat
  openRow : SMap (Option (Nat × Nat))
  /-- Uncorrectable accesses of the running lesson (R449), and whether the first error of the lesson was recorded (R439). -/
  failures : Nat
  recorded : Bool
  raised : Bool
  /-- Postponed refreshes by bank (R445). -/
  postponed : SMap Nat
  /-- Patrol place in units (R454). -/
  patrol : Nat
  /-- Counter value of the last request (R446). -/
  lastReq : Nat
  /-- How far the write delays of each sub-channel have been moved from their trained values, in 1/128 UI, and where a move waits for a
  forced-refresh slot, how far they are to be (R448). -/
  adjusted : SMap Int
  due : SMap (Option Int)
  /-- The last ZQ calibration result, and the lesson it was latched in (R448). -/
  zq : Nat
  zqLesson : Option Nat
  /-- The die's temperature status as last read, and the refresh rate it sets (R445). -/
  dieTemp : Nat
  refreshRate : Nat
  /-- Reads of fetches and tutors that have ended uncorrectable and whose requester has not been told yet: port and unit (R439). -/
  badReads : List (Nat × Nat)
  deriving DecidableEq, Repr

structure Memories where
  channels : SMap Channel
  /-- Roll slots, 64 bytes each as a number (R268). -/
  roll : SMap Nat
  /-- Endpoint records, 64 bytes each as a number (R324). -/
  endpoints : SMap Nat
  /-- Host region (R50). -/
  host : List Host.Cell
  /-- SRAM scrubber: words done in this pass and the periods it has taken (R452). -/
  scrubWord : Nat
  scrubPeriods : Nat
  deriving DecidableEq, Repr

/-! ## Rings (R462 to R481) -/

/-- A descriptor the device has fetched (R465 to R473). -/
structure REntry where
  index : Nat
  positions : Nat
  bytes : Bytes
  started : Bool
  /-- STATUS and the bytes completion writes over the entry, once it is finished. -/
  fin : Option (Nat × Bytes)
  deriving DecidableEq, Repr

structure Ring where
  entries : List REntry
  /-- Index of the next position to fetch. -/
  fetch : Nat
  /-- Held pushes: j and 64 bytes (R466). -/
  pushes : List (Nat × Bytes)
  /-- Completions or records since the last interrupt, and whether the delay timer runs (R481). -/
  irqCount : Nat
  irqTimer : Bool
  /-- An event record was written: the ring signals at once (R481). -/
  irqNow : Bool
  /-- RING_IRQ_COUNT and RING_VECTOR as they stood at the last completion or record (R464). -/
  irqLimit : Nat
  vector : Nat
  /-- Notices discarded since the last record (R479). -/
  overflow : Nat
  /-- A fault, and not a disable, stops the ring (R475). -/
  faulting : Bool
  /-- A doorbell that waits while the ring's fetching is stopped (R372): its index, and what host memory holds. -/
  waiting : Option (Nat × Bytes)
  deriving DecidableEq, Repr

structure Rings where
  rings : SMap Ring
  /-- The event queue (R480), oldest first. -/
  events : List EvRec
  /-- MSI-X vectors whose mask bit software has cleared, and vectors pending, each with the ring that signalled it (R481). -/
  unmasked : List Nat
  pendingVec : List (Nat × Nat)
  deriving DecidableEq, Repr

/-! ## Time (R496 to R508) -/

structure Time where
  /-- A fresh TIME_OFFSET_IN waits for a servo step (R498). -/
  fresh : Bool
  /-- TIME_STEP amounts not yet acted on (R501). -/
  steps : List Int
  servo : Int
  /-- Slew owed, in units of 1/64,000,000 ns (R500). -/
  slew : Int
  /-- Consecutive steps within or beyond the threshold (R502). -/
  run : Nat
  /-- LESSON_COUNT of the last servo step (R502). -/
  lastStep : Nat
  /-- The anchor in force: seconds and count (R503). -/
  anchorSec : Nat
  anchorNs : Nat
  /-- Counter value of the last PPS_OUT rise (R504). -/
  ppsRise : Nat
  deriving DecidableEq, Repr

/-! ## Buddy pairs (R511 to R536) -/

/-- BUDDY_STATE (R518). -/
inductive BuddyMode where
  | off | joining | syncing | paired | alone
  deriving DecidableEq, Repr

/-- A Walger entry (R520). -/
structure WEntry where
  kind : Nat
  flags : Nat
  slot : Nat
  body : Bytes
  deriving DecidableEq, Repr

/-- A Walger frame of a batch (R519): TYPE, FLAGS, PART, its entries, and the payload of a frame without entries. -/
structure WFrame where
  type : Nat
  flags : Nat
  part : Nat
  entries : List WEntry
  raw : Bytes
  deriving DecidableEq, Repr

/-- A batch being received (R522): its period, the parts here with their entries, and the number of the LAST part. -/
structure WBatch where
  period : Nat
  parts : List (Nat × List WEntry)
  last : Option Nat
  deriving DecidableEq, Repr

/-- Increments of one record since its last DELTA (R527). -/
structure Delta where
  key : Bytes
  pktsAB : Nat
  pktsBA : Nat
  bytesAB : Nat
  bytesBA : Nat
  lastHit : Nat
  deriving DecidableEq, Repr

structure Buddy where
  mode : BuddyMode
  /-- This device returns (R532): it zeroes its Roll and takes SYNC entries. -/
  returning : Bool
  /-- A HELLO has passed, and SYNCING begins at the next bell: whether this device returns (R532). -/
  joinDue : Option Bool
  mirror : List WEntry
  /-- Batches sent and not acknowledged, oldest first: period and frames (R522). -/
  sent : List (Nat × List WFrame)
  /-- The last period received complete (R519). -/
  received : Option Nat
  /-- Batches being received (R522). -/
  early : List WBatch
  /-- Outgoing FETCH requests and replies, and relayed frames: port and frame (R521). -/
  fetchOut : List WEntry
  replyOut : List WEntry
  relayOut : List (Nat × Bytes)
  /-- Walger frames received and not yet acted on, oldest first: port and the bytes from VERSION on. -/
  rx : List (Nat × Bytes)
  /-- A first RELAY part: period, port and bytes (R525). -/
  relayPart : Option (Nat × Nat × Bytes)
  deltas : List Delta
  /-- Keys whose DELTA is still to be sent in this lesson (R527). -/
  deltaLeft : List Bytes
  /-- Keys this device has changed, with the period of the last change (R523). -/
  changed : List (Bytes × Nat)
  /-- Keys of records replaced or removed, with the period and whether a replacement merges: the mirror updates in transit that it
  made stale (R314). -/
  replaced : List (Bytes × Nat × Bool)
  /-- Slots and endpoints still to send as SYNC entries, and how many there were (R522, R532). -/
  syncLeft : List Nat
  syncAll : Nat
  /-- Channels whose repair sweep runs: channel and next unit (R529). -/
  sweep : List (Nat × Nat)
  /-- Bell of the hand-back, and whether BUDDY_HANDBACK was triggered (R532). -/
  handback : Option Nat
  wantHandback : Bool
  /-- A PERIOD frame came in the running period, and periods without one (R530). -/
  heard : Bool
  silent : Nat
  /-- Both Buddy ports went down since the last bell, and a takeover is due (R530). -/
  bothDown : Bool
  takeoverDue : Bool
  /-- Requests to the peer not yet answered: key block, and the slot to fill where one is known (R529, R532). -/
  awaiting : List (Bytes × Option Nat)
  lostRaised : Bool
  deriving DecidableEq, Repr

/-! ## Denlys (R174 to R193) -/

/-- A subscription (R181). -/
structure Subscription where
  interval : Nat
  events : Bool
  ids : List Nat
  /-- Lesson starts since the SUBSCRIBE, and how many they were at the last check. -/
  lessons : Nat
  checked : Nat
  last : List Nat
  pendingEvents : List EvRec
  overflow : Nat
  deriving DecidableEq, Repr

structure Session where
  version : Nat
  role : Nat
  mac : Nat
  key : Bytes
  /-- Last request executed (R186). -/
  seq : Option Nat
  /-- Next SEQ of a device frame. -/
  devSeq : Nat
  /-- Island time in ns of the client's last verified frame, and of the last HEARTBEAT sent (R187). -/
  heard : Nat
  beat : Nat
  kept : Bytes
  sub : Option Subscription
  deriving DecidableEq, Repr

/-- A verified request that waits to be executed (R176, R186): its source, the island's time in ns at its last bit, and its Denlys part. -/
structure DenReq where
  src : Nat
  ns : Nat
  part : Bytes
  deriving DecidableEq, Repr

structure Denlys where
  sessions : SMap (Option Session)
  /-- Key slots (R185). -/
  keys : SMap (Option Bytes)
  /-- Verified requests that wait to be executed, oldest first. -/
  requests : List DenReq
  /-- Frames ready for a transmit opportunity, oldest first, each with the island's time in ns at the end of the request it answers
  (R188). -/
  ready : List (Bytes × Nat)
  /-- DEVICE_NONCEs given out since the island's power-on (R183). -/
  nonces : List Nat
  /-- A second NOTIFY waits for the next opportunity (R181): session and frame. -/
  second : List (Nat × Bytes)
  /-- Source addresses refused for an empty slot, with the island's time in ms (R182). -/
  refused : List (Nat × Nat)
  deriving DecidableEq, Repr

/-! ## Observation (R540 to R549) -/

structure Perf where
  lfsr : SMap Nat
  /-- Tag buffers, 512-bit records by pipe × 4096 + n (R548). -/
  tags : SMap Nat
  /-- Latched snapshots waiting for copy-out, oldest first: SEQ, the address of its buffer, and the 4,096 bytes (R540, R541). -/
  banks : List (Nat × Nat × Bytes)
  snapSeq : Nat
  deriving DecidableEq, Repr

/-! ## The bell and the device -/

/-- BELL_STATE (R46). -/
inductive BellState where
  | off | prestart | run
  deriving DecidableEq, Repr

/-- The bell (R29 to R36, R46). -/
structure BellSt where
  state : BellState
  /-- PERIOD_COUNT and LESSON_COUNT (R33, R34). -/
  period : BitVec 32
  lesson : BitVec 24
  /-- BELL_TIME: the counter at the last bell. -/
  time : BitVec 32
  /-- TIME_NS as it stands at the last bell or hard step (R496, R501). -/
  ns : BitVec 32
  /-- Presets latched by BELL_LOAD (R36): PERIOD_COUNT and LESSON_COUNT[23:22], whose other bits the check fixes. -/
  latch : Option (BitVec 32 × BitVec 2)
  /-- A hard step ended on a multiple of 1,024: the bell rings at that value (R31). -/
  due : Bool
  /-- READY has risen since the time base last started (R36). -/
  readyRisen : Bool
  deriving DecidableEq, Repr

/-- An item scheduled and not done (R43): the item, the bell of its period, the units it has done, and for item 10 the frames of
its batch that are still to be sent, each with the place of its port (R521). -/
structure Carried where
  item : Nat
  bell : BellSt
  done : Nat
  frames : List (Nat × Nat × WFrame)
  deriving DecidableEq, Repr

/-- Periodic work (R39, R43, R44). -/
structure Work where
  /-- Items scheduled and not done, in the order of work. -/
  carried : List Carried
  /-- Unstaged TCAM commands that have taken search slots in the period (R239). -/
  tcamTaken : Nat
  /-- The last period overran, and the lesson of the last EV_PERIOD_OVERRUN. -/
  overran : Bool
  raised : Nat
  deriving DecidableEq, Repr

/-- Everything the device holds but the bell. -/
structure Dev where
  /-- Dictionary members by object ID (R116). -/
  reg : SMap W64
  /-- Block areas by BAR0 address (R130). -/
  area : List Host.Cell
  /-- Table rows by `rowKey` (R138). -/
  tabs : SMap (Option Row)
  /-- TCAM copies that differ from the shadow, by pipe × 32768 + index (R240), and uncorrectable shadow words (R242). -/
  tcamCopies : SMap (Option (Nat × Nat))
  tcamBad : List Nat
  pins : Pins
  start : Start
  power : Power
  txn : Txn
  tif : SMap TblIf
  roll : RollSt
  switch : Switch
  ports : Ports
  segs : List SegReq
  pipes : SMap Pipe
  /-- Packets in the pipes, in order of parsing, and the next number. -/
  descs : List Desc
  nextDesc : Nat
  services : Services
  tutors : Tutors
  pools : Pools
  memories : Memories
  rings : Rings
  time : Time
  buddy : Buddy
  denlys : Denlys
  perf : Perf
  work : Work
  /-- CHECK contexts: 0 idle, 1 running, 2 stopping (R491). -/
  chk : SMap Nat
  out : List Out
  /-- The model's own counter for values the spec leaves open (log 1). -/
  free : Nat
  deriving DecidableEq, Repr

end Sys2Proof.Machine
end

