-- ==== Sys2Proof/Machine/Parser.lean ====
section
/-!
DEFINITION. The parser (R223 to R227): header vector and parse result of a frame, and the malformed causes in their
order. A cause that reads a field lying past the packet's end is not judged, and a later cause then is (log 20).
-/
namespace Sys2Proof.Machine

/-- A header vector with nothing found but the ingress port and class. -/
def Hdr.empty (port cls : Nat) : Hdr :=
  { port, cls, macDst := 0, macSrc := 0, etherType := 0, vlanCount := 0, vlanId := 0, pcp := 0, dei := 0, innerTci := 0, l2Len := 0, l3 := 0,
    dscp := 0, ecn := 0, ttl := 0, ipSrc := 0, ipDst := 0, ipId := 0, fragOff := 0, mf := false, flowLabel := 0,
    proto := 0, l4Type := 0, l4Off := 0, ipEnd := 0, l4Src := 0, l4Dst := 0, tcpFlags := 0, tcpSeq := 0, tcpAck := 0,
    tcpOff := 0, icmpType := 0, icmpCode := 0, icmpId := 0, frag := 0, opts := false, ext := false, dhcp := false,
    nd := false, ptp := false, malformed := 0 }

/-- The parse result word of R224. -/
def Hdr.result (h : Hdr) : Nat :=
  h.malformed * 2 ^ 28 + h.vlanCount * 2 ^ 26 + h.frag * 2 ^ 24 + h.l3 * 2 ^ 20 + h.l4Type * 2 ^ 16 + b2n h.opts * 2 ^ 15 +
    b2n h.ext * 2 ^ 14 + b2n h.dhcp * 2 ^ 13 + b2n h.nd * 2 ^ 12 + b2n h.ptp * 2 ^ 11 + h.l4Off

/-- A VLAN TPID (R223). -/
def isTpid (t : Nat) : Bool := t == 0x8100 || t == 0x88A8

/-- Layer-4 type of a protocol number in a family (R224): 1 TCP, 2 UDP, 3 ICMP, 4 ICMPv6, 5 other. -/
def l4TypeOf (v6 : Bool) (proto : Nat) : Nat :=
  if proto = 6 then 1 else if proto = 17 then 2 else if proto = 1 ∧ !v6 then 3 else if proto = 58 ∧ v6 then 4 else 5

/-- The fixed part of a layer-4 header (R223). -/
def l4Fixed (t : Nat) : Nat := if t = 1 then 20 else if t = 2 then 8 else if t = 3 ∨ t = 4 then 4 else 0

/-- The UDP ports that raise the DHCP flag in a family (R223, R224). -/
def dhcpPort (v6 : Bool) (p : Nat) : Bool := if v6 then p == 546 || p == 547 else p == 67 || p == 68

/-- Layer 4 of a packet that is no later fragment: `f` is the frame without FCS, `o` the header's offset, `stop` the end
of the IP packet. Causes 7 to 10 of R225 are judged here. -/
def parseL4 (h : Hdr) (f : Bytes) (o stop : Nat) : Hdr :=
  let v6 := h.l3 == 2
  let t := l4TypeOf v6 h.proto
  let len := stop - o
  let fixed := l4Fixed t
  let have1 (n : Nat) : Bool := decide (n ≤ len)
  let h := { h with l4Type := t, l4Off := o % 256 }
  if h.frag = 1 ∧ len < fixed then { h with malformed := 7 } else
  if t = 1 ∧ have1 13 = true ∧ (byteAt f (o + 12) / 16 < 5 ∨ len < 4 * (byteAt f (o + 12) / 16)) then { h with malformed := 8 } else
  if t = 2 ∧ have1 6 = true ∧ (beAt f (o + 4) 2 < 8 ∨ (h.frag = 0 ∧ f.length - o < beAt f (o + 4) 2)) then { h with malformed := 9 } else
  if len < fixed then { h with malformed := 10 } else
  if t = 1 then
    { h with l4Src := beAt f o 2, l4Dst := beAt f (o + 2) 2, tcpSeq := beAt f (o + 4) 4, tcpAck := beAt f (o + 8) 4,
             tcpOff := byteAt f (o + 12) / 16, tcpFlags := byteAt f (o + 13) }
  else if t = 2 then
    let sp := beAt f o 2
    let dp := beAt f (o + 2) 2
    { h with l4Src := sp, l4Dst := dp, dhcp := dhcpPort v6 sp || dhcpPort v6 dp,
             ptp := (dp == 319 || dp == 320) && decide (9 ≤ len) && decide (byteAt f (o + 8) % 16 ≤ 3) }
  else if t = 3 ∨ t = 4 then
    let ty := byteAt f o
    let idn := if 6 ≤ len ∧ o + 6 ≤ 256 then beAt f (o + 4) 2 else 0
    { h with icmpType := ty, icmpCode := byteAt f (o + 1), icmpId := idn, l4Src := beAt f o 2, l4Dst := idn,
             nd := t == 4 && decide (133 ≤ ty) && decide (ty ≤ 137) }
  else h

/-- The IPv4 layer (causes 2 to 4 and 7 of R225). -/
def parseV4 (h : Hdr) (f : Bytes) (o : Nat) : Hdr :=
  let pres := f.length - o
  let ihl := byteAt f o % 16
  if byteAt f o / 16 ≠ 4 ∨ ihl < 5 ∨ pres < 4 * ihl then { h with l3 := 1, malformed := 2 } else
  let tot := beAt f (o + 2) 2
  let fo := beAt f (o + 6) 2
  let off := fo % 8192
  let mf := fld fo 13 1 == 1
  let h := { h with l3 := 1, dscp := byteAt f (o + 1) / 4, ecn := byteAt f (o + 1) % 4, ipId := beAt f (o + 4) 2, fragOff := off,
                    mf := mf, ttl := byteAt f (o + 8), proto := byteAt f (o + 9), ipSrc := beAt f (o + 12) 4, ipDst := beAt f (o + 16) 4,
                    opts := decide (5 < ihl), frag := if off ≠ 0 then 2 else if mf then 1 else 0 }
  if ocSum (slice f o (4 * ihl)) ≠ 65535 then { h with malformed := 3 } else
  if tot < 4 * ihl ∨ pres < tot then { h with malformed := 4 } else
  let h := { h with ipEnd := o + tot }
  if h.frag ≠ 0 ∧ 65535 < off * 8 + (tot - 4 * ihl) then { h with malformed := 7 } else
  if h.frag = 2 then h else parseL4 h f (o + 4 * ihl) (o + tot)

/-- An IPv6 extension header the parser walks (R223). -/
def isExtHdr (nh : Nat) : Bool := nh == 0 || nh == 43 || nh == 44 || nh == 60

/-- The IPv6 extension chain (cause 6 of R225): `nh` is the next header found, `o` its offset, `n` how many extension
headers were walked; `fuel` bounds the walk, which ends at the fifth header at the latest. Nothing past the packet's first
256 bytes is read (R223). -/
def parseChain (fuel : Nat) (h : Hdr) (f : Bytes) (nh o n stop : Nat) : Hdr :=
  match fuel with
  | 0 => { h with malformed := 6 }
  | fuel + 1 =>
    if isExtHdr nh then
      if 4 ≤ n ∨ stop < o + 8 ∨ 256 ≤ o then { h with malformed := 6 } else
      let g := f.take 256
      let len := if nh = 44 then 8 else (byteAt g (o + 1) + 1) * 8
      if stop < o + len then { h with malformed := 6 } else
      let nxt := byteAt g o
      let h := { h with ext := true, proto := nxt }
      if nh = 44 then
        let off := beAt g (o + 2) 2 / 8
        let mf := beAt g (o + 2) 2 % 2 == 1
        let h := { h with fragOff := off, mf := mf, ipId := beAt g (o + 4) 4, frag := if off ≠ 0 then 2 else if mf then 1 else 0 }
        if off ≠ 0 then
          if 65535 < off * 8 + (stop - (o + 8)) then { h with malformed := 7 } else h
        else parseChain fuel h f nxt (o + 8) (n + 1) stop
      else parseChain fuel h f nxt (o + len) (n + 1) stop
    else
      if 256 ≤ o ∨ 256 < o + l4Fixed (l4TypeOf true nh) then { h with proto := nh, malformed := 6 } else
      if h.frag ≠ 0 ∧ 65535 < h.fragOff * 8 + (stop - o) then { h with proto := nh, malformed := 7 } else
      parseL4 { h with proto := nh } f o stop

/-- The IPv6 layer (causes 5 to 7 of R225). -/
def parseV6 (h : Hdr) (f : Bytes) (o : Nat) : Hdr :=
  let pres := f.length - o
  let tc := beAt f o 2 / 16 % 256
  let h := { h with l3 := 2, dscp := tc / 4, ecn := tc % 4, flowLabel := beAt f o 4 % 2 ^ 20, ttl := byteAt f (o + 7),
                    ipSrc := beAt f (o + 8) 16, ipDst := beAt f (o + 24) 16, proto := byteAt f (o + 6) }
  let stop := o + 40 + beAt f (o + 4) 2
  if pres < 40 + beAt f (o + 4) 2 then { h with malformed := 5 } else
  parseChain 6 { h with ipEnd := stop } f (byteAt f (o + 6)) (o + 40) 0 stop

/-- Layer 3 and up, after the layer-2 header of `o` bytes and EtherType `t`. -/
def parseL3 (h : Hdr) (f : Bytes) (t o : Nat) : Hdr :=
  let h := { h with etherType := t, l2Len := o }
  if t = 0x0800 then parseV4 h f o
  else if t = 0x86DD then parseV6 h f o
  else if t = 0x0806 then { h with l3 := 3 }
  else if t = 0x88F7 then { h with ptp := decide (o < f.length) && decide (byteAt f o % 16 ≤ 3) }
  else h

/-- Parse a frame without its FCS (R223, R224, R225), received on a port with an ingress class. -/
def parseFrame (f : Bytes) (port cls : Nat) : Hdr :=
  let h := { Hdr.empty port cls with macDst := beAt f 0 6, macSrc := beAt f 6 6 }
  let n := f.length
  if n < 14 then { h with malformed := 1 } else
  let t0 := beAt f 12 2
  if !isTpid t0 then parseL3 h f t0 14 else
  let tci := beAt f 14 2
  let h := { h with vlanCount := 1, vlanId := tci % 4096, pcp := tci / 8192, dei := tci / 4096 % 2 }
  if n < 18 then { h with malformed := 1 } else
  let t1 := beAt f 16 2
  if !isTpid t1 then parseL3 h f t1 18 else
  let h := { h with vlanCount := 2, innerTci := beAt f 18 2 }
  if n < 22 then { h with malformed := 1 } else
  let t2 := beAt f 20 2
  if isTpid t2 then { h with etherType := t2, l2Len := 22 } else parseL3 h f t2 22

/-- DSCP as the MAC reads it for the ingress class (R203): `none` for a frame that is not IP. -/
def macDscp (f : Bytes) : Option Nat :=
  let o := if !isTpid (beAt f 12 2) then 14 else if !isTpid (beAt f 16 2) then 18 else 22
  let t := beAt f (o - 2) 2
  if t = 0x0800 then some (byteAt f (o + 1) / 4) else if t = 0x86DD then some (beAt f o 2 / 64 % 64) else none

/-- The PCP of the outermost tag (R203). -/
def macPcp (f : Bytes) : Option Nat := if isTpid (beAt f 12 2) then some (beAt f 14 2 / 8192) else none

end Sys2Proof.Machine
end

