-- ==== Sys2Proof/Config.lean ====
section
/-!
DEFINITION. What one part fixes and what the spec leaves open. Every constant here is opaque: no proof can see its
value, so a statement that mentions one holds whatever it is. The assumption log names each.
-/
namespace Sys2Proof.Machine

/-- A fresh value for each use of something the spec leaves open (log 1). -/
opaque Config.freeValue : Nat → Nat

/-- The unit at which the part places a trie prefix, before it is moved to a free unit: the device's choice (R252, log 9). -/
opaque Config.lpmPlace : Nat → Nat

/-- The place among its 16 candidates at which the part tries first to put a layer-2 key (R253, log 9). -/
opaque Config.l2Place : Nat → Nat

/-- The hash of a datagram key, which orders its fragments and stands in G8 (R367, R370, R373; log 33). -/
opaque Config.datagramHash : Nat → Nat

/-- The row that the offset bits above a channel's bank bits name: which of them are row bits and which are column bits is open (R433,
log 271). -/
opaque Config.rowOf : Nat → Nat

/-- The refresh rate that JESD209-6 requires for a temperature status (R445, log 272). -/
opaque Config.refreshRate : Nat → Nat

/-- Fused: DEVICE TEMP_GRADE, SERIAL, FEATURES (R127, R133, R191; log 3). -/
opaque Config.tempGrade : Nat
opaque Config.serial : Nat
opaque Config.features : Nat

/-- Fused: the station address of the Denlys endpoint (R192; log 3). -/
opaque Config.denlysMac : Nat

/-- Fused: the PCIe vendor identifier assigned to Raneus Silicon (R457; log 3). -/
opaque Config.pcieVendorId : Nat

/-- Fused: TUTOR_KEY_POLICY, 0 or 1 (R377; log 3). -/
opaque Config.keyPolicyCustomerOnly : Bool

/-- Fused: whether the customer's key slot holds a public key (R377; log 3). -/
opaque Config.customerKeyFused : Bool

/-- Fused: the public key of a slot, 32 bytes (R377; log 3). -/
opaque Config.publicKey : Nat → Bytes

/-- The fused target table: the lowest VCORE in mV that meets nominal clock at a junction temperature in m°C (R73; log 3). -/
opaque Config.fusedVcore : Int → Nat

/-- The ISLAND_FW_VERSION of each boot-store image (R127; log 3). -/
opaque Config.islandImageVersion : Bool → Nat

/-- The boot store's two default tutor images (R94, R376; log 3). -/
opaque Config.bootTutorImage : Bool → Bytes

/-- The layout of the ABI image header (R361): bytes of the header vector's space, and each byte as a function of the header
vector's fields (log 38). -/
opaque Config.hvBytes : Nat
opaque Config.hvByte : List Nat → Nat → Nat

/-- The kind a 32-byte task word names, before it is brought into 10 to 63 (R362, R369; log 38). -/
opaque Config.taskWordKind : Bytes → Nat

end Sys2Proof.Machine
end

