-- ==== Sys2Proof/Machine/Status.lean ====
section
/-!
DEFINITION. Status codes (R132 and each class's table) and event codes (R478, R502, R536).
-/
namespace Sys2Proof.Machine.St

abbrev NONE : Nat := 0x0000
abbrev OK : Nat := 0x0001
abbrev PENDING : Nat := 0x0002
abbrev CONTINUE : Nat := 0x0003
abbrev BUSY : Nat := 0x0010
abbrev NOT_READY : Nat := 0x0011
abbrev NOT_ALLOWED : Nat := 0x0012
abbrev ACCESS : Nat := 0x0013
abbrev NO_OBJECT : Nat := 0x0014
abbrev TYPE : Nat := 0x0015
abbrev RANGE : Nat := 0x0016
abbrev INCONSISTENT : Nat := 0x0017
abbrev NO_TXN : Nat := 0x0018
abbrev NOT_FOUND : Nat := 0x0020
abbrev EXISTS : Nat := 0x0021
abbrev COMPARE_FAIL : Nat := 0x0022
abbrev FULL : Nat := 0x0023
abbrev BAD_TABLE : Nat := 0x0024
abbrev BAD_OP : Nat := 0x0025
abbrev UNCORRECTABLE : Nat := 0x0026
abbrev UNAVAILABLE : Nat := 0x0027
abbrev TXN_HELD : Nat := 0x0501
abbrev TXN_NOT_OWNER : Nat := 0x0502
abbrev TXN_STAGE_FULL : Nat := 0x0503
abbrev TXN_INDEX_LIVE : Nat := 0x0504
abbrev TXN_UNSETTLED : Nat := 0x0505
abbrev TXN_ABORTED : Nat := 0x0506
abbrev TXN_PORT_OVERLAP : Nat := 0x0510
abbrev TXN_LIMIT_FLOOR : Nat := 0x0511
abbrev TXN_POOL3_FLOOR : Nat := 0x0512
abbrev TXN_GATE_CYCLE : Nat := 0x0513
abbrev TXN_TCAM_JOIN : Nat := 0x0514
abbrev TXN_REFERENCE : Nat := 0x0515
abbrev PORT_SEG_SIZE : Nat := 0x1101
abbrev PORT_SEG_HEADER : Nat := 0x1102
abbrev TCAM_ALIGN : Nat := 0x2101
abbrev TCAM_PART_LIVE : Nat := 0x2102
abbrev LPM_HOST_BITS : Nat := 0x2201
abbrev LPM_PLEN : Nat := 0x2202
abbrev L2_GROUP_MAC : Nat := 0x2301
abbrev ROLL_TAIL : Nat := 0x3001
abbrev ROLL_EXPORT_FULL : Nat := 0x3002
abbrev ROLL_KEY_MISMATCH : Nat := 0x3003
abbrev ROLL_LINKED : Nat := 0x3004
abbrev TUTOR_IMAGE_FORMAT : Nat := 0x4001
abbrev TUTOR_KEY_SLOT : Nat := 0x4002
abbrev TUTOR_SIG_FAIL : Nat := 0x4003
abbrev TUTOR_ABI : Nat := 0x4004
abbrev TASK_FULL : Nat := 0x4101
abbrev TASK_GONE : Nat := 0x4102
abbrev POOL_EXHAUSTED : Nat := 0x4901
abbrev POOL_CONTENDED : Nat := 0x4902
abbrev POOL_DOUBLE_FREE : Nat := 0x4903
abbrev POOL_FOREIGN_FREE : Nat := 0x4904
abbrev POOL_PTR_RANGE : Nat := 0x4905
abbrev POOL_PTR_ALIGN : Nat := 0x4906
abbrev POOL_RESIZING : Nat := 0x4907
abbrev MEMCH_TRAIN_ZQ : Nat := 0x5001
abbrev MEMCH_TRAIN_CA : Nat := 0x5002
abbrev MEMCH_TRAIN_WL : Nat := 0x5003
abbrev MEMCH_TRAIN_RD : Nat := 0x5004
abbrev MEMCH_TRAIN_WR : Nat := 0x5005
abbrev RING_BAD_DESC : Nat := 0x5801
abbrev RING_TX_DROP : Nat := 0x5802
abbrev RING_TASK_CANCELLED : Nat := 0x5803
abbrev RING_DMA : Nat := 0x5804
abbrev RING_KIND : Nat := 0x5805
abbrev CHK_MISMATCH : Nat := 0x6001
abbrev CHK_ABORTED : Nat := 0x6002
abbrev BUDDY_SIDE : Nat := 0x7001
abbrev BUDDY_PALETTE : Nat := 0x7002
abbrev BUDDY_SEEDS : Nat := 0x7003
abbrev BUDDY_PERIOD : Nat := 0x7004
abbrev DENLYS_VERSION : Nat := 0x7801
abbrev DENLYS_NO_KEY : Nat := 0x7802
abbrev DENLYS_NO_SESSION : Nat := 0x7803
abbrev DENLYS_ROLE : Nat := 0x7804
abbrev DENLYS_TOO_LONG : Nat := 0x7805

end Sys2Proof.Machine.St

namespace Sys2Proof.Machine.Ev

abbrev START_FAIL : Nat := 0x0201
abbrev ROLL_READY : Nat := 0x0202
abbrev AVS_FAULT : Nat := 0x0301
abbrev SAG_THROTTLE : Nat := 0x0302
abbrev THERM_WARN : Nat := 0x0303
abbrev RECESS_WAKE : Nat := 0x0304
abbrev PERIOD_OVERRUN : Nat := 0x0401
abbrev TIME_SERVO : Nat := 0x0801
abbrev PAUSE_WATCHDOG : Nat := 0x1101
abbrev TCAM_SHADOW_MISMATCH : Nat := 0x2101
abbrev TCAM_VERIFY_FAIL : Nat := 0x2102
abbrev TCAM_SHADOW_REPAIR : Nat := 0x2103
abbrev L2_MOVE : Nat := 0x2301
abbrev L2_FLAP_LOCK : Nat := 0x2302
abbrev NOTICE_LEARN : Nat := 0x2380
abbrev NOTICE_FLOW_END : Nat := 0x3B80
abbrev TUTOR_USER : Nat := 0x4001
abbrev TUTOR_HANG : Nat := 0x4002
abbrev TUTOR_OFFLINE : Nat := 0x4003
abbrev POOL_QUARANTINE : Nat := 0x4901
abbrev MEM_UNCORRECTABLE : Nat := 0x5001
abbrev MEMCH_DOWN : Nat := 0x5002
abbrev MEMCH_UP : Nat := 0x5003
abbrev RING_FAULT : Nat := 0x5801
abbrev BUDDY_JOIN : Nat := 0x7001
abbrev BUDDY_TAKEOVER : Nat := 0x7002
abbrev BUDDY_HANDBACK : Nat := 0x7003
abbrev BUDDY_RESYNC : Nat := 0x7004
abbrev BUDDY_PORT_DOWN : Nat := 0x7005
abbrev RECORD_LOST : Nat := 0x7006

end Sys2Proof.Machine.Ev
end

