-- ==== Sys2Proof/Machine/Ops.lean ====
section
/-!
DEFINITION. The named operations over the device that every family uses: members, block areas, counters, events and
notices (R477 to R480), open values, and what leaves the device.
-/
namespace Sys2Proof.Machine

/-! ## Members and block areas -/

/-- The default of a member by object ID (R3, R127). -/
def memberDefault (id : Nat) : W64 :=
  BitVec.ofNat 64 (nonzeroDefault (id / 2 ^ 24) (id / 256 % 65536) (id % 256))

/-- The stored value of a member. -/
def Dev.rd (d : Dev) (id : Nat) : Nat := (SMap.get memberDefault d.reg id).toNat

/-- Store a member's value, modulo 2^64. -/
def Dev.wr (d : Dev) (id v : Nat) : Dev := { d with reg := SMap.set memberDefault d.reg id (BitVec.ofNat 64 v) }

/-- A member read as a signed number of `w` bits (R116). -/
def Dev.rdS (d : Dev) (w id : Nat) : Int := sgn w (d.rd id)

/-- Store a signed number in a member of `w` bits. -/
def Dev.wrS (d : Dev) (w id : Nat) (v : Int) : Dev := d.wr id (unsgn w v)

/-- Whether a member is not zero. -/
def Dev.on (d : Dev) (id : Nat) : Bool := d.rd id != 0

/-- A counter increases by a stated amount and wraps at 2^64 (R537). -/
def Dev.addTo (d : Dev) (id n : Nat) : Dev := d.wr id (d.rd id + n)

/-- A counter increases by one (R537). -/
def Dev.bump (d : Dev) (id : Nat) : Dev := d.addTo id 1

/-- One count where a condition holds. -/
def Dev.bumpIf (d : Dev) (c : Bool) (id : Nat) : Dev := if c then d.bump id else d

/-- A member takes the larger of its value and another. -/
def Dev.raiseTo (d : Dev) (id v : Nat) : Dev := if d.rd id < v then d.wr id v else d

/-- What a block area reads where nothing was written: flood group 0 holds every port (R261), service p is valid on
port p (R428), the collector's UDP port is 4739 (R346), and every other byte is zero. -/
def areaDefault (a : Nat) : Byte :=
  if 0x08071000 ≤ a ∧ a < 0x08071020 then 0xFF
  else if 0x08550000 ≤ a ∧ a < 0x08550800 then
    (let p := (a - 0x08550000) / 8
     if a % 8 = 7 then toByte (128 + p / 2) else if a % 8 = 6 then toByte (p % 2 * 128) else 0)
  else if a = 0x0837001A then 0x12 else if a = 0x0837001B then 0x83
  else if 0x0A000000 ≤ a ∧ a < 0x0A001000 ∧ a % 16 = 12 then 1 else 0

/-- One byte of a block area. -/
def Dev.ab (d : Dev) (a : Nat) : Byte := SMap.get areaDefault d.area a

/-- `n` bytes of a block area. -/
def Dev.aread (d : Dev) (a n : Nat) : Bytes := (List.range n).map (fun i => d.ab (a + i))

/-- A little-endian number in a block area. -/
def Dev.ale (d : Dev) (a n : Nat) : Nat := leVal (d.aread a n)

/-- Bytes written over a sparse byte map with a default. -/
def writeOver (dflt : Nat → Byte) (m : SMap Byte) (a : Nat) (bs : Bytes) : SMap Byte :=
  match bs with
  | [] => m
  | b :: r => writeOver dflt (SMap.set dflt m a b) (a + 1) r

/-- Write bytes into a block area. -/
def Dev.awr (d : Dev) (a : Nat) (bs : Bytes) : Dev := { d with area := writeOver areaDefault d.area a bs }

/-- A 64-bit counter in a block area increases by one. -/
def Dev.abump (d : Dev) (a : Nat) : Dev := d.awr a (toLE 8 (d.ale a 8 + 1))

/-- The row an unlisted key reads as (R428): subscriber p with eight queues of quantum 24 for each port p. -/
def tabDefault (k : Nat) : Option Row :=
  let t := k / 2 ^ 37
  let rest := k % 2 ^ 37
  if t = 6 ∧ rest < 256 then
    some { data := toLE 64 (2 ^ 511 + rest * 2 ^ 499 + 8 * rest * 2 ^ 479 + 8 * 2 ^ 475 + 2 ^ 467), win := ⟨none, none⟩, valid := true }
  else if t = 7 ∧ rest < 2048 then
    some { data := toLE 16 (2 ^ 127 + 24 * 2 ^ 117), win := ⟨none, none⟩, valid := true }
  else none

/-- The row of a table at a key. -/
def Dev.row (d : Dev) (k : Nat) : Option Row := SMap.get tabDefault d.tabs k

/-- Store a row. A change of an LB_MEMBER row changes the member store in the tutor data region, whose form is open (log 39). -/
def Dev.setRow (d : Dev) (k : Nat) (r : Option Row) : Dev :=
  { d with tabs := SMap.set tabDefault d.tabs k r
           tutors := if k / 2 ^ 37 = 9 then { d.tutors with tdKnown := [] } else d.tutors }

/-! ## Open values and outputs -/

/-- The next open value (log 1), and the device that has used it. -/
def Dev.fresh (d : Dev) : Nat × Dev := (Config.freeValue d.free, { d with free := d.free + 1 })

/-- Something leaves the device. -/
def Dev.emit (d : Dev) (o : Out) : Dev := { d with out := d.out ++ [o] }

/-- Several things leave the device, in order. -/
def Dev.emits (d : Dev) (os : List Out) : Dev := { d with out := d.out ++ os }

/-- The counter within the running period: the last bell's value and an open part below 1,024 ns (log 1). -/
def Dev.stamp (now : BellSt) (d : Dev) : Nat × Dev :=
  let (f, d) := d.fresh
  ((now.ns.toNat + f % 1024) % 2 ^ 32, d)

/-- The delta store of a Buddy pair in the tutor data region (R335). -/
def inDeltaStore (a : Nat) : Bool := decide (134742016 ≤ a) && decide (a < 168296448)

/-- Where the tutor data region holds the member store or the delta store, whose form is open (R335, log 39). -/
def tdOpen (a : Nat) : Bool := decide (a < 134217728) || inDeltaStore a

/-- One byte of the tutor data region; `f` is what it reads where the form is open and no tutor wrote it (log 39). -/
def Dev.tdByte (d : Dev) (f : Nat) (a : Nat) : Byte :=
  if tdOpen a then (SMap.get (fun _ => none) d.tutors.tdKnown a).getD (toByte f) else Memory.read d.tutors.data a

/-- Write one byte of the tutor data region. -/
def Dev.tdPut (d : Dev) (a : Nat) (b : Byte) : Dev :=
  if tdOpen a then { d with tutors := { d.tutors with tdKnown := SMap.set (fun _ => none) d.tutors.tdKnown a (some b) } }
  else { d with tutors := { d.tutors with data := Memory.write d.tutors.data a b } }

/-- Object ID of a class and instance, member 00. -/
def oid (cls inst : Nat) : Nat := cls * 2 ^ 24 + inst * 256

/-! ## State of the data path -/

/-- READY is high (R98, R111). -/
def Dev.isReady (d : Dev) : Bool := d.pins.ready

/-- ROLL_READY (R104, R105). -/
def Dev.rollReady (d : Dev) : Bool := d.on M.ROLL_READY

/-- The active palette (R47): 0 Indigo, 1 Teal, 2 Amber, 3 Slate. -/
def Dev.palette (d : Dev) : Nat := d.rd M.PALETTE_ACTIVE

/-- Whether a pipe is gated (R54). -/
def Dev.gated (d : Dev) (p : Nat) : Bool := bitOf (d.rd M.PIPE_GATE_ACTIVE) p

/-- The pipes that run, in rising order. -/
def Dev.activePipes (d : Dev) : List Nat := (List.range 16).filter (fun p => !d.gated p)

/-- The pipe of a port: each pipe takes 16 ports (R17). -/
def pipeOf (port : Nat) : Nat := port / 16

/-! ## Rings: event records (R463, R477 to R481) -/

def Ring.empty : Ring :=
  { entries := [], fetch := 0, pushes := [], irqCount := 0, irqTimer := false, irqNow := false, irqLimit := 0, vector := 0, overflow := 0, faulting := false, waiting := none }

/-- A ring's state outside the dictionary. -/
def Dev.ring (d : Dev) (r : Nat) : Ring := SMap.get (fun _ => Ring.empty) d.rings.rings r

def Dev.setRing (d : Dev) (r : Nat) (x : Ring) : Dev :=
  { d with rings := { d.rings with rings := SMap.set (fun _ => Ring.empty) d.rings.rings r x } }

/-- RING_SIZE as positions. -/
def Dev.ringSize (d : Dev) (r : Nat) : Nat := d.rd (M.RING_SIZE r)

/-- PHASE of the entry at an index (R463). -/
def Dev.ringPhase (d : Dev) (r i : Nat) : Nat := 1 - i / d.ringSize r % 2

/-- The DMA address of the position at an index (R462). -/
def Dev.ringAddr (d : Dev) (r i : Nat) : Nat := d.rd (M.RING_BASE r) + 16 * (i % d.ringSize r)

/-- The lowest-numbered enabled event ring that takes a category: bit 0 events, 1 learn notices, 2 flow-end notices (R479). -/
def Dev.eventRing (d : Dev) (cat : Nat) : Option Nat :=
  ((List.range 16).map (240 + ·)).find? (fun r => d.rd (M.RING_STATE r) == 1 && bitOf (d.rd (M.RING_EVENT_MASK r)) cat)

/-- Positions an event ring has left (R463, R464). -/
def Dev.eventRoom (d : Dev) (r : Nat) : Nat :=
  d.ringSize r - (d.rd (M.RING_PROD r) + 65536 - d.rd (M.RING_CONS r)) % 65536

/-- Position 0 of an event record (R477). -/
def EvRec.pos0 (e : EvRec) (overflow phase : Nat) : Nat :=
  e.period * 2 ^ 96 + e.ns * 2 ^ 64 + e.code * 2 ^ 48 + min overflow 65535 * 2 ^ 32 + 2 ^ 20 + phase * 2 ^ 16 + e.repeats % 65536

/-- Position 1 of an event record (R477). -/
def EvRec.pos1 (e : EvRec) : Nat := e.object * 2 ^ 96 + e.detail % 2 ^ 96

/-- The 32 bytes of an event record on a ring (R462, R477). -/
def EvRec.bytes (e : EvRec) (overflow phase : Nat) : Bytes := toLE 16 (e.pos0 overflow phase) ++ toLE 16 e.pos1

/-- The 32 bytes of an event record in a Denlys NOTIFY: each position as a big-endian 128-bit value (R181, R477). -/
def EvRec.denlysBytes (e : EvRec) : Bytes := toBE 16 (e.pos0 0 0) ++ toBE 16 e.pos1

/-- A ring that has written a completion or a record: what its next interrupt goes by (R464, R481). -/
def Dev.announced (d : Dev) (r : Nat) (x : Ring) : Ring :=
  { x with irqCount := x.irqCount + 1, irqTimer := x.irqTimer || d.on (M.RING_IRQ_DELAY r),
           irqLimit := d.rd (M.RING_IRQ_COUNT r), vector := d.rd (M.RING_VECTOR r) }

/-- Write one record on an event ring that has room (R477, R479): a NOP fills a last single position (R462). -/
def Dev.writeRecord (d : Dev) (r : Nat) (e : EvRec) (isEvent : Bool) : Dev :=
  let i0 := d.rd (M.RING_PROD r)
  let atEnd := i0 % d.ringSize r + 2 > d.ringSize r
  let phase (k : Nat) : Nat := if d.rd (M.RING_OWNERSHIP r) = 0 then d.ringPhase r k else 0
  let d := if atEnd then d.emit (.dma (d.ringAddr r i0) (toLE 16 (phase i0 * 2 ^ 16)) false) else d
  let i := if atEnd then (i0 + 1) % 65536 else i0
  let x := d.ring r
  let d := d.emit (.dma (d.ringAddr r i) (e.bytes x.overflow (phase i)) false)
  let d := d.wr (M.RING_PROD r) ((i + 2) % 65536)
  let d := d.bump (M.CNT_RING_DONE r)
  d.setRing r { d.announced r x with overflow := 0, irqNow := x.irqNow || isEvent }

/-- How many records a defined event code keeps waiting, for the places reserved to each code (R480). -/
def waitingOf (q : List EvRec) (code : Nat) : Nat := (q.filter (fun e => e.code == code)).length

/-- The event codes this manual defines (R478, R502, R536). -/
def eventCodes : List Nat :=
  [Ev.START_FAIL, Ev.ROLL_READY, Ev.AVS_FAULT, Ev.SAG_THROTTLE, Ev.THERM_WARN, Ev.RECESS_WAKE, Ev.PERIOD_OVERRUN, Ev.TIME_SERVO,
   Ev.PAUSE_WATCHDOG, Ev.TCAM_SHADOW_MISMATCH, Ev.TCAM_VERIFY_FAIL, Ev.TCAM_SHADOW_REPAIR, Ev.L2_MOVE, Ev.L2_FLAP_LOCK, Ev.TUTOR_USER,
   Ev.TUTOR_HANG, Ev.TUTOR_OFFLINE, Ev.POOL_QUARANTINE, Ev.MEM_UNCORRECTABLE, Ev.MEMCH_DOWN, Ev.MEMCH_UP, Ev.RING_FAULT, Ev.BUDDY_JOIN,
   Ev.BUDDY_TAKEOVER, Ev.BUDDY_HANDBACK, Ev.BUDDY_RESYNC, Ev.BUDDY_PORT_DOWN, Ev.RECORD_LOST]

/-- Unreserved places of the event queue in use: each code's first waiting record stands in its reserved place (R480). -/
def unreservedUsed (q : List EvRec) : Nat :=
  q.length - (eventCodes.filter (fun c => waitingOf q c != 0)).length

/-- Merge a raise into the first waiting record of its code (R480). -/
def mergeEvent (q : List EvRec) (code : Nat) : List EvRec :=
  match q with
  | [] => []
  | e :: r => if e.code = code then { e with repeats := min 65535 (e.repeats + 1) } :: r else e :: mergeEvent r code

/-- Add an event to the queue, merging it when no unreserved place is free (R480). Denlys sessions that subscribe to
events keep it for their next check (R181). -/
def Dev.queueEvent (d : Dev) (e : EvRec) : Dev :=
  let q := d.rings.events
  let full := eventCodes.length + unreservedUsed q ≥ 4096
  let d := if full ∧ waitingOf q e.code ≠ 0 then
      { d with rings := { d.rings with events := mergeEvent q e.code } }.bump M.CNT_EVENT_MERGED
    else { d with rings := { d.rings with events := q ++ [e] } }
  { d with denlys := { d.denlys with sessions := d.denlys.sessions.map (fun (k, s) =>
      (k, s.map (fun s => { s with sub := s.sub.map (fun b =>
        if b.events then { b with pendingEvents := b.pendingEvents ++ [e] } else b) }))) } }

/-- Raise an event: code, object and DETAIL (R477, R480). -/
def Dev.raise (d : Dev) (now : BellSt) (code object detail : Nat) : Dev :=
  let (ns, d) := Dev.stamp now d
  d.queueEvent { code, period := now.period.toNat, ns, object, detail, repeats := 0 }

/-- Raise an event whose rule names no data for it: its DETAIL is open (log 32). -/
def Dev.raiseOpen (d : Dev) (now : BellSt) (code object : Nat) : Dev :=
  let (v, d) := d.fresh
  d.raise now code object (v % 2 ^ 96)

/-- The same where a condition holds. -/
def Dev.raiseOpenIf (d : Dev) (c : Bool) (now : BellSt) (code object : Nat) : Dev := if c then d.raiseOpen now code object else d

/-- Raise an event where a condition holds. -/
def Dev.raiseIf (d : Dev) (c : Bool) (now : BellSt) (code object detail : Nat) : Dev :=
  if c then d.raise now code object detail else d

/-- Write waiting events to their ring while it has room (R480). -/
def writeEvents (n : Nat) (d : Dev) : Dev :=
  match n with
  | 0 => d
  | n + 1 =>
    match d.rings.events, d.eventRing 0 with
    | e :: rest, some r =>
      if d.eventRoom r < 2 + b2n (d.rd (M.RING_PROD r) % d.ringSize r + 2 > d.ringSize r) then d
      else writeEvents n ({ d with rings := { d.rings with events := rest } }.writeRecord r e true)
    | _, _ => d

/-- Place a notice of a category (R478, R479): written at once on its ring, or discarded. Events that its ring has room for are written
before it (R480). -/
def Dev.notice (d : Dev) (now : BellSt) (cat code object detail : Nat) : Dev :=
  match d.eventRing cat with
  | none => d
  | some r =>
    let d := if d.eventRing 0 = some r then writeEvents d.rings.events.length d else d
    let eventWaits := !d.rings.events.isEmpty && decide (d.eventRing 0 = some r)
    let need := 2 + b2n (d.rd (M.RING_PROD r) % d.ringSize r + 2 > d.ringSize r)
    if eventWaits ∨ d.eventRoom r < need then
      (d.bump (M.CNT_RING_NOTICE_DROP r)).setRing r { d.ring r with overflow := (d.ring r).overflow + 1 }
    else
      let (ns, d) := Dev.stamp now d
      d.writeRecord r { code, period := now.period.toNat, ns, object, detail, repeats := 0 } false

/-! ## Principals and rejected writes (R120 to R126) -/

/-- The principals of R121: host kernel, host user window, Denlys session, tutor. -/
inductive Principal where
  | k | u
  | d (session : Nat)
  | t (tutor : Nat)
  deriving DecidableEq, Repr

/-- Record a rejected PCIe write (R123). -/
def Dev.rejectPcie (d : Dev) (status id : Nat) : Dev :=
  ((d.wr M.LAST_WRITE_STATUS status).wr M.LAST_WRITE_ID id).bump M.CNT_WRITE_REJECT

/-- What a refused access counts (R122). -/
def Dev.countRefused (d : Dev) (status : Nat) : Dev :=
  (d.bumpIf (status == St.ACCESS || status == St.DENLYS_ROLE) M.CNT_ACCESS_DENIED).bumpIf (status == St.NO_OBJECT) M.CNT_NO_OBJECT

/-- The end of a write or trigger: over PCIe a status other than ST_OK is recorded as a rejected write (R123). -/
def Dev.answer (who : Principal) (id : Nat) (r : Nat × Dev) : Dev :=
  match who with
  | .k | .u => if r.1 = St.OK then r.2 else r.2.rejectPcie r.1 id
  | _ => r.2

end Sys2Proof.Machine
end

