-- ==== Sys2Proof/Machine/Init.lean ====
section
/-!
DEFINITION. The units as each reset leaves them (R63, R106, R107), and their accessors.
-/
namespace Sys2Proof.Machine

def Pins.init : Pins :=
  { vaux := true, vcorePg := false, perstHigh := false, throttleLow := false, ready := false, life := false, lifeRuns := false,
    thermtrip := false, ppsOut := false }

def BootStore.init : BootStore := { palette := none, seeds := none, keys := none, settings := [] }

def Start.init (boot : BootStore) : Start :=
  { island := .starting, state := .mainOff, latched := none, seeds := (0xFFFFFFFF, 0x3C6EF372, 0xA54FF53A), readyDue := false, fallDue := false, elapsedMs := 0, txIdle := true,
    clocksStopped := false, pllLocked := false, pcieUp := false, pcieConfigReset := true, recess := .awake, wakeLatch := none,
    drained := false, boot, zeroing := false }

def Power.init : Power :=
  { avsOld := none, avsFails := 0, avsFault := false, avsRetry := none, lowestRun := 0, someLowest := false, allLowest := false,
    cutoff := [], starved := [], warm := false, paused := [], pausedAt := 0, throttleDrops := [] }

def Txn.init : Txn :=
  { state := .idle, members := [], areas := [], ops := [], toPrepare := [], undo := [], byTrigger := false, idleLessons := 0, passed := false,
    settle := [], settling := false, heldPools := [], selectors := [], reservedUnits := 0, reservedPlaces := [], reservedBlocks := [] }

def TblIf.init : TblIf :=
  { cmd := 0, status := 0, key := List.replicate 64 0, data := List.replicate 128 0, cmpValue := List.replicate 128 0,
    cmpMask := List.replicate 128 0, running := none, result := none, age := 0 }

def RollSt.init (s1 s2 s3 : Nat) : RollSt :=
  { seed1 := s1, seed2 := s2, seed3 := s3, tags := [], writer := [], rebuild := [], lines := [], hands := [], wb := [], sweepSet := 0, candidates := [], reborn := [],
    late := [], reads := [], nextCheck := 0, sweepStart := none, wakeLesson := none, sweepPartial := false, recessLesson := 0, stale := [], genOf := [] }

def Switch.init : Switch :=
  { frames := [], nextFrame := 0, ingress := [], egress := [], queues := [], macq := [], svcTurn := [], subTurn := [], queueTurn := [],
    svcShaper := [], portShaper := [], meters := [], nextRows := [], flush := [], xoff := [], learnMem := [] }

def Ports.init : Ports := { pause := [], holdoff := [], lpi := [], waking := [], quiet := [], badLanes := [], control := [], arrivals := [] }

def Pipe.init : Pipe :=
  { reads := [], missQueue := [], remote := [], unitsUsed := 0, refusal := [], refusalOld := [], learned := [], entered := 0, stolen := 0, placed := 0,
    mismatchRaised := false, verifyRaised := false, reports := 0 }

def Services.init : Services :=
  { exportQueue := [], exportPending := [], exportAt := 0, exportSeq := 0, exportRem := 0, templateLesson := 0, exportIpId := 0, natRelease := [] }

def Tutor.init : Tutor :=
  { offline := false, task := none, pc := 0, z := false, n := false, c := false, v := false, stack := [], regs := [], status := 0,
    masked := false, trapping := false, due := [], double := false, budget := false, ops := [], levels := [], localMem := [], hangs := 0, preempt := none, waiting := false }

def Tutors.init : Tutors :=
  { tutors := [], tasks := [], ready := [], image := none, load := .idle, loading := none, storeBad := [], datagrams := [], data := [], tdKnown := [],
    trace := [] }

def Pools.init : Pools :=
  { bufs := [], quarantined := [], badWords := [], resizing := [], hostAlloc := none, hostFree := none, grantedNow := [], bytes := [] }

def Channel.init : Channel :=
  { reqs := [], badReads := [], lastBank := 0, openRow := [], failures := 0, recorded := false, raised := false, postponed := [], patrol := 0,
    lastReq := 0, adjusted := [], due := [], zq := 0, zqLesson := none, dieTemp := 0, refreshRate := 0 }

def Memories.init : Memories := { channels := [], roll := [], endpoints := [], host := [], scrubWord := 0, scrubPeriods := 0 }

def Rings.init : Rings := { rings := [], events := [], unmasked := [], pendingVec := [] }

def Time.init : Time :=
  { fresh := false, steps := [], servo := 0, slew := 0, run := 0, lastStep := 0, anchorSec := 0, anchorNs := 0, ppsRise := 0 }

def Buddy.init : Buddy :=
  { mode := .off, returning := false, joinDue := none, mirror := [], sent := [], received := none, early := [], fetchOut := [],
    replyOut := [], relayOut := [], rx := [], relayPart := none, deltas := [], deltaLeft := [], changed := [], syncLeft := [],
    syncAll := 0, sweep := [], handback := none, wantHandback := false, heard := false, silent := 0, bothDown := false,
    takeoverDue := false, awaiting := [], lostRaised := false, replaced := [] }

def Denlys.init (keys : SMap (Option Bytes)) : Denlys :=
  { sessions := [], keys, requests := [], ready := [], nonces := [], second := [], refused := [] }

def Perf.init : Perf := { lfsr := [], tags := [], banks := [], snapSeq := 0 }

def Work.init : Work := { carried := [], tcamTaken := 0, overran := false, raised := 0 }

def BellSt.init : BellSt :=
  { state := .off, period := 0, lesson := 0, time := 0, ns := 0, latch := none, due := false, readyRisen := false }

/-- The device as the release of the island's power-on reset leaves it, with what the boot store keeps (R95, R106). -/
def Dev.init (boot : BootStore) : Dev :=
  { reg := [], area := [], tabs := [], tcamCopies := [], tcamBad := [], pins := Pins.init, start := Start.init boot, power := Power.init,
    txn := Txn.init, tif := [], roll := RollSt.init 0xFFFFFFFF 0x3C6EF372 0xA54FF53A, switch := Switch.init, ports := Ports.init, segs := [],
    pipes := [], descs := [], nextDesc := 0, services := Services.init, tutors := Tutors.init, pools := Pools.init,
    memories := Memories.init, rings := Rings.init, time := Time.init, buddy := Buddy.init, denlys := Denlys.init [], perf := Perf.init,
    work := Work.init, chk := [], out := [], free := 0 }

/-! ## Accessors of the units held in maps -/

def Dev.pipe (d : Dev) (p : Nat) : Pipe := SMap.get (fun _ => Pipe.init) d.pipes p
def Dev.setPipe (d : Dev) (p : Nat) (x : Pipe) : Dev := { d with pipes := SMap.set (fun _ => Pipe.init) d.pipes p x }
def Dev.tutor (d : Dev) (t : Nat) : Tutor := SMap.get (fun _ => Tutor.init) d.tutors.tutors t
def Dev.setTutor (d : Dev) (t : Nat) (x : Tutor) : Dev :=
  { d with tutors := { d.tutors with tutors := SMap.set (fun _ => Tutor.init) d.tutors.tutors t x } }
def Dev.channel (d : Dev) (c : Nat) : Channel := SMap.get (fun _ => Channel.init) d.memories.channels c
def Dev.setChannel (d : Dev) (c : Nat) (x : Channel) : Dev :=
  { d with memories := { d.memories with channels := SMap.set (fun _ => Channel.init) d.memories.channels c x } }
def Dev.iface (d : Dev) (i : Nat) : TblIf := SMap.get (fun _ => TblIf.init) d.tif i
def Dev.setIface (d : Dev) (i : Nat) (x : TblIf) : Dev := { d with tif := SMap.set (fun _ => TblIf.init) d.tif i x }
def Dev.session (d : Dev) (s : Nat) : Option Session := SMap.get (fun _ => none) d.denlys.sessions s
def Dev.setSession (d : Dev) (s : Nat) (x : Option Session) : Dev :=
  { d with denlys := { d.denlys with sessions := SMap.set (fun _ => none) d.denlys.sessions s x } }

/-- A packet's descriptor by its number. -/
def Dev.desc (d : Dev) (i : Nat) : Option Desc := d.descs.find? (fun x => x.id == i)
/-- Store a descriptor. -/
def Dev.setDesc (d : Dev) (x : Desc) : Dev := { d with descs := d.descs.map (fun y => if y.id = x.id then x else y) }
/-- Remove a descriptor: its pass has ended. -/
def Dev.dropDesc (d : Dev) (i : Nat) : Dev := { d with descs := d.descs.filter (fun y => y.id != i) }

/-- A frame in the packet buffer. -/
def Dev.frame (d : Dev) (f : Nat) : Option Frame := SMap.get (fun _ => none) d.switch.frames f
def Dev.setFrame (d : Dev) (f : Nat) (x : Option Frame) : Dev :=
  { d with switch := { d.switch with frames := SMap.set (fun _ => none) d.switch.frames f x } }

/-- A task by pipe and slot. -/
def Dev.taskRec (d : Dev) (pipe slot : Nat) : Option TaskRec := d.tutors.tasks.find? (fun x => x.pipe == pipe && x.slot == slot)
def Dev.setTask (d : Dev) (x : TaskRec) : Dev :=
  { d with tutors := { d.tutors with tasks := d.tutors.tasks.map (fun y => if y.pipe = x.pipe ∧ y.slot = x.slot then x else y) } }

/-- Zero by every key: the default of the maps of numbers. -/
def zeroAt (_ : Nat) : Nat := 0

end Sys2Proof.Machine
end

