-- ==== Sys2Proof/Syntax.lean ====
section
/-!
DEFINITION. The commands: one constructor of `Instr` for each row of the table of operations and events, with what the
row needs from outside the device as its operands.
-/
namespace Sys2Proof

open Sys2Proof.Machine (Bytes Byte Principal)

/-- A write or a trigger that reaches one member: who makes it, the value, and the bytes a PCIe write covers (R118). -/
structure Acc where
  who : Principal
  val : Nat
  width : Nat
  deriving DecidableEq, Repr

/-- A PCIe write: BAR, offset in it, and its bytes (R118, R128, R134). -/
structure PcieWrite where
  bar : Nat
  addr : Nat
  data : Bytes
  deriving DecidableEq, Repr

/-- How a memory access ends (R437, R439, R449). -/
inductive MemOutcome where
  | ok | uncorrectable | unavailable
  deriving DecidableEq, Repr

/-- Strap levels latched under R93: NODEID, BOOTSEL and BUDDY_ROLE. -/
structure Straps where
  nodeId : Nat
  bootSel : Nat
  buddyRole : Nat
  deriving DecidableEq, Repr

/-- Which island firmware images in the boot store verify (R94). -/
structure IslandImages where
  primary : Bool
  alternate : Bool
  deriving DecidableEq, Repr

/-- What one training of a channel leaves (R447): the 140 bytes of its block area, or the code of the failing stage. -/
structure TrainIn where
  code : Nat
  results : Bytes
  deriving DecidableEq, Repr

/-- What a step of the main sequence finds (R98, R100, R101, R447): milliseconds taken, lanes that fail calibration, a
failure with its unit and code, and the training of the channels. -/
structure StepIn where
  ms : Nat
  lanes : List Nat
  fail : Option (Nat × Nat)
  training : List Bytes
  deriving DecidableEq, Repr

/-- A frame as the MAC receives it, FCS included (R198, R200), with the counter value of its receive stamp. -/
structure RxFrame where
  port : Nat
  bytes : Bytes
  symbolError : Bool
  alignError : Bool
  ns : Nat
  deriving DecidableEq, Repr

/-- The bits in error of one 64-byte unit as it is read (R432, R436): for each of its two code words, those of sub-channel 0 and of
sub-channel 1, the pin and the beat of each wrong bit of the burst. -/
structure EccIn where
  word0 : List (Nat × Nat)
  word1 : List (Nat × Nat)
  deriving DecidableEq, Repr

/-- A unit without an error. -/
def cleanUnit : EccIn := { word0 := [], word1 := [] }

/-- How a check-value job ends early: a whole number of bytes fed before an uncorrectable or unavailable unit, or before an
abort took hold (R492). -/
inductive ChkStop where
  | done
  | uncorrectable (fed : Nat)
  | unavailable (fed : Nat)
  | aborted (fed : Nat)
  deriving DecidableEq, Repr

/-- A soft error found in a memory of the device during a period. -/
inductive SoftError where
  /-- A TCAM copy's cell: pipe, index, VALUE and MASK it now holds (R240). -/
  | tcamCopy (pipe index value mask : Nat)
  /-- An uncorrectable shadow word, as pipe × 32,768 + index (R242). -/
  | tcamShadow (index : Nat)
  /-- A Front Row line of a slot, and a tag-band word of a bucket, uncorrectable (R281). -/
  | line (slot : Nat)
  | tagWord (bucket : Nat)
  /-- A code word of a cell of a frame, uncorrectable (R451, R453), and whether the cell lies in the buffer extension, which is stacked
  SRAM. -/
  | cell (frame cell word : Nat) (extension : Bool)
  /-- A control-store word of a cluster, uncorrectable, or corrected as a tutor read it (R356). -/
  | store (cluster address : Nat)
  | storeCorrected (tutor : Nat)
  /-- Pool metadata of a buffer, and a bitmap word, uncorrectable; metadata corrected (R402). -/
  | poolMeta (pool buffer : Nat)
  | poolWord (pool word : Nat)
  | poolCorrected (pool : Nat)
  /-- Corrected and check-symbol errors of stacked SRAM and packet buffer (R437, R452). -/
  | sram (kind : Nat)
  | packetBuffer (kind : Nat)
  deriving DecidableEq, Repr

/-- How a Denlys frame arrives: whether its FCS is correct (R176), and the island's time in ns at its last bit (R187, R188). -/
structure DenRx where
  fcsOk : Bool
  ns : Nat
  deriving DecidableEq, Repr

/-- When a ready Denlys frame starts: the island's time in ns, and for how long of it since the request other nodes held the medium (R188). -/
structure DenTx where
  ns : Nat
  heldNs : Nat
  deriving DecidableEq, Repr

/-- A session and the island's time in ns (R187). -/
structure DenAt where
  session : Nat
  ns : Nat
  deriving DecidableEq, Repr

/-- What a bell finds outside the device: the core cycles of the period that ends and those its periodic work used (R47),
the die temperatures in m°C (R85), the voltage in mV and the current in units of 0.1 A that the regulator reads back (R73),
whether a retried AVSBus transaction is acknowledged (R75), the package power in W (R91), the pipes with frames waiting at
entry, and for each pipe the slots without a pass in which nothing waited and those held by the replication engine (R542,
R543), the cycles each tutor was idle, each pipe's general task slots were full and the write buffer was full (R280, R380,
R381), the work of this period that will be held back (R43), each by its place in the order of work with the units it
reaches (log 224), the soft errors, the DQS drift of each channel's sub-channels in 1/128 UI from the trained value (R448), the
temperature status each die of LPDDR6 gives (R445), the island
oscillator's time since the last bell in ns, and each lane's signal-to-noise ratio and the lanes whose signal came or went
(R219), the FEC symbols corrected on each lane and the codewords not corrected on each port (R219, R220), and each block's
largest ingress fill in bytes with the frames dropped for a full ingress buffer (R221). -/
structure BellIn where
  cycles : Nat
  work : Nat
  temps : List Int
  vcore : Option (Nat × Nat)
  avsAck : Bool
  power : Nat
  waiting : List Nat
  slots : List (Nat × Nat × Nat)
  idle : List (Nat × Nat)
  fullSlots : List (Nat × Nat)
  wbFull : Nat
  held : List (Nat × Nat)
  errors : List SoftError
  drift : List (Nat × Nat × Int)
  dieTemp : List (Nat × Nat)
  islandNs : Nat
  snr : List (Nat × Nat)
  signal : List (Nat × Bool)
  fec : List (Nat × Nat)
  fecBad : List (Nat × Nat)
  fill : List (Nat × Nat × Nat)
  deriving DecidableEq, Repr

/-- One command: a step of the table of operations and events, with its rule. -/
inductive Instr where
  /-- BELL (R29): The nanosecond counter reaches a multiple of 1,024 and the bell rings, advancing PERIOD_COUNT and starting the period's work. -/
  | bell (found : BellIn)
  /-- BELL_LOAD (R36): Trigger that checks and latches PERIOD_PRESET and LESSON_PRESET for loading at the next bell. -/
  | bellLoad (a : Acc)
  /-- BUDDY_TAKEOVER (R530): After 4 silent periods or loss of both Buddy ports, the device enters ALONE and owns both sides. -/
  | buddyTakeover
  /-- AVS_TRANSACTION_FAIL (R75): An AVSBus transaction is not acknowledged or fails its CRC, and is retried; three failures set AVS_FAULT. -/
  | avsTransactionFail
  /-- AVS_SETTLE_END (R74): The regulator reports settled or 200 µs pass, and sag is again measured against the new target. -/
  | avsSettleEnd
  /-- THERMTRIP (R86): A sensor at 120 °C or more stops the clocks, idles lanes and drives THERMTRIP_N low. -/
  | thermtrip (temp : Int)
  /-- THERMTRIP_RELEASE (R86): THERMTRIP_N is released once VCORE_PG is low and the hottest sensor is below 100 °C. -/
  | thermtripRelease (temp : Int)
  /-- SAG_STEP_DOWN (R76): A droop sensor reading above a threshold moves the core clock to the slowest step called for. -/
  | sagStepDown (volts : List Nat)
  /-- SAG_STEP_RECOVER (R77): After 64 cycles below the current threshold the clock moves one step faster. -/
  | sagStepRecover (uv : Nat)
  /-- THROTTLE_N_FALL (R79): A falling edge of THROTTLE_N limits the clock to THROTTLE_N_STEP. -/
  | throttleNFall
  /-- THROTTLE_N_RISE (R79): THROTTLE_N rises and the clock recovers under R77 from the forced step. -/
  | throttleNRise
  /-- THROTTLE_PAUSE_REFRESH (R83): Every 16 periods while throttling, pause or PFC frames are sent for lossless classes. -/
  | throttlePauseRefresh
  /-- VAUX_UP (R551): VAUX enters its range and the island power-on reset releases 2 ms later. -/
  | vauxUp (straps : Straps)
  /-- VAUX_LOSS (R551): VAUX falls below 2.55 V and the island power-on reset asserts. -/
  | vauxLoss
  /-- ISLAND_START (R95): The island verifies its firmware, brings up the T1S PHY and begins answering Denlys. -/
  | islandStart (images : IslandImages)
  /-- RESET_N_PULSE (R106): RESET_N low for at least 10 µs causes a pin reset. -/
  | resetNPulse (ns : Nat) (straps : Straps)
  /-- VCORE_PG_RISE (R98): VCORE_PG rises with the island running and the main sequence starts. -/
  | vcorePgRise
  /-- MAIN_SEQ_STEP_DONE (R98): A step of the main sequence finishes and the next step begins. -/
  | mainSeqStepDone (found : StepIn)
  /-- MAIN_SEQ_STEP_TIMEOUT (R101): A main-sequence step exceeds its maximum time and the start fails. -/
  | mainSeqStepTimeout
  /-- START_RELEASE (R99): Trigger that leaves HOLD so READY rises at the next bell. -/
  | startRelease (a : Acc)
  /-- START_RETRY (R101): Trigger that reruns the main sequence from step 2 after a failure. -/
  | startRetry (a : Acc)
  /-- VCORE_PG_FALL (R109): VCORE_PG falls; READY drops, transmitters idle and START_STATE becomes MAIN_OFF. -/
  | vcorePgFall (ns : Nat)
  /-- ROLL_READY (R105): Roll and endpoint zeroing completes and ROLL_READY rises. -/
  | rollReady
  /-- PERST_N_ASSERT (R108): PERST_N goes low, disabling every ring without publishing heads. -/
  | perstNAssert
  /-- PERST_N_DEASSERT (R103): PERST_N high after PLL lock starts PCIe link training. -/
  | perstNDeassert
  /-- LIFE_TOGGLE (R112): LIFE changes level every 500 µs while bells run. -/
  | lifeToggle
  /-- LIFE_STOP (R112): LIFE stops after 64 missed bell cycles or BELL_STATE OFF. -/
  | lifeStop
  /-- PALETTE_SAVE (R59): Trigger that saves PALETTE_NEXT and PIPE_GATE_NEXT to the boot store. -/
  | paletteSave (a : Acc)
  /-- DATAPATH_RESTART (R61): Trigger that checks and starts a data-path restart, rolling back any transaction. -/
  | datapathRestart (a : Acc)
  /-- RESTART_COMPLETE (R62): Re-division, recalibration and image load finish; the active palette updates and READY rises. -/
  | restartComplete
  /-- RECESS_ENTER (R88): Trigger that checks the conditions and starts Recess entry. -/
  | recessEnter (a : Acc)
  /-- RECESS_DRAIN_TIMEOUT (R88): Packets still queued 1 ms after Recess entry began are discarded. -/
  | recessDrainTimeout
  /-- RECESS_ENTRY_COMPLETE (R88): Write-back and gating finish and RECESS_STATE becomes RECESS. -/
  | recessEntryComplete
  /-- RECESS_EXIT (R89): Trigger over PCIe or Denlys that wakes the device from Recess. -/
  | recessExit (a : Acc)
  /-- RECESS_WAKE_COMPLETE (R90): Wake finishes, READY rises and RECESS_STATE becomes AWAKE. -/
  | recessWakeComplete
  /-- REGISTER_WRITE (R123): A write to a member with no row of its own is checked and applied or rejected. -/
  | registerWrite (w : PcieWrite)
  /-- STAGED_WRITE (R149): A write to an RWS member or staged block area stores a next value in the open transaction. -/
  | stagedWrite (w : PcieWrite)
  /-- RC_CLEAR (R124): A write to an RC member clears the bits or value written. -/
  | rcClear (w : PcieWrite)
  /-- TBL_NOP (R137): Table command NOP does nothing and does not set BUSY. -/
  | tblNop (iface cmd : Nat)
  /-- TBL_READ (R137): Table command that copies an entry to TBL_DATA. -/
  | tblRead (iface cmd : Nat)
  /-- TBL_WRITE (R137): Table command that replaces or inserts an entry from TBL_DATA. -/
  | tblWrite (iface cmd : Nat)
  /-- TBL_INSERT (R137): Keyed table command that inserts an entry or ends with ST_EXISTS. -/
  | tblInsert (iface cmd : Nat)
  /-- TBL_CAS (R137): Table command that replaces an entry only if the masked compare holds. -/
  | tblCas (iface cmd : Nat)
  /-- TBL_DELETE (R137): Table command that marks an entry invalid. -/
  | tblDelete (iface cmd : Nat)
  /-- TBL_CAS_DELETE (R137): Table command that deletes an entry under the compare of CAS. -/
  | tblCasDelete (iface cmd : Nat)
  /-- TBL_NEXT (R143): Table command that finds the next valid entry within 65,536 indices. -/
  | tblNext (iface cmd : Nat)
  /-- TBL_SEARCH (R243): TCAM command that searches a key from INDEX in one pipe's copy. -/
  | tblSearch (iface cmd : Nat)
  /-- TBL_COMMAND_COMPLETE (R141): A table command finishes, its result appears and BUSY falls. -/
  | tblCommandComplete (iface : Nat) (o : MemOutcome)
  /-- TBL_COMMAND_TIMEOUT (R140): A command not complete within 64 periods ends with ST_UNAVAILABLE and no effect. -/
  | tblCommandTimeout (iface : Nat)
  /-- TXN_BEGIN (R147): Trigger that opens a transaction for the triggering principal. -/
  | txnBegin (a : Acc)
  /-- TXN_COMMIT (R153): Trigger that starts validation of the open transaction. -/
  | txnCommit (a : Acc)
  /-- TXN_ROLLBACK (R158): Trigger that discards the staged set and rolls back prepared entries. -/
  | txnRollback (a : Acc)
  /-- TXN_VALIDATION_DONE (R153): Validation ends; the transaction proceeds to prepare or fails with a code. -/
  | txnValidationDone
  /-- TXN_IDLE_ABORT (R159): TXN_IDLE_LIMIT lessons pass in OPEN without a staged write and the transaction aborts. -/
  | txnIdleAbort
  /-- DENLYS_FRAME_RX (R176): A field-bus frame is received and its FCS, address, EtherType and tag checked. -/
  | denlysFrameRx (frame : Bytes) (rx : DenRx)
  /-- HELLO (R182): Denlys HELLO negotiates a version and starts a session or is refused. -/
  | denlysHello (nonce ms : Nat)
  /-- READ (R179): Denlys READ returns the values of up to 32 objects. -/
  | denlysRead
  /-- WRITE (R180): Denlys WRITE applies up to 32 items in order, each on its own. -/
  | denlysWrite
  /-- HEARTBEAT (R179): Denlys HEARTBEAT request answered with START_STATE, ALERT_CAUSE and PERIOD_COUNT. -/
  | denlysHeartbeat
  /-- READ_BLOCK (R179): Denlys READ_BLOCK returns bytes of a block area. -/
  | denlysReadBlock
  /-- SUBSCRIBE (R181): Denlys SUBSCRIBE replaces the session's subscription. -/
  | denlysSubscribe
  /-- BEGIN (R180): Denlys BEGIN triggers TXN_BEGIN for the session. -/
  | denlysBegin
  /-- COMMIT (R180): Denlys COMMIT triggers TXN_COMMIT for the session. -/
  | denlysCommit
  /-- ROLLBACK (R180): Denlys ROLLBACK triggers TXN_ROLLBACK for the session. -/
  | denlysRollback
  /-- DENLYS_RESPONSE_TX (R188): A ready response is sent in the device's first PLCA transmit opportunity. -/
  | denlysResponseTx (tx : DenTx)
  /-- NOTIFY (R181): At a subscription check the device sends NOTIFY with changed values and events. -/
  | denlysNotify (session : Nat)
  /-- NOTIFY_CONTINUATION (R181): Remaining events of a check are sent in a second NOTIFY at the next opportunity. -/
  | denlysNotifyContinuation (session : Nat)
  /-- DENLYS_HEARTBEAT_SEND (R187): The device sends HEARTBEAT to each session every HEARTBEAT_INTERVAL. -/
  | denlysHeartbeatSend (at_ : DenAt)
  /-- DENLYS_SESSION_TIMEOUT (R187): A session with no verified frame for SESSION_TIMEOUT ends and its transaction aborts. -/
  | denlysSessionTimeout (at_ : DenAt)
  /-- KEY_SLOT_WRITE (R185): A write of a Denlys key slot stores the key and ends every session of that role. -/
  | keySlotWrite (w : PcieWrite)
  /-- KEY_SAVE (R185): Trigger that saves key slots and Denlys settings to the boot store. -/
  | keySave (a : Acc)
  /-- FRAME_RECEIVE (R200): A frame is received by the MAC, checked in order and accepted or silently dropped. -/
  | frameReceive (f : RxFrame)
  /-- PFC_REFRESH (R389): Every 16 periods above I − 2M the pause frame is repeated. -/
  | pfcRefresh (port cls : Nat)
  /-- PAUSE_APPLY (R206): A received pause or PFC takes effect 40 ns after its last bit. -/
  | pauseApply (port ns : Nat)
  /-- PAUSE_TIMER_EXPIRE (R206): A queue's pause timer expires and the queue is eligible again. -/
  | pauseTimerExpire (port cls ns : Nat)
  /-- PAUSE_WATCHDOG (R208): A queue paused longer than PORT_PAUSE_WD_LIMIT is released and hold-off begins. -/
  | pauseWatchdog (port cls ns : Nat)
  /-- PAUSE_HOLDOFF_END (R208): The watchdog hold-off ends and pause frames are obeyed again. -/
  | pauseHoldoffEnd (port cls ns : Nat)
  /-- LINK_UP (R197): Link training completes and PORT_LINK becomes 1. -/
  | linkUp (port : Nat)
  /-- LINK_DOWN (R390): PORT_LINK falls or the port is disabled; its queues are unlinked and copies flushed. -/
  | linkDown (port : Nat)
  /-- PORT_FLUSH_RETURN (R390): The return engine frees cells of down ports at up to 4,096 per period. -/
  | portFlushReturn
  /-- MAC_TX_START (R204): The MAC starts the next frame from the highest eligible transmit queue. -/
  | macTxStart (port ps : Nat)
  /-- LPI_ENTER (R211): All transmit queues empty for PORT_LPI_IDLE and the transmitter enters LPI. -/
  | lpiEnter (port : Nat)
  /-- LPI_EXIT (R211): A frame arrives for a sleeping transmitter, which starts it PORT_LPI_TW_TX later. -/
  | lpiExit (port : Nat)
  /-- PORT_WAKE_PREPARE (R216): Trigger that computes CHECK for the port's 16 patterns and clears STALE. -/
  | portWakePrepare (port : Nat) (a : Acc)
  /-- SEG_CHUNK_FETCH (R214): The segmentation engine takes a reserve buffer when one frees and fetches the next 16 KiB chunk. -/
  | segChunkFetch (data : Bytes)
  /-- PACKET_PARSE (R223): A pass enters its pipe, is parsed, stamped and classified and proceeds to act and enqueue. -/
  | packetParse (pipe : Nat)
  /-- LEARN_NOTICE_INSTALL (R257): A pipe installs a learn or DELETE notice from the ring in ring order. -/
  | learnNoticeInstall (pipe : Nat)
  /-- ROLL_FETCH_ISSUE (R288): A queued Roll read issues when budget units are available. -/
  | rollFetchIssue (pipe : Nat)
  /-- ROLL_FETCH_COMPLETE (R282): A Roll read returns, is installed in the Front Row and the packet re-enters the act stage. -/
  | rollFetchComplete (pipe slot : Nat) (o : MemOutcome)
  /-- FR_PLACEMENT_RETRY (R279): A placement that found no line it may take is retried each cycle. -/
  | frPlacementRetry (pipe : Nat)
  /-- ROLL_HOLD_RELEASE (R287): A held packet is released in the cycle after the packet ahead leaves the Roll stage. -/
  | rollHoldRelease (pipe : Nat)
  /-- FR_WB_WRITE_DONE (R280): A write-buffer line's write completes at its controller and leaves the buffer. -/
  | frWbWriteDone (slot : Nat) (o : MemOutcome)
  /-- ROLL_PROBE (R295): Trigger that computes h1, h2, h3, buckets and tag for the probe key. -/
  | rollProbe (a : Acc)
  /-- ROLL_SEED_SAVE (R298): Trigger that saves the three Roll seeds to the boot store. -/
  | rollSeedSave (a : Acc)
  /-- TT_SELECT (R411): A MAC transmit queue with room receives the next frame chosen by service, subscriber and queue. -/
  | ttSelect (port cls : Nat)
  /-- GATE_ENTRY_CHANGE (R417): The gate cycle reaches the next entry and the open gates change. -/
  | gateEntryChange (port ns : Nat)
  /-- GATE_OVERSIZE_DROP (R419): A frame held for one full CYCLE is dropped. -/
  | gateOversizeDrop (port cls ns : Nat)
  /-- TASK_DISPATCH (R372): The head of the highest ready level is dispatched to the lowest idle tutor. -/
  | taskDispatch (pipe : Nat)
  /-- TASK_PREEMPT (R372): A tutor running a lower level is pre-empted and its state saved. -/
  | taskPreempt (pipe : Nat)
  /-- TASK_RESUME (R372): A pre-empted task resumes on its tutor when no higher task is ready. -/
  | taskResume (t : Nat)
  /-- TASK_HELD_RELEASE (R373): A release held for order is made in the cycle after its last predecessor's. -/
  | taskHeldRelease (pipe : Nat)
  /-- TASK_BUDGET_TRAP (R366): A task runs TASK_CYCLE_LIMIT cycles and takes trap BUDGET. -/
  | taskBudgetTrap (t : Nat)
  /-- MASK_LIMIT_TRAP (R362): A tutor masked for 1,024 cycles takes trap MASK_LIMIT. -/
  | maskLimitTrap (t : Nat)
  /-- TUTOR_HANG (R371): A hung tutor is reset and its tasks reissued or abandoned. -/
  | tutorHang (t : Nat)
  /-- MEM_OP_COMPLETE (R361): An outstanding tutor memory operation completes and writes G31. -/
  | memOpComplete (t : Nat) (o : MemOutcome)
  /-- NEXT (R358): Microword sequencer operation that continues at the incremented address. -/
  | seqNext (t : Nat)
  /-- JUMP (R358): Microword sequencer operation that goes to TARGET if COND holds. -/
  | seqJump (t : Nat)
  /-- CALL (R358): Microword sequencer operation that pushes the return address and goes to TARGET. -/
  | seqCall (t : Nat)
  /-- RETURN (R358): Microword sequencer operation that pops the stack. -/
  | seqReturn (t : Nat)
  /-- DISPATCH (R358): Microword sequencer operation that jumps to TARGET plus a masked register. -/
  | seqDispatch (t : Nat)
  /-- WAIT (R358): Microword sequencer operation that waits for every outstanding memory operation. -/
  | seqWait (t : Nat)
  /-- END (R358): Microword sequencer operation that ends the task. -/
  | seqEnd (t : Nat)
  /-- NOP (R360): ALU operation that does nothing and keeps the flags. -/
  | aluNop (t : Nat)
  /-- ADD (R360): ALU addition. -/
  | aluAdd (t : Nat)
  /-- SUB (R360): ALU subtraction. -/
  | aluSub (t : Nat)
  /-- AND (R360): ALU bitwise and. -/
  | aluAnd (t : Nat)
  /-- OR (R360): ALU bitwise or. -/
  | aluOr (t : Nat)
  /-- XOR (R360): ALU bitwise exclusive or. -/
  | aluXor (t : Nat)
  /-- SHL (R360): ALU shift left. -/
  | aluShl (t : Nat)
  /-- SHR (R360): ALU logical shift right. -/
  | aluShr (t : Nat)
  /-- SAR (R360): ALU arithmetic shift right. -/
  | aluSar (t : Nat)
  /-- MOV (R360): ALU move of the second operand. -/
  | aluMov (t : Nat)
  /-- EXTRACT (R360): ALU bit-field extract. -/
  | aluExtract (t : Nat)
  /-- INSERT (R360): ALU bit-field insert. -/
  | aluInsert (t : Nat)
  /-- CMP (R360): ALU compare setting flags only. -/
  | aluCmp (t : Nat)
  /-- MINU (R360): ALU unsigned minimum. -/
  | aluMinu (t : Nat)
  /-- MAXU (R360): ALU unsigned maximum. -/
  | aluMaxu (t : Nat)
  /-- CLZ (R360): ALU count of leading zeros. -/
  | aluClz (t : Nat)
  /-- MUL (R360): ALU low 64 bits of a product. -/
  | aluMul (t : Nat)
  /-- MULHU (R360): ALU high 64 bits of an unsigned product. -/
  | aluMulhu (t : Nat)
  /-- CRC (R360): ALU CRC-32C state advanced over operand bytes. -/
  | aluCrc (t : Nat)
  /-- BSWAP (R360): ALU byte-order reversal. -/
  | aluBswap (t : Nat)
  /-- POPCNT (R360): ALU population count. -/
  | aluPopcnt (t : Nat)
  /-- LOCAL_READ (R361): Memory operation reading tutor local memory. -/
  | memLocalRead (t : Nat)
  /-- LOCAL_WRITE (R361): Memory operation writing tutor local memory. -/
  | memLocalWrite (t : Nat)
  /-- HV_READ (R361): Memory operation reading the task's header vector and parse result. -/
  | memHvRead (t : Nat)
  /-- REC_READ (R361): Memory operation reading the task's record copy. -/
  | memRecRead (t : Nat)
  /-- REC_WRITE (R365): Memory operation changing the task's record copy, applied at release. -/
  | memRecWrite (t : Nat)
  /-- EP_READ (R361): Memory operation reading the task's endpoint record copy. -/
  | memEpRead (t : Nat)
  /-- EP_WRITE (R361): Memory operation writing the endpoint record copy by read-modify-write. -/
  | memEpWrite (t : Nat)
  /-- TD_READ (R361): Memory operation reading the tutor data region. -/
  | memTdRead (t : Nat)
  /-- TD_WRITE (R361): Memory operation writing the tutor data region. -/
  | memTdWrite (t : Nat)
  /-- TD_ADD (R361): Memory operation atomically adding to the tutor data region. -/
  | memTdAdd (t : Nat)
  /-- PKT_READ (R361): Memory operation reading bytes of the task's frame. -/
  | memPktRead (t : Nat)
  /-- PKT_WRITE (R361): Memory operation writing bytes of the task's frame. -/
  | memPktWrite (t : Nat)
  /-- TABLE (R363): Memory operation running a table command for the tutor. -/
  | memTable (t : Nat)
  /-- DICT_READ (R361): Memory operation reading an object as principal T. -/
  | memDictRead (t : Nat)
  /-- DICT_WRITE (R361): Memory operation writing an object as principal T. -/
  | memDictWrite (t : Nat)
  /-- POOL_ALLOC (R398): Memory operation allocating a pool buffer. -/
  | memPoolAlloc (t : Nat)
  /-- POOL_FREE (R399): Memory operation freeing a pool buffer. -/
  | memPoolFree (t : Nat)
  /-- RING_WRITE (R361): Memory operation appending bytes to the export ring. -/
  | memRingWrite (t : Nat)
  /-- SEND (R364): Memory operation transmitting a frame from local memory. -/
  | memSend (t : Nat)
  /-- RELEASE (R367): SYS operation releasing the task with a verdict and ending it. -/
  | sysRelease (t : Nat)
  /-- CANCEL (R374): SYS operation cancelling a task by handle. -/
  | sysCancel (t : Nat)
  /-- MAKE_READY (R362): SYS operation making a task ready from a task word. -/
  | sysMakeReady (t : Nat)
  /-- TRAP_RETURN (R366): SYS operation restoring the trap frame and resuming. -/
  | sysTrapReturn (t : Nat)
  /-- MASK (R362): SYS operation deferring dispatch interrupts and pre-emption. -/
  | sysMask (t : Nat)
  /-- UNMASK (R362): SYS operation ending MASK. -/
  | sysUnmask (t : Nat)
  /-- FAULT (R362): SYS operation raising trap SOFT_FAULT. -/
  | sysFault (t : Nat)
  /-- EVENT (R362): SYS operation raising EV_TUTOR_USER. -/
  | sysEvent (t : Nat)
  /-- FRAGMENT_WAIT_TIMEOUT (R370): A fragment waiting 2 lessons for its first fragment is sent to the host ring. -/
  | fragmentWaitTimeout (pipe slot : Nat)
  /-- FRAGMENT_ENTRY_EXPIRE (R370): A datagram entry is removed 64 lessons after its last fragment. -/
  | fragmentEntryExpire (pipe : Nat)
  /-- TUTOR_IMAGE_LOAD (R378): Trigger that reads and checks a tutor image for loading. -/
  | tutorImageLoad (a : Acc)
  /-- TUTOR_IMAGE_CHECKED (R377): Image checks finish; a passing image proceeds, a failing one leaves the running image. -/
  | tutorImageChecked
  /-- TUTOR_ENABLE (R371): Writing TUTOR_ENABLE returns an OFFLINE tutor or takes one out of service. -/
  | tutorEnable (t : Nat) (a : Acc)
  /-- POOL_HOST_ALLOC (R403): Host allocation trigger answered in POOL_HOST_RESULT. -/
  | poolHostAlloc (a : Acc)
  /-- POOL_HOST_FREE (R403): Host free trigger answered in POOL_HOST_FREE_STATUS. -/
  | poolHostFree (a : Acc)
  /-- POOL_BITMAP_REPAIR (R402): An uncorrectable bitmap word is rebuilt from owner tags before the next grant. -/
  | poolBitmapRepair (word : Nat)
  /-- MEMCH_ISSUE (R442): A memory controller issues one command chosen by shade and policy. -/
  | memchIssue (ch : Nat) (allowed : List Nat) (ns : Nat)
  /-- MEM_ACCESS_COMPLETE (R437): A read completes and the decoder corrects, passes or reports the word uncorrectable. -/
  | memAccessComplete (ch unit : Nat) (e : EccIn) (ns : Nat)
  /-- MEMCH_COMMAND_TIMEOUT (R449): A command with no completion within 64 periods takes the channel out of service. -/
  | memchCommandTimeout (ch : Nat)
  /-- MEMCH_REFRESH (R445): A bank refresh is placed or forced at its postponement limit. -/
  | memchRefresh (ch bank : Nat) (atLimit : Bool)
  /-- MEMCH_SR_ENTER (R446): A bulk channel idle for MEMCH_SR_IDLE enters self-refresh. -/
  | memchSrEnter (ch ns : Nat)
  /-- ZQ_CALIBRATION_LATCH (R448): Every 64 lessons a ZQ calibration result is latched. -/
  | zqCalibrationLatch (ch : Nat)
  /-- MEMCH_RETRAIN (R449): Trigger that retrains an out-of-service channel. -/
  | memchRetrain (ch : Nat) (a : Acc)
  /-- MEMCH_RETRAIN_DONE (R449): Retraining ends; the channel returns to service or stays out. -/
  | memchRetrainDone (ch : Nat) (found : TrainIn)
  /-- RING_DOORBELL (R465): A doorbell write publishes a producer or consumer index and starts fetching. -/
  | ringDoorbell (ring offset : Nat) (data fetched : Bytes)
  /-- RING_PUSH (R466): A 64-byte push holds ring positions for use at the next doorbell. -/
  | ringPush (ring j : Nat) (data : Bytes) (single : Bool)
  /-- RING_NOP (R468): Descriptor NOP completes with ST_OK when reached. -/
  | ringNop (ring : Nat)
  /-- TX_FRAME (R469): Descriptor that injects or enqueues a host frame. -/
  | txFrame (ring : Nat) (data : Bytes)
  /-- TX_SEG (R470): Descriptor that carries a segmentation request. -/
  | txSeg (ring : Nat) (hdr : Bytes)
  /-- TASK (R471): Descriptor that makes a host task of kind 9 ready. -/
  | ringTask (ring : Nat)
  /-- RX_BUF (R472): Descriptor that posts an empty receive buffer. -/
  | rxBuf (ring : Nat)
  /-- RING_COMPLETION (R473): A finished entry is completed in ring order and RING_CONS advances. -/
  | ringCompletion (ring : Nat)
  /-- RING_ENABLE (R476): Writing 1 to RING_ENABLE checks the settings and enables the ring. -/
  | ringEnable (ring : Nat) (a : Acc)
  /-- RING_DISABLE (R474): Writing 0 to RING_ENABLE stops fetching and discards unstarted entries. -/
  | ringDisable (ring : Nat) (a : Acc)
  /-- RING_DISABLE_COMPLETE (R474): Started entries finish, the head record is written and the ring is DISABLED. -/
  | ringDisableComplete (ring : Nat)
  /-- RING_DMA_FAULT (R475): A PCIe error on a fetch or buffer read stops the ring in FAULT. -/
  | ringDmaFault (ring : Nat)
  /-- EVENT_RECORD_WRITE (R479): A waiting event or notice is written to its event ring when room exists. -/
  | eventRecordWrite
  /-- RING_IRQ (R481): A ring signals MSI-X on its completion count or delay timer. -/
  | ringIrq (ring : Nat) (timer : Bool)
  /-- WINDOW_READ (R461): A BAR0 window read returns device memory, all ones for an uncorrectable unit. -/
  | windowRead (addr len : Nat) (o : List MemOutcome)
  /-- WINDOW_WRITE (R461): A BAR0 window write merges into device memory by read-modify-write. -/
  | windowWrite (addr : Nat) (data : Bytes) (o : List MemOutcome)
  /-- CHK_RUN (R491): Trigger that starts a check-value job from CHK_INIT. -/
  | chkRun (ctx : Nat) (a : Acc)
  /-- CHK_CONTINUE (R491): Trigger that starts a job keeping REG. -/
  | chkContinue (ctx : Nat) (a : Acc)
  /-- CHK_ABORT (R491): Trigger that stops a running job after the unit in progress. -/
  | chkAbort (ctx : Nat) (a : Acc)
  /-- CHK_JOB_COMPLETE (R493): A job ends and its result is compared with CHK_EXPECT when set. -/
  | chkJobComplete (ctx : Nat) (stop : ChkStop)
  /-- TIME_OFFSET_IN (R498): A write of a measured offset for the next servo step, counting overwrites. -/
  | timeOffsetIn (a : Acc)
  /-- TIME_STEP (R501): Trigger of a step amount applied at the next servo step as hard step or slew. -/
  | timeStep (a : Acc)
  /-- TIME_SERVO_RESET (R501): Trigger that zeroes servo output and drift, clears slew and sets FREE. -/
  | timeServoReset (a : Acc)
  /-- TIME_ANCHOR_NS (R503): A write that applies the PTP seconds anchor with TIME_ANCHOR_SEC. -/
  | timeAnchorNs (a : Acc)
  /-- SERVO_HOLDOVER (R502): TIME_HOLDOVER_LESSONS lessons without a servo step put the servo in HOLDOVER. -/
  | servoHoldover
  /-- PPS_OUT_RISE (R504): PPS_OUT rises at each whole second plus offset while the anchor is fresh. -/
  | ppsOutRise (ns : Nat)
  /-- PPS_OUT_FALL (R504): PPS_OUT falls TIME_PPS_OUT_WIDTH after it rose. -/
  | ppsOutFall (ns : Nat)
  /-- PPS_IN_EDGE (R505): A rising edge of PPS_IN is stamped into TIME_PPS_IN_STAMP. -/
  | ppsInEdge (ns : Nat)
  /-- EXPORT_NS (R346): A write that applies the export clock with EXPORT_SECONDS. -/
  | exportNs (a : Acc)
  /-- EXPORT_TEMPLATE_SEND (R346): Template sets are sent every EXPORT_TEMPLATE_INTERVAL lessons. -/
  | exportTemplateSend
  /-- BUDDY_HELLO_RX (R517): A Walger HELLO is checked and the pair joins or the HELLO is refused. -/
  | buddyHelloRx
  /-- BUDDY_PERIOD_RX (R522): A Walger PERIOD frame is received and its batch applied in period order. -/
  | buddyPeriodRx
  /-- BUDDY_FETCH_RX (R529): A Walger FETCH frame is answered with FETCH_REPLY or MISSING. -/
  | buddyFetchRx
  /-- BUDDY_REPLY_RX (R529): A Walger REPLY fills the Front Row line dirty with the delta added. -/
  | buddyReplyRx
  /-- BUDDY_RELAY_RX (R525): A Walger RELAY frame, joined from parts if split, is processed as received on the named port. -/
  | buddyRelayRx
  /-- BUDDY_HANDBACK_RX (R532): A Walger HANDBACK names the bell at which ownership splits. -/
  | buddyHandbackRx
  /-- BUDDY_CREATE_TIMEOUT (R524): No CREATE within BUDDY_CREATE_WAIT and held packets are refused. -/
  | buddyCreateTimeout
  /-- BUDDY_HANDBACK (R532): Trigger that sends HANDBACK while SYNCING. -/
  | buddyHandback (a : Acc)
  /-- PERF_TAG_SEED (R545): A write that loads the tagging LFSR. -/
  | perfTagSeed (pipe : Nat) (a : Acc)
  /-- PERF_TAG_MODE (R548): A write that sets the tag buffer mode and resets its write index. -/
  | perfTagMode (pipe : Nat) (a : Acc)
  /-- PERF_SNAP_ENABLE (R540): A write that enables snapshots and restarts SEQ. -/
  | perfSnapEnable (a : Acc)
  /-- FUNCTION_LEVEL_RESET (R457): A PCIe Function Level Reset written by the host acts as the PCIe reset of R106, resetting configuration space, MSI-X state and class RING. -/
  | functionLevelReset
  /-- PCIE_LINK_UP (R103): PCIe link training completes, PCIE_LINK takes the trained width and rate, and the device begins answering configuration requests. -/
  | pcieLinkUp (width gen : Nat)
  /-- EXPORT_MESSAGE_SEND (R346): A complete IPFIX message leaves the export ring as a UDP frame to EXPORT_PORT or as an item on EXPORT_HOST_RING, freeing ring space. -/
  | exportMessageSend
  /-- POOL_HOST_ANSWER (R403): The answer to a host allocation or free replaces ST_PENDING in POOL_HOST_RESULT or POOL_HOST_FREE_STATUS within 1 µs. -/
  | poolHostAnswer
  /-- TUTOR_IMAGE_TASK_STOP (R378): 1 ms after dispatch stops for an image load, tasks still running are stopped and put back at the head of their levels. -/
  | tutorImageTaskStop
  /-- PLCA_BEACON (R175): With NODEID 0 the device, as PLCA coordinator, sends a beacon carrying PLCA_NODE_COUNT to open each PLCA cycle. -/
  | plcaBeacon
  /-- I2C_STRETCH_TIMEOUT (R556): A target that stretches the board sensor bus clock for more than 10 ms in one byte has its transfer ended by the island with a stop condition. -/
  | i2cStretchTimeout
  deriving DecidableEq, Repr

end Sys2Proof
end

