-- ==== Sys2Proof/Machine/State.lean ====
section
/-!
DEFINITION. The machine's state: the commands that wait, the bell, and the device. `State.reset` is the device right
after the island's power-on reset is released, with the main rails off (R95, R96, R106).
-/
namespace Sys2Proof.Machine

/-- The state: plain data. -/
structure State where
  /-- Commands that wait, first in first out. -/
  pending : List Instr
  bell : BellSt
  dev : Dev
  deriving DecidableEq, Repr

/-- Faults. The spec gives every command of the table an effect, so none ends a run: no command raises a fault. -/
inductive Fault where
  deriving DecidableEq, Repr

/-- Refusals. -/
inductive Refusal where
  /-- Answered by `exec` for a row that has no meaning in the model yet. Safe: the run stops. -/
  | notModelled (mnemonic : String)
  deriving DecidableEq, Repr

/-- The machine right after reset (R95, R106): VAUX present, straps low, nothing saved in the boot store (log 2). -/
def State.reset : State := { pending := [], bell := BellSt.init, dev := Dev.init BootStore.init }

/-- A command that changes the device alone. -/
def State.onDev (s : State) (f : BellSt → Dev → Dev) : Host.Outcome State Fault Refusal :=
  .next { s with dev := f s.bell s.dev }

/-- A command that changes the bell and the device. -/
def State.onBoth (s : State) (f : BellSt → Dev → BellSt × Dev) : Host.Outcome State Fault Refusal :=
  .next { s with bell := (f s.bell s.dev).1, dev := (f s.bell s.dev).2 }

end Sys2Proof.Machine
end

