-- ==== Sys2Proof/Machine/Access.lean ====
section
/-!
DEFINITION. Rights, types and ranges of members, and the order in which a write is judged (R116 to R126, R184).
-/
namespace Sys2Proof.Machine

/-- The member an object ID names (R128, R129); `none` for an undefined ID. -/
def findMember (id : Nat) : Option MemberRow :=
  (rowsOfClass (id / 2 ^ 24)).find? (fun r => decide (id / 256 % 65536 < r.insts) && decide (r.lo ≤ id % 256) && decide (id % 256 ≤ r.hi))

/-- The right a principal has to a member (R120, R121). -/
def MemberRow.right (r : MemberRow) (p : Principal) : Right :=
  match p with
  | .k => r.k
  | .u => r.u
  | .d _ => r.d
  | .t _ => r.t

/-- 64-bit types, which PCIe writes whole (R118). -/
def MType.wide (t : MType) : Bool :=
  match t with
  | .u64 | .s64 | .bits64 | .time64 | .octets8 => true
  | _ => false

/-- Bytes a type uses (R116). -/
def MType.bytes (t : MType) : Nat :=
  match t with
  | .bool | .u8 | .enum8 => 1
  | .u16 => 2
  | .u32 | .s32 | .bits32 => 4
  | _ => 8

/-- The value a write carries for a type: bytes beyond the type are ignored (R116). -/
def MType.cut (t : MType) (v : Nat) : Nat := v % 256 ^ t.bytes

/-- Whether a value lies in a member's stated range (R119). -/
def MemberRow.has (r : MemberRow) (v : Nat) : Bool :=
  (if r.ty = .bool then decide (v ≤ 1) else true) &&
  match r.range with
  | .any => true
  | .between lo hi => decide (lo ≤ v) && decide (v ≤ hi)
  | .zeroOr lo hi => v == 0 || (decide (lo ≤ v) && decide (v ≤ hi))
  | .mult lo hi step => decide (lo ≤ v) && decide (v ≤ hi) && v % step == 0
  | .pow2 lo hi => decide (lo ≤ v) && decide (v ≤ hi) && v == 2 ^ Nat.log2 v
  | .signed lo hi => let x := sgn (8 * r.ty.bytes) v; decide (lo ≤ x) && decide (x ≤ hi)

/-- Classes that answer while the device is not ready (R103). -/
def alwaysClass (c : Nat) : Bool := [0x01, 0x02, 0x03, 0x04, 0x08, 0x78].contains c

/-- Whether a class does not answer: before READY, and between steps 2 and 9 of a restart (R64, R103). -/
def Dev.gate (d : Dev) (c : Nat) : Bool :=
  match d.start.state with
  | .ready | .recess => false
  | .restarting => !d.pins.ready && !alwaysClass c && c != 0x50
  | _ => !alwaysClass c

/-- Whether BAR0 gives no access beyond the classes of R103: until READY rises. -/
def Dev.bar0Closed (d : Dev) : Bool :=
  !d.pins.ready && (match d.start.state with
    | .ready | .recess | .restarting => false
    | _ => true)

/-- TXN_OWNER of a principal (R171). -/
def Principal.owner (p : Principal) : Nat :=
  match p with
  | .k => 1
  | .d s => 0x8000 + s
  | _ => 0

/-- Whether a principal owns the open transaction (R149). -/
def Dev.ownsOpen (d : Dev) (p : Principal) : Bool :=
  decide (d.txn.state = .opened) && p.owner != 0 && d.rd M.TXN_OWNER == p.owner

/-- The role of a Denlys session: 0 observer, 1 operator, 2 engineer (R182). -/
def Dev.role (d : Dev) (s : Nat) : Nat := match d.session s with | some x => x.role | none => 0

/-- Whether a session's role lets it write under a right in a class (R184). -/
def roleWrites (role cls : Nat) (rt : Right) : Bool :=
  role == 2 || (role == 1 && (rt == .rw || rt == .rc || rt == .x) && !([0x02, 0x05, 0x08, 0x70, 0x78].contains cls))

/-- The logic die is out of reset: the main sequence has begun and VCORE_PG has stayed high (R96, R98, R102). -/
def Dev.dieOut (d : Dev) : Bool := d.pins.vcorePg && d.start.island == .running && d.start.state != .mainOff

/-- The logic die runs: it is out of reset, and its clocks are not stopped (R16, R70, R86). -/
def Dev.dieRuns (d : Dev) : Bool := d.dieOut && !d.start.clocksStopped

/-- Recess has begun and READY has not risen again (R88, R90): frames are dropped, and pipes, tutors and TCAMs are gated. -/
def Dev.asleep (d : Dev) : Bool := d.start.recess == .recess || d.start.recess == .waking

/-- A command of the logic die: without the main rails, or with its clocks stopped, nothing happens (R16, R70, R86). -/
def State.onDie (s : State) (f : BellSt → Dev → Dev) : Host.Outcome State Fault Refusal :=
  s.onDev (fun now d => if d.dieRuns then f now d else d)

/-- Checks 1 to 5 of R123 on a write of a value to a member: ST_OK, or the status of the first that fails. -/
def Dev.writeStatus (d : Dev) (a : Acc) (id : Nat) : Nat :=
  match findMember id with
  | none => St.NO_OBJECT
  | some m =>
    let rt := m.right a.who
    if rt = .none ∨ rt = .r then St.ACCESS else
    if (match a.who with | .d s => !roleWrites (d.role s) (id / 2 ^ 24) rt | _ => false) then St.DENLYS_ROLE else
    if a.who = .k ∧ ¬ (a.width = 8 ∨ (a.width = 4 ∧ m.ty.wide = false)) then St.TYPE else
    if rt = .rws ∧ d.ownsOpen a.who = false then St.NO_TXN else
    if (match rt with | .rc | .x => false | _ => !m.has (m.ty.cut a.val) || id == M.POOL_SHARE 0) then St.RANGE else St.OK

/-- The value a write stores: cut to the type, reserved bits left out (R8, R116). -/
def storedValue (id v : Nat) : Nat :=
  match findMember id with
  | some r => (r.ty.cut v) &&& r.mask
  | none => v

/-- A write or trigger of one member (R120 to R123): checks 1 to 5, then what the member's own chapter says, given the
value. A write over PCIe to a class that does not answer, or with the link down, is lost (R64, R103). The status is what
Denlys and tutors are answered with. -/
def Dev.accept (d : Dev) (a : Acc) (id : Nat) (f : Nat → Dev → Nat × Dev) : Nat × Dev :=
  if a.who = .k ∧ (d.start.pcieUp = false ∨ d.gate (id / 2 ^ 24) = true) then (St.OK, d) else
  if d.gate (id / 2 ^ 24) then (St.NOT_READY, d) else
  let st := d.writeStatus a id
  let q := if st = St.OK then f (storedValue id a.val) d else (st, d.countRefused st)
  (q.1, Dev.answer a.who id q)

/-- A trigger member: zero does nothing (R120). -/
def Dev.trigger (d : Dev) (a : Acc) (id : Nat) (f : Nat → Dev → Nat × Dev) : Nat × Dev :=
  d.accept a id (fun v d => if v = 0 then (St.OK, d) else f v d)

end Sys2Proof.Machine
end

