-- ==== Sys2Proof/Machine/Power.lean ====
section
/-!
DEFINITION. AVSBus, the sag governor, THROTTLE_N, admission throttling, temperature and ALERT_N (R73 to R86, R92).
-/
namespace Sys2Proof.Machine

/-- Set bits of ALERT_CAUSE (R92). -/
def Dev.alert (d : Dev) (bits : Nat) : Dev := d.wr M.ALERT_CAUSE (d.rd M.ALERT_CAUSE ||| bits)

/-- ALERT_N is low while any bit of ALERT_CAUSE is set (R92). -/
def Dev.alertLow (d : Dev) : Bool := d.on M.ALERT_CAUSE

/-- SAG_N is low at any step below nominal (R78), while the logic die is out of reset (R96, R111). -/
def Dev.sagLow (d : Dev) : Bool := d.dieOut && d.on M.CLOCK_STEP

/-- The target against which sag is measured, in mV: the lower of two while a change settles (R74). -/
def Dev.sagTarget (d : Dev) : Nat :=
  match d.power.avsOld with
  | some o => min o (d.rd M.VCORE_TARGET)
  | none => d.rd M.VCORE_TARGET

/-- The shortfall of a voltage in µV below the target exceeds a number of percent of the target (R76). -/
def Dev.sagExceeds (d : Dev) (percent uv : Nat) : Bool := decide (percent * (d.sagTarget * 1000) < (d.sagTarget * 1000 - uv) * 100)

/-- The sag of a voltage in µV, in whole units of 0.01 % of the target (R76, R78). -/
def Dev.sagOf (d : Dev) (uv : Nat) : Nat := (d.sagTarget * 1000 - uv) * 10000 / (d.sagTarget * 1000)

/-- The threshold of a step, in percent (R76). -/
def stepThreshold (k : Nat) : Nat := if k = 3 then 7 else if k = 2 then 5 else 3

/-- The step a voltage calls for (R76). -/
def Dev.sagStep (d : Dev) (uv : Nat) : Nat :=
  if d.sagExceeds 7 uv then 3 else if d.sagExceeds 5 uv then 2 else if d.sagExceeds 3 uv then 1 else 0

/-- The slowest step that THROTTLE_N and an AVSBus fault call for (R75, R79, R80). -/
def Dev.stepFloor (d : Dev) : Nat :=
  max (if d.pins.throttleLow then d.rd M.THROTTLE_N_STEP else 0) (b2n d.power.avsFault)

/-- The clock takes a step (R78, R81): changes from step 0 are counted, and the running period's cycles at step 3 noted. -/
def Dev.setStep (d : Dev) (k : Nat) : Dev :=
  let d := d.bumpIf (d.rd M.CLOCK_STEP == 0 && k != 0) M.CNT_SAG_STRETCH
  { d.wr M.CLOCK_STEP k with power := { d.power with someLowest := d.power.someLowest || k == 3, allLowest := d.power.allLowest && k == 3 } }

/-- The lowest of the sensors' readings of VCORE, in µV, which has the largest sag; none is at or above the target (R76). -/
def Dev.lowest (d : Dev) (volts : List Nat) : Nat := volts.foldl min (d.sagTarget * 1000)

/-- SAG_STEP_DOWN (R74, R76, R77, R80): the sag is the largest of the sensors', from their readings in µV. -/
def sagStepDown (volts : List Nat) (d : Dev) : Dev :=
  let uv := d.lowest volts
  (d.raiseTo M.SAG_PEAK (d.sagOf uv)).setStep (max (d.rd M.CLOCK_STEP) (max (d.sagStep uv) d.stepFloor))

/-- SAG_STEP_RECOVER (R77): for 64 cycles no sensor has read less than `uv` µV, whose sag is below the step's threshold, and
nothing else calls for the step. -/
def sagStepRecover (uv : Nat) (d : Dev) : Dev :=
  let k := d.rd M.CLOCK_STEP
  if k ≠ 0 ∧ (d.sagTarget * 1000 - uv) * 100 < stepThreshold k * (d.sagTarget * 1000) ∧ d.stepFloor < k then d.setStep (k - 1) else d

/-- THROTTLE_N_FALL (R79): the ball works only while the main rails are up (R70). -/
def throttleNFall (d : Dev) : Dev :=
  let d : Dev := { d with pins := { d.pins with throttleLow := true } }
  if d.dieRuns then
    let d := (d.bump M.CNT_THROTTLE_PIN).alert 4
    d.setStep (max (d.rd M.CLOCK_STEP) d.stepFloor)
  else d

/-- THROTTLE_N_RISE (R79): the clock recovers from the forced step. -/
def throttleNRise (d : Dev) : Dev := { d with pins := { d.pins with throttleLow := false } }

/-- A write of THROTTLE_N_STEP (R79): it limits the clock at once while THROTTLE_N is low. -/
def throttleStepWrite (v : Nat) (d : Dev) : Nat × Dev :=
  let d := d.wr M.THROTTLE_N_STEP v
  (St.OK, if d.pins.throttleLow && d.dieRuns then d.setStep (max (d.rd M.CLOCK_STEP) v) else d)

/-- AVS_TRANSACTION_FAIL (R75); which transaction failed, a read or a write, is open (log 217). -/
def avsTransactionFail (now : BellSt) (d : Dev) : Dev :=
  let (f, d) := d.fresh
  let read := f % 2 == 0
  let n := d.power.avsFails + 1
  let d := { d.bump M.CNT_AVS_FAULT with power := { d.power with avsFails := n, avsRetry := some read } }
  if n = 3 then
    let d := { d with power := { d.power with avsFault := true } }
    ((d.alert 8).raiseOpen now Ev.AVS_FAULT (oid 3 0)).setStep (max (d.rd M.CLOCK_STEP) d.stepFloor)
  else d

/-- AVS_SETTLE_END (R74): sag is measured against the new target alone. -/
def avsSettleEnd (d : Dev) : Dev := { d with power := { d.power with avsOld := none } }


/-- The target of the fused table at TJ_NOW (R73): a multiple of 5 mV from 720 to 800. -/
def avsWanted (tj : Int) : Nat := max 720 (min 800 ((Config.fusedVcore tj + 4) / 5 * 5))

/-- What an acknowledged read brings (R73): voltage in mV and current in units of 0.1 A; the run of failures ends (R75). -/
def avsReadBack (vcore : Option (Nat × Nat)) (d : Dev) : Dev :=
  match vcore with
  | some (mv, cur) => (d.wr M.VCORE_MEASURED (mv % 65536)).wr M.VCORE_CURRENT (cur % 65536)
  | none => d

/-- A transaction has succeeded: the run of failures and the hold of the clock end (R75). -/
def avsSucceeds (d : Dev) : Dev := { d with power := { d.power with avsFails := 0, avsFault := false } }

/-- Once per lesson (R73): a new target, moved by at most 5 mV, and the read-back. After three failures the last target is
kept (R75). -/
def avsLesson (vcore : Option (Nat × Nat)) (d : Dev) : Dev :=
  let was := d.rd M.VCORE_TARGET
  let want := avsWanted (d.rdS 32 M.TJ_NOW)
  let next := if was < want then was + 5 else if want < was then was - 5 else was
  let d := if next = was ∨ d.power.avsFault = true then d
    else { (d.wr M.VCORE_TARGET next).emit (.avs next) with power := { d.power with avsOld := some was } }
  if vcore.isSome then avsSucceeds (avsReadBack vcore d) else d

/-- A failed AVSBus transaction is retried at the bell (R75): `ack` tells that it is acknowledged this time. -/
def avsRetry (ack : Bool) (vcore : Option (Nat × Nat)) (d : Dev) : Dev :=
  match d.power.avsRetry with
  | none => d
  | some read =>
    let d : Dev := { d.emit (if read then .avsRead else .avs (d.rd M.VCORE_TARGET)) with power := { d.power with avsRetry := none } }
    if ack then avsSucceeds (if read then avsReadBack vcore d else d) else d

/-- The thermal trip (R86): clocks stop, every lane and the PCIe link are idle, and THERMTRIP_N falls. -/
def tripThermal (d : Dev) : Dev :=
  { d.alert 16 with
    pins := { d.pins with thermtrip := true }
    start := { d.start with clocksStopped := true, txIdle := true, pcieUp := false } }

/-- Die sensors read at a bell (R85), and the trip at 120 °C (R86). TJ_PEAK is cleared to 0, so it stays there while every
reading is below 0 °C (log 209). -/
def tempSample (now : BellSt) (temps : List Int) (d : Dev) : Dev :=
  match temps with
  | [] => d
  | t :: r =>
    let tj := r.foldl max t
    let d := d.wrS 32 M.TJ_NOW tj
    let d := if d.rdS 32 M.TJ_PEAK < tj then d.wrS 32 M.TJ_PEAK tj else d
    let above := decide (d.rdS 32 M.THERM_WARN < tj)
    let rise := above && !d.power.warm
    let d := { d with power := { d.power with warm := above } }
    let d := if rise then ((d.bump M.CNT_THERM_WARN).alert 1).raiseOpen now Ev.THERM_WARN (oid 3 0) else d
    if 120000 ≤ tj then tripThermal d else d

/-- Causes that persist are set again at a bell (R92). -/
def alertAgain (d : Dev) : Dev :=
  d.alert (b2n d.power.warm + 2 * d.rd M.THROTTLE_STATE + 4 * b2n d.pins.throttleLow + 8 * b2n d.power.avsFault + 16 * b2n d.pins.thermtrip)

/-- THERMTRIP at a sensor reading (R86). -/
def thermtrip (temp : Int) (d : Dev) : Dev :=
  if 120000 ≤ temp then tripThermal d else d

/-- THERMTRIP_RELEASE (R86, R110): VCORE_PG is low and the hottest sensor is below 100 °C. -/
def thermtripRelease (temp : Int) (d : Dev) : Dev :=
  if d.pins.vcorePg = false ∧ temp < 100000 then { d with pins := { d.pins with thermtrip := false } } else d

/-! ## Admission throttling (R81 to R84) -/

/-- Speed in Gbit/s of a PORT_MODE (R194). -/
def modeGbps (m : Nat) : Nat := [0, 10, 25, 50, 100, 100, 100, 200, 200, 400, 400, 800].getD m 0

/-- Lanes of a PORT_MODE (R194). -/
def modeLanes (m : Nat) : Nat := [0, 1, 1, 1, 4, 2, 1, 4, 2, 8, 4, 8].getD m 0

/-- Speed of a port. -/
def Dev.gbps (d : Dev) (port : Nat) : Nat := modeGbps (d.rd (M.PORT_MODE port))

/-- A pause or PFC frame of the device to a class of a port, with a time in quanta (R83, R389): the destination is the MAC
control address, and the source address is open (log 1). -/
def pauseFrame (d : Dev) (port cls quanta : Nat) : Bytes × Dev :=
  let (src, d) := d.fresh
  let head := toBE 6 0x0180C2000001 ++ toBE 6 (src % 2 ^ 48) ++ toBE 2 0x8808
  let body := if d.rd (M.PORT_FC_MODE port) = 1 then toBE 2 1 ++ toBE 2 quanta
    else toBE 2 0x0101 ++ toBE 2 (2 ^ cls) ++ (List.range 8).flatMap (fun c => toBE 2 (if c = cls then quanta else 0))
  (fit 60 (head ++ body), d)

/-- A transmitter leaves low-power idle (R211): a waiting frame starts PORT_LPI_TW_TX later. -/
def leaveLpi (now : BellSt) (d : Dev) (port : Nat) : Dev :=
  if d.ports.lpi.contains port = false then d else
  let (t, d) := Dev.stamp now d
  { d with ports := { d.ports with
    lpi := d.ports.lpi.filter (· != port)
    waking := SMap.set (fun _ => none) d.ports.waking port (some ((t + d.rd (M.PORT_LPI_TW_TX port) * 1000) % 2 ^ 32)) } }

/-- A frame of the MAC's own leaves on a port, is counted (R220), and brings the port out of low-power idle (R211, log 219). -/
def macSends (now : BellSt) (d : Dev) (port : Nat) (f : Bytes) : Dev :=
  let out := f ++ toLE 4 (crcEth f)
  (((leaveLpi now d port).emit (.frame port out)).bump (M.CNT_TX_FRAMES port)).addTo (M.CNT_TX_BYTES port) out.length

/-- Send a pause or PFC frame and count it; a port whose link is down sends none. -/
def sendPause (now : BellSt) (d : Dev) (port cls quanta counter : Nat) : Dev :=
  if d.on (M.PORT_LINK port) = false then d else
  let (f, d) := pauseFrame d port cls quanta
  (macSends now d port f).bump counter

/-- Whether a class is lossless on a port (R387, R389). -/
def Dev.losslessOn (d : Dev) (port cls : Nat) : Bool :=
  d.on (M.PORT_FC_MODE port) && bitOf (d.rd (M.PORT_LOSSLESS port)) cls

/-- Every lossless class of every port whose link is up, as port × 8 + class. -/
def Dev.losslessClasses (d : Dev) : List Nat :=
  (List.range 2048).filter (fun k => d.losslessOn (k / 8) (k % 8) && d.on (M.PORT_LINK (k / 8)))

/-- One frame for each class with PFC, and one for the port with link pause (R83). -/
def pauseOnce (d : Dev) (ks : List Nat) : List Nat :=
  ks.filter (fun k => d.rd (M.PORT_FC_MODE (k / 8)) != 1 || ks.find? (fun j => j / 8 == k / 8) == some k)

/-- Pause every lossless class (R83); a class stays in the list until the throttling ends (R84). -/
def throttlePause (now : BellSt) (d : Dev) : Dev :=
  let ks := d.losslessClasses
  let d := (pauseOnce d ks).foldl (fun d k => sendPause now d (k / 8) (k % 8) (64 * d.gbps (k / 8)) M.CNT_THROTTLE_PAUSE) d
  { d with power := { d.power with
    paused := d.power.paused ++ ks.filter (fun k => !d.power.paused.contains k)
    pausedAt := now.period.toNat } }

/-- THROTTLE_PAUSE_REFRESH (R83): 16 periods after the last pause frames. -/
def throttlePauseRefresh (now : BellSt) (d : Dev) : Dev :=
  if d.on M.THROTTLE_STATE ∧ 16 ≤ (now.period.toNat + 2 ^ 32 - d.power.pausedAt % 2 ^ 32) % 2 ^ 32 then throttlePause now d else d

/-- Cells a class of a port holds toward its ingress limit (R385). -/
def Dev.ingressHeld (d : Dev) (port cls : Nat) : Nat := SMap.get zeroAt d.switch.ingress (port * 8 + cls)

/-- A pipe's admission cutoff (R82). -/
def Dev.cutoff (d : Dev) (p : Nat) : Nat := SMap.get zeroAt d.power.cutoff p

/-- THROTTLE_CUTOFF shows the highest cutoff (R82). -/
def showCutoff (d : Dev) : Dev := d.wr M.THROTTLE_CUTOFF ((List.range 16).foldl (fun m p => max m (d.cutoff p)) 0)

/-- The cutoffs at a bell (R82): up where the pipe had slots starved by the sag throttle, otherwise down. -/
def cutoffUpdate (d : Dev) (starved : List Nat) : Dev :=
  showCutoff { d with power := { d.power with cutoff := (List.range 16).foldl (fun m p =>
    SMap.set zeroAt m p (if starved.contains p then min 7 (d.cutoff p + 1) else d.cutoff p - 1)) d.power.cutoff } }

/-- The start of throttling (R81). -/
def throttleStart (now : BellSt) (d : Dev) : Dev :=
  let d := ((d.wr M.THROTTLE_STATE 1).alert 2).raiseOpen now Ev.SAG_THROTTLE (oid 3 0)
  throttlePause now (showCutoff { d with power := { d.power with cutoff := (List.range 16).map (fun p => (p, 1)) } })

/-- The end of throttling (R84): a pause time of zero on each class it paused. -/
def throttleEnd (now : BellSt) (d : Dev) : Dev :=
  let d := (pauseOnce d d.power.paused).foldl (fun d k => sendPause now d (k / 8) (k % 8) 0 M.CNT_THROTTLE_PAUSE) d
  { d.wr M.THROTTLE_STATE 0 with power := { d.power with paused := [] } }

/-- Admission throttling at a bell (R80 to R84), for the period that ends. -/
def throttleBell (now : BellSt) (d : Dev) : Dev :=
  let some3 := d.power.someLowest
  let all3 := d.power.allLowest
  let run := if all3 then d.power.lowestRun + 1 else 0
  let d := d.bumpIf some3 M.CNT_LOWEST_STEP_PERIODS
  let at3 := d.rd M.CLOCK_STEP == 3
  let d := { d with power := { d.power with lowestRun := run, someLowest := at3, allLowest := at3 } }
  if d.on M.THROTTLE_STATE then
    let d := d.bump M.CNT_THROTTLE_PERIODS
    let d := cutoffUpdate d d.power.starved
    if some3 = false ∧ d.rd M.THROTTLE_CUTOFF = 0 then throttleEnd now d else d
  else if all3 ∧ d.rd M.THROTTLE_AFTER ≤ run then throttleStart now d else d

/-! ## Commands -/

/-- AVS_TRANSACTION_FAIL (R75). -/
def execAvsTransactionFail (s : State) : Host.Outcome State Fault Refusal :=
  s.onDev (fun now d => if d.start.island.answers then avsTransactionFail now d else d)

/-- AVS_SETTLE_END (R74). -/
def execAvsSettleEnd (s : State) : Host.Outcome State Fault Refusal :=
  s.onDev (fun _ d => avsSettleEnd d)

/-- THERMTRIP (R86). -/
def execThermtrip (temp : Int) (s : State) : Host.Outcome State Fault Refusal :=
  s.onDev (fun _ d => thermtrip temp d)

/-- THERMTRIP_RELEASE (R86). -/
def execThermtripRelease (temp : Int) (s : State) : Host.Outcome State Fault Refusal :=
  s.onDev (fun _ d => thermtripRelease temp d)

/-- SAG_STEP_DOWN (R76). -/
def execSagStepDown (volts : List Nat) (s : State) : Host.Outcome State Fault Refusal :=
  s.onDie (fun _ d => sagStepDown volts d)

/-- SAG_STEP_RECOVER (R77). -/
def execSagStepRecover (uv : Nat) (s : State) : Host.Outcome State Fault Refusal :=
  s.onDie (fun _ d => sagStepRecover uv d)

/-- THROTTLE_N_FALL (R79). -/
def execThrottleNFall (s : State) : Host.Outcome State Fault Refusal :=
  s.onDev (fun _ d => throttleNFall d)

/-- THROTTLE_N_RISE (R79). -/
def execThrottleNRise (s : State) : Host.Outcome State Fault Refusal :=
  s.onDev (fun _ d => throttleNRise d)

/-- THROTTLE_PAUSE_REFRESH (R83). -/
def execThrottlePauseRefresh (s : State) : Host.Outcome State Fault Refusal :=
  s.onDie (fun now d => throttlePauseRefresh now d)

end Sys2Proof.Machine
end

