-- ==== Sys2Proof/Machine/Ecc.lean ====
section
/-!
DEFINITION. The protection code (R434 to R437): RS(36,32) over GF(2^8), its check symbols, its syndromes, and where a
symbol travels in an LPDDR6 burst.
-/
namespace Sys2Proof.Machine

/-- Multiplication by α = 0x02 in GF(2^8) with the field polynomial 0x11D (R434). -/
def gfDouble (a : Nat) : Nat := let b := a * 2; if 256 ≤ b then b ^^^ 0x11D else b

/-- Multiplication in GF(2^8), over the bits of the second factor from the top down. -/
def gfMul (a b : Nat) : Nat := (List.range 8).foldl (fun r i => gfDouble r ^^^ (if b.testBit (7 - i) then a else 0)) 0

/-- The coefficients of g(x) below x^4, highest first (R434): (x + 1)(x + 2)(x + 4)(x + 8). -/
def rsGen : List Nat := [0x0F, 0x36, 0x78, 0x40]

/-- One data symbol into the remainder of the division by g(x), highest coefficient first. -/
def rsStep (rem : List Nat) (d : Nat) : List Nat :=
  let top := d ^^^ rem.headD 0
  (List.range 4).map (fun i => rem.getD (i + 1) 0 ^^^ gfMul top (rsGen.getD i 0))

/-- The check symbols c_0 to c_3 of 32 data symbols (R434). -/
def rsCheck (data : List Nat) : List Nat := data.foldl rsStep [0, 0, 0, 0]

/-- Syndrome j of 36 symbols: C(α^j), by Horner's rule. -/
def rsSyndrome (word : List Nat) (j : Nat) : Nat := word.foldl (fun acc c => gfMul acc (2 ^ j) ^^^ c) 0

/-- What the syndromes of a word show (R437): no error, one symbol in error (its position and value), or more. -/
inductive Decoded where
  | clean
  | symbol (position value : Nat)
  | uncorrectable
  deriving DecidableEq, Repr

/-- α to a power. -/
def gfPow (n : Nat) : Nat := (List.range n).foldl (fun a _ => gfDouble a) 1

/-- The decoder of R437: an error of value `e` at position k gives syndromes e·α^(j(35−k)). -/
def rsDecode (word : List Nat) : Decoded :=
  let s := (List.range 4).map (rsSyndrome word)
  if s.all (· == 0) then .clean else
  match (List.range 36).find? (fun k =>
    let x := gfPow (35 - k)
    (List.range 4).all (fun j => s.getD j 0 == (List.range j).foldl (fun a _ => gfMul a x) (s.getD 0 0))) with
  | some k => .symbol k (s.getD 0 0)
  | none => .uncorrectable

/-- A code word as it is stored: its 32 data symbols and the check symbols over them (R434, R435). -/
def rsWord (data : List Nat) : List Nat := data ++ rsCheck data

/-- The shortened code word of a narrower protected word (R435): the missing data symbols are zero and are not stored. -/
def rsShort (data : List Nat) : List Nat := data ++ rsCheck (data ++ List.replicate (32 - data.length) 0)

/-- The bank of a 64-byte line of the stacked SRAM, of 1,024 (R450), and the buckets whose tags a code word of the tag band holds. -/
def sramBank (line : Nat) : Nat := line % 1024
def tagWordBuckets (word : Nat) : List Nat := (List.range 8).map (8 * word + ·)

/-- Pin of its sub-channel and beat of bit `i` of symbol `k` of a code word in a burst (R436). -/
def symbolPlace (k i : Nat) : Nat × Nat := (k / 3, 8 * (k % 3) + i)

/-- The errors in the 36 symbols of a code word whose burst has some wrong bits (R436). -/
def rsErrors (bits : List (Nat × Nat)) : List Nat :=
  (List.range 36).map (fun k => ((List.range 8).map (fun i => if bits.contains (symbolPlace k i) then 2 ^ i else 0)).sum)

/-- What the decoder finds in a code word whose burst has some wrong bits (R437): the code is linear, so the syndromes of a stored word
with errors are those of the errors alone. -/
def decodeBurst (bits : List (Nat × Nat)) : Decoded := rsDecode (rsErrors bits)

end Sys2Proof.Machine
end

