-- ==== Sys2Proof/Machine/Records.lean ====
section
/-!
DEFINITION. Flow records (R267 to R277): keys, hashes, buckets and the fields of a record. A record is the number whose
bit 8k + j is bit j of byte k (R275): 512 bits for one slot, 1,024 with its tail (R276).
-/
namespace Sys2Proof.Machine

/-- The ports the key takes (R270). -/
def keyPorts (h : Hdr) : Nat × Nat :=
  if h.l4Type = 1 ∨ h.l4Type = 2 then (h.l4Src, h.l4Dst)
  else if h.l4Type = 3 then (if h.icmpType = 8 then (h.icmpId, 0) else if h.icmpType = 0 then (0, h.icmpId) else (0, 0))
  else if h.l4Type = 4 then (if h.icmpType = 128 then (h.icmpId, 0) else if h.icmpType = 129 then (0, h.icmpId) else (0, 0))
  else (0, 0)

/-- Normalise two endpoints (R270): the key, and DIR (false when the source is side A). -/
def normalise (v6 : Bool) (proto src sport dst dport : Nat) : FlowKey × Bool :=
  if src < dst ∨ (src = dst ∧ sport ≤ dport) then
    ({ v6, proto, addrA := src, addrB := dst, portA := sport, portB := dport }, false)
  else ({ v6, proto, addrA := dst, addrB := src, portA := dport, portB := sport }, true)

/-- The key of a packet (R270). -/
def flowKey (h : Hdr) : FlowKey × Bool :=
  normalise (h.l3 == 2) h.proto h.ipSrc (keyPorts h).1 h.ipDst (keyPorts h).2

/-- The key block of R271. -/
def FlowKey.block (k : FlowKey) : Bytes :=
  [if k.v6 then 6 else 4, toByte k.proto, 0, 0] ++ toBE 16 k.addrA ++ toBE 16 k.addrB ++ toBE 2 k.portA ++ toBE 2 k.portB

/-- The key of a key block. -/
def FlowKey.ofBlock (b : Bytes) : FlowKey :=
  { v6 := byteAt b 0 == 6, proto := byteAt b 1, addrA := beAt b 4 16, addrB := beAt b 20 16, portA := beAt b 36 2, portB := beAt b 38 2 }

/-- A CRC-32C of the key block with its initial value replaced by a seed (R272, R488). -/
def seededHash (seed : Nat) (b : Bytes) : Nat := crcOut 32 true true (crcFeed 32 0x1EDC6F41 true seed b)

/-- Roll slots of a palette (R48): 0 Indigo, 1 Teal, 2 Amber, 3 Slate. -/
def rollSlots (palette : Nat) : Nat :=
  if palette = 0 then 268435456 else if palette = 1 then 134217728 else if palette = 2 then 67108864 else 33554432

/-- Front Row lines of a palette (R48). -/
def frLines (palette : Nat) : Nat :=
  if palette = 0 then 4194304 else if palette = 1 then 5242880 else if palette = 2 then 4194304 else 3145728

/-- Packet-buffer cells of a palette (R48). -/
def bufCells (palette : Nat) : Nat :=
  if palette = 0 then 524288 else if palette = 1 then 786432 else if palette = 2 then 1310720 else 786432

/-- Buckets of a palette (R267). -/
def rollBuckets (palette : Nat) : Nat := rollSlots palette / 4

/-- Front Row sets of a palette (R278). -/
def frSets (palette : Nat) : Nat := frLines palette / 16

/-- A record without its reserved bits, which read zero (R8, R275, R276). -/
def recClean (r : Nat) : Nat := setFld (setFld (setFld r 152 5 0) 512 16 0) 1016 4 0

/-- Home and second bucket (R272). -/
def bucketsOf (nb h1 h2 : Nat) : Nat × Nat :=
  let home := h1 % nb
  let second := h2 % nb
  (home, if second = home then home ^^^ 1 else second)

/-- The tag of a key (R272). -/
def tagOf (h3 : Nat) : Nat := 1 + h3 / 65536 % 255

/-- The candidate slots of a key in order: home positions, then second positions, with a matching tag (R274). -/
def candidateSlots (tags : SMap Nat) (home second tag : Nat) : List Nat :=
  ((List.range 4).map (4 * home + ·) ++ (List.range 4).map (4 * second + ·)).filter (fun s => SMap.get (fun _ => 0) tags s == tag)

/-! ## Record fields (R275 to R277) -/

/-- A field of a record. -/
abbrev rf (r lo w : Nat) : Nat := fld r lo w

def recValid (r : Nat) : Bool := bitOf r 511
def recKind (r : Nat) : Nat := fld r 509 2
def recV6 (r : Nat) : Bool := bitOf r 508
def recPending (r : Nat) : Bool := bitOf r 504
def recRseq (r : Nat) : Nat := fld r 496 8
def recProto (r : Nat) : Nat := fld r 488 8
def recLastHit (r : Nat) : Nat := fld r 344 24
def recDgen (r : Nat) : Nat := fld r 328 16
def recAction (r : Nat) : Nat := fld r 324 4
def recClass (r : Nat) : Nat := fld r 321 3
def recSvc (r : Nat) : Nat := fld r 317 4
def recMeterEn (r : Nat) : Bool := bitOf r 316
def recMeter (r : Nat) : Nat := fld r 300 16
def recZone (r : Nat) : Nat := fld r 292 8
def recRule (r : Nat) : Nat := fld r 277 15
def recEndpoint (r : Nat) : Nat := fld r 253 24
def recEndpointB (r : Nat) : Bool := bitOf r 252
def recTcpState (r : Nat) : Nat := fld r 248 4
def recTcpSeen (r : Nat) : Nat := fld r 244 4
def recSvcKind (r : Nat) : Nat := fld r 242 2
def recSvcState (r : Nat) : Nat := fld r 210 32
def recLinkSlot (r : Nat) : Nat := fld r 182 28
def recLastExport (r : Nat) : Nat := fld r 158 24
def recRuleMiss (r : Nat) : Bool := bitOf r 157
def recRedirect (r : Nat) : Nat := fld r 144 8
def recSvcState2 (r : Nat) : Nat := fld r 784 32
/-- PRIMARY_SLOT of a link (R277). -/
def recPrimary (r : Nat) : Nat := fld r 364 28

/-- SVC bits (R275): 3 NAPT44, 2 load balancing, 1 filtering, 0 export. -/
def recHasNat (r : Nat) : Bool := bitOf r 320
def recHasLb (r : Nat) : Bool := bitOf r 319
def recHasFilter (r : Nat) : Bool := bitOf r 318
def recHasExport (r : Nat) : Bool := bitOf r 317

/-- Whether a record's kind takes two slots (R269): extended, or a link of an IPv6 key. -/
def recTwoSlots (r : Nat) : Bool := recKind r == 1 || (recKind r == 3 && recV6 r)

/-- The key of a record, from its head and, for two slots, its tail. -/
def recKey (r : Nat) : FlowKey :=
  let hiA := if recTwoSlots r then fld r 912 96 else 0
  let hiB := if recTwoSlots r then fld r 816 96 else 0
  { v6 := recV6 r, proto := recProto r, addrA := hiA * 2 ^ 32 + fld r 456 32, addrB := hiB * 2 ^ 32 + fld r 424 32,
    portA := fld r 408 16, portB := fld r 392 16 }

/-- A record with its key fields, VALID and KIND written, tail included where the kind takes one. -/
def recWithKey (r kind : Nat) (k : FlowKey) : Nat :=
  let r := setFld (setFld (setFld (setFld r 511 1 1) 509 2 kind) 508 1 (b2n k.v6)) 488 8 k.proto
  let r := setFld (setFld (setFld (setFld r 456 32 k.addrA) 424 32 k.addrB) 408 16 k.portA) 392 16 k.portB
  if kind = 1 ∨ (kind = 3 ∧ k.v6) then
    setFld (setFld (setFld (setFld (setFld (setFld r 1023 1 1) 1021 2 2) 1020 1 (b2n k.v6)) 1008 8 (fld r 496 8)) 912 96 (k.addrA / 2 ^ 32))
      816 96 (k.addrB / 2 ^ 32)
  else fld r 0 512

/-- The record with a new RSEQ, in head and tail (R276, R313). -/
def recSetRseq (r v : Nat) : Nat :=
  let r := setFld r 496 8 v
  if recTwoSlots r then setFld r 1008 8 v else r

/-- What a served packet adds to a record (R301): its direction's counters and LAST_HIT. -/
def recCount (r : Nat) (dir : Bool) (bytes lesson : Nat) : Nat :=
  let r := setFld r 344 24 lesson
  if dir then setFld (setFld r 80 32 (fld r 80 32 + 1)) 0 40 (fld r 0 40 + bytes)
  else setFld (setFld r 112 32 (fld r 112 32 + 1)) 40 40 (fld r 40 40 + bytes)

/-- TCP_SEEN after a packet of side B (`dir`) with TCP flags (R301): SYN and FIN bits of the sender, both FINs on RST. -/
def recSeen (r : Nat) (dir : Bool) (flags : Nat) : Nat :=
  if recProto r ≠ 6 then r else
  let r := if bitOf flags 1 then setFld r (if dir then 246 else 247) 1 1 else r
  let r := if bitOf flags 0 then setFld r (if dir then 244 else 245) 1 1 else r
  if bitOf flags 2 then setFld (setFld r 245 1 1) 244 1 1 else r

/-- Which timeout member a record ages under (R303). -/
def recTimeoutId (r : Nat) : Nat :=
  if recProto r = 6 then
    (if recTcpSeen r = 12 then M.ROLL_AGE_TCP_EST else M.ROLL_AGE_TCP_OTHER)
  else if recProto r = 17 then M.ROLL_AGE_UDP else M.ROLL_AGE_OTHER

/-- Elapsed lessons (R35). -/
def lessonsSince (now was : Nat) : Nat := (now + 2 ^ 24 - was % 2 ^ 24) % 2 ^ 24

/-- The expiry test of R304. -/
def recExpired (r t lesson : Nat) : Bool :=
  let dl := lessonsSince lesson (recLastHit r)
  decide (t ≠ 0) && (decide (2 ^ 23 ≤ dl) || decide (t < dl))

end Sys2Proof.Machine
end

