-- ==== Sys2Proof/Machine/Ed25519.lean ====
section
/-!
DEFINITION. Ed25519 verification (R377: RFC 8032, PureEdDSA), with SHA-512 on bytes. The constants of SHA-512 are computed from the
primes, as its standard defines them.
-/
namespace Sys2Proof.Machine

/-! ## SHA-512 -/

/-- The largest number of `n` bits whose power `k` is at most `v`. -/
def rootOf (k n v : Nat) : Nat := (List.range n).reverse.foldl (fun r i => if (r + 2 ^ i) ^ k ≤ v then r + 2 ^ i else r) 0

/-- The first 80 primes. -/
def primes80 : List Nat := (List.range 410).filter (fun n => decide (2 ≤ n) && (List.range n).all (fun d => decide (d < 2) || n % d != 0))

/-- The constants of the rounds, and the hash before the first block: fractions of cube roots and of square roots. -/
def sha512Consts : List (BitVec 64) := primes80.map (fun p => BitVec.ofNat 64 (rootOf 3 68 (p * 2 ^ 192)))
def sha512Init : List (BitVec 64) := (primes80.take 8).map (fun p => BitVec.ofNat 64 (rootOf 2 70 (p * 2 ^ 128)))

/-- The exclusive or of a double word turned right by each of several amounts. -/
def spun (x : BitVec 64) (amounts : List Nat) : BitVec 64 := amounts.foldl (fun acc k => acc ^^^ x.rotateRight k) 0

/-- The message schedule of a block, grown by one word at a time from its last sixteen. -/
def sha512Schedule (n : Nat) (ws : List (BitVec 64)) : List (BitVec 64) :=
  match n with
  | 0 => ws
  | n + 1 =>
    let back (k : Nat) : BitVec 64 := ws.getD (ws.length - k) 0
    let next := back 16 + back 7 + (spun (back 15) [1, 8] ^^^ back 15 >>> 7) + (spun (back 2) [19, 61] ^^^ back 2 >>> 6)
    sha512Schedule n (ws ++ [next])

/-- One round on the eight working words: `kw` is the sum of its constant and its schedule word. -/
def sha512Round (s : List (BitVec 64)) (kw : BitVec 64) : List (BitVec 64) :=
  let v (i : Nat) : BitVec 64 := s.getD i 0
  let one := v 7 + spun (v 4) [14, 18, 41] + (v 6 ^^^ (v 4 &&& (v 5 ^^^ v 6))) + kw
  let two := spun (v 0) [28, 34, 39] + ((v 0 &&& v 1) ||| (v 2 &&& (v 0 ||| v 1)))
  [one + two, v 0, v 1, v 2, v 3 + one, v 4, v 5, v 6]

/-- One block of 128 bytes. -/
def sha512Block (consts hash : List (BitVec 64)) (b : Bytes) : List (BitVec 64) :=
  let ws := sha512Schedule 64 ((List.range 16).map (fun i => BitVec.ofNat 64 (beAt b (8 * i) 8)))
  let e := (List.zipWith (· + ·) consts ws).foldl sha512Round hash
  List.zipWith (· + ·) hash e

/-- SHA-512 of a message. -/
def sha512 (m : Bytes) : Bytes :=
  let p := m ++ [0x80] ++ List.replicate ((239 - m.length % 128) % 128) 0 ++ toBE 16 (8 * m.length)
  let consts := sha512Consts
  ((List.range (p.length / 128)).foldl (fun h i => sha512Block consts h (slice p (128 * i) 128)) sha512Init).flatMap (fun w => toBE 8 w.toNat)

/-! ## The curve -/

/-- The field's prime, and the order of the base point. -/
def edP : Nat := 2 ^ 255 - 19
def edL : Nat := 2 ^ 252 + 27742317777372353535851937790883648493

/-- A power modulo the prime, of an exponent of at most `bits` bits. -/
def edPow (bits b e : Nat) : Nat :=
  match bits with
  | 0 => 1
  | n + 1 => let h := edPow n (b * b % edP) (e / 2); if e % 2 = 1 then b * h % edP else h

/-- The inverse in the field, and a difference. -/
def edInv (x : Nat) : Nat := edPow 255 x (edP - 2)
def edSub (a b : Nat) : Nat := (a + edP - b % edP) % edP

/-- The curve's constant. -/
def edD : Nat := (edP - 121665) * edInv 121666 % edP

/-- A point in extended homogeneous coordinates: x = X / Z, y = Y / Z and x × y = T / Z. -/
structure EdPoint where
  x : Nat
  y : Nat
  z : Nat
  t : Nat
  deriving DecidableEq, Repr

def EdPoint.zero : EdPoint := { x := 0, y := 1, z := 1, t := 0 }

/-- The sum of two points, `k` being twice the curve's constant. -/
def EdPoint.add (k : Nat) (p q : EdPoint) : EdPoint :=
  let a := edSub p.y p.x * edSub q.y q.x % edP
  let b := (p.y + p.x) * (q.y + q.x) % edP
  let c := p.t * k % edP * q.t % edP
  let d := 2 * p.z * q.z % edP
  let e := edSub b a
  let f := edSub d c
  { x := e * f % edP, y := (d + c) * (b + a) % edP, z := f * (d + c) % edP, t := e * (b + a) % edP }

/-- A multiple of a point, by a number of at most `bits` bits. -/
def EdPoint.mul (k bits n : Nat) (p : EdPoint) : EdPoint :=
  match bits with
  | 0 => .zero
  | b + 1 =>
    let h := EdPoint.mul k b (n / 2) (p.add k p)
    if n % 2 = 1 then h.add k p else h

/-- Whether two points are one. -/
def EdPoint.same (p q : EdPoint) : Bool := p.x * q.z % edP == q.x * p.z % edP && p.y * q.z % edP == q.y * p.z % edP

/-- The point of a y coordinate and the parity of x; `none` where the curve has none. -/
def edLift (y sign : Nat) : Option EdPoint :=
  if edP ≤ y then none else
  let u := edSub (y * y) 1
  let v := (edD * (y * y % edP) + 1) % edP
  let v3 := v * v % edP * v % edP
  let x := u * v3 % edP * edPow 255 (u * v3 % edP * (v3 * v % edP) % edP) ((edP - 5) / 8) % edP
  let check := v * (x * x % edP) % edP
  let root := if check = u then some x else if check = edSub 0 u then some (x * edPow 255 2 ((edP - 1) / 4) % edP) else none
  match root with
  | none => none
  | some x =>
    if x = 0 ∧ sign = 1 then none else
    let x := if x % 2 = sign then x else edP - x
    some { x, y, z := 1, t := x * y % edP }

/-- A point from its 32 bytes. -/
def edDecode (b : Bytes) : Option EdPoint := let v := leVal (fit 32 b); edLift (v % 2 ^ 255) (v / 2 ^ 255)

/-- Whether a signature of 64 bytes over a message verifies under a public key of 32 (RFC 8032, 5.1.7). -/
def ed25519Verifies (key m sig : Bytes) : Bool :=
  let k := 2 * edD % edP
  let s := leVal (slice sig 32 32)
  match edDecode key, edDecode (slice sig 0 32), edLift (4 * edInv 5 % edP) 0 with
  | some a, some r, some b =>
    let h := leVal (sha512 (slice sig 0 32 ++ fit 32 key ++ m)) % edL
    sig.length == 64 && decide (s < edL) && (EdPoint.mul k 4 8 (b.mul k 253 s)).same (EdPoint.mul k 4 8 (r.add k (a.mul k 253 h)))
  | _, _, _ => false

end Sys2Proof.Machine
end

