-- ==== Sys2Proof/Machine/Image.lean ====
section
/-!
DEFINITION. Tutor images (R376, R377): the layout, the checks in their order, and what a load puts into the control stores.
-/
namespace Sys2Proof.Machine

/-- The bytes a header of an image signs (R376). -/
def imageSigned (bs : Bytes) : Bytes := bs.take (256 + 24 * leAt bs 12 4)

/-- Check 1 of R377. -/
def imageFormatOk (bs : Bytes) : Bool :=
  let w := leAt bs 12 4
  slice bs 0 4 == [0x47, 0x54, 0x55, 0x54] && leAt bs 4 2 == 1 && decide (16 ≤ w) && decide (w ≤ 32768) && bs.length == 320 + 24 * w

/-- Check 3 of R377: the image's last 64 bytes are an Ed25519 signature of the bytes before them under the key of its slot. -/
def imageSigOk (slot : Nat) (bs : Bytes) : Bool :=
  ed25519Verifies (Config.publicKey slot) (imageSigned bs) (bs.drop (256 + 24 * leAt bs 12 4))

/-- The checks of R377 in order: ST_OK or the status of the first that fails. -/
def imageStatus (bs : Bytes) : Nat :=
  if imageFormatOk bs = false then St.TUTOR_IMAGE_FORMAT else
  let slot := byteAt bs 8
  if 1 < slot ∨ (slot = 1 ∧ ¬ (Config.customerKeyFused = true ∧ bitOf Config.features 8 = true)) ∨ (slot = 0 ∧ Config.keyPolicyCustomerOnly = true) then
    St.TUTOR_KEY_SLOT else
  if imageSigOk slot bs = false then St.TUTOR_SIG_FAIL else
  if byteAt bs 6 ≠ 1 ∨ 2 < byteAt bs 7 then St.TUTOR_ABI else St.OK

/-- The words of an image from one index up, with zero words left unlisted. -/
def imageWords (bs : Bytes) (i : Nat) (n : Nat) : SMap Nat :=
  match n with
  | 0 => []
  | n + 1 =>
    let w := leAt bs (256 + 24 * i) 24
    if w = 0 then imageWords bs (i + 1) n else (i, w) :: imageWords bs (i + 1) n

/-- What a checked image holds (R376). An image of the boot store that is signed under the Raneus key gives the kinds of R369 their
native services; one under the customer's key runs its own words. -/
def Image.ofBytes (native : Bool) (bs : Bytes) : Image :=
  let w := leAt bs 12 4
  { minor := byteAt bs 7, version := leAt bs 16 4, words := w, entry := (List.range 64).map (fun k => leAt bs (32 + 2 * k) 2),
    store := imageWords bs 0 w, native := native && byteAt bs 8 == 0 }

/-- An image stands in every control store: its version and ABI are shown (R378). -/
def Dev.withImage (d : Dev) (i : Image) : Dev :=
  ({ d with tutors := { d.tutors with image := some i, storeBad := [] } }.wr M.TUTOR_IMAGE_VERSION i.version).wr M.TUTOR_ABI (256 + i.minor)

end Sys2Proof.Machine
end

