-- ==== Sys2Proof/Machine/Startup.lean ====
section
/-!
DEFINITION. Start-up, resets and absence (R93 to R115), palettes and the data-path restart (R47 to R65).
-/
namespace Sys2Proof.Machine

/-- START_STATE changes. -/
def Dev.goes (d : Dev) (st : StartState) : Dev := { d with start := { d.start with state := st } }

/-- The READY ball. -/
def Dev.setReady (d : Dev) (b : Bool) : Dev := { d with pins := { d.pins with ready := b } }

/-- Bits set among the low 16. -/
def popcount16 (v : Nat) : Nat := ((List.range 16).filter (fun i => bitOf v i)).length

/-- The rule of R54 on a latched pair, reserved bits of the gate mask included (R61). PIPE_GATE_NEXT stores none of its
reserved bits (R8), so that the second half of the check can fail only on a value a boot store holds (log 202). -/
def gateRuleOk (palette gate : Nat) : Bool :=
  decide (gate < 2 ^ 16) && (if palette = 3 then decide (2 ≤ popcount16 gate) && decide (popcount16 gate ≤ 12) else gate == 0)

/-- Bytes of the host region of a palette (R50). -/
def hostRegionBytes (palette : Nat) : Nat :=
  (if palette = 0 then 12 else if palette = 1 then 19 else if palette = 2 then 20 else 26) * 2 ^ 30

/-- Whether a channel is a bulk channel of a palette (R52). -/
def bulkChannel (palette ch : Nat) : Bool := palette == 3 && decide (8 ≤ ch)

/-! ## What each reset initialises (R63, R106, R107) -/

/-- Classes a data-path restart keeps (R63). -/
def restartKeeps (c : Nat) : Bool := [0x01, 0x02, 0x03, 0x04, 0x08, 0x50, 0x78].contains c

/-- Classes a main power-up keeps (R106). -/
def powerUpKeeps (c : Nat) : Bool := [0x01, 0x02, 0x03, 0x78].contains c

/-- Where BAR0's MSI-X table and pending bits stand in the block areas (R458). -/
def msixArea (a : Nat) : Bool := decide (0x0A000000 ≤ a) && decide (a < 0x0A001000)

/-- The data path as a data-path restart initialises it (R63): every object outside the classes kept, and every table
and memory of R63. Waiting events are never discarded (R480), the interfaces' words are kept (R564), and so is the state of
the PCIe link with its MSI-X table (R106, logs 203 and 204), and a snapshot whose copy-out is carried over the bell (R566). -/
def resetDataPath (d : Dev) : Dev :=
  { d with
    reg := SMap.clear d.reg (fun id => !restartKeeps (id / 2 ^ 24) && id != M.PCIE_LINK)
    area := SMap.clear d.area (fun a => !(decide (0x05000000 ≤ a) && decide (a < 0x06000000)) && !msixArea a)
    tabs := [], tcamCopies := [], tcamBad := [], txn := Txn.init
    roll := RollSt.init (d.rd M.ROLL_SEED_1) (d.rd M.ROLL_SEED_2) (d.rd M.ROLL_SEED_3)
    switch := Switch.init, ports := { Ports.init with badLanes := d.ports.badLanes }, segs := [], pipes := [], descs := [], nextDesc := 0
    services := Services.init, tutors := Tutors.init, pools := Pools.init
    memories := { Memories.init with channels := d.memories.channels }
    rings := { d.rings with rings := [] }
    buddy := Buddy.init, chk := []
    perf := { Perf.init with banks := if d.work.carried.any (fun x => x.item == 2) then d.perf.banks else [] } }

/-- The device as step 1 of the main sequence initialises it (R106, R107): besides the data path, classes BELL, TIME and
MEMCH, the table command interfaces, every memory, and CLOCK_STEP, THROTTLE_STATE and THROTTLE_CUTOFF in POWER. -/
def resetMainPower (d : Dev) : Dev :=
  let d := resetDataPath d
  let d := { d with
    reg := SMap.clear d.reg (fun id => !powerUpKeeps (id / 2 ^ 24))
    area := [], tif := [], memories := Memories.init, ports := Ports.init, time := Time.init, work := Work.init, perf := Perf.init
    rings := { d.rings with unmasked := [], pendingVec := [] }
    power := { Power.init with avsOld := d.power.avsOld, avsFails := d.power.avsFails, avsFault := d.power.avsFault,
                               avsRetry := d.power.avsRetry, warm := d.power.warm } }
  ((d.wr M.CLOCK_STEP 0).wr M.THROTTLE_STATE 0).wr M.THROTTLE_CUTOFF 0

/-- Straps latched (R93) and what an island reset takes from them and from the boot store (R59, R94, R185, R298). -/
def latchStraps (d : Dev) (s : Straps) : Dev :=
  let d := d.start.boot.settings.foldl (fun d (id, v) => d.wr id v.toNat) d
  let d := match d.start.boot.palette with
    | some (p, g) => (d.wr M.PALETTE_NEXT p).wr M.PIPE_GATE_NEXT g
    | none => d
  let d := match d.start.boot.seeds with
    | some (a, b, c) => ((d.wr M.ROLL_SEED_1 a).wr M.ROLL_SEED_2 b).wr M.ROLL_SEED_3 c
    | none => d
  (((d.wr M.STRAP_NODEID (s.nodeId % 256)).wr M.STRAP_BOOTSEL (s.bootSel % 4)).wr M.STRAP_BUDDY_ROLE (s.buddyRole % 2)).wr
    M.START_HOLD (s.bootSel / 2 % 2)

/-- An island power-on or a pin reset (R106): everything but the boot store; a pin reset keeps the THERMTRIP_N latch (R110). -/
def resetIsland (d : Dev) (s : Straps) (keepTrip : Bool) : Dev :=
  let e := Dev.init d.start.boot
  let keys := match d.start.boot.keys with
    | some ks => (List.range ks.length).foldl (fun m i => SMap.set (fun _ => none) m i (ks.getD i none)) []
    | none => []
  let e := { e with pins := { e.pins with vcorePg := d.pins.vcorePg, perstHigh := d.pins.perstHigh, throttleLow := d.pins.throttleLow,
                                          thermtrip := keepTrip && d.pins.thermtrip },
                    denlys := { Denlys.init keys with nonces := if keepTrip then d.denlys.nonces else [] }, out := d.out, free := d.free }
  latchStraps e s

/-! ## The main sequence (R98 to R103) -/

/-- Step 1 (R98): the logic die leaves reset, and step 2 is in progress. -/
def startSequence (d : Dev) : Dev :=
  let d := resetMainPower d
  let d := { d with
    pins := { d.pins with life := false, lifeRuns := false, ppsOut := false }
    start := { d.start with elapsedMs := 0, readyDue := false, fallDue := false, txIdle := true, clocksStopped := false,
                                            pllLocked := false, pcieUp := false, recess := .awake, wakeLatch := none, zeroing := false } }
  (((d.goes .starting).wr M.START_STEP 2).wr M.ROLL_READY 0).setStep d.stepFloor

/-- A failure of the sequence (R101). -/
def failStart (now : BellSt) (d : Dev) (step unit code : Nat) : Dev :=
  let d := ((d.wr M.START_FAIL_STEP step).wr M.START_FAIL_UNIT unit).wr M.START_FAIL_CODE code
  let d := { d with start := { d.start with readyDue := false, txIdle := true } }
  (d.goes .failed).raise now Ev.START_FAIL (oid 2 0) (step + unit % 2 ^ 16 * 2 ^ 32 + code % 2 ^ 16 * 2 ^ 64)

/-- The maximum time from t0 at which a step may end, in ms (R98). -/
def stepLimit (k : Nat) : Nat :=
  if k = 2 then 5 else if k = 3 then 520 else if k = 4 then 720 else if k = 5 then 1220 else if k = 6 then 1440 else if k = 7 then 1450 else 1500

/-- Lanes fail calibration (R100). -/
def failLanes (d : Dev) (lanes : List Nat) : Dev :=
  lanes.foldl (fun d l => { (d.wr (M.LANE_CAL_STATUS l) 2).bump M.CNT_LANE_CAL_FAIL with
    ports := { d.ports with badLanes := l :: d.ports.badLanes } }) d

/-- Lanes of pipes not gated are calibrated (R98, R100): 16 lanes for each pipe. -/
def calibrateLanes (d : Dev) (gate : Nat) (bad : List Nat) : Dev :=
  let d := { d with ports := { d.ports with badLanes := [] } }
  let d := ((List.range 256).filter (fun l => !bitOf gate (l / 16))).foldl (fun d l => d.wr (M.LANE_CAL_STATUS l) 1) d
  failLanes d ((bad.filter (fun l => decide (l < 256) && !bitOf gate (l / 16))).eraseDups)

/-- The pair and the seeds are latched together (R61, R98, R273). -/
def latchNext (d : Dev) : Dev :=
  { d with start := { d.start with
    latched := some (d.rd M.PALETTE_NEXT, d.rd M.PIPE_GATE_NEXT)
    seeds := (d.rd M.ROLL_SEED_1, d.rd M.ROLL_SEED_2, d.rd M.ROLL_SEED_3) } }

/-- Step 3 (R98): the pair is latched and checked against R54. -/
def stepLatch (now : BellSt) (d : Dev) (lanes : List Nat) : Dev :=
  let p := d.rd M.PALETTE_NEXT
  let g := d.rd M.PIPE_GATE_NEXT
  let d := latchNext d
  if gateRuleOk p g then (calibrateLanes d g lanes).wr M.START_STEP 4 else failStart now d 3 0 St.INCONSISTENT

/-- Training results of a channel stored, and the channel in service (R447). -/
def trainChannel (d : Dev) (palette ch : Nat) (results : Bytes) : Dev :=
  let d := d.awr (0x05000000 + 0x10000 * ch + 0x800) (fit 140 results)
  ((d.wr (M.MEMCH_TRAIN_STATUS ch) St.OK).wr (M.MEMCH_STATE ch) 2).wr (M.MEMCH_CLASS ch) (b2n (bulkChannel palette ch))

/-- Step 5 (R98, R447). -/
def stepTrain (d : Dev) (results : List Bytes) : Dev :=
  let p := (d.start.latched.getD (1, 0)).1
  ((List.range 16).foldl (fun d ch => trainChannel d p ch (results.getD ch [])) d).wr M.START_STEP 6

/-- Step 6 (R98): the TCAM copies agree with their shadows and the default image stands in every control store. -/
def stepImage (d : Dev) : Dev :=
  (({ d with tcamCopies := [] }).withImage (Image.ofBytes true (Config.bootTutorImage (d.on M.BOOT_IMAGE)))).wr M.START_STEP 7

/-- Step 7 (R98, R36, R46): the time base starts at 0, with the presets a BELL_LOAD latched before, and the sequence holds or
goes on to step 9. -/
def stepTime (now : BellSt) (d : Dev) : BellSt × Dev :=
  let hold := d.on M.START_HOLD
  let d := { d with pins := { d.pins with lifeRuns := true } }
  ({ BellSt.init with state := .prestart, latch := now.latch },
   if hold then (d.goes .hold).wr M.START_STEP 8 else d.wr M.START_STEP 9)

/-- A step of the main sequence that ends or fails is in progress (R98). -/
def inStep (d : Dev) : Bool :=
  let k := d.rd M.START_STEP
  d.start.state == .starting && decide (2 ≤ k) && decide (k ≤ 9) && k != 8 && !d.start.readyDue

/-- MAIN_SEQ_STEP_DONE (R98, R100, R101). -/
def mainSeqStepDone (now : BellSt) (i : StepIn) (d : Dev) : BellSt × Dev :=
  let k := d.rd M.START_STEP
  if inStep d = false then (now, d) else
  let d := { d with start := { d.start with elapsedMs := d.start.elapsedMs + i.ms } }
  match (if k = 9 then none else i.fail) with
  | some (unit, code) =>
    let d := if k = 5 then d.wr (M.MEMCH_TRAIN_STATUS (unit % 16)) code else d
    (now, failStart now d k unit code)
  | none =>
    if stepLimit k < d.start.elapsedMs then (now, failStart now d k 0 St.NONE) else
    if k = 2 then (now, { d.wr M.START_STEP 3 with start := { d.start with pllLocked := true } })
    else if k = 3 then (now, stepLatch now d i.lanes)
    else if k = 4 then (now, d.wr M.START_STEP 5)
    else if k = 5 then (now, stepTrain d i.training)
    else if k = 6 then (now, stepImage d)
    else if k = 7 then stepTime now d
    else (now, { d with start := { d.start with readyDue := true } })

/-- MAIN_SEQ_STEP_TIMEOUT (R101): a step that exceeds its maximum time names no unit, and START_FAIL_UNIT is 0 (log 205). -/
def mainSeqStepTimeout (now : BellSt) (d : Dev) : Dev :=
  if inStep d then failStart now d (d.rd M.START_STEP) 0 St.NONE else d

/-- START_RELEASE (R99): step 9 begins, and READY rises at the next bell. -/
def startRelease (_ : Nat) (d : Dev) : Nat × Dev :=
  if d.start.state = .hold then (St.OK, { d.wr M.START_STEP 9 with start := { d.start with readyDue := true } }) else (St.NOT_ALLOWED, d)

/-- START_RETRY (R101): the sequence from step 2; its time counts afresh from the retry (log 206). -/
def startRetry (_ : Nat) (d : Dev) : Nat × Dev :=
  if d.start.state = .failed ∧ d.rd M.START_FAIL_STEP ≠ 0 ∧ d.pins.vcorePg = true then
    (St.OK, { (d.goes .starting).wr M.START_STEP 2 with start := { d.start with state := .starting, elapsedMs := 0, readyDue := false } })
  else (St.NOT_ALLOWED, d)

/-- ISLAND_START (R94, R95): the image is chosen by BOOTSEL[0], and the main sequence begins where VCORE_PG is high (R96). -/
def islandStart (im : IslandImages) (d : Dev) : Dev :=
  if d.start.island ≠ .starting ∨ d.pins.vaux = false then d else
  let alt := d.rd M.STRAP_BOOTSEL % 2 == 1
  let pick : Option Bool := if !alt && im.primary then some false else if im.alternate then some true else none
  match pick with
  | none => { ((d.goes .failed).wr M.START_FAIL_STEP 0) with start := { d.start with island := .failed, state := .failed } }
  | some a =>
    let d := { d.wr M.BOOT_IMAGE (b2n a) with start := { d.start with island := .running, state := .mainOff } }
    if d.pins.vcorePg then startSequence d else d

/-- VAUX_UP (R551, R106): the island's power-on reset. -/
def vauxUp (s : Straps) (now : BellSt) (d : Dev) : BellSt × Dev :=
  if d.pins.vaux then (now, d) else (BellSt.init, resetIsland d s false)

/-- VAUX_LOSS (R551): the island stops, and with it the logic die is held in reset (R96). -/
def vauxLoss (now : BellSt) (d : Dev) : BellSt × Dev :=
  if d.pins.vaux = false then (now, d) else
  let e := resetIsland d ⟨0, 0, 0⟩ false
  (BellSt.init, { e with pins := { e.pins with vaux := false }, start := { e.start with island := .off } })

/-- RESET_N_PULSE (R106): below 1 µs ignored, from 10 µs a pin reset, and open between (log 1). -/
def resetNPulse (ns : Nat) (s : Straps) (now : BellSt) (d : Dev) : BellSt × Dev :=
  let (f, d') := d.fresh
  if ns < 1000 ∨ d.pins.vaux = false then (now, d)
  else if ns < 10000 ∧ f % 2 = 0 then (now, d')
  else ({ BellSt.init with readyRisen := now.readyRisen }, resetIsland (if ns < 10000 then d' else d) s true)

/-- VCORE_PG_RISE (R98, R102): class BELL is initialised; whether READY has risen is known until the time base starts again (R36). -/
def vcorePgRise (now : BellSt) (d : Dev) : BellSt × Dev :=
  let d := { d with pins := { d.pins with vcorePg := true } }
  if d.start.island = .running ∧ d.start.state = .mainOff then ({ BellSt.init with readyRisen := now.readyRisen }, startSequence d) else (now, d)

/-- VCORE_PG_FALL (R102, R109): a low pulse of up to 100 ns is ignored, one of 200 ns or more acted on, and between them
the device's choice is open (R561, log 1). -/
def vcorePgFall (ns : Nat) (now : BellSt) (d : Dev) : BellSt × Dev :=
  let (f, d') := d.fresh
  if ns ≤ 100 then (now, d) else if ns < 200 ∧ f % 2 = 0 then (now, d') else
  let d := if ns < 200 then d' else d
  let wasReady := d.pins.ready
  let d : Dev := { d with
    pins := { d.pins with vcorePg := false, ready := false, life := false, lifeRuns := false, ppsOut := false }
    start := { d.start with txIdle := true, readyDue := false, fallDue := false, pllLocked := false, pcieUp := false, recess := .awake } }
  let d := if wasReady then (d.wr M.ALERT_CAUSE (d.rd M.ALERT_CAUSE ||| 0x20)).bump M.CNT_RAIL_LOSS else d
  let d : Dev := { (d.wr M.ROLL_READY 0).wr M.ROLL_ZERO_PROGRESS 0 with start := { d.start with zeroing := false } }
  let d := if d.start.island = .running then d.goes .mainOff else d
  ({ now with state := .off, latch := none, due := false }, d)

/-- The writes of zeroing at port 0 end, which every channel has had until now (R104, R440, R446; log 274). -/
def zeroWritesEnd (now : BellSt) (d : Dev) : Dev :=
  let (t, d) := Dev.stamp now d
  (List.range 16).foldl (fun d ch => d.setChannel ch { d.channel ch with lastReq := t }) d

/-- ROLL_READY (R105): zeroing has finished. -/
def rollReadyRises (now : BellSt) (d : Dev) : Dev :=
  if d.start.zeroing ∧ d.pins.ready = true then
    zeroWritesEnd now (({ (d.wr M.ROLL_READY 1).wr M.ROLL_ZERO_PROGRESS 100 with start := { d.start with zeroing := false } }).raiseOpen now Ev.ROLL_READY (oid 2 0))
  else d

/-! ## PCIe (R103, R106, R108, R457) -/

/-- Every ring is disabled without publishing its head, and class RING and the MSI-X state are initialised (R106, R108). -/
def resetPcie (d : Dev) : Dev :=
  { d with reg := SMap.clear d.reg (fun id => id / 2 ^ 24 == 0x58)
           area := SMap.clear d.area msixArea
           rings := { d.rings with rings := [], unmasked := [], pendingVec := [] }
           start := { d.start with pcieConfigReset := true } }

/-- PERST_N_DEASSERT (R103). -/
def perstDeassert (d : Dev) : Dev := { d with pins := { d.pins with perstHigh := true } }

/-- PCIE_LINK_UP (R103): training has ended at a width and a rate. -/
def pcieLinkUp (width gen : Nat) (d : Dev) : Dev :=
  if d.start.pllLocked ∧ d.pins.perstHigh = true ∧ d.dieRuns = true then
    { d.wr M.PCIE_LINK (width % 256 * 256 + gen % 16) with start := { d.start with pcieUp := true } }
  else d

/-- What the PCIe function shows the host of itself (R457); no command reads or writes its configuration space (log 286). -/
structure PcieFunction where
  vendorId : Nat
  deviceId : Nat
  revisionId : Nat
  classCode : Nat
  /-- Payload and read request sizes it supports, in bytes. -/
  payloads : List Nat
  readRequests : List Nat
  /-- Non-posted requests outstanding, with tags of `tagBits`, and MSI-X vectors. -/
  nonPosted : Nat
  tagBits : Nat
  vectors : Nat
  deriving DecidableEq, Repr

def Dev.pcieFunction (d : Dev) : PcieFunction :=
  { vendorId := Config.pcieVendorId, deviceId := 0x2564, revisionId := d.rd M.REVISION, classCode := 0x020000, payloads := [128, 256, 512],
    readRequests := [128, 256, 512, 1024, 2048, 4096], nonPosted := 768, tagBits := 10, vectors := 256 }

/-! ## Output levels (R111, R563) -/

/-- The outputs of R111; the open-drain pair of the sensor bus, the AVSBus pair and the differential pairs as one each. -/
inductive OutBall where
  | ready | life | alertN | thermtripN | sagN | ppsOut | tdo | i2c | avs | t1s
  | lane (n : Nat)
  | pcie
  deriving DecidableEq, Repr

/-- What a ball does (R111): an undriven ball's domain is unpowered, a released one is an open drain that does not pull low, and
an active bus or link follows its own chapter. -/
inductive Level where
  | low | high | undriven | released | highImpedance | electricalIdle | busIdle | active
  deriving DecidableEq, Repr

/-- High or low. -/
def Level.of (b : Bool) : Level := if b then .high else .low

/-- The transmitter of a lane is in electrical idle: all of them (R62, R86, R101, R109), those of a gated pipe (R54), a lane that
failed calibration (R100), one that no port carries (R194), and in Recess the lanes of every port that is no wake port (R88 step 5). -/
def Dev.laneIdle (d : Dev) (l : Nat) : Bool :=
  let portOf (k : Nat) : Bool := decide (k ≤ l) && decide (k < modeLanes (d.rd (M.PORT_MODE (l - k))))
  d.start.txIdle || d.gated (l / 16) || d.ports.badLanes.contains l || !(List.range 8).any portOf ||
    (d.start.recess == .recess && !(List.range 8).any (fun k => portOf k && d.on (M.PORT_WAKE_ENABLE (l - k))))

/-- The level of an output (R111, R563): `vio` tells whether the VIO rail is up, and the logic die's outputs are driven from the
moment it leaves reset. TDO is not driven while no test shifts (log 208). -/
def Dev.level (d : Dev) (vio : Bool) (b : OutBall) : Level :=
  let vaux := d.start.island != .off && d.pins.vaux
  let up := vaux && d.start.island != .starting
  let vioOut (x reset : Level) : Level := if !vio then .undriven else if vaux && d.dieOut then x else reset
  let before := d.start.state == .starting || d.start.state == .hold || d.start.state == .failed
  match b with
  | .ready => if vaux then .of d.pins.ready else .undriven
  | .life => vioOut (.of d.pins.life) .low
  | .alertN => if up && d.alertLow then .low else .released
  | .thermtripN => if vaux && d.pins.thermtrip then .low else .released
  | .sagN => vioOut (.of (before || !d.sagLow)) .high
  | .ppsOut => vioOut (.of d.pins.ppsOut) .low
  | .tdo => vioOut .highImpedance .highImpedance
  | .i2c => if up then .active else .released
  | .avs => if !vaux then .undriven else if d.dieOut then .active else .busIdle
  | .t1s => if up then .active else .highImpedance
  | .lane n => vioOut (if d.laneIdle n then .electricalIdle else .active) .electricalIdle
  | .pcie => vioOut (if d.start.pllLocked && d.pins.perstHigh && !d.start.clocksStopped then .active else .electricalIdle) .electricalIdle

/-! ## LIFE (R112) -/

/-- LIFE_TOGGLE. -/
def lifeToggle (now : BellSt) (d : Dev) : Dev :=
  if now.state ≠ .off ∧ d.pins.lifeRuns = true ∧ d.dieRuns = true then { d with pins := { d.pins with life := !d.pins.life } } else d

/-- LIFE_STOP: BELL_STATE is OFF, or the bell sequencer has missed 64 consecutive bell cycles. -/
def lifeStop (d : Dev) : Dev := { d with pins := { d.pins with lifeRuns := false } }

/-! ## Palettes and the data-path restart (R59 to R65) -/

/-- PALETTE_SAVE (R59). While a restart runs, RESTART_STATUS keeps the ST_PENDING that belongs to the restart (R61, log 207). -/
def paletteSave (_ : Nat) (d : Dev) : Nat × Dev :=
  let boot : BootStore := { d.start.boot with palette := some (d.rd M.PALETTE_NEXT, d.rd M.PIPE_GATE_NEXT) }
  let d := if d.start.state = .restarting then d else d.wr M.RESTART_STATUS St.OK
  (St.OK, { d with start := { d.start with boot } })

/-- ROLL_SEED_SAVE (R298). -/
def rollSeedSave (_ : Nat) (d : Dev) : Nat × Dev :=
  (St.OK, { d with start := { d.start with boot := { d.start.boot with
    seeds := some (d.rd M.ROLL_SEED_1, d.rd M.ROLL_SEED_2, d.rd M.ROLL_SEED_3) } } })

/-- DATAPATH_RESTART (R61): the checks in order, then step 1 of R62. `abort` rolls an open transaction back (R159). -/
def datapathRestart (abort : Dev → Dev) (_ : Nat) (d : Dev) : Nat × Dev :=
  if d.start.state = .restarting then (St.BUSY, d) else
  if d.start.state ≠ .ready then (St.NOT_ALLOWED, d.wr M.RESTART_STATUS St.NOT_ALLOWED) else
  let p := d.rd M.PALETTE_NEXT
  let g := d.rd M.PIPE_GATE_NEXT
  if gateRuleOk p g = false then (St.INCONSISTENT, d.wr M.RESTART_STATUS St.INCONSISTENT) else
  let d := latchNext (abort d)
  (St.OK, ({ d.wr M.RESTART_STATUS St.PENDING with start := { d.start with fallDue := true } }).goes .restarting)

/-- RESTART_COMPLETE (R62): steps 3 to 8 are done, and READY rises at the next bell. Which lanes fail their recalibration
(step 7) is open (log 220). -/
def restartComplete (d : Dev) : Dev :=
  if d.start.state = .restarting ∧ d.start.fallDue = false ∧ d.start.readyDue = false then
    let (f, d) := d.fresh
    let d := calibrateLanes d (d.start.latched.getD (1, 0)).2 ((List.range 256).filter (fun l => bitOf f l))
    let d := d.withImage (Image.ofBytes true (Config.bootTutorImage (d.on M.BOOT_IMAGE)))
    { d with start := { d.start with readyDue := true } }
  else d

/-- What the rise of READY sets (R48, R52, R62 step 9, R98 step 9, R273): palette, gate mask, channel classes, regions, the
capacities of Roll and Front Row, and the seeds in use; the zeroing of R104 begins and wakes what sleeps (R446). -/
def applyPalette (d : Dev) : Dev :=
  let (p, g) := d.start.latched.getD (1, 0)
  let (s1, s2, s3) := d.start.seeds
  let d : Dev := { d with roll := { d.roll with seed1 := s1, seed2 := s2, seed3 := s3 } }
  let d := (d.wr M.PALETTE_ACTIVE p).wr M.PIPE_GATE_ACTIVE g
  let d := ((d.wr M.ROLL_SLOTS (rollSlots p)).wr M.ROLL_BUCKETS (rollBuckets p)).wr M.FR_LINES (frLines p) |>.wr M.FR_SETS (frSets p)
  let d := (d.wr M.ROLL_CHANNELS (if p = 3 then 0xFF else 0xFFFF)).wr M.HOST_REGION_BYTES (hostRegionBytes p)
  let d := (List.range 16).foldl (fun d ch => d.wr (M.MEMCH_CLASS ch) (b2n (bulkChannel p ch))) d
  let d := (List.range 16).foldl (fun d ch => if d.rd (M.MEMCH_STATE ch) = 3 then d.wr (M.MEMCH_STATE ch) 2 else d) d
  { d with start := { d.start with zeroing := true, txIdle := false } }

/-! ## Commands -/

/-- VAUX_UP (R551). -/
def execVauxUp (straps : Straps) (s : State) : Host.Outcome State Fault Refusal :=
  s.onBoth (fun now d => vauxUp straps now d)

/-- VAUX_LOSS (R551). -/
def execVauxLoss (s : State) : Host.Outcome State Fault Refusal :=
  s.onBoth (fun now d => vauxLoss now d)

/-- ISLAND_START (R95). -/
def execIslandStart (images : IslandImages) (s : State) : Host.Outcome State Fault Refusal :=
  s.onDev (fun _ d => islandStart images d)

/-- RESET_N_PULSE (R106). -/
def execResetNPulse (ns : Nat) (straps : Straps) (s : State) : Host.Outcome State Fault Refusal :=
  s.onBoth (fun now d => resetNPulse ns straps now d)

/-- VCORE_PG_RISE (R98). -/
def execVcorePgRise (s : State) : Host.Outcome State Fault Refusal :=
  s.onBoth (fun now d => vcorePgRise now d)

/-- MAIN_SEQ_STEP_DONE (R98). -/
def execMainSeqStepDone (i : StepIn) (s : State) : Host.Outcome State Fault Refusal :=
  s.onBoth (fun now d => mainSeqStepDone now i d)

/-- MAIN_SEQ_STEP_TIMEOUT (R101). -/
def execMainSeqStepTimeout (s : State) : Host.Outcome State Fault Refusal :=
  s.onDev (fun now d => mainSeqStepTimeout now d)

/-- START_RELEASE (R99). -/
def execStartRelease (a : Acc) (s : State) : Host.Outcome State Fault Refusal :=
  s.onDev (fun _ d => (d.trigger a M.START_RELEASE startRelease).2)

/-- START_RETRY (R101). -/
def execStartRetry (a : Acc) (s : State) : Host.Outcome State Fault Refusal :=
  s.onDev (fun _ d => (d.trigger a M.START_RETRY startRetry).2)

/-- VCORE_PG_FALL (R109). -/
def execVcorePgFall (ns : Nat) (s : State) : Host.Outcome State Fault Refusal :=
  s.onBoth (fun now d => vcorePgFall ns now d)

/-- ROLL_READY (R105). -/
def execRollReady (s : State) : Host.Outcome State Fault Refusal :=
  s.onDie (fun now d => rollReadyRises now d)

/-- PERST_N_DEASSERT (R103). -/
def execPerstNDeassert (s : State) : Host.Outcome State Fault Refusal :=
  s.onDev (fun _ d => perstDeassert d)

/-- PCIE_LINK_UP (R103). -/
def execPcieLinkUp (width gen : Nat) (s : State) : Host.Outcome State Fault Refusal :=
  s.onDev (fun _ d => pcieLinkUp width gen d)

/-- LIFE_TOGGLE (R112). -/
def execLifeToggle (s : State) : Host.Outcome State Fault Refusal :=
  s.onDev (fun now d => lifeToggle now d)

/-- LIFE_STOP (R112). -/
def execLifeStop (s : State) : Host.Outcome State Fault Refusal :=
  s.onDev (fun _ d => lifeStop d)

/-- PALETTE_SAVE (R59). -/
def execPaletteSave (a : Acc) (s : State) : Host.Outcome State Fault Refusal :=
  s.onDev (fun _ d => (d.trigger a M.PALETTE_SAVE paletteSave).2)

/-- ROLL_SEED_SAVE (R298). -/
def execRollSeedSave (a : Acc) (s : State) : Host.Outcome State Fault Refusal :=
  s.onDev (fun _ d => (d.trigger a M.ROLL_SEED_SAVE rollSeedSave).2)

/-- RESTART_COMPLETE (R62). -/
def execRestartComplete (s : State) : Host.Outcome State Fault Refusal :=
  s.onDie (fun _ d => restartComplete d)

end Sys2Proof.Machine
end

