-- ==== Sys2Proof/Machine/Memory.lean ====
section
/-!
DEFINITION. The memory channels (R431 to R449) and the scrubbers (R452, R454): requests and shades, scheduling, errors,
refresh, self-refresh, training and service.
-/
namespace Sys2Proof.Machine

/-! ## Requests and shades (R440, R441, R444) -/

/-- Whether a channel serves requests: IN_SERVICE, or SELF_REFRESH, from which a request wakes it (R446). -/
def Dev.chServes (d : Dev) (ch : Nat) : Bool := d.rd (M.MEMCH_STATE ch) == 2 || d.rd (M.MEMCH_STATE ch) == 3

/-- The bank of a 64-byte unit: channel offset bits [11:8] (R433). -/
def unitBank (u : Nat) : Nat := u / 4 % 16

/-- The row of a unit, for the open-page policy: it is held in the offset bits above the bank (R433, log 271). -/
def unitRow (u : Nat) : Nat := Config.rowOf (u / 64)

/-- Latency target of a port (R440). -/
def Dev.memTarget (d : Dev) (port : Nat) : Nat := d.rd (M.MEMCH_TARGET port)

/-- The shade of a request at a counter value (R441). -/
def Dev.shade (d : Dev) (t : Nat) (q : MemReq) : Nat :=
  if q.port = 6 ∧ 12288 ≤ d.roll.wb.length then 7
  else min 7 (8 * ((t + 2 ^ 32 - q.since % 2 ^ 32) % 2 ^ 32) / d.memTarget q.port)

/-- The order of R440 at equal shade. -/
def portOrder (port : Nat) : Nat := [1, 3, 2, 4, 5, 6, 7, 8].getD port 8

/-- A request as a requester makes it. -/
def MemReq.new (port unit : Nat) (write roll : Bool) (since : Nat) : MemReq :=
  { port, unit, write, roll, corrective := false, since, issued := false, issuedAt := 0, overtaken := false, known := none }

/-- A request that waits at its port for room in its queue (R442 to R444): in a Roll channel past the 32 of its bank, in a bulk channel
past the 256 of the channel. -/
def waitsAtPort (bulk : Bool) (before : List MemReq) (q : MemReq) : Bool :=
  if bulk then decide (256 ≤ before.length)
  else decide (32 ≤ (before.filter (fun x => unitBank x.unit == unitBank q.unit)).length)

/-- The requests in the queues of a channel, in the order they reached it. -/
def queuedReqs (bulk : Bool) (before qs : List MemReq) : List MemReq :=
  match qs with
  | [] => []
  | q :: r => if waitsAtPort bulk before q then queuedReqs bulk before r else q :: queuedReqs bulk (before ++ [q]) r

/-- The queues of a channel. -/
def Dev.memQueue (d : Dev) (ch : Nat) : List MemReq := queuedReqs (d.on (M.MEMCH_CLASS ch)) [] (d.channel ch).reqs

/-- Reads that have issued are overtaken by a write of their unit (R438). -/
def overtake (q : MemReq) (qs : List MemReq) : List MemReq :=
  if q.write then qs.map (fun (x : MemReq) => if x.unit = q.unit ∧ x.issued = true ∧ x.write = false then { x with overtaken := true } else x) else qs

/-- A request reaches a controller (R444): a read that finds a queued write to its unit is answered from it. A channel out
of service takes none. A patrol read is no request that ends a channel's idle time (R446, R454, log 273). -/
def memRequest (d : Dev) (ch : Nat) (q : MemReq) : Dev :=
  if d.chServes ch = false then d else
  let c := d.channel ch
  if q.write = false ∧ (d.memQueue ch).any (fun x => x.write && x.unit == q.unit && !x.issued) = true then d
  else d.setChannel ch { c with reqs := overtake q c.reqs ++ [q], lastReq := if q.port = 7 then c.lastReq else q.since }

/-- Channels that carry the Roll (R268). -/
def Dev.rollChannels (d : Dev) : Nat := if d.palette = 3 then 8 else 16

/-- Channel and unit of a Roll slot (R268, R432). -/
def Dev.slotPlace (d : Dev) (slot : Nat) : Nat × Nat :=
  let b := slot / 4
  (b % d.rollChannels, b / d.rollChannels * 4 + slot % 4)

/-- Channel and unit of an endpoint record (R51): spread over the channels that carry its region, after the Roll part. -/
def Dev.endpointPlace (d : Dev) (e : Nat) : Nat × Nat :=
  if d.palette = 3 then (8 + e % 8, e / 8)
  else (e % 16, rollSlots d.palette / 16 + e / 16)

/-- Slots from here up are endpoint records. -/
def epSlotBase : Nat := 2 ^ 32

/-- The slot that stands for an endpoint record. -/
def epSlot (e : Nat) : Nat := epSlotBase + e

/-- Channel and unit of a slot's copy in memory (R268, R51). -/
def Dev.placeOf (d : Dev) (slot : Nat) : Nat × Nat :=
  if epSlotBase ≤ slot then d.endpointPlace (slot - epSlotBase) else d.slotPlace slot

/-- Whether a unit of a channel lies in the Roll region (R51, R52). -/
def Dev.unitInRoll (d : Dev) (ch unit : Nat) : Bool := decide (ch < d.rollChannels) && decide (unit < rollSlots d.palette / d.rollChannels)

/-! ## Scheduling (R442, R443) -/

/-- The better of two requests by a list of criteria, smaller first. -/
def lexBetter (key : MemReq → List Nat) (a b : MemReq) : MemReq := if key b < key a then b else a

/-- The best of a list, the first among equals. -/
def bestOf (key : MemReq → List Nat) (qs : List MemReq) : Option MemReq :=
  match qs with
  | [] => none
  | q :: r => some (r.foldl (lexBetter key) q)

/-- The heads of a Roll channel's bank queues that may issue (R442): what waits at its port stands behind them. -/
def bankHeads (c : Channel) (allowed : List Nat) : List MemReq :=
  allowed.eraseDups.filterMap (fun b => (queuedReqs false [] c.reqs).find? (fun q => !q.issued && unitBank q.unit == b))

/-- The choice of a Roll channel (R442). -/
def pickRoll (d : Dev) (c : Channel) (allowed : List Nat) (t : Nat) : Option MemReq :=
  bestOf (fun q => [7 - d.shade t q, b2n (!q.roll), portOrder q.port, (unitBank q.unit + 15 - c.lastBank % 16) % 16]) (bankHeads c allowed)

/-- Whether a unit lies in its bank's open row (R443): a page closes after 64 controller cycles, 80 ns, without a hit. -/
def Channel.rowHit (c : Channel) (t unit : Nat) : Bool :=
  match SMap.get (fun _ => none) c.openRow (unitBank unit) with
  | some (row, at_) => row == unitRow unit && decide ((t + 2 ^ 32 - at_ % 2 ^ 32) % 2 ^ 32 ≤ 80)
  | none => false

/-- The choice of a bulk channel (R443): its queue of 256, the oldest last in the criteria and first in the list. -/
def pickBulk (d : Dev) (c : Channel) (allowed : List Nat) (t : Nat) : Option MemReq :=
  bestOf (fun q => [7 - d.shade t q, b2n (!c.rowHit t q.unit)])
    ((c.reqs.take 256).filter (fun q => !q.issued && allowed.contains (unitBank q.unit) &&
      (c.reqs.find? (fun x => !x.issued && x.unit == q.unit) == some q)))

/-- Mark the first matching request issued. -/
def markIssued (qs : List MemReq) (q : MemReq) (t : Nat) : List MemReq :=
  match qs with
  | [] => []
  | x :: r => if x = q then { x with issued := true, issuedAt := t } :: r else x :: markIssued r q t

/-- MEMCH_ISSUE (R442, R443, R446): `allowed` names the banks that JESD209-6 timing lets issue. -/
def memchIssue (ch : Nat) (allowed : List Nat) (t : Nat) (d : Dev) : Dev :=
  if d.chServes ch = false then d else
  let c := d.channel ch
  let bulk := d.on (M.MEMCH_CLASS ch)
  match (if bulk then pickBulk d c allowed t else pickRoll d c allowed t) with
  | none => d
  | some q =>
    let b := unitBank q.unit
    let c := { c with reqs := markIssued c.reqs q t, lastBank := b,
                      openRow := if bulk then SMap.set (fun _ => none) c.openRow b (some (unitRow q.unit, t)) else c.openRow }
    let d := (d.setChannel ch c).bumpIf q.corrective (M.CNT_MEMCH_CORRECTIVE_WRITE ch)
    if d.rd (M.MEMCH_STATE ch) = 3 then d.wr (M.MEMCH_STATE ch) 2 else d

/-! ## Errors and service (R437 to R439, R449) -/

/-- A channel leaves service (R449): its requests end, and Front Row lines issued to it wait again (R280). The fetches that end with
them are dealt with by the command (`endLost`). -/
def outOfService (now : BellSt) (d : Dev) (ch : Nat) : Dev :=
  let d := d.setChannel ch { d.channel ch with reqs := [], badReads := [] }
  let d := { d with roll := { d.roll with
    wb := d.roll.wb.map (fun (l : WbLine) => if (d.placeOf l.slot).1 = ch then { l with issued := false } else l)
    reads := d.roll.reads.filter (fun (q : RollRead) => (d.slotPlace q.slot).1 != ch) } }
  (d.wr (M.MEMCH_STATE ch) 4).raiseOpen now Ev.MEMCH_DOWN (oid 0x50 ch)

/-- The first error of a lesson is recorded in MEMCH_LAST_ERROR (R439, R455). -/
def recordError (d : Dev) (ch kind symbol unit : Nat) : Dev :=
  let c := d.channel ch
  if c.recorded then d else
  (d.wr (M.MEMCH_LAST_ERROR ch) (kind * 2 ^ 62 + symbol % 64 * 2 ^ 56 + unit * 64 % 2 ^ 31)).setChannel ch { c with recorded := true }

/-- A corrected unit is rewritten (R438). -/
def correctiveWrite (d : Dev) (ch unit t : Nat) : Dev :=
  memRequest d ch { MemReq.new 6 unit true (d.unitInRoll ch unit) t with corrective := true }

/-- What is counted and recorded of one code word (R437, R439); which symbol an uncorrectable word names is open (log 1). -/
def countWord (d : Dev) (ch unit : Nat) (w : Decoded) : Dev :=
  match w with
  | .clean => d
  | .symbol k _ =>
    if k < 32 then recordError (d.bump (M.CNT_MEM_CORRECTED ch)) ch 1 k unit else recordError (d.bump (M.CNT_MEM_CHECK_SYMBOL ch)) ch 2 k unit
  | .uncorrectable => let (sym, d) := d.fresh; recordError (d.bump (M.CNT_MEM_UNCORRECTABLE ch)) ch 3 sym unit

/-- An access that ended uncorrectable is reported, and counts toward the channel's service (R439, R449). -/
def accessFailed (now : BellSt) (d : Dev) (ch unit : Nat) : Dev :=
  let c := d.channel ch
  let raised := c.raised
  let d := d.setChannel ch { c with failures := c.failures + 1, raised := true }
  let d := d.raiseIf (!raised) now Ev.MEM_UNCORRECTABLE (oid 0x50 ch) (ch + unit * 64 % 2 ^ 31 * 2 ^ 32)
  if d.rd (M.MEMCH_FAIL_LIMIT ch) < c.failures + 1 ∧ d.chServes ch = true then outOfService now d ch else d

/-- Whether one of a unit's two code words is uncorrectable. -/
def unitBad (w : Decoded × Decoded) : Bool := decide (w.1 = .uncorrectable) || decide (w.2 = .uncorrectable)

/-- What the decoder finds in the two code words of a unit that was read (R437 to R439, R449): an uncorrectable one is never written
back, and a unit that a later write has overtaken needs no rewriting. -/
def eccRead (now : BellSt) (d : Dev) (ch unit t : Nat) (overtaken : Bool) (w : Decoded × Decoded) : Dev :=
  let d := countWord (countWord d ch unit w.1) ch unit w.2
  if unitBad w then accessFailed now d ch unit
  else if (w.1 = .clean ∧ w.2 = .clean) ∨ overtaken = true then d
  else correctiveWrite d ch unit t

/-- A request ends at its controller (R437, R441). -/
def endReq (now : BellSt) (d : Dev) (ch : Nat) (q : MemReq) (t : Nat) (w : Decoded × Decoded) : Dev :=
  let d := d.setChannel ch { d.channel ch with reqs := (d.channel ch).reqs.erase q }
  let age := (t + 2 ^ 32 - q.since % 2 ^ 32) % 2 ^ 32
  let d := (d.bumpIf (decide (d.memTarget q.port < age)) (M.CNT_MEMCH_LATE ch)).raiseTo (M.MEMCH_LATENCY_MAX ch) age
  if q.write then d.addTo (M.CNT_MEMCH_WRITE_BYTES ch) 64
  else eccRead now ((d.addTo (M.CNT_MEMCH_READ_BYTES ch) 64).bumpIf (q.port == 7) (M.CNT_MEMCH_SCRUB ch)) ch q.unit t q.overtaken w

/-- What a completed access found: what its burst shows, or where the requester's own command has already told of it, that (R439). -/
def MemReq.found (q : MemReq) (e : EccIn) : Decoded × Decoded :=
  let w := (decodeBurst e.word0, decodeBurst e.word1)
  match q.known with
  | none => w
  | some true => if unitBad w then w else (.uncorrectable, w.2)
  | some false => if unitBad w then (.clean, .clean) else w

/-- The oldest request to a unit, which completes before any later one (R444). -/
def Channel.oldest (c : Channel) (unit : Nat) : Option MemReq := c.reqs.find? (fun q => q.unit == unit)

/-- MEM_ACCESS_COMPLETE (R437, R441, R444): the oldest request to the unit ends, if it has issued. A fetch or a tutor learns of an
uncorrectable unit as its own operation completes. -/
def memAccessComplete (ch unit : Nat) (e : EccIn) (t : Nat) (now : BellSt) (d : Dev) : Dev :=
  match (d.channel ch).oldest unit with
  | none => d
  | some q =>
    if q.issued = false then d else
    let w := q.found e
    let d := if unitBad w ∧ q.write = false ∧ q.port < 2 then d.setChannel ch { d.channel ch with badReads := (d.channel ch).badReads ++ [(q.port, unit)] } else d
    endReq now d ch q t w

/-- How an access ends for the requester that made it (R439, R444, R449): with its request, if that is still there, so that what the
requester learns is recorded as at the controller, or with what the controller has found; `none` while the request has not issued or an
older one to its unit has not ended. -/
def endAccess (now : BellSt) (d : Dev) (ch unit port : Nat) (write : Bool) (o : MemOutcome) : Option (MemOutcome × Dev) :=
  let c := d.channel ch
  match c.reqs.find? (fun q => q.unit == unit && q.port == port && q.write == write && !q.corrective) with
  | some q =>
    if o = .unavailable then some (o, d.setChannel ch { c with reqs := c.reqs.erase q })
    else if q.issued = false ∨ c.oldest unit ≠ some q then none
    else
      let (t, d) := Dev.stamp now d
      some (o, endReq now d ch q t (if o = .uncorrectable then (.uncorrectable, .clean) else (.clean, .clean)))
  | none =>
    if c.badReads.contains (port, unit) ∧ write = false then
      some (if o = .ok then .uncorrectable else o, d.setChannel ch { c with badReads := c.badReads.erase (port, unit) })
    else some (o, d)

/-- MEMCH_COMMAND_TIMEOUT (R449): in the running period a command's 64 periods without a completion end. -/
def memchCommandTimeout (ch : Nat) (now : BellSt) (d : Dev) : Dev :=
  let late (q : MemReq) : Bool := q.issued && decide (65536 ≤ (now.time.toNat + 1024 + 2 ^ 32 - q.issuedAt % 2 ^ 32) % 2 ^ 32)
  if d.chServes ch ∧ (d.channel ch).reqs.any late = true then outOfService now d ch else d

/-! ## Refresh, self-refresh, training (R445 to R449) -/

/-- The write delays whose move waited for a forced-refresh slot are moved (R448). -/
def Channel.move (c : Channel) : Channel :=
  (List.range 2).foldl (fun (c : Channel) s => match SMap.get (fun _ => none) c.due s with
    | some x => { c with adjusted := SMap.set (fun _ => (0 : Int)) c.adjusted s x, due := SMap.set (fun _ => none) c.due s none }
    | none => c) c

/-- MEMCH_REFRESH (R445): placed while the bank's queue is empty, postponed otherwise, forced at the limit, where write delays are moved
(R448). -/
def memchRefresh (ch bank : Nat) (atLimit : Bool) (d : Dev) : Dev :=
  let c := d.channel ch
  let busy := c.reqs.any (fun q => unitBank q.unit == bank)
  let n := SMap.get zeroAt c.postponed bank
  if busy = false then d.setChannel ch { c with postponed := SMap.set zeroAt c.postponed bank 0 }
  else if atLimit then (d.setChannel ch { c.move with postponed := SMap.set zeroAt c.postponed bank 0 }).bump (M.CNT_MEMCH_REFRESH_FORCED ch)
  else d.setChannel ch { c with postponed := SMap.set zeroAt c.postponed bank (n + 1) }

/-- Whether a channel has nothing to do but patrol reads that have not issued. -/
def Channel.idle (c : Channel) : Bool := c.reqs.all (fun q => q.port == 7 && !q.issued)

/-- A channel goes into self-refresh (R446, R454): patrol reads that have not issued are put off, and the patrol resumes at the first
of them. -/
def sleepChannel (d : Dev) (ch : Nat) : Dev :=
  let c := d.channel ch
  let back := match c.reqs.find? (fun q => q.port == 7 && !q.issued) with | some q => q.unit | none => c.patrol
  (d.setChannel ch { c with reqs := c.reqs.filter (fun q => !(q.port == 7 && !q.issued)), patrol := back }).wr (M.MEMCH_STATE ch) 3
    |>.bump (M.CNT_MEMCH_SR_ENTRY ch)

/-- MEMCH_SR_ENTER (R55, R446): a bulk channel that has had no request for MEMCH_SR_IDLE; while the zeroing of R104 runs it has
requests of port 0 (log 274). -/
def memchSrEnter (ch t : Nat) (d : Dev) : Dev :=
  let c := d.channel ch
  if d.on (M.MEMCH_CLASS ch) ∧ d.rd (M.MEMCH_STATE ch) = 2 ∧ c.idle = true ∧ d.start.zeroing = false ∧
     d.rd (M.MEMCH_SR_IDLE ch) ≤ (t + 2 ^ 32 - c.lastReq % 2 ^ 32) % 2 ^ 32 then sleepChannel d ch
  else d

/-- ZQ_CALIBRATION_LATCH (R448): 64 lessons after the last one; the result is open (log 1). -/
def zqCalibrationLatch (ch : Nat) (now : BellSt) (d : Dev) : Dev :=
  let due := match (d.channel ch).zqLesson with
    | some l => decide (64 ≤ (now.lesson.toNat + 2 ^ 24 - l % 2 ^ 24) % 2 ^ 24)
    | none => true
  if due then (let (v, d) := d.fresh; d.setChannel ch { d.channel ch with zq := v, zqLesson := some now.lesson.toNat }) else d

/-- MEMCH_RETRAIN (R449). -/
def memchRetrain (ch : Nat) (_ : Nat) (d : Dev) : Nat × Dev :=
  if d.rd (M.MEMCH_STATE ch) = 4 then (St.OK, d.wr (M.MEMCH_STATE ch) 1) else (St.NOT_ALLOWED, d)

/-- MEMCH_RETRAIN_DONE (R449, R529): the channel returns to service, in a pair with a repair sweep of its slots, or stays out. -/
def memchRetrainDone (ch : Nat) (i : TrainIn) (now : BellSt) (d : Dev) : Dev :=
  if d.rd (M.MEMCH_STATE ch) ≠ 1 then d else
  if i.code ≠ 0 then (d.wr (M.MEMCH_STATE ch) 4).wr (M.MEMCH_TRAIN_STATUS ch) i.code else
  let d := (trainChannel d d.palette ch i.results).setChannel ch { d.channel ch with failures := 0, adjusted := [], due := [] }
  let d := d.raiseOpen now Ev.MEMCH_UP (oid 0x50 ch)
  if d.buddy.mode = .paired ∧ ch < d.rollChannels then { d with buddy := { d.buddy with sweep := d.buddy.sweep ++ [(ch, 0)] } } else d

/-! ## What a bell does (R439, R448, R452, R454) -/

/-- The drift of a sub-channel from its trained value is judged (R448, R449): past 32 of 128 parts of a UI the channel leaves service, and
4 past the last adjustment the write delays are to be moved. -/
def judgeDrift (now : BellSt) (d : Dev) (ch sub : Nat) (x : Int) : Dev :=
  let c := d.channel ch
  if d.chServes ch = false then d
  else if 32 < x.natAbs then outOfService now d ch
  else if 4 < (x - SMap.get (fun _ => (0 : Int)) c.adjusted sub).natAbs then d.setChannel ch { c with due := SMap.set (fun _ => none) c.due sub (some x) }
  else d

/-- At a lesson start, per-lesson counts start afresh, each die's temperature status is read and sets its refresh rate, and drift is
judged (R439, R445, R448, R449). -/
def memLesson (now : BellSt) (drift : List (Nat × Nat × Int)) (temps : List (Nat × Nat)) (d : Dev) : Dev :=
  let d := (List.range 16).foldl (fun d ch => d.setChannel ch { d.channel ch with failures := 0, recorded := false, raised := false }) d
  let d := temps.foldl (fun d (ch, x) => d.setChannel ch { d.channel ch with dieTemp := x, refreshRate := Config.refreshRate x }) d
  drift.foldl (fun d (ch, sub, x) => judgeDrift now d ch sub x) d

/-- Code words of the powered stacked SRAM and the packet buffer (R452): 640 MiB, without 224 MiB in Slate. -/
def scrubWords (palette : Nat) : Nat := if palette = 3 then 13631488 else 20971520

/-- The SRAM scrubber's period (R452). -/
def sramScrub (d : Dev) : Dev :=
  let w := d.memories.scrubWord + 32768
  let n := d.memories.scrubPeriods + 1
  if scrubWords d.palette ≤ w then
    { d.wr M.SRAM_SCRUB_PASS_PERIODS n with memories := { d.memories with scrubWord := 0, scrubPeriods := 0 } }
  else { d with memories := { d.memories with scrubWord := w, scrubPeriods := n } }

/-- The patrol scrubber's period on one channel (R440, R454): its reads reach the controller at port 7, in address order. -/
def patrolScrub (now : BellSt) (d : Dev) (ch : Nat) : Dev :=
  if d.rd (M.MEMCH_STATE ch) ≠ 2 then d else
  let n := d.rd (M.MEMCH_SCRUB_RATE ch)
  let p := (d.channel ch).patrol
  let d := (List.range n).foldl (fun d k =>
    let u := (p + k) % 33554432
    memRequest d ch (MemReq.new 7 u false (d.unitInRoll ch u) now.ns.toNat)) d
  d.setChannel ch { d.channel ch with patrol := (p + n) % 33554432 }

/-- The corrected and uncorrectable words the decoder finds outside LPDDR6 (R437): 1 data symbol, 2 check symbol, 3 uncorrectable. -/
def countSram (d : Dev) (buffer : Bool) (kind : Nat) : Dev :=
  if buffer then
    d.bump (if kind = 1 then M.CNT_PKTBUF_CORRECTED else if kind = 2 then M.CNT_PKTBUF_CHECK_SYMBOL else M.CNT_PKTBUF_UNCORRECTABLE)
  else d.bump (if kind = 1 then M.CNT_SRAM_CORRECTED else if kind = 2 then M.CNT_SRAM_CHECK_SYMBOL else M.CNT_SRAM_UNCORRECTABLE)

/-! ## Commands -/

/-- MEMCH_ISSUE (R442). -/
def execMemchIssue (ch : Nat) (allowed : List Nat) (ns : Nat) (s : State) : Host.Outcome State Fault Refusal :=
  s.onDie (fun _ d => memchIssue ch allowed ns d)



/-- MEMCH_REFRESH (R445). -/
def execMemchRefresh (ch bank : Nat) (atLimit : Bool) (s : State) : Host.Outcome State Fault Refusal :=
  s.onDie (fun _ d => memchRefresh ch bank atLimit d)

/-- MEMCH_SR_ENTER (R446). -/
def execMemchSrEnter (ch ns : Nat) (s : State) : Host.Outcome State Fault Refusal :=
  s.onDie (fun _ d => memchSrEnter ch ns d)

/-- ZQ_CALIBRATION_LATCH (R448). -/
def execZqCalibrationLatch (ch : Nat) (s : State) : Host.Outcome State Fault Refusal :=
  s.onDie (fun now d => zqCalibrationLatch ch now d)

/-- MEMCH_RETRAIN (R449). -/
def execMemchRetrain (ch : Nat) (a : Acc) (s : State) : Host.Outcome State Fault Refusal :=
  s.onDev (fun _ d => (d.trigger a (M.MEMCH_RETRAIN ch) (memchRetrain ch)).2)


end Sys2Proof.Machine
end

