-- ==== Sys2Proof/Machine/Pools.lean ====
section
/-!
DEFINITION. The buffer pool manager (R394 to R403): pointers, allocation, frees, quarantine and the host's triggers.
-/
namespace Sys2Proof.Machine

/-- Bytes of one buffer of a pool (R394). -/
def poolBytes (p : Nat) : Nat := [256, 1024, 4096, 16384, 65536].getD p 0

/-- Bytes of the Locker of a palette (R50). -/
def lockerBytes (palette : Nat) : Nat := (if palette = 1 then 2 else if palette = 2 then 4 else 1) * 2 ^ 30

/-- Buffers of a pool (R395, R404). -/
def Dev.poolCount (d : Dev) (p : Nat) : Nat :=
  if p = 0 then bufCells d.palette else lockerBytes d.palette / 256 * d.rd (M.POOL_SHARE p) / poolBytes p

/-- Key of a buffer's metadata. -/
def bufKey (p i : Nat) : Nat := p * 2 ^ 24 + i

/-- A free buffer's owner tag and count (R397). -/
def freeBuf (_ : Nat) : Nat × Nat := (0xFF, 0)

/-- Owner tag and count of a buffer. -/
def Dev.buf (d : Dev) (p i : Nat) : Nat × Nat := SMap.get freeBuf d.pools.bufs (bufKey p i)

def Dev.setBuf (d : Dev) (p i : Nat) (x : Nat × Nat) : Dev :=
  { d with pools := { d.pools with bufs := SMap.set freeBuf d.pools.bufs (bufKey p i) x } }

/-- Indices of a pool's buffers that are granted, in rising order. -/
def Dev.granted (d : Dev) (p : Nat) : List Nat :=
  (d.pools.bufs.filter (fun e => decide (bufKey p 0 ≤ e.1) && decide (e.1 < bufKey (p + 1) 0))).map (fun e => e.1 % 2 ^ 24)

/-- Free buffers of a pool: neither granted nor quarantined (R402, R405). -/
def Dev.poolFree (d : Dev) (p : Nat) : Nat :=
  d.poolCount p - (d.granted p).length -
    (d.pools.quarantined.filter (fun k => k / 2 ^ 24 == p && decide (k % 2 ^ 24 < d.poolCount p) && d.buf p (k % 2 ^ 24) == freeBuf 0)).length

/-- Free cells of the packet buffer (R402, R404). -/
def Dev.cellsFree (d : Dev) : Nat := d.poolFree 0

/-- The lowest index from `i` below `stop` that is in neither of two rising lists. -/
def firstFree (fuel : Nat) (taken : List Nat) (bad : List Nat) (i stop : Nat) : Option Nat :=
  match fuel with
  | 0 => none
  | fuel + 1 =>
    if stop ≤ i then none
    else if taken.contains i ∨ bad.contains i then firstFree fuel taken bad (i + 1) stop else some i

/-- Indices of a pool's quarantined buffers. -/
def Dev.quarantinedIn (d : Dev) (p : Nat) : List Nat := (d.pools.quarantined.filter (fun k => k / 2 ^ 24 == p)).map (· % 2 ^ 24)

/-- The lowest-numbered free buffer of a pool in a range (R398). -/
def Dev.findFree (d : Dev) (p lo hi : Nat) : Option Nat :=
  let taken := d.granted p
  let bad := d.quarantinedIn p
  firstFree (taken.length + bad.length + 1) taken bad lo hi

/-- The lowest-numbered `n` free indices from `i` below `stop`, fewer where there are fewer. -/
def freeRun (fuel : Nat) (taken bad : List Nat) (n i stop : Nat) : List Nat :=
  match fuel, n with
  | 0, _ => []
  | _, 0 => []
  | fuel + 1, n + 1 =>
    if stop ≤ i then []
    else if taken.contains i ∨ bad.contains i then freeRun fuel taken bad (n + 1) (i + 1) stop
    else i :: freeRun fuel taken bad n (i + 1) stop

/-- The cells the data path takes for a frame (R394): the lowest-numbered free ones, as the manager grants buffers (R398, log 279). -/
def Dev.freeCells (d : Dev) (n : Nat) : List Nat :=
  let taken := d.granted 0
  let bad := d.quarantinedIn 0
  freeRun (taken.length + bad.length + n) taken bad n 0 (d.poolCount 0)

/-- The pool that serves a size (R398). -/
def poolFor (size : Nat) : Nat := if size ≤ 1024 then 1 else if size ≤ 4096 then 2 else if size ≤ 16384 then 3 else 4

/-- A pool's low-water mark follows its free count (R405). -/
def Dev.poolMin (d : Dev) (p : Nat) : Dev :=
  let n := d.poolFree p
  if n < d.rd (M.POOL_FREE_MIN p) then d.wr (M.POOL_FREE_MIN p) n else d

/-- A grant of buffer `i` to an owner (R398); a bitmap word in error is rebuilt before a grant from it (R402). A grant from the segmentation
reserve leaves what other requesters find free (R400, R401). -/
def Dev.grant (d : Dev) (p i owner : Nat) : Dev :=
  let d := { d with pools := { d.pools with
    badWords := d.pools.badWords.filter (fun w => w != bufKey p (i / 64))
    grantedNow := if owner = 0x21 ∨ d.pools.grantedNow.contains p = true then d.pools.grantedNow else p :: d.pools.grantedNow } }
  ((d.setBuf p i (owner, 1)).bump (M.CNT_POOL_ALLOC p)).poolMin p

/-- A request that finds no free buffer (R398, R400): whether the last one went to an earlier request of the same cycle is open where
the pool has granted one in this period (log 8). -/
def poolEmpty (d : Dev) (p : Nat) : Nat × Nat × Dev :=
  if d.pools.grantedNow.contains p then
    (let (f, d) := d.fresh
     if f % 2 = 1 then (St.POOL_CONTENDED, 0, d.bump (M.CNT_POOL_CONTENDED p)) else (St.POOL_EXHAUSTED, 0, d.bump (M.CNT_POOL_EXHAUSTED p)))
  else (St.POOL_EXHAUSTED, 0, d.bump (M.CNT_POOL_EXHAUSTED p))

/-- An allocation (R395, R398, R400): status, pointer, device. -/
def poolAlloc (d : Dev) (owner size : Nat) : Nat × Nat × Dev :=
  if size = 0 ∨ 65536 < size then (St.RANGE, 0, d) else
  let p := poolFor size
  if d.pools.resizing.contains p then (St.POOL_RESIZING, 0, d) else
  match d.findFree p (if p = 3 then 16 else 0) (d.poolCount p) with
  | none => poolEmpty d p
  | some i => (St.OK, p * 2 ^ 61 + i * poolBytes p, d.grant p i owner)

/-- Free buffers of the segmentation reserve (R401). -/
def Dev.segReserveFree (d : Dev) : Nat := 16 - ((d.granted 3).filter (fun i => decide (i < 16))).length

/-- The segmentation engine takes a buffer of the reserve (R401); `none` while it must wait, as it does while pool 3
awaits a new share (R395). -/
def segAlloc (d : Dev) : Option (Nat × Dev) :=
  if d.pools.resizing.contains 3 then none else
  match d.findFree 3 0 16 with
  | some i => some (i, d.grant 3 i 0x21)
  | none => none

/-- The check of a pointer (R396): pool and buffer index, or the failing status. -/
def checkPtr (d : Dev) (ptr : Nat) : Nat × Nat × Nat :=
  let p := fld ptr 61 3
  let off := fld ptr 0 40
  if 4 < p ∨ fld ptr 40 21 ≠ 0 ∨ d.poolCount p * poolBytes p ≤ off then (St.POOL_PTR_RANGE, 0, 0)
  else if off % poolBytes p ≠ 0 then (St.POOL_PTR_ALIGN, 0, 0) else (St.OK, p, off / poolBytes p)

/-- A free by a requester (R399, R402). -/
def poolFree (d : Dev) (who ptr : Nat) : Nat × Dev :=
  let (st, p, i) := checkPtr d ptr
  if st ≠ St.OK then (st, d.bump M.CNT_POOL_BAD_PTR) else
  if d.pools.quarantined.contains (bufKey p i) then (St.OK, d) else
  let (owner, n) := d.buf p i
  if n = 0 then (St.POOL_DOUBLE_FREE, d.bump (M.CNT_POOL_DOUBLE_FREE p)) else
  if owner ≠ who then (St.POOL_FOREIGN_FREE, d.bump (M.CNT_POOL_FOREIGN_FREE p)) else
  if n = 1 then (St.OK, (d.setBuf p i (0xFF, 0)).bump (M.CNT_POOL_FREE p)) else (St.OK, d.setBuf p i (owner, n - 1))

/-- An uncorrectable error in a buffer's metadata (R402). -/
def poolQuarantine (now : BellSt) (d : Dev) (p i : Nat) : Dev :=
  if d.pools.quarantined.contains (bufKey p i) ∨ d.poolCount p ≤ i then d else
  let d := { d with pools := { d.pools with quarantined := d.pools.quarantined ++ [bufKey p i] } }
  (d.bump (M.CNT_POOL_QUARANTINE p)).raise now Ev.POOL_QUARANTINE (oid 0x49 p) (p * 2 ^ 61 + i * poolBytes p)

/-- POOL_BITMAP_REPAIR (R402): the word is rebuilt from the owner tags. -/
def poolBitmapRepair (word : Nat) (d : Dev) : Dev :=
  { d with pools := { d.pools with badWords := d.pools.badWords.filter (fun w => w != word) } }

/-- POOL_HOST_ALLOC (R403). -/
def poolHostAlloc (v : Nat) (d : Dev) : Nat × Dev :=
  if d.pools.hostAlloc.isSome then (St.BUSY, d) else
  (St.OK, { d.wr M.POOL_HOST_RESULT (St.PENDING * 2 ^ 40) with pools := { d.pools with hostAlloc := some v } })

/-- POOL_HOST_FREE (R403). -/
def poolHostFree (v : Nat) (d : Dev) : Nat × Dev :=
  if d.pools.hostFree.isSome then (St.BUSY, d) else
  (St.OK, { d.wr M.POOL_HOST_FREE_STATUS St.PENDING with pools := { d.pools with hostFree := some v } })

/-- POOL_HOST_ANSWER (R403): the answers of the waiting triggers appear. -/
def poolHostAnswer (d : Dev) : Dev :=
  let d := match d.pools.hostAlloc with
    | some size =>
      let (st, ptr, d) := poolAlloc d 0x20 size
      { d.wr M.POOL_HOST_RESULT (ptr + st * 2 ^ 40) with pools := { d.pools with hostAlloc := none } }
    | none => d
  match d.pools.hostFree with
  | some ptr =>
    let (st, d) := poolFree d 0x20 ptr
    { d.wr M.POOL_HOST_FREE_STATUS st with pools := { d.pools with hostFree := none } }
  | none => d

/-! ## Commands -/

/-- POOL_HOST_ALLOC (R403). -/
def execPoolHostAlloc (a : Acc) (s : State) : Host.Outcome State Fault Refusal :=
  s.onDev (fun _ d => (d.trigger a M.POOL_HOST_ALLOC poolHostAlloc).2)

/-- POOL_HOST_FREE (R403). -/
def execPoolHostFree (a : Acc) (s : State) : Host.Outcome State Fault Refusal :=
  s.onDev (fun _ d => (d.trigger a M.POOL_HOST_FREE poolHostFree).2)

/-- POOL_HOST_ANSWER (R403). -/
def execPoolHostAnswer (s : State) : Host.Outcome State Fault Refusal :=
  s.onDie (fun _ d => poolHostAnswer d)

/-- POOL_BITMAP_REPAIR (R402). -/
def execPoolBitmapRepair (word : Nat) (s : State) : Host.Outcome State Fault Refusal :=
  s.onDie (fun _ d => poolBitmapRepair word d)

end Sys2Proof.Machine
end

