-- ==== Sys2Proof/Machine/Regions.lean ====
section
/-!
DEFINITION. The LPDDR6 regions beside Roll and endpoint table (R50, R51, R395): where a byte of one stands, and the requests
an access of one makes.
-/
namespace Sys2Proof.Machine

/-- A byte of a region: of the Locker as pool × 2^40 + offset. -/
inductive RegionByte where
  | locker (a : Nat)
  | exportRing (a : Nat)
  | tutor (a : Nat)
  | host (a : Nat)
  deriving DecidableEq, Repr

/-- Units of 64 bytes in a MiB. -/
def mibUnits : Nat := 16384

/-- First unit of Locker, export ring, tutor data and host region on each channel that carries them (R51). -/
def regionBases (palette : Nat) : Nat × Nat × Nat × Nat :=
  if palette = 0 then (1088 * mibUnits, 1152 * mibUnits, 1216 * mibUnits, 1280 * mibUnits)
  else if palette = 1 then (576 * mibUnits, 704 * mibUnits, 768 * mibUnits, 832 * mibUnits)
  else if palette = 2 then (320 * mibUnits, 576 * mibUnits, 704 * mibUnits, 768 * mibUnits)
  else (128 * mibUnits, 256 * mibUnits, 384 * mibUnits, 512 * mibUnits)

/-- A region's unit in rotation over the channels that carry it, from a first unit up (R51, log 221): in Slate channels 8 to 15. -/
def spread (palette base u : Nat) : Nat × Nat :=
  if palette = 3 then (8 + u % 8, base + u / 8) else (u % 16, base + u / 16)

/-- Channel and unit of a Locker byte: buffer i of a pool on channel i modulo their number (R395), pools one after the other. -/
def Dev.lockerPlace (d : Dev) (a : Nat) : Nat × Nat :=
  let p := a / 2 ^ 40
  let i := a % 2 ^ 40 / poolBytes p
  let n := if d.palette = 3 then 8 else 16
  let before := ((List.range p).filter (fun q => q != 0)).foldl (fun x q => x + d.rd (M.POOL_SHARE q)) 0
  let ch := i % n + (if d.palette = 3 then 8 else 0)
  (ch, (regionBases d.palette).1 + before * (lockerBytes d.palette / 256 / n / 64) + (i / n * poolBytes p + a % 2 ^ 40 % poolBytes p) / 64)

/-- Channel and unit of a region's byte (R51): in Slate the host region fills channels 0 to 7 first (log 221). -/
def Dev.regionPlace (d : Dev) (b : RegionByte) : Nat × Nat :=
  let (_, e, t, h) := regionBases d.palette
  match b with
  | .locker a => d.lockerPlace a
  | .exportRing a => spread d.palette e (a / 64)
  | .tutor a => spread d.palette t (a / 64)
  | .host a =>
    let u := a / 64
    let low := 8 * 1792 * mibUnits
    if d.palette = 3 ∧ u < low then (u % 8, 256 * mibUnits + u / 8)
    else spread d.palette h (if d.palette = 3 then u - low else u)

/-- The channels and units of some bytes of a region, in order, each once. -/
def Dev.unitPlaces (d : Dev) (bs : List RegionByte) : List (Nat × Nat) := (bs.map d.regionPlace).eraseDups

/-- Requests for some units, each with what the requester's command has told of it (R55, R439, R440). -/
def Dev.unitAccess (d : Dev) (port : Nat) (write : Bool) (t : Nat) (us : List ((Nat × Nat) × Option Bool)) : Dev :=
  us.foldl (fun d (p, k) => memRequest d p.1 { MemReq.new port p.2 write false t with known := k }) d

/-- The requests of an access to some bytes of a region, one for each unit, at a port and a counter value (R55, R440). -/
def Dev.regionAccess (d : Dev) (port : Nat) (write : Bool) (t : Nat) (bs : List RegionByte) : Dev :=
  d.unitAccess port write t ((d.unitPlaces bs).map (fun p => (p, none)))

/-- The reads of an access and then its writes: a requester that changes part of a unit reads it first, and writes it whole (R432).
`part` tells whether it covers part of a unit only. -/
def Dev.regionUpdate (d : Dev) (port : Nat) (part : Bool) (t : Nat) (bs : List RegionByte) : Dev :=
  (if part then d.regionAccess port false t bs else d).regionAccess port true t bs

/-- Whether bytes from an address up cover part of a unit only. -/
def partOfUnit (a n : Nat) : Bool := a % 64 != 0 || n % 64 != 0

end Sys2Proof.Machine
end

