-- ==== Sys2Proof/Machine/RingOps.lean ====
section
/-!
DEFINITION. What the data path does with descriptor rings: finishing a fetched entry (R473), and delivering an item to a
receive ring (R472).
-/
namespace Sys2Proof.Machine

/-- A fetched entry by its index. -/
def Ring.entry (x : Ring) (i : Nat) : Option REntry := x.entries.find? (fun e => e.index == i)

/-- Change one fetched entry. -/
def Ring.amend (x : Ring) (i : Nat) (f : REntry → REntry) : Ring :=
  { x with entries := x.entries.map (fun (e : REntry) => if e.index = i then f e else e) }

/-- Position 0 of a completed entry (R467, R473): DONE and STATUS set, every other field kept. -/
def donePos (pos : Bytes) (st : Nat) : Bytes := let v := leVal (fit 16 pos); toLE 16 (setFld (setFld v 17 1 1) 48 16 st)

/-- An entry is finished with a status: position 0 is written back (R473). -/
def finishEntry (d : Dev) (r i st : Nat) : Dev :=
  d.setRing r ((d.ring r).amend i (fun e => { e with started := true, fin := some (st, donePos e.bytes st) }))

/-- A TX_FRAME entry whose frame is an event message is finished as the frame leaves, with the transmit stamp in
ADDR[31:0] where the port's PTP_MODE is END or BOTH (R507). -/
def finishStamped (d : Dev) (r i : Nat) (stamp : Option Nat) : Dev :=
  d.setRing r ((d.ring r).amend i (fun e =>
    let pos := match stamp with | some ns => patch (fit 16 e.bytes) 8 (toLE 4 ns) | none => e.bytes
    { e with started := true, fin := some (St.OK, donePos pos St.OK) }))

/-- What a receive completion carries beside the item (R472). -/
structure Meta where
  ns : Nat
  parse : Nat
  user : Nat
  port : Nat
  cause : Nat
  cls : Nat
  deriving DecidableEq, Repr

/-- Position 1 of a receive completion (R472). -/
def Meta.pos1 (m : Meta) (more locker : Bool) (len : Nat) : Bytes :=
  toLE 16 (m.ns % 2 ^ 32 * 2 ^ 96 + m.parse % 2 ^ 32 * 2 ^ 64 + m.user % 2 ^ 32 * 2 ^ 32 + m.port % 256 * 2 ^ 24 + m.cause % 16 * 2 ^ 20 +
    m.cls % 8 * 2 ^ 17 + b2n more * 2 ^ 16 + b2n locker * 2 ^ 15 + len % 2 ^ 14)

/-- Posted receive buffers not yet filled, oldest first (R472). -/
def Ring.posted (x : Ring) : List REntry := x.entries.filter (fun e => e.started && e.fin.isNone && byteAt e.bytes 3 == 0x10)

/-- The posted buffers that take `n` bytes (R472), with the bytes each takes; `none` where too few are posted. -/
def takePosted (es : List REntry) (n : Nat) : Option (List (REntry × Nat)) :=
  match n, es with
  | 0, _ => some []
  | _, [] => none
  | n, e :: r =>
    let len := leAt e.bytes 4 2
    if len < 64 then none else
    match takePosted r (n - min n len) with
    | some xs => some ((e, min n len) :: xs)
    | none => none

/-- Fill posted buffers with an item in host memory (R459, R472). -/
def fillHost (d : Dev) (r : Nat) (m : Meta) (item : Bytes) (total : Nat) (xs : List (REntry × Nat)) : Dev :=
  match xs with
  | [] => d
  | (e, n) :: rest =>
    let d := d.emit (.dma (leAt e.bytes 8 8) (item.take n) true)
    let pos := patch (fit 16 e.bytes) 4 (toLE 2 n)
    let d := d.setRing r ((d.ring r).amend e.index (fun e => { e with fin := some (St.OK, donePos pos St.OK ++ m.pos1 (!rest.isEmpty) false total) }))
    fillHost d r m (item.drop n) total rest

/-- Address in the Locker of a buffer pointer: pool × 2^40 + offset. -/
def lockerAt (ptr : Nat) : Nat := fld ptr 61 3 * 2 ^ 40 + fld ptr 0 40

/-- Bytes written to the Locker at a counter value (R432, R440, port 5). -/
def Dev.lockerWrite (d : Dev) (a : Nat) (bs : Bytes) (t : Nat) : Dev :=
  let d : Dev := { d with pools := { d.pools with bytes := Memory.writeBytes d.pools.bytes a bs } }
  d.regionUpdate 5 (partOfUnit a bs.length) t ((List.range bs.length).map (fun i => .locker (a + i)))

/-- An item is delivered to a receive ring, or dropped whole (R472). -/
def deliver (now : BellSt) (d : Dev) (r : Nat) (m : Meta) (item : Bytes) : Dev :=
  if d.rd (M.RING_STATE r) ≠ 1 ∨ d.pins.perstHigh = false then d.bump (M.CNT_RING_RX_DROP r) else
  if d.rd (M.RING_RX_MODE r) = 0 then
    match takePosted (d.ring r).posted item.length with
    | none => d.bump (M.CNT_RING_RX_DROP r)
    | some xs => fillHost d r m item item.length xs
  else
    match (d.ring r).posted with
    | [] => d.bump (M.CNT_RING_RX_DROP r)
    | e :: _ =>
      let (st, ptr, d) := poolAlloc d 0x20 item.length
      if st ≠ St.OK then d.bump (M.CNT_RING_RX_NO_BUFFER r) else
      let (t, d) := Dev.stamp now d
      let d := d.lockerWrite (lockerAt ptr) item t
      let pos := patch (patch (fit 16 e.bytes) 4 (toLE 2 item.length)) 8 (toLE 8 ptr)
      d.setRing r ((d.ring r).amend e.index (fun e => { e with fin := some (St.OK, donePos pos St.OK ++ m.pos1 false true item.length) }))

end Sys2Proof.Machine
end

