-- ==== Sys2Proof/Machine/Tagging.lean ====
section
/-!
DEFINITION. Random tagging (R545 to R548) and snapshots (R540, R541).
-/
namespace Sys2Proof.Machine

/-! ## Tags -/

/-- The LFSR of a pipe (R545); its reset value is the default seed. -/
def Dev.lfsr (d : Dev) (p : Nat) : Nat := SMap.get (fun _ => 1) d.perf.lfsr p

def Dev.setLfsr (d : Dev) (p v : Nat) : Dev := { d with perf := { d.perf with lfsr := SMap.set (fun _ => 1) d.perf.lfsr p v } }

/-- One advance of the Galois LFSR with polynomial x^32 + x^22 + x^2 + x + 1 (R545, log 22). -/
def lfsrStep (s : Nat) : Nat :=
  let t := s * 2 % 2 ^ 32
  if bitOf s 31 then t ^^^ 0x00400007 else t

/-- A parsed pass advances the LFSR, and is tagged when the advanced state's low bits are zero (R545). -/
def tagPick (d : Dev) (p : Nat) : Bool × Dev :=
  let s := lfsrStep (d.lfsr p)
  let n := d.rd (M.PERF_TAG_LOG2 p)
  let hit := decide (n ≠ 0) && s % 2 ^ n == 0
  (hit, (d.setLfsr p s).bumpIf hit (M.CNT_TAG_SELECTED p))

/-- A field of a tag record. -/
def Tag.set (t : Tag) (lo w v : Nat) : Tag := { t with bits := setFld t.bits lo w v }

/-- A stage delta (R547): the stage's open stamp minus RX_NS. -/
def tagStage (now : BellSt) (d : Dev) (t : Option Tag) (lo : Nat) : Option Tag × Dev :=
  match t with
  | none => (none, d)
  | some t =>
    let (ns, d) := Dev.stamp now d
    (some (t.set lo 32 ((ns + 2 ^ 32 - fld t.bits 480 32) % 2 ^ 32)), d)

/-- A pass's record is written when its fate becomes final (R547, R548). -/
def tagWrite (d : Dev) (t : Option Tag) (fate drop : Nat) : Dev :=
  match t with
  | none => d
  | some t =>
    let p := t.pipe
    let i := d.rd (M.PERF_TAG_WRITE_INDEX p)
    if d.rd (M.PERF_TAG_MODE p) = 2 ∧ 4096 ≤ i then d.bump (M.CNT_TAG_LOST p) else
    let t := ((t.set 388 4 fate).set 344 32 drop).set 8 16 (d.rd (M.CNT_TAG_RECORDS p))
    let d := { d with perf := { d.perf with tags := SMap.set zeroAt d.perf.tags (p * 4096 + i % 4096) t.bits } }
    let j := i % 4096 + 1
    (d.wr (M.PERF_TAG_WRITE_INDEX p) (if d.rd (M.PERF_TAG_MODE p) = 2 then j else j % 4096)).bump (M.CNT_TAG_RECORDS p)

/-- PERF_TAG_SEED (R545): the LFSR is loaded, a seed of 0 loading 1. -/
def perfTagSeed (p : Nat) (v : Nat) (d : Dev) : Nat × Dev :=
  (St.OK, (d.wr (M.PERF_TAG_SEED p) v).setLfsr p (if v = 0 then 1 else v))

/-- PERF_TAG_MODE (R548): the write index returns to 0. -/
def perfTagMode (p : Nat) (v : Nat) (d : Dev) : Nat × Dev :=
  (St.OK, (d.wr (M.PERF_TAG_MODE p) v).wr (M.PERF_TAG_WRITE_INDEX p) 0)

/-! ## Snapshots -/

/-- PERF_SNAP_ENABLE (R540, R541): a write of 1 restarts SEQ. -/
def perfSnapEnable (v : Nat) (d : Dev) : Nat × Dev :=
  let d := d.wr M.PERF_SNAP_ENABLE v
  (St.OK, if v = 1 then { d with perf := { d.perf with snapSeq := 0 } } else d)

/-- The latch at a snapshot bell (R540, R541), `read` giving what principal K reads of the ID of an entry; each entry has an open
value of its own. -/
def snapLatch (now : BellSt) (read : Nat → Nat → Nat) (d : Dev) : Dev :=
  if d.on M.PERF_SNAP_ENABLE = false ∨ now.period.toNat % 2 ^ d.rd M.PERF_SNAP_LOG2 ≠ 0 then d else
  if 2 ≤ d.perf.banks.length then d.bump M.CNT_SNAP_SKIPPED else
  let k := d.perf.snapSeq + 1
  let n := d.rd M.PERF_SNAP_COUNT
  let head := toLE 4 k ++ toLE 4 now.period.toNat ++ toLE 4 now.time.toNat ++ toLE 4 now.lesson.toNat ++ toLE 2 n ++ List.replicate 46 0
  let vals := (List.range 504).flatMap (fun i => toLE 8 (if i < n then read i (d.ale (0x08910000 + 4 * i) 4) else 0))
  { d with free := d.free + n, perf := { d.perf with banks := d.perf.banks ++ [(k, d.rd M.PERF_SNAP_ADDR + k % 2 * 4096, head ++ vals)], snapSeq := k } }

/-- Item 2 from one unit to another of its 64 (R540, R541): the 63 units of values first, then the header in a write of its own. -/
def snapCopyOut (lo hi : Nat) (d : Dev) : Dev :=
  match d.perf.banks with
  | [] => d
  | (k, a, bs) :: rest =>
    let v := min hi 63
    let d := if lo < v then d.emit (.dma (a + 64 + 64 * lo) (slice bs (64 + 64 * lo) (64 * (v - lo))) false) else d
    if hi < 64 then d else
    let d : Dev := { d.emit (.dma a (bs.take 64) false) with perf := { d.perf with banks := rest } }
    (d.wr M.PERF_SNAP_SEQ k).bump M.CNT_SNAP_WRITTEN

/-! ## Commands -/

/-- PERF_TAG_SEED (R545). -/
def execPerfTagSeed (pipe : Nat) (a : Acc) (s : State) : Host.Outcome State Fault Refusal :=
  s.onDev (fun _ d => (d.accept a (M.PERF_TAG_SEED pipe) (perfTagSeed pipe)).2)

/-- PERF_TAG_MODE (R548). -/
def execPerfTagMode (pipe : Nat) (a : Acc) (s : State) : Host.Outcome State Fault Refusal :=
  s.onDev (fun _ d => (d.accept a (M.PERF_TAG_MODE pipe) (perfTagMode pipe)).2)

/-- PERF_SNAP_ENABLE (R540). -/
def execPerfSnapEnable (a : Acc) (s : State) : Host.Outcome State Fault Refusal :=
  s.onDev (fun _ d => (d.accept a M.PERF_SNAP_ENABLE perfSnapEnable).2)

end Sys2Proof.Machine
end

