-- ==== Sys2Proof/Machine/Time.lean ====
section
/-!
DEFINITION. The time base (R496 to R508): offsets and the servo, slew and hard steps, the anchor, PPS, and what the MAC
writes into IEEE 1588 event messages.
-/
namespace Sys2Proof.Machine

/-- The clamp of R499: ±1,000 ppm in units of 2^-16 ppm. -/
def clampPpm (x : Int) : Int := max (-65536000) (min 65536000 x)

/-- TIME_SLEW_REMAINING in whole ns, toward zero (R500, log 21). -/
def Time.remaining (t : Time) : Int := if t.slew < 0 then -((-t.slew) / 64000000) else t.slew / 64000000

/-- TIME_OFFSET_IN (R498): the latest value counts; one that replaces an unused value is counted. -/
def timeOffsetIn (v : Nat) (d : Dev) : Nat × Dev :=
  let d := d.bumpIf d.time.fresh M.CNT_TIME_OFFSET_OVERWRITTEN
  (St.OK, { d.wr M.TIME_OFFSET_IN v with time := { d.time with fresh := true } })

/-- TIME_STEP (R501): the amount waits for item 3 of the next period. -/
def timeStep (v : Nat) (d : Dev) : Nat × Dev :=
  (St.OK, { d with time := { d.time with steps := d.time.steps ++ [sgn 64 v] } })

/-- TIME_SERVO_STATE changes (R502): the event names the old and the new state. -/
def servoGoes (now : BellSt) (d : Dev) (new : Nat) : Dev :=
  let was := d.rd M.TIME_SERVO_STATE
  if was = new then d else (d.wr M.TIME_SERVO_STATE new).raise now Ev.TIME_SERVO (oid 8 0) (was + new * 256)

/-- TIME_SERVO_RESET (R501, R502). -/
def timeServoReset (now : BellSt) (_ : Nat) (d : Dev) : Nat × Dev :=
  (St.OK, servoGoes now { d.wr M.TIME_DRIFT 0 with time := { d.time with servo := 0, slew := 0, run := 0 } } 0)

/-- TIME_ANCHOR_NS (R503): applied together with the seconds then held. -/
def timeAnchorNs (v : Nat) (d : Dev) : Nat × Dev :=
  (St.OK, { d.wr M.TIME_ANCHOR_NS v with time := { d.time with anchorSec := d.rd M.TIME_ANCHOR_SEC, anchorNs := v } })

/-- TIME_DRIFT (R499): the value written is clamped. -/
def timeDrift (v : Nat) (d : Dev) : Nat × Dev := (St.OK, d.wrS 32 M.TIME_DRIFT (clampPpm (sgn 32 v)))

/-- TIME_PPS_OUT_ENABLE (R504): with the member clear, PPS_OUT is low. -/
def ppsOutEnable (v : Nat) (d : Dev) : Nat × Dev :=
  let d := d.wr M.TIME_PPS_OUT_ENABLE v
  (St.OK, if v = 0 then { d with pins := { d.pins with ppsOut := false } } else d)

/-- SERVO_HOLDOVER (R502): long enough without a servo step, the output keeps the drift term only. -/
def servoHoldover (now : BellSt) (d : Dev) : Dev :=
  let st := d.rd M.TIME_SERVO_STATE
  let since := (now.lesson.toNat + 2 ^ 24 - d.time.lastStep % 2 ^ 24) % 2 ^ 24
  if (st = 1 ∨ st = 2) ∧ d.rd M.TIME_HOLDOVER_LESSONS ≤ since ∧ since < 2 ^ 23 then
    servoGoes now { d with time := { d.time with servo := d.rdS 32 M.TIME_DRIFT, run := 0 } } 3
  else d

/-- The state after a servo step with error `e` (R502): consecutive steps in the state are counted. -/
def servoTrack (now : BellSt) (d : Dev) (e : Int) : Dev :=
  let st := d.rd M.TIME_SERVO_STATE
  let within := decide (e.natAbs / 65536 ≤ d.rd M.TIME_LOCK_THRESHOLD)
  let put (d : Dev) (n : Nat) : Dev := { d with time := { d.time with run := n } }
  if st = 1 then
    (if within then (if d.time.run + 1 ≥ 8 then servoGoes now (put d 0) 2 else put d (d.time.run + 1)) else put d 0)
  else if st = 2 then
    (if within then put d 0 else if d.time.run + 1 ≥ 4 then servoGoes now (put d 0) 1 else put d (d.time.run + 1))
  else servoGoes now (put d 0) 1

/-- A servo step (R499). -/
def servoStep (now : BellSt) (d : Dev) : Dev :=
  if d.time.fresh then
    let e := d.rdS 64 M.TIME_OFFSET_IN - d.time.remaining * 65536
    let drift := clampPpm (d.rdS 32 M.TIME_DRIFT + e / 2 ^ d.rd M.TIME_KI_SHIFT)
    let servo := clampPpm (drift + e / 2 ^ d.rd M.TIME_KP_SHIFT)
    let d := (d.wrS 32 M.TIME_DRIFT drift).wrS 64 M.TIME_OFFSET_LAST e
    let d := { d.bump M.CNT_TIME_SERVO_STEPS with time := { d.time with servo, fresh := false, lastStep := now.lesson.toNat } }
    servoTrack now d e
  else d

/-- The applied rate and what remains owed (R500). -/
def slewUpdate (d : Dev) : Dev :=
  let owed := d.time.slew
  let full := (d.rd M.TIME_SLEW_MAX : Int) * 65536
  let s := if 0 < owed then min full owed else if owed < 0 then max (-full) owed else 0
  let f := clampPpm (d.time.servo + s)
  let d := d.bumpIf (f != d.time.servo + s) M.CNT_TIME_SLEW_LIMITED
  { d.wrS 32 M.TIME_FREQ_OUT f with time := { d.time with slew := owed - (f - d.time.servo) } }

/-- The TIME_STEP amounts that wait, one after the other (R501, log 211): before READY on a servo that is not LOCKED a hard step
of the counter of the last bell (log 210), otherwise slew. -/
def timeSteps (now : BellSt) (d : Dev) : BellSt × Dev :=
  d.time.steps.foldl (fun (b, d) amount =>
    if b.readyRisen = false ∧ d.rd M.TIME_SERVO_STATE ≠ 2 then
      let ns := BitVec.ofInt 32 (b.ns.toNat + amount)
      ({ b with ns, due := ns.toNat % 1024 == 0 }, d.bump M.CNT_TIME_HARD_STEP)
    else (b, { d with time := { d.time with slew := d.time.slew + amount * 64000000 } }))
    (now, { d with time := { d.time with steps := [] } })

/-- Item 3 of a period (R39, R498 to R502). -/
def timeItem (now : BellSt) (d : Dev) : BellSt × Dev :=
  let (b, d) := timeSteps now d
  (b, slewUpdate (servoStep b d))

/-! ## PTP time and PPS -/

/-- a of R503. -/
def Dev.anchorAge (d : Dev) (t : Nat) : Nat := (t + 2 ^ 32 - d.time.anchorNs % 2 ^ 32) % 2 ^ 32

/-- PTP time in ns at a count (R503). -/
def Dev.ptpNs (d : Dev) (t : Nat) : Nat := d.time.anchorSec * 10 ^ 9 + d.anchorAge t

/-- The anchor is stale (R503). -/
def Dev.anchorStale (d : Dev) (t : Nat) : Bool := decide (2 ^ 31 ≤ d.anchorAge t)

/-- PPS_OUT_RISE at a count (R504): a whole second plus the offset; an edge under a stale anchor is only counted. -/
def ppsOutRise (t : Nat) (d : Dev) : Dev :=
  if d.on M.TIME_PPS_OUT_ENABLE ∧ ((d.ptpNs t : Int) - d.rdS 32 M.TIME_PPS_OUT_OFFSET) % 10 ^ 9 = 0 then
    if d.anchorStale t then d.bump M.CNT_TIME_ANCHOR_STALE
    else { d with pins := { d.pins with ppsOut := true }, time := { d.time with ppsRise := t } }
  else d

/-- PPS_OUT_FALL at a count (R504). -/
def ppsOutFall (t : Nat) (d : Dev) : Dev :=
  if d.on M.TIME_PPS_OUT_ENABLE = false ∨ (t + 2 ^ 32 - d.time.ppsRise % 2 ^ 32) % 2 ^ 32 = d.rd M.TIME_PPS_OUT_WIDTH then
    { d with pins := { d.pins with ppsOut := false } }
  else d

/-- PPS_IN_EDGE at a count (R505). -/
def ppsInEdge (t : Nat) (d : Dev) : Dev := (d.wr M.TIME_PPS_IN_STAMP (t % 2 ^ 32)).bump M.CNT_PPS_IN

/-! ## Event messages (R507, R508) -/

/-- Where the IEEE 1588 event message of a frame stands, as the parser finds it (PTP_EVENT of R224): its offset, and for UDP the
UDP header's offset and whether the packet is IPv6. -/
def ptpPlace (f : Bytes) : Option (Nat × Option (Nat × Bool)) :=
  let h := parseFrame f 0 0
  if h.ptp = false then none
  else if h.l4Type = 2 then some (h.l4Off + 8, some (h.l4Off, h.l3 == 2))
  else some (h.l2Len, none)

/-- One's-complement subtraction. -/
def ocSub (a b : Nat) : Nat := let x := a + (65535 - b % 65536); x % 65536 + x / 65536

/-- The frame with its PTP message replaced and the UDP checksum kept right (R508); `none` where IPv6 has no spare octets. -/
def ptpPatched (f : Bytes) (o : Nat) (udp : Option (Nat × Bool)) (msg : Bytes) : Option Bytes :=
  let g := patch f o msg
  match udp with
  | none => some g
  | some (u, false) => some (patch g (u + 6) [0, 0])
  | some (u, true) =>
    let stop := u + beAt f (u + 4) 2
    let tail := o + beAt f (o + 2) 2
    if stop < tail + 2 then none else
    let was := ocSum (slice f u (stop - u))
    let zeroed := patch g tail [0, 0]
    let x := ocSub was (ocSum (slice zeroed u (stop - u)))
    let x := if (tail - u) % 2 = 1 then x % 256 * 256 + x / 256 else x
    some (patch zeroed tail (toBE 2 x))

/-- correctionField plus an amount in 2^-16 ns, saturated (R508). -/
def cfAdd (msg : Bytes) (amount : Int) : Bytes × Bool :=
  let v := sgn 64 (beAt msg 8 8) + amount
  if 2 ^ 63 ≤ v ∨ v < -(2 ^ 63) then (patch msg 8 (toBE 8 0x7FFFFFFFFFFFFFFF), true) else (patch msg 8 (toBE 8 (unsgn 64 v)), false)

/-- What the transmit port does to a frame (R506 to R508): the frame, its transmit stamp in ns, and the device. `ps` is the
instant of the message timestamp point in ps, `source` as in `Frame.source`. -/
def ptpTransmit (d : Dev) (port ps : Nat) (f : Bytes) (source rxNs : Nat) : Bytes × Nat × Dev :=
  let tx := ((ps : Int) + d.rdS 32 (M.PTP_TX_DELAY port)).toNat
  let ns := tx / 1000 % 2 ^ 32
  let mode := d.rd (M.PTP_MODE port)
  match ptpPlace f with
  | none => (f, ns, d)
  | some (o, udp) =>
    let msg := f.drop o
    let ty := byteAt msg 0 % 16
    if mode = 0 then (f, ns, d) else
    if source = 0 then
      if mode = 1 then (f, ns, d) else
      let res := (ns + 2 ^ 32 - rxNs % 2 ^ 32) % 2 ^ 32
      let (m, sat) := if 2 ^ 31 ≤ res then (patch msg 8 (toBE 8 0x7FFFFFFFFFFFFFFF), true) else cfAdd msg (Int.ofNat (res * 65536))
      match ptpPatched f o udp m with
      | none => (f, ns, d.bump (M.CNT_PTP_NOT_MODIFIED port))
      | some g => (g, ns, (d.bump (M.CNT_PTP_TC_CORRECTED port)).bumpIf sat (M.CNT_PTP_CF_SATURATED port))
    else if mode = 2 ∨ ty ≠ 0 ∨ bitOf (byteAt msg 6) 1 = true then (f, ns, d) else
      let t := d.ptpNs ns
      let (m, sat) := cfAdd msg (Int.ofNat (tx % 1000 * 65536 / 1000))
      let m := patch m 34 (toBE 6 (t / 10 ^ 9) ++ toBE 4 (t % 10 ^ 9))
      match ptpPatched f o udp m with
      | none => (f, ns, d.bump (M.CNT_PTP_NOT_MODIFIED port))
      | some g => (g, ns, ((d.bump (M.CNT_PTP_ONESTEP port)).bumpIf (d.anchorStale ns) M.CNT_TIME_ANCHOR_STALE).bumpIf sat (M.CNT_PTP_CF_SATURATED port))

/-! ## Commands -/

/-- TIME_OFFSET_IN (R498). -/
def execTimeOffsetIn (a : Acc) (s : State) : Host.Outcome State Fault Refusal :=
  s.onDev (fun _ d => (d.accept a M.TIME_OFFSET_IN timeOffsetIn).2)

/-- TIME_STEP (R501). -/
def execTimeStep (a : Acc) (s : State) : Host.Outcome State Fault Refusal :=
  s.onDev (fun _ d => (d.trigger a M.TIME_STEP timeStep).2)

/-- TIME_SERVO_RESET (R501). -/
def execTimeServoReset (a : Acc) (s : State) : Host.Outcome State Fault Refusal :=
  s.onDev (fun now d => (d.trigger a M.TIME_SERVO_RESET (timeServoReset now)).2)

/-- TIME_ANCHOR_NS (R503). -/
def execTimeAnchorNs (a : Acc) (s : State) : Host.Outcome State Fault Refusal :=
  s.onDev (fun _ d => (d.accept a M.TIME_ANCHOR_NS timeAnchorNs).2)

/-- SERVO_HOLDOVER (R502). -/
def execServoHoldover (s : State) : Host.Outcome State Fault Refusal :=
  s.onDie (fun now d => servoHoldover now d)

/-- PPS_OUT_RISE (R504). -/
def execPpsOutRise (ns : Nat) (s : State) : Host.Outcome State Fault Refusal :=
  s.onDie (fun _ d => ppsOutRise ns d)

/-- PPS_OUT_FALL (R504). -/
def execPpsOutFall (ns : Nat) (s : State) : Host.Outcome State Fault Refusal :=
  s.onDie (fun _ d => ppsOutFall ns d)

/-- PPS_IN_EDGE (R505). -/
def execPpsInEdge (ns : Nat) (s : State) : Host.Outcome State Fault Refusal :=
  s.onDie (fun _ d => ppsInEdge ns d)

end Sys2Proof.Machine
end

