-- ==== Sys2Proof/Machine/Switch.lean ====
section
/-!
DEFINITION. The switch core and the timetable (R383 to R393, R408 to R423, R512): cells and limits, enqueue, selection,
shapers, gates, meters, transmission and the flush of a port that goes down.
-/
namespace Sys2Proof.Machine

/-! ## Frames and cells -/

/-- Cells of a frame of `n` bytes with its FCS (R383). -/
def cellsOf (n : Nat) : Nat := (n + 32 + 255) / 256

/-- Cells held toward a port's egress limit (R385). -/
def Dev.egressHeld (d : Dev) (port cls : Nat) : Nat := SMap.get zeroAt d.switch.egress (port * 8 + cls)

def Dev.setIngress (d : Dev) (port cls n : Nat) : Dev :=
  { d with switch := { d.switch with ingress := SMap.set zeroAt d.switch.ingress (port * 8 + cls) n } }

def Dev.setEgress (d : Dev) (port cls n : Nat) : Dev :=
  { d with switch := { d.switch with egress := SMap.set zeroAt d.switch.egress (port * 8 + cls) n } }

/-- Flow control of a lossless class after its held cells changed (R389): XOFF at I − M, XON below I − 2M. -/
def pfcCheck (now : BellSt) (d : Dev) (port cls : Nat) : Dev :=
  if d.losslessOn port cls = false then d else
  let h := d.ingressHeld port cls
  let i := d.rd (M.BUF_INGRESS_LIMIT port cls) / 256
  let m := d.rd (M.PORT_PFC_HEADROOM port) / 256
  let k := port * 8 + cls
  let held := d.switch.xoff.any (fun x => x.1 == k)
  if held = false ∧ i ≤ h + m then
    let d := sendPause now d port cls (64 * d.gbps port) (M.CNT_PFC_TX port)
    { d with switch := { d.switch with xoff := d.switch.xoff ++ [(k, now.period.toNat)] } }
  else if held = true ∧ h + 2 * m < i then
    let d := { d with switch := { d.switch with xoff := d.switch.xoff.filter (fun x => x.1 != k) } }
    if d.on M.THROTTLE_STATE ∧ d.power.paused.contains k = true then d else sendPause now d port cls 0 (M.CNT_PFC_TX port)
  else d

/-- PFC_REFRESH (R389): every 16 periods while the class stays at or above I − 2M. -/
def pfcRefresh (port cls : Nat) (now : BellSt) (d : Dev) : Dev :=
  let k := port * 8 + cls
  match d.switch.xoff.find? (fun x => x.1 == k) with
  | some x =>
    if 16 ≤ (now.period.toNat + 2 ^ 32 - x.2 % 2 ^ 32) % 2 ^ 32 then
      let d := sendPause now d port cls (64 * d.gbps port) (M.CNT_PFC_TX port)
      { d with switch := { d.switch with xoff := d.switch.xoff.map (fun y => if y.1 = k then (k, now.period.toNat) else y) } }
    else d
  | none => d

/-- BUF_CELLS_FREE_MIN follows the free cells (R404). -/
def Dev.cellsMin (d : Dev) : Dev :=
  let n := d.cellsFree
  let d := if n < d.rd M.BUF_CELLS_FREE_MIN then d.wr M.BUF_CELLS_FREE_MIN n else d
  d.poolMin 0

/-- The cells of a frame are written under its number (R385, R397, R404, R405): each belongs to the frame's pipe and counts 1 (R393). -/
def writeCells (now : BellSt) (d : Dev) (n : Nat) (f : Frame) : Dev :=
  let cells := d.freeCells f.cells
  let d := cells.foldl (fun d i => d.setBuf 0 i (pipeOf f.port, 1)) d
  let d := d.setFrame n (some { f with held := cells })
  let d := if f.limited then pfcCheck now (d.setIngress f.port f.cls (d.ingressHeld f.port f.cls + f.cells)) f.port f.cls else d
  (d.addTo (M.CNT_POOL_ALLOC 0) f.cells).cellsMin

/-- Some cells of a frame fall by one in their count, or are given up whole, and those at zero are freed (R393, R405): how many were freed,
and the device. -/
def releaseCells (now : BellSt) (d : Dev) (n : Nat) (cells : List Nat) (whole : Bool) : Nat × Dev :=
  match d.frame n with
  | none => (0, d)
  | some f =>
    let (gone, rest) := (f.held.filter (fun i => cells.contains i)).partition (fun i => whole || decide ((d.buf 0 i).2 ≤ 1))
    let d := gone.foldl (fun d i => d.setBuf 0 i (freeBuf 0)) d
    let d := rest.foldl (fun d i => d.setBuf 0 i ((d.buf 0 i).1, (d.buf 0 i).2 - 1)) d
    let left := f.held.filter (fun i => !gone.contains i)
    let d := (d.setFrame n (if left.isEmpty then none else some { f with held := left })).addTo (M.CNT_POOL_FREE 0) gone.length
    (gone.length, if f.limited then pfcCheck now (d.setIngress f.port f.cls (d.ingressHeld f.port f.cls - gone.length)) f.port f.cls else d)

/-- The cells a frame still holds. -/
def Dev.cellsOfFrame (d : Dev) (n : Nat) : List Nat := match d.frame n with | some f => f.held | none => []

/-- A frame's cells are freed, whatever copies of it are left (R393, R405). -/
def freeFrame (now : BellSt) (d : Dev) (n : Nat) : Dev := (releaseCells now d n (d.cellsOfFrame n) true).2

/-- Replication sets the count of a frame's cells to the copies enqueued (R393). -/
def setCounts (d : Dev) (n copies : Nat) : Dev := (d.cellsOfFrame n).foldl (fun d i => d.setBuf 0 i ((d.buf 0 i).1, copies)) d

/-- A frame's cells are taken (R386): its number, or which cause drops it: 1 no free cell, 2 the ingress limit. Each cell is
checked as it is written, so that the cause is that of the first cell to fail, and the cells before it were written and are freed
(R384). -/
def takeCells (now : BellSt) (d : Dev) (f : Frame) : Option Nat × Nat × Dev :=
  let room := d.rd (M.BUF_INGRESS_LIMIT f.port f.cls) / 256 - d.ingressHeld f.port f.cls
  let n := d.switch.nextFrame
  let fits := if f.limited then min room d.cellsFree else d.cellsFree
  if fits < f.cells then
    (none, if fits < d.cellsFree then 2 else 1, freeFrame now (writeCells now d n { f with cells := fits }) n)
  else
    let d := writeCells now d n f
    (some n, 0, { d with switch := { d.switch with nextFrame := n + 1 } })

/-- A copy has finished with a frame's cells, or never used them (R393): freed when the count reaches zero. -/
def releaseFrame (now : BellSt) (d : Dev) (n : Nat) : Dev := (releaseCells now d n (d.cellsOfFrame n) false).2

/-! ## Rows of the timetable (R424 to R428) -/

def Row.nat (r : Row) : Nat := leVal r.data
def Row.withNat (r : Row) (n v : Nat) : Row := { r with data := toLE n v }

/-- A subscriber row as a number, and its key. -/
def subKey (i : Nat) : Nat := rowKey6 i
where rowKey6 (i : Nat) : Nat := 6 * 2 ^ 37 + i
def queueKey (i : Nat) : Nat := 7 * 2 ^ 37 + i

def Dev.subRow (d : Dev) (i : Nat) : Nat := match d.row (subKey i) with | some r => r.nat | none => 0
def Dev.queueRow (d : Dev) (i : Nat) : Nat := match d.row (queueKey i) with | some r => r.nat | none => 0

/-- A subscriber row's value; a row that nothing wrote holds zeros (R425). -/
def Dev.setSubRow (d : Dev) (i v : Nat) : Dev :=
  let r := (d.row (subKey i)).getD { data := List.replicate 64 0, win := ⟨none, none⟩, valid := true }
  d.setRow (subKey i) (some (r.withNat 64 v))
def Dev.setQueueRow (d : Dev) (i v : Nat) : Dev :=
  match d.row (queueKey i) with | some r => d.setRow (queueKey i) (some (r.withNat 16 v)) | none => d

def subValid (s : Nat) : Bool := bitOf s 511
def subService (s : Nat) : Nat := fld s 499 12
def subQueueFirst (s : Nat) : Nat := fld s 479 20
def subQueueCount (s : Nat) : Nat := fld s 475 4
def queueValid (q : Nat) : Bool := bitOf q 127
def queueDepth (q : Nat) : Nat := fld q 56 21

/-- An entry of the service table (R426). -/
def Dev.service (d : Dev) (i : Nat) : Nat := d.ale (0x08550000 + 8 * i) 8
def svcValid (v : Nat) : Bool := bitOf v 63
def svcPort (v : Nat) : Nat := fld v 55 8
def svcRate (v : Nat) : Nat := fld v 31 24
def svcBurst (v : Nat) : Nat := fld v 15 16

/-- Copies waiting in an egress queue. -/
def Dev.queue (d : Dev) (q : Nat) : List Copy := SMap.get (fun _ => []) d.switch.queues q
def Dev.setQueue (d : Dev) (q : Nat) (x : List Copy) : Dev :=
  { d with switch := { d.switch with queues := SMap.set (fun _ => []) d.switch.queues q x } }

/-- Copies selected and not started, of a port and class (R411). -/
def Dev.macq (d : Dev) (port cls : Nat) : List Copy := SMap.get (fun _ => []) d.switch.macq (port * 8 + cls)
def Dev.setMacq (d : Dev) (port cls : Nat) (x : List Copy) : Dev :=
  { d with switch := { d.switch with macq := SMap.set (fun _ => []) d.switch.macq (port * 8 + cls) x } }

/-! ## Enqueue (R387, R392, R408, R409, R512) -/

/-- Check 1 of R387. -/
def Dev.portUp (d : Dev) (port : Nat) : Bool := d.on (M.PORT_LINK port) && d.on (M.PORT_ADMIN port)

/-- The subscriber an endpoint's range names (R408, R426). -/
def rangeSub (d : Dev) (ep : Nat) : Option Nat :=
  (List.range 64).findSome? (fun k =>
    let v := d.ale (0x0855A000 + 16 * k) 16
    let first := fld v 103 24
    if bitOf v 127 ∧ first ≤ ep ∧ ep < first + fld v 78 25 then some (fld v 55 17 + (ep - first) / 2 ^ fld v 72 6) else none)

/-- The subscriber of a copy (R408). -/
def chooseSub (d : Dev) (port : Nat) (ep : Option Nat) : Nat × Dev :=
  let dflt := d.rd (M.TT_SUB_DEFAULT port)
  if d.rd (M.TT_SUB_MODE port) = 0 then (dflt, d) else
  match ep.bind (rangeSub d) with
  | none => (dflt, d)
  | some s =>
    let r := d.subRow s
    if subValid r ∧ svcPort (d.service (subService r)) = port then (s, d) else (dflt, d.bump M.CNT_TT_SUB_MISMATCH)

/-- How an enqueue ends: queued, or dropped at which check, with the counter that counted it. -/
inductive Enq where
  | queued
  | dropped (check : Nat) (counter : Nat)
  deriving DecidableEq, Repr

/-- A drop at checks 3 to 5 is counted in the subscriber's DROP_FRAMES too (R425). -/
def subDrop (d : Dev) (s : Nat) : Dev := let r := d.subRow s; d.setSubRow s (setFld r 128 32 (fld r 128 32 + 1))

/-- One copy enqueued on a port that is up (R387 check 2, R408, R409). `multi` says whether the frame has several copies
(R392), `f` is its frame and `c` the copy. -/
def enqueueAt (now : BellSt) (d : Dev) (f : Frame) (c : Copy) (ep : Option Nat) (multi : Bool) : Enq × Dev :=
  let full := !f.lossless && decide (d.rd (M.BUF_EGRESS_LIMIT c.port c.cls) / 256 < d.egressHeld c.port c.cls + c.cells)
  if full then
    (let k := if multi then M.CNT_MC_COPY_DROP c.port else M.CNT_BUF_EGRESS_DROP c.port c.cls
     (.dropped 2 k, d.bump k))
  else
    let (s, d) := chooseSub d c.port ep
    let r := d.subRow s
    let q := subQueueFirst r + c.cls * subQueueCount r / 8
    let qr := d.queueRow q
    if subValid r = false ∨ queueValid qr = false then
      (.dropped 3 (M.CNT_TT_QUEUE_INVALID c.port), subDrop (d.bump (M.CNT_TT_QUEUE_INVALID c.port)) s) else
    let beyond (lim : Nat) : Bool := !f.lossless && decide (lim ≠ 0) && decide (lim < queueDepth qr + c.cells)
    if beyond (fld qr 97 20) then
      (.dropped 4 (M.CNT_TT_QUEUE_DROP c.port), subDrop ((d.bump (M.CNT_TT_QUEUE_DROP c.port)).bumpIf multi (M.CNT_MC_COPY_DROP c.port)) s)
    else if c.yellow && beyond (fld qr 77 20) then
      (.dropped 5 (M.CNT_TT_YELLOW_DROP c.port), subDrop ((d.bump (M.CNT_TT_YELLOW_DROP c.port)).bumpIf multi (M.CNT_MC_COPY_DROP c.port)) s)
    else
      let (tag, d) := tagStage now d c.tag 88
      let d := d.setQueueRow q (setFld qr 56 21 (queueDepth qr + c.cells))
      let d := d.setEgress c.port c.cls (d.egressHeld c.port c.cls + c.cells)
      (.queued, d.setQueue q (d.queue q ++ [{ c with tag := tag.map (fun t => t.set 400 8 c.port) }]))

/-- One copy enqueued (R387, R512): a port that is down hands the copy to its failover port, one step only. -/
def enqueue (now : BellSt) (d : Dev) (f : Frame) (c : Copy) (ep : Option Nat) (multi : Bool) : Enq × Dev :=
  let c := { c with enqueued := now.period.toNat }
  if d.portUp c.port then enqueueAt now d f c ep multi else
  let fo := d.rd (M.PORT_FAILOVER c.port)
  if fo < 256 ∧ d.portUp fo = true then enqueueAt now (d.bump (M.CNT_PORT_FAILOVER c.port)) f { c with port := fo } ep multi
  else (.dropped 1 (M.CNT_BUF_PORT_DOWN c.port), d.bump (M.CNT_BUF_PORT_DOWN c.port))

/-- A new copy of a frame. -/
def copyOf (n : Nat) (f : Frame) (bytes : Bytes) (port cls : Nat) (yellow : Bool) (tag : Option Tag) : Copy :=
  { frame := n, bytes, port, cls, cells := f.cells, yellow, enqueued := 0, heldAt := none, ring := none, tag }

/-! ## Shapers (R413 to R416) -/

/-- Tokens a rate adds in elapsed periods (R413). -/
def refillAmount (rate el : Nat) : Nat := rate * el * 2097152 / 10 ^ 6

/-- A bucket refilled (R413). -/
def refill (tokens : Int) (rate size el : Nat) : Int :=
  if 2 ^ 31 ≤ el then (size * 16384 : Nat) else min (tokens + refillAmount rate el) ((size * 16384 : Nat) : Int)

/-- Periods from a stamp to a period (R35, R413). -/
def elapsed (p last : Nat) : Nat := (p % 2 ^ 32 + 2 ^ 32 - last % 2 ^ 32) % 2 ^ 32

/-- The period in which a bucket last brought up to date in `last` is brought up to date for an event of period `p`, in the
period `cur`: an event of an earlier period takes it no further back (R38, log 225). -/
def meterAt (cur p last : Nat) : Nat := if elapsed cur last < elapsed cur p then last else p

/-- The period a frame belongs to by its receive stamp (R38); a frame of the host or a tutor has none and belongs to the running
period. -/
def framePeriod (now : BellSt) (f : Frame) : Nat :=
  let before := (now.time.toNat + 2 ^ 32 - f.rxNs % 2 ^ 32) % 2 ^ 32
  if f.source ≠ 0 ∨ before = 0 ∨ 2 ^ 31 ≤ before then now.period.toNat else elapsed now.period.toNat ((before + 1023) / 1024)

def Dev.svcShaper (d : Dev) (i : Nat) : Shaper := SMap.get (fun _ => ⟨0, 0⟩) d.switch.svcShaper i
def Dev.setSvcShaper (d : Dev) (i : Nat) (x : Shaper) : Dev :=
  { d with switch := { d.switch with svcShaper := SMap.set (fun _ => ⟨0, 0⟩) d.switch.svcShaper i x } }
def Dev.portShaper (d : Dev) (i : Nat) : Shaper := SMap.get (fun _ => ⟨0, 0⟩) d.switch.portShaper i
def Dev.setPortShaper (d : Dev) (i : Nat) (x : Shaper) : Dev :=
  { d with switch := { d.switch with portShaper := SMap.set (fun _ => ⟨0, 0⟩) d.switch.portShaper i x } }

/-- A service's shaper brought up to date to period `at_` in period `cur` (R413). -/
def refillService (cur at_ : Nat) (d : Dev) (i : Nat) : Dev :=
  let v := d.service i
  let x := d.svcShaper i
  let p := meterAt cur at_ x.last
  if svcRate v = 0 then d
  else d.setSvcShaper i ⟨refill x.tokens (svcRate v) (svcBurst v) (elapsed p x.last), p⟩

/-- A port's shaper brought up to date (R413). -/
def refillPort (cur at_ : Nat) (d : Dev) (i : Nat) : Dev :=
  let x := d.portShaper i
  let r := d.rd (M.TT_PORT_RATE i)
  let p := meterAt cur at_ x.last
  if r = 0 then d
  else d.setPortShaper i ⟨refill x.tokens r (d.rd (M.TT_PORT_BURST i)) (elapsed p x.last), p⟩

/-- A valid subscriber's buckets brought up to date (R413, R425); a bucket whose rate is 0 is not used (R415, log 250). -/
def refillSub (cur at_ : Nat) (d : Dev) (s : Nat) : Dev :=
  let r := d.subRow s
  let cir := fld r 443 24
  let pir := fld r 419 24
  if subValid r = false then d else
  let p := meterAt cur at_ (fld r 288 32)
  let el := elapsed p (fld r 288 32)
  let tc := if cir = 0 then sgn 32 (fld r 352 32) else refill (sgn 32 (fld r 352 32)) cir (fld r 403 16) el
  let tp := if pir = 0 then sgn 32 (fld r 320 32) else refill (sgn 32 (fld r 320 32)) pir (fld r 387 16) el
  d.setSubRow s (setFld (setFld (setFld r 352 32 (unsgn 32 tc)) 320 32 (unsgn 32 tp)) 288 32 p)

/-- Subscriber rows that are listed or default, in rising order. -/
def Dev.subIndices (d : Dev) : List Nat :=
  (List.range 256) ++ ((d.tabs.filter (fun e => e.1 / 2 ^ 37 == 6 && decide (256 ≤ e.1 % 2 ^ 37))).map (fun e => e.1 % 2 ^ 37))

/-- Services whose entries hold more than their default, in rising order: no other has a rate (R426, R428). -/
def Dev.ratedServices (d : Dev) : List Nat :=
  ((d.area.filter (fun c => decide (0x08550000 ≤ c.1) && decide (c.1 < 0x08558000))).map (fun c => (c.1 - 0x08550000) / 8)).eraseDups

/-- Item 7 from one cycle to another of its 196 (R39, R41): 64 shapers a cycle, the period's 8,192 subscribers in rotation, then
all services, then all ports. -/
def shaperItem (cur : Nat) (at_ : BellSt) (lo hi : Nat) (d : Dev) : Dev :=
  let p := at_.period.toNat
  let inside (c : Nat) : Bool := decide (lo ≤ c) && decide (c < hi)
  let subs := d.subIndices.filter (fun s => s / 8192 == p % 16 && inside (s % 8192 / 64))
  let d := subs.foldl (refillSub cur p) d
  let d := (d.ratedServices.filter (fun v => inside (128 + v / 64))).foldl (refillService cur p) d
  ((List.range 256).filter (fun k => inside (192 + k / 64))).foldl (refillPort cur p) d

/-! ## Selection (R410, R411, R414) -/

/-- The subscriber whose queue range covers a queue (R411, R415). -/
def Dev.subOfQueue (d : Dev) (q : Nat) : Option Nat :=
  d.subIndices.find? (fun s => let r := d.subRow s
    subValid r && decide (subQueueFirst r ≤ q) && decide (q < subQueueFirst r + subQueueCount r))

/-- Queues whose head frame has a class and whose subscriber is valid, with subscriber and service, for a port (R411). -/
def Dev.offers (d : Dev) (port cls : Nat) : List (Nat × Nat × Nat) :=
  d.switch.queues.filterMap (fun (q, cs) =>
    match cs with
    | c :: _ =>
      if c.cls = cls then
        (match d.subOfQueue q with
         | some s =>
           let v := subService (d.subRow s)
           if svcValid (d.service v) ∧ svcPort (d.service v) = port then some (q, s, v) else none
         | none => none)
      else none
    | [] => none)

/-- The next of a list after an index, wrapping. -/
def nextAfter (xs : List Nat) (cur : Option Nat) : Option Nat :=
  let sorted := xs.mergeSort (· ≤ ·)
  match cur with
  | none => sorted.head?
  | some c => match sorted.find? (fun x => decide (c < x)) with
    | some x => some x
    | none => sorted.head?

/-- Deficit round robin (R411): the child that supplies the next frame, and the deficits after it. -/
def drr (fuel : Nat) (kids : List Nat) (cur : Option Nat) (len quantum : Nat → Nat) (df : SMap Nat) : Option (Nat × SMap Nat) :=
  match fuel with
  | 0 => none
  | fuel + 1 =>
    let serve := match cur with
      | some k => if kids.contains k ∧ len k ≤ SMap.get zeroAt df k then some k else none
      | none => none
    match serve with
    | some k => some (k, SMap.set zeroAt df k (SMap.get zeroAt df k - len k))
    | none =>
      match nextAfter kids cur with
      | none => none
      | some k => drr fuel kids (some k) len quantum (SMap.set zeroAt df k (SMap.get zeroAt df k + quantum k))

/-- The band of a subscriber (R411): 1 committed, 2 peak, 0 ineligible. -/
def subBand (r : Nat) : Nat :=
  if fld r 443 24 ≠ 0 ∧ 0 ≤ sgn 32 (fld r 352 32) then 1
  else if fld r 419 24 = 0 ∨ 0 ≤ sgn 32 (fld r 320 32) then 2 else 0

/-- Length of a queue's head frame with its FCS (R198). -/
def Dev.headLen (d : Dev) (q : Nat) : Nat := match d.queue q with | c :: _ => c.bytes.length + 4 | [] => 0

/-- Whether a service may be chosen under its shaper (R414). -/
def Dev.svcEligible (d : Dev) (v : Nat) : Bool := svcRate (d.service v) == 0 || decide (0 ≤ (d.svcShaper v).tokens)

/-- Step 3 of R411: the queue of a subscriber. -/
def pickQueue (d : Dev) (s cls : Nat) (qs : List Nat) : Option (Nat × Dev) :=
  let key := s * 8 + cls
  let cur := SMap.get (fun _ => none) d.switch.queueTurn key
  match drr (400 * (qs.length + 1)) qs cur d.headLen (fun q => fld (d.queueRow q) 117 10 * 64)
      (qs.foldl (fun m q => SMap.set zeroAt m q (fld (d.queueRow q) 35 21)) []) with
  | none => none
  | some (q, df) =>
    let d := qs.foldl (fun d k => d.setQueueRow k (setFld (d.queueRow k) 35 21 (SMap.get zeroAt df k))) d
    some (q, { d with switch := { d.switch with queueTurn := SMap.set (fun _ => none) d.switch.queueTurn key (some q) } })

/-- Step 2 of R411: the subscriber of a service. -/
def pickSub (d : Dev) (v : Nat) (ss : List Nat) (len : Nat → Nat) : Option (Nat × Dev) :=
  let one := ss.filter (fun s => subBand (d.subRow s) == 1)
  let two := ss.filter (fun s => subBand (d.subRow s) == 2)
  let (band, kids) := if one.isEmpty then (2, two) else (1, one)
  let key := v * 2 + (band - 1)
  let cur := SMap.get (fun _ => none) d.switch.subTurn key
  match drr (100 * (kids.length + 1)) kids cur len (fun s => fld (d.subRow s) 467 8 * 256)
      (kids.foldl (fun m s => SMap.set zeroAt m s (fld (d.subRow s) 256 32)) []) with
  | none => none
  | some (s, df) =>
    let d := kids.foldl (fun d k => d.setSubRow k (setFld (d.subRow k) 256 32 (SMap.get zeroAt df k))) d
    some (s, { d with switch := { d.switch with subTurn := SMap.set (fun _ => none) d.switch.subTurn key (some s) } })

/-- A debit leaves tokens no lower than −B, and raises none that stand lower (R414, log 280). -/
def debit (b tokens : Int) : Int := min tokens (max (tokens - b) (-b))

/-- The head of a queue moves to the MAC transmit queue of its class: shapers are debited (R414), DEPTH falls (R410), and a
deficit returns to 0 where no frame of the class is left (R411). -/
def takeHead (now : BellSt) (d : Dev) (port cls v s q : Nat) : Dev :=
  match d.queue q with
  | [] => d
  | c :: rest =>
    let b : Int := ((c.bytes.length + 4 + d.rd (M.TT_SHAPE_OVERHEAD port)) * 256 : Nat)
    let r := d.subRow s
    let take (rate : Nat) (x : Int) : Int := if rate = 0 then x else debit b x
    let r := setFld (setFld r 352 32 (unsgn 32 (take (fld r 443 24) (sgn 32 (fld r 352 32))))) 320 32
      (unsgn 32 (take (fld r 419 24) (sgn 32 (fld r 320 32))))
    let r := setFld (setFld r 192 64 (fld r 192 64 + c.bytes.length + 4)) 160 32 (fld r 160 32 + 1)
    let more := rest.any (fun x => x.cls == cls)
    let left := more || (List.range (subQueueCount r)).any (fun k =>
      subQueueFirst r + k != q && (d.queue (subQueueFirst r + k)).any (fun x => x.cls == cls))
    let r := if left then r else setFld r 256 32 0
    let d := d.setSubRow s r
    let d := d.setSvcShaper v ⟨take (svcRate (d.service v)) (d.svcShaper v).tokens, (d.svcShaper v).last⟩
    let d := d.setPortShaper port ⟨take (d.rd (M.TT_PORT_RATE port)) (d.portShaper port).tokens, (d.portShaper port).last⟩
    let qr := d.queueRow q
    let qr := setFld qr 56 21 (queueDepth qr - c.cells)
    let qr := if more then qr else setFld qr 35 21 0
    let (tag, d) := tagStage now d c.tag 56
    let d := (d.setQueueRow q qr).setQueue q rest
    d.setMacq port cls (d.macq port cls ++ [{ c with tag }])

/-- TT_SELECT (R411): the next frame of a class of a port. -/
def ttSelect (port cls : Nat) (now : BellSt) (d : Dev) : Dev :=
  if 8 ≤ cls ∨ 2 ≤ (d.macq port cls).length then d else
  let p := now.period.toNat
  let d := refillPort p p d port
  if d.rd (M.TT_PORT_RATE port) ≠ 0 ∧ (d.portShaper port).tokens < 0 then d else
  let offers := d.offers port cls
  let d := ((offers.map (fun o => o.2.2)).eraseDups).foldl (refillService p p) d
  let d := ((offers.map (fun o => o.2.1)).eraseDups).foldl (refillSub p p) d
  let offers := offers.filter (fun o => d.svcEligible o.2.2 && subBand (d.subRow o.2.1) != 0)
  let key := port * 8 + cls
  match nextAfter ((offers.map (fun o => o.2.2)).eraseDups) (SMap.get (fun _ => none) d.switch.svcTurn key) with
  | none => d
  | some v =>
    let mine := offers.filter (fun o => o.2.2 == v)
    let lenOf (s : Nat) : Nat :=
      match pickQueue d s cls ((mine.filter (fun o => o.2.1 == s)).map (fun o => o.1)) with
      | some (q, _) => d.headLen q
      | none => 0
    match pickSub d v ((mine.map (fun o => o.2.1)).eraseDups) lenOf with
    | none => d
    | some (s, d) =>
      match pickQueue d s cls ((mine.filter (fun o => o.2.1 == s)).map (fun o => o.1)) with
      | none => d
      | some (q, d) =>
        takeHead now { d with switch := { d.switch with svcTurn := SMap.set (fun _ => none) d.switch.svcTurn key (some v) } } port cls v s q

/-! ## Gates (R417 to R419) -/

/-- CYCLE of a port's gate list, ns (R417). -/
def Dev.gateCycle (d : Dev) (p : Nat) : Nat := 1024 * 2 ^ d.rd (M.TT_GATE_CYCLE_LOG2 p)

/-- Offset of a counter value in the cycle (R417). -/
def Dev.gateOffset (d : Dev) (p t : Nat) : Nat := (t + 2 ^ 32 - d.rd (M.TT_GATE_BASE p) % 2 ^ 32) % d.gateCycle p

/-- Gate entry k (R427): GATES and INTERVAL. -/
def Dev.gateEntry (d : Dev) (p k : Nat) : Nat × Nat :=
  let v := d.ale (0x02000000 + 0x4000 * p + 0x2800 + 8 * k) 8
  (fld v 32 8, fld v 0 32)

/-- The gates an entry list applies at an offset, and how long until the entry ends (R417). -/
def gateAt (es : List (Nat × Nat)) (o : Nat) : Nat × Nat :=
  match es with
  | [] => (0, 0)
  | (g, i) :: r => if o < i then (g, i - o) else gateAt r (o - i)

/-- The port's gate entries. -/
def Dev.gateList (d : Dev) (p : Nat) : List (Nat × Nat) := (List.range (d.rd (M.TT_GATE_COUNT p))).map (d.gateEntry p)

/-- Gates open at a counter value (R417). -/
def Dev.gatesAt (d : Dev) (p t : Nat) : Nat :=
  if d.on (M.TT_GATE_ENABLE p) then (gateAt (d.gateList p) (d.gateOffset p t)).1 else 0xFF

/-- Ns from an offset until gate `q` next closes, over entries and cycles, up to `fuel` entries (R418). -/
def windowLeft (es : List (Nat × Nat)) (cycle q : Nat) (fuel o acc : Nat) : Nat :=
  match fuel with
  | 0 => acc
  | fuel + 1 =>
    let (g, left) := gateAt es (o % cycle)
    if bitOf g q = false ∨ left = 0 then acc else windowLeft es cycle q fuel (o + left) (acc + left)

/-- GATE_ENTRY_CHANGE at a counter value (R417): TT_GATE_STATE follows the entry. -/
def gateEntryChange (port t : Nat) (d : Dev) : Dev := d.wr (M.TT_GATE_STATE port) (d.gatesAt port t)

/-- Whether a frame of `len` bytes of queue `q` may start at a counter value (R418): a gate that no entry closes has no close. -/
def Dev.gateFits (d : Dev) (p q t len : Nat) : Bool :=
  if d.on (M.TT_GATE_ENABLE p) = false then true else
  let cy := d.gateCycle p
  let left := windowLeft (d.gateList p) cy q (2 * d.rd (M.TT_GATE_COUNT p) + 1) (d.gateOffset p t) 0
  (d.gateList p).all (fun e => bitOf e.1 q) || (bitOf (d.gatesAt p t) q && decide ((len + 20) * 8 ≤ left * d.gbps p))

/-! ## Transmission (R204, R390, R393, R453) -/

/-- Whether queue q of a port is paused (R206). -/
def Dev.paused (d : Dev) (p q : Nat) : Bool := bitOf (d.rd (M.PORT_PAUSE_STATE p)) q

/-- A copy that is dropped after its enqueue still ends its TX_FRAME descriptor, without a stamp (R469, R507). -/
def finishDropped (d : Dev) (c : Copy) : Dev :=
  match c.ring with
  | some (r, i) => finishStamped d r i none
  | none => d

/-- A copy leaves a port's queues without being sent: egress cells returned, cells released, tag record written. -/
def dropCopy (now : BellSt) (d : Dev) (c : Copy) (counter : Nat) : Dev :=
  let d := d.setEgress c.port c.cls (d.egressHeld c.port c.cls - c.cells)
  releaseFrame now (tagWrite (finishDropped d c) c.tag 7 counter) c.frame

/-- An instant near the running period, in ns over the laps of PERIOD_COUNT. -/
def wideNs (now : BellSt) (t : Nat) : Nat := ((now.period.toNat * 1024 : Nat) + sgn 32 (t + 2 ^ 32 - now.ns.toNat)).toNat

/-- Ns from one such instant to another. -/
def nsBetween (a b : Nat) : Nat := (b + 2 ^ 42 - a % 2 ^ 42) % 2 ^ 42

/-- The head of a MAC transmit queue is held by its gate (R418): the first hold of a frame is counted. -/
def holdHead (now : BellSt) (d : Dev) (p q t : Nat) : Dev :=
  match d.macq p q with
  | [] => d
  | c :: r => if c.heldAt.isSome then d else (d.setMacq p q ({ c with heldAt := some (wideNs now t) } :: r)).bump (M.CNT_TT_GATE_HOLD p)

/-- The MAC's next queue at a counter value, from the highest down, and the device with the holds counted (R204, R418). -/
def pickMac (now : BellSt) (d : Dev) (p t : Nat) (qs : List Nat) : Option Nat × Dev :=
  match qs with
  | [] => (none, d)
  | q :: r =>
    match d.macq p q with
    | [] => pickMac now d p t r
    | c :: _ =>
      if d.paused p q then pickMac now d p t r
      else if d.gateFits p q t (c.bytes.length + 4) then (some q, d)
      else pickMac now (holdHead now d p q t) p t r

/-- A port that has left low-power idle starts no frame before its partner has woken (R211). -/
def Dev.stillWaking (d : Dev) (port t : Nat) : Bool :=
  match SMap.get (fun _ => none) d.ports.waking port with
  | some w => decide ((t + 2 ^ 32 - w) % 2 ^ 32 ≥ 2 ^ 31)
  | none => false

/-- The transmit queues of a port that have become empty at a counter value (R211). -/
def goesQuiet (d : Dev) (port t : Nat) : Dev :=
  if (List.range 8).all (fun q => (d.macq port q).isEmpty) then
    { d with ports := { d.ports with quiet := SMap.set zeroAt d.ports.quiet port t } }
  else d

/-- A port has started a frame: it no longer waits for its partner to wake (R211). -/
def Dev.awoken (d : Dev) (port : Nat) : Dev := { d with ports := { d.ports with waking := SMap.set (fun _ => none) d.ports.waking port none } }

/-- A copy of a frame with an uncorrectable cell (R453): the MAC reads the cells in order as it sends them, so that a bad first cell drops
the copy, and a later one ends the frame with an error control character after the bytes before it (log 276). -/
def badCopy (now : BellSt) (d : Dev) (c : Copy) (f : Frame) : Dev :=
  let k := (f.bad.map (· / 8)).foldl min f.cells
  let d := if k = 0 then d else (d.awoken c.port).emit (.frameError c.port (c.bytes.take (256 * k)))
  dropCopy now (d.bump M.CNT_MEM_PKT_UNCORRECTABLE) c M.CNT_MEM_PKT_UNCORRECTABLE

/-- MAC_TX_START at an instant in ps (R204, R418, R453, R506 to R508): the frame goes out whole with its FCS. -/
def macTxStart (port ps : Nat) (now : BellSt) (d : Dev) : Dev :=
  let t := ps / 1000 % 2 ^ 32
  if d.on (M.PORT_LINK port) = false ∨ d.ports.lpi.contains port = true ∨ d.stillWaking port t = true then d else
  let (pick, d) := pickMac now d port t [7, 6, 5, 4, 3, 2, 1, 0]
  match pick with
  | none => d
  | some q =>
    match d.macq port q with
    | [] => d
    | c :: rest =>
      let d := d.setMacq port q rest
      let held := match c.heldAt with | some h => min (nsBetween h (wideNs now t)) (2 ^ 32 - 1) | none => 0
      let d := d.raiseTo (M.TT_GATE_HOLD_MAX port) held
      match d.frame c.frame with
      | none => d
      | some f =>
        if f.bad.isEmpty = false then badCopy now (goesQuiet d port t) c f else
        let (bytes, ns, d) := ptpTransmit d port ps c.bytes f.source f.rxNs
        let d := match c.ring with
          | some (r, i) =>
            finishStamped d r i (if d.rd (M.PTP_MODE port) = 1 ∨ d.rd (M.PTP_MODE port) = 3 then some ns else none)
          | none => d
        let out := bytes ++ toLE 4 (crcEth bytes)
        let d := ((d.emit (.frame port out)).bump (M.CNT_TX_FRAMES port)).addTo (M.CNT_TX_BYTES port) out.length
        let (tag, d) := tagStage now d c.tag 24
        let d := tagWrite d tag 1 0
        let d := d.setEgress c.port c.cls (d.egressHeld c.port c.cls - c.cells)
        releaseFrame now (goesQuiet (d.awoken port) port t) c.frame

/-- GATE_OVERSIZE_DROP at a counter value (R418, R419): a frame that has stayed held for one full CYCLE is dropped. None is held while its
queue is paused, or once the gates let it start. -/
def gateOversizeDrop (port cls t : Nat) (now : BellSt) (d : Dev) : Dev :=
  match d.macq port cls with
  | [] => d
  | c :: rest =>
    match c.heldAt with
    | some h =>
      if d.paused port cls = false ∧ d.gateFits port cls t (c.bytes.length + 4) = false ∧ d.gateCycle port ≤ nsBetween h (wideNs now t) then
        dropCopy now (goesQuiet ((d.setMacq port cls rest).bump (M.CNT_TT_GATE_OVERSIZE port)) port t) c (M.CNT_TT_GATE_OVERSIZE port)
      else d
    | none => d

/-! ## Port down (R390) -/

/-- A queue loses the copies of a port that goes down (R390); where none is left, its deficit and, with its last frame, that of its
subscriber return to 0 (R411). -/
def unlinkQueue (port : Nat) (d : Dev) (q : Nat) : Dev :=
  let left := (d.queue q).filter (fun c => c.port != port)
  if left.length = (d.queue q).length then d else
  let d := d.setQueue q left
  if left.isEmpty = false then d else
  let d := d.setQueueRow q (setFld (d.queueRow q) 35 21 0)
  match d.subOfQueue q with
  | none => d
  | some s =>
    let r := d.subRow s
    if (List.range (subQueueCount r)).all (fun k => (d.queue (subQueueFirst r + k)).isEmpty) then d.setSubRow s (setFld r 256 32 0) else d

/-- A port's queues are unlinked in one cycle (R390): every copy is counted, and its cells wait for the return engine. -/
def unlinkPort (d : Dev) (port : Nat) : Dev :=
  let waiting := (d.switch.queues.flatMap (fun (q, cs) => (cs.filter (fun c => c.port == port)).map (fun c => (some q, c)))) ++
    (List.range 8).flatMap (fun q => (d.macq port q).map (fun c => (none, c)))
  let d := waiting.foldl (fun d (q, c) =>
    let d := (tagWrite (finishDropped d c) c.tag 7 (M.CNT_PORT_FLUSH_FRAMES port)).bump (M.CNT_PORT_FLUSH_FRAMES port)
    let d := match q with
      | some q => d.setQueueRow q (setFld (d.queueRow q) 56 21 (queueDepth (d.queueRow q) - c.cells))
      | none => d
    let d := d.setEgress c.port c.cls (d.egressHeld c.port c.cls - c.cells)
    { d with switch := { d.switch with flush := d.switch.flush ++ [(port, c.frame, d.cellsOfFrame c.frame)] } }) d
  let d := (d.switch.queues.map Prod.fst).foldl (unlinkQueue port) d
  (List.range 8).foldl (fun d q => d.setMacq port q []) d

/-- The return engine works through up to `budget` cells, ports in the order they went down (R390): each cell it returns falls in its own
count (R393). -/
def flushCells (now : BellSt) (fuel budget : Nat) (d : Dev) : Dev :=
  match fuel with
  | 0 => d
  | fuel + 1 =>
    match d.switch.flush with
    | [] => d
    | (port, n, cells) :: rest =>
      let (freed, d) := releaseCells now d n (cells.take budget) false
      let d := d.addTo (M.CNT_PORT_FLUSH_CELLS port) freed
      if budget < cells.length then { d with switch := { d.switch with flush := (port, n, cells.drop budget) :: rest } }
      else flushCells now fuel (budget - cells.length) { d with switch := { d.switch with flush := rest } }

/-- PORT_FLUSH_RETURN (R390): one period of the return engine. -/
def portFlushReturn (now : BellSt) (d : Dev) : Dev := flushCells now (d.switch.flush.length + 1) 4096 d

/-! ## Policing (R420 to R422) -/

/-- A meter profile (R426). -/
def Dev.profile (d : Dev) (i : Nat) : Nat := d.ale (0x08558000 + 32 * i) 32

/-- A colour: 0 green, 1 yellow, 2 red. One metering of `b` token units (R421): the colour, TC and TE after it. -/
def meterRun (mode : Nat) (aware : Bool) (input b tc te : Nat) : Nat × Nat × Nat :=
  let input := if aware then input else 0
  if mode = 2 then
    (if input = 2 ∨ te < b then (2, tc, te) else if input = 1 ∨ tc < b then (1, tc, te - b) else (0, tc - b, te - b))
  else if input = 2 then (2, tc, te)
  else if input = 0 ∧ b ≤ tc then (0, tc - b, te)
  else if b ≤ te then (1, tc, te - b) else (2, tc, te)

/-- The buckets of a meter brought up to date (R413, R421): in mode 1 what overflows CBS goes to TE. -/
def meterRefill (mode cir eir cbs ebs el tc te : Nat) : Nat × Nat :=
  let c := cbs * 16384
  let e := ebs * 16384
  if 2 ^ 31 ≤ el then (c, e)
  else if mode = 1 then
    (let t := tc + refillAmount cir el
     (min c t, min e (te + (t - c))))
  else (min c (tc + refillAmount cir el), min e (te + refillAmount eir el))

def Dev.meter (d : Dev) (m : Nat) : Meter := SMap.get (fun _ => ⟨0, 0, 0⟩) d.switch.meters m
def Dev.setMeter (d : Dev) (m : Nat) (x : Meter) : Dev :=
  { d with switch := { d.switch with meters := SMap.set (fun _ => ⟨0, 0, 0⟩) d.switch.meters m x } }

/-- A class meter brought up to date (R413). -/
def refillMeter (cur at_ : Nat) (d : Dev) (m : Nat) : Dev :=
  let p := d.profile (m / 256)
  let x := d.meter m
  let t := meterAt cur at_ x.last
  let (tc, te) := meterRefill (fld p 254 2) (fld p 224 24) (fld p 200 24) (fld p 184 16) (fld p 168 16) (elapsed t x.last) x.tc x.te
  if fld p 254 2 = 0 then d else d.setMeter m ⟨tc, te, t⟩

/-- A class meter runs on a frame of `len` bytes and period `at_` (R38, R420, R421): the colour it leaves. -/
def classMeter (cur at_ : Nat) (d : Dev) (m input len : Nat) : Nat × Dev :=
  let p := d.profile (m / 256)
  if fld p 254 2 = 0 then (input, d) else
  let d := refillMeter cur at_ d m
  let x := d.meter m
  let (col, tc, te) := meterRun (fld p 254 2) (bitOf p 253) input (len * 256) x.tc x.te
  (col, d.setMeter m { x with tc, te })

/-! ## Commands -/

/-- PFC_REFRESH (R389). -/
def execPfcRefresh (port cls : Nat) (s : State) : Host.Outcome State Fault Refusal :=
  s.onDie (fun now d => pfcRefresh port cls now d)

/-- TT_SELECT (R411). -/
def execTtSelect (port cls : Nat) (s : State) : Host.Outcome State Fault Refusal :=
  s.onDie (fun now d => ttSelect port cls now d)

/-- GATE_ENTRY_CHANGE (R417). -/
def execGateEntryChange (port ns : Nat) (s : State) : Host.Outcome State Fault Refusal :=
  s.onDie (fun _ d => gateEntryChange port ns d)

/-- GATE_OVERSIZE_DROP (R419). -/
def execGateOversizeDrop (port cls ns : Nat) (s : State) : Host.Outcome State Fault Refusal :=
  s.onDie (fun now d => gateOversizeDrop port cls ns now d)

end Sys2Proof.Machine
end

