-- ==== Sys2Proof/Machine/Mac.lean ====
section
/-!
DEFINITION. Ports and MAC (R194 to R222, R565): receive checks, pause, link changes, low-power idle, wake patterns, and
the segmentation engine (R212 to R214).
-/
namespace Sys2Proof.Machine

/-! ## Wake from Recess (R89, R90, R215 to R217) -/

/-- A wake cause (1 pattern, 2 PCIe, 3 Denlys) with its port and pattern: wake begins, or is latched while entry runs (R89). Only
a pattern match records a port and a pattern (log 212); causes come one at a time, as commands do (log 8). -/
def recessWake (now : BellSt) (d : Dev) (cause port pattern : Nat) : Dev :=
  match d.start.recess with
  | .recess =>
    let d := d.wr M.RECESS_WAKE_CAUSE cause
    let d := if cause = 1 then (d.wr M.RECESS_WAKE_PORT port).wr M.RECESS_WAKE_PATTERN pattern else d
    { d with start := { d.start with recess := .waking, wakeLatch := none } }.raiseOpen now Ev.RECESS_WAKE (oid 3 0)
  | .entering =>
    if d.start.wakeLatch.isSome then d else { d with start := { d.start with wakeLatch := some (cause, port, pattern) } }
  | _ => d

/-- Address of a port's wake pattern (R215): its offset counts from the block area, at 0x800 of the stride block (log 218). -/
def patternAddr (port k : Nat) : Nat := 0x02000000 + 0x4000 * port + 0x1800 + 0x100 * k

/-- Offsets in the window of the masked bytes of a pattern, rising (R215, R216). -/
def maskedBytes (d : Dev) (a : Nat) : List Nat := (List.range 128).filter (fun i => bitOf (d.ab (a + 0x80 + i / 8)).toNat (i % 8))

/-- The check value of a wake window (R216): width 16, polynomial 0x1021, all ones first, nothing reflected or inverted. -/
def crc16 (bs : Bytes) : Nat := crcFeed 16 0x1021 false 0xFFFF bs

/-- PORT_WAKE_PREPARE (R216): CHECK of all 16 patterns, and STALE cleared. -/
def portWakePrepare (port : Nat) (_ : Nat) (d : Dev) : Nat × Dev :=
  (St.OK, (List.range 16).foldl (fun d k =>
    let a := patternAddr port k
    let c := crc16 ((maskedBytes d a).map (fun i => d.ab (a + i)))
    d.awr (a + 0x92) (toLE 2 c ++ [0])) d)

/-- Whether a frame matches an enabled pattern (R217); a stale CHECK is never compared (R218). -/
def matchesPattern (d : Dev) (port k : Nat) (f : Bytes) : Bool :=
  let a := patternAddr port k
  let off := d.ale (a + 0x90) 2
  let ms := maskedBytes d a
  bitOf (d.rd (M.PORT_WAKE_ENABLE port)) k && d.ab (a + 0x94) == 0 && ms.all (fun i => decide (off + i < f.length)) &&
    crc16 (ms.map (fun i => f.getD (off + i) 0)) == d.ale (a + 0x92) 2

/-- A frame that passed the MAC checks in Recess (R217): each match counts, and the lowest matching pattern wakes the device. -/
def wakeMatch (now : BellSt) (d : Dev) (port : Nat) (f : Bytes) : Dev :=
  match (List.range 16).filter (fun k => matchesPattern d port k f) with
  | k :: rest => recessWake now (d.addTo (M.CNT_WAKE_MATCH port) (rest.length + 1)) 1 port k
  | [] => d

/-! ## Receive (R198 to R205, R386, R565) -/

/-- Offset of the type/length field: after the VLAN tags (R200). -/
def typeOffset (f : Bytes) : Nat := if !isTpid (beAt f 12 2) then 12 else if !isTpid (beAt f 16 2) then 16 else 20

/-- The first cause of R200 that applies to a frame with its FCS, as the member that counts it. -/
def macDrop (d : Dev) (f : RxFrame) : Option Nat :=
  let n := f.bytes.length
  let body := f.bytes.take (n - 4)
  let o := typeOffset f.bytes
  let ty := beAt f.bytes o 2
  let data := n - 4 - (o + 2)
  if f.symbolError then some (M.CNT_SYMBOL_ERROR f.port)
  else if f.alignError then some (M.CNT_ALIGNMENT f.port)
  else if n ≤ 63 then some (M.CNT_RUNT f.port)
  else if d.rd (M.PORT_MAX_FRAME f.port) < n then some (M.CNT_OVERSIZE f.port)
  else if leVal (f.bytes.drop (n - 4)) ≠ crcEth body then some (M.CNT_FCS_ERROR f.port)
  else if ty ≤ 1500 ∧ ty ≠ data ∧ ¬ (n = 64 ∧ ty < data) then some (M.CNT_LENGTH_FIELD f.port) else none

/-- The ingress class of a frame (R203). -/
def ingressClass (d : Dev) (port : Nat) (f : Bytes) : Nat :=
  let byPcp := match macPcp f with
    | some p => fld (d.rd (M.PORT_PCP_MAP port)) (3 * p) 3
    | none => d.rd (M.PORT_DEFAULT_CLASS port)
  if d.rd (M.PORT_TRUST port) = 0 then d.rd (M.PORT_DEFAULT_CLASS port)
  else if d.rd (M.PORT_TRUST port) = 1 then byPcp
  else match macDscp f with
    | some c => (d.ab (0x02000000 + 0x4000 * port + 0x800 + c)).toNat % 8
    | none => byPcp

/-- The queues a pause (opcode 1) or PFC frame pauses, with their times in quanta (R205). -/
def pauseTimes (f : Bytes) (op : Nat) : List (Nat × Nat) :=
  let o := typeOffset f + 2
  if op = 1 then (List.range 8).map (fun q => (q, beAt f (o + 2) 2))
  else ((List.range 8).filter (fun q => bitOf (beAt f (o + 2) 2) q)).map (fun q => (q, beAt f (o + 4 + 2 * q) 2))

/-- Whether a queue ignores pause after the watchdog (R208). -/
def Dev.heldOff (d : Dev) (port q : Nat) : Bool := (SMap.get (fun _ => none) d.ports.holdoff (port * 8 + q)).isSome

/-- A MAC control frame is consumed (R202, R205, R208): one that is obeyed waits 40 ns to be applied. -/
def macControl (d : Dev) (port : Nat) (f : Bytes) : Dev :=
  let op := beAt f (typeOffset f + 2) 2
  let mode := d.rd (M.PORT_FC_MODE port)
  if op ≠ 0x0001 ∧ op ≠ 0x0101 then d.bump (M.CNT_MAC_CONTROL_OTHER port)
  else if (op = 0x0001 ∧ mode = 1) ∨ (op = 0x0101 ∧ mode = 2) then
    { d with ports := { d.ports with control := d.ports.control ++ [(port, f)] } }
  else d.bump (M.CNT_PAUSE_IGNORED port)

/-- Whether a port carries Walger (R514, R516). -/
def Dev.buddyPort (d : Dev) (port : Nat) : Bool :=
  d.on M.BUDDY_ENABLE && (d.rd M.BUDDY_PORT_0 == port || d.rd M.BUDDY_PORT_1 == port)

/-- A frame on a Buddy port (R516): a Walger frame waits for its step, any other is dropped. -/
def buddyFrame (d : Dev) (port : Nat) (f : Bytes) : Dev :=
  if beAt f 12 2 = d.rd M.BUDDY_ETHERTYPE ∧ 34 ≤ f.length ∧ 1 ≤ byteAt f 15 ∧ byteAt f 15 ≤ 6 then
    { d with buddy := { d.buddy with rx := d.buddy.rx ++ [(port, (f.take (f.length - 4)).drop 14)] } }
  else d.bump M.CNT_BUDDY_FOREIGN

/-- Whether the data path admits frames: READY is high and no fall of it is due within Recess or a restart (R62, R88, R98). -/
def Dev.admits (d : Dev) : Bool := d.pins.ready

/-- Cells are written and the frame waits to be parsed (R386, R506). -/
def admitFrame (now : BellSt) (d : Dev) (port cls : Nat) (bytes : Bytes) (rxNs source : Nat) : Bool × Dev :=
  let f : Frame := { bytes, port, cls, rxNs, cells := cellsOf (bytes.length + 4), limited := true, lossless := d.losslessOn port cls, source,
                     held := [], bad := [] }
  match takeCells now d f with
  | (some n, _, d) => (true, { d with ports := { d.ports with arrivals := d.ports.arrivals ++ [(pipeOf port, n)] } })
  | (none, why, d) => (false, d.bump (if why = 1 then M.CNT_BUF_NO_CELL port else M.CNT_BUF_INGRESS_DROP port cls))

/-- The receive stamp with the port's own delay (R506). -/
def rxStamp (d : Dev) (port ns : Nat) : Nat := ((ns : Int) - d.rdS 32 (M.PTP_RX_DELAY port) / 1000).toNat % 2 ^ 32

/-- A frame dropped by admission throttling (R82): counted, and per ingress port and class. -/
def throttleDrop (d : Dev) (port cls : Nat) : Dev :=
  let d := d.bump M.CNT_THROTTLE_DROP
  let n := SMap.get zeroAt d.power.throttleDrops (port * 8 + cls) + 1
  { d with power := { d.power with throttleDrops := SMap.set zeroAt d.power.throttleDrops (port * 8 + cls) n } }

/-- An accepted frame (R200): consumed by the MAC (R202), in Recess compared and dropped, otherwise given its class and cells. -/
def acceptFrame (now : BellSt) (d : Dev) (f : RxFrame) : Dev :=
  let p := f.port
  let d := (d.bump (M.CNT_RX_FRAMES p)).addTo (M.CNT_RX_BYTES p) f.bytes.length
  let d := if d.start.recess ≠ .awake ∧ d.admits = false then wakeMatch now d p f.bytes else d
  if beAt f.bytes (typeOffset f.bytes) 2 = 0x8808 then macControl d p f.bytes else
  if d.asleep ∨ d.admits = false then d else
  if d.buddyPort p then buddyFrame d p f.bytes else
  let cls := ingressClass d p f.bytes
  if d.on M.THROTTLE_STATE ∧ cls < d.cutoff (pipeOf p) ∧ d.losslessOn p cls = false ∧ cls ≠ 7 then throttleDrop d p cls else
  (admitFrame now d p cls (f.bytes.take (f.bytes.length - 4)) (rxStamp d p f.ns) 0).2

/-- FRAME_RECEIVE (R200, R565). -/
def frameReceive (f : RxFrame) (now : BellSt) (d : Dev) : Dev :=
  if 256 ≤ f.port ∨ d.on (M.PORT_LINK f.port) = false then d else
  match macDrop d f with
  | some c => d.bump c
  | none => acceptFrame now d f

/-! ## Pause and PFC (R205 to R209); instants are on a clock that does not wrap -/

def Dev.pauseOf (d : Dev) (port q : Nat) : Option Pause := SMap.get (fun _ => none) d.ports.pause (port * 8 + q)

/-- A queue's pause begins, is reloaded or ends; PORT_PAUSE_STATE follows (R206). -/
def setPause (d : Dev) (port q : Nat) (x : Option Pause) : Dev :=
  let d := { d with ports := { d.ports with pause := SMap.set (fun _ => none) d.ports.pause (port * 8 + q) x } }
  d.wr (M.PORT_PAUSE_STATE port) (setFld (d.rd (M.PORT_PAUSE_STATE port)) q 1 (b2n x.isSome))

/-- One queue of an applied frame (R206 to R208): `t` is the instant of application, 40 ns after the last bit. -/
def pauseQueue (port t : Nat) (d : Dev) (x : Nat × Nat) : Dev :=
  if d.heldOff port x.1 then d
  else if x.2 = 0 then setPause d port x.1 none
  else
    let since := match d.pauseOf port x.1 with | some p => p.since | none => t
    setPause d port x.1 (some { until_ := t - 40 + (x.2 * 512 + d.gbps port - 1) / d.gbps port, since })

/-- PAUSE_APPLY (R206, R207, R209): the oldest waiting frame of the port. -/
def pauseApply (port t : Nat) (d : Dev) : Dev :=
  match d.ports.control.find? (fun x => x.1 == port) with
  | none => d
  | some x =>
    let d := { d with ports := { d.ports with control := d.ports.control.erase x } }
    let qs := pauseTimes x.2 (beAt x.2 (typeOffset x.2 + 2) 2)
    let ignored := qs.any (fun q => d.heldOff port q.1)
    let obeyed := qs.isEmpty || qs.any (fun q => !d.heldOff port q.1)
    let d := (d.bumpIf ignored (M.CNT_PAUSE_HOLDOFF port)).bumpIf obeyed (M.CNT_PAUSE_RX port)
    qs.foldl (pauseQueue port t) d

/-- A frame that has arrived and is not yet applied has loaded the timer of a queue at its last bit (R206). -/
def Dev.reloaded (d : Dev) (port q : Nat) : Bool :=
  !d.heldOff port q && d.ports.control.any (fun x => x.1 == port && (pauseTimes x.2 (beAt x.2 (typeOffset x.2 + 2) 2)).any (fun y => y.1 == q))

/-- PAUSE_TIMER_EXPIRE (R206): of the time last loaded. -/
def pauseTimerExpire (port q t : Nat) (d : Dev) : Dev :=
  match d.pauseOf port q with
  | some p => if p.until_ ≤ t ∧ d.reloaded port q = false then setPause d port q none else d
  | none => d

/-- PAUSE_WATCHDOG (R208): the limit is passed, the pause ends and hold-off begins. -/
def pauseWatchdog (port q t : Nat) (now : BellSt) (d : Dev) : Dev :=
  let limit := d.rd (M.PORT_PAUSE_WD_LIMIT port)
  match d.pauseOf port q with
  | some p =>
    if limit ≠ 0 ∧ p.since + limit * 1000 < t then
      let d := (setPause d port q none).bump (M.CNT_PAUSE_WATCHDOG port)
      let d := d.raise now Ev.PAUSE_WATCHDOG (oid 0x11 port) (port + q * 2 ^ 32)
      { d with ports := { d.ports with holdoff := SMap.set (fun _ => none) d.ports.holdoff (port * 8 + q)
                                        (some (t + d.rd (M.PORT_PAUSE_WD_HOLDOFF port) * 1000)) } }
    else d
  | none => d

/-- PAUSE_HOLDOFF_END (R208). -/
def pauseHoldoffEnd (port q t : Nat) (d : Dev) : Dev :=
  match SMap.get (fun _ => none) d.ports.holdoff (port * 8 + q) with
  | some e => if e ≤ t then { d with ports := { d.ports with holdoff := SMap.set (fun _ => none) d.ports.holdoff (port * 8 + q) none } } else d
  | none => d

/-! ## Links (R54, R100, R195 to R197, R390, R530) -/

/-- The lanes of a port in its mode. -/
def Dev.lanesOf (d : Dev) (port : Nat) : List Nat := (List.range (modeLanes (d.rd (M.PORT_MODE port)))).map (port + ·)

/-- LINK_UP (R54, R90, R100, R196, R197): training has completed on a port that may come up; a wake enables the lanes before READY
rises. -/
def linkUp (port : Nat) (d : Dev) : Dev :=
  if port < 256 ∧ d.on (M.PORT_LINK port) = false ∧ d.rd (M.PORT_MODE port) ≠ 0 ∧ d.on (M.PORT_ADMIN port) ∧
     (d.pins.ready = true ∨ d.start.recess = .waking ∨ (d.start.recess = .recess ∧ d.on (M.PORT_WAKE_ENABLE port) = true)) ∧
     d.gated (pipeOf port) = false ∧ (d.lanesOf port).all (fun l => !d.ports.badLanes.contains l) = true then
    (d.lanesOf port).foldl (fun d l => d.wr (M.LANE_SIGNAL l) 1) (d.wr (M.PORT_LINK port) 1)
  else d

/-- A Buddy port has gone down (R530). -/
def buddyPortDown (now : BellSt) (d : Dev) (port : Nat) : Dev :=
  if d.buddyPort port = false then d else
  let d := d.raise now Ev.BUDDY_PORT_DOWN (oid 0x70 0) port
  let both := !d.on (M.PORT_LINK (d.rd M.BUDDY_PORT_0)) && !d.on (M.PORT_LINK (d.rd M.BUDDY_PORT_1))
  { d with buddy := { d.buddy with bothDown := d.buddy.bothDown || both } }

/-- A port goes down (R390): its link falls, and its queues are unlinked. -/
def portDown (now : BellSt) (d : Dev) (port : Nat) : Dev :=
  let d := if d.on (M.PORT_LINK port) then buddyPortDown now ((d.wr (M.PORT_LINK port) 0).bump (M.CNT_LINK_DOWN port)) port else d
  let d : Dev := { d with ports := { d.ports with lpi := d.ports.lpi.filter (· != port) } }
  if (List.range 8).all (fun q => (d.macq port q).isEmpty) then unlinkPort d port else
  let (t, d) := Dev.stamp now d
  goesQuiet (unlinkPort d port) port t

/-- LINK_DOWN (R390). -/
def linkDown (port : Nat) (now : BellSt) (d : Dev) : Dev := if d.on (M.PORT_LINK port) then portDown now d port else d

/-! ## Low-power idle (R210, R211) -/

/-- LPI_ENTER (R211): the transmit queues have been empty for PORT_LPI_IDLE. -/
def lpiEnter (port : Nat) (now : BellSt) (d : Dev) : Dev :=
  let (t, d) := Dev.stamp now d
  if d.on (M.PORT_LPI_ENABLE port) ∧ [1, 2, 4].contains (d.rd (M.PORT_MODE port)) = true ∧ d.on (M.PORT_LINK port) ∧
     d.ports.lpi.contains port = false ∧ (List.range 8).all (fun q => (d.macq port q).isEmpty) = true ∧
     d.rd (M.PORT_LPI_IDLE port) * 1000 ≤ (t + 2 ^ 32 - SMap.get zeroAt d.ports.quiet port % 2 ^ 32) % 2 ^ 32 then
    { d with ports := { d.ports with lpi := port :: d.ports.lpi } }.bump (M.CNT_LPI_ENTRY port)
  else d

/-- LPI_EXIT (R211): a frame waits for the sleeping transmitter, and starts PORT_LPI_TW_TX later. -/
def lpiExit (port : Nat) (now : BellSt) (d : Dev) : Dev :=
  if (List.range 8).any (fun q => !(d.macq port q).isEmpty) then leaveLpi now d port else d

/-! ## The segmentation engine (R212 to R214, R401) -/

/-- Segments of a request (R213). -/
def SegReq.count (s : SegReq) : Nat := (s.payLen + s.mss - 1) / s.mss

/-- A request that ends before its last segment: its ring knows it no more, and its buffers go as its frames leave (R214). -/
def SegReq.orphan (s : SegReq) : SegReq := { s with ring := 256, seq := s.count }

/-- The chunks whose frames have all been sent free their buffers, once no later segment draws on them (R214). -/
def segReap (d : Dev) : Dev :=
  let d := { d with segs := d.segs.map (fun (s : SegReq) => { s with chunks := s.chunks.map (fun ((b, fs) : Nat × List Nat) => (b, fs.filter (fun n => (d.frame n).isSome))) }) }
  let free (s : SegReq) (k : Nat) (c : Nat × List Nat) : Bool := c.2.isEmpty && (s.seq == s.count || decide (16384 * (k + 1) ≤ s.seq * s.mss))
  let gone := d.segs.flatMap (fun (s : SegReq) => ((List.range s.chunks.length).filter (fun k =>
    match s.chunks[k]? with | some c => c.1 < 16 && free s k c | none => false)).filterMap (fun k => (s.chunks[k]?).map Prod.fst))
  let d := gone.foldl (fun d b => (poolFree d 0x21 (3 * 2 ^ 61 + b * 16384)).2) d
  let d := { d with segs := d.segs.map (fun (s : SegReq) => { s with chunks := s.chunks.map (fun ((b, fs) : Nat × List Nat) => if gone.contains b then (16, fs) else (b, fs)) }) }
  { d with segs := d.segs.filter (fun (s : SegReq) => !(s.seq == s.count && s.chunks.all (fun c => c.1 == 16))) }

/-- Payload bytes [a, a + n) of a request, read from its chunk buffers. -/
def segBytes (d : Dev) (s : SegReq) (a n : Nat) : Bytes :=
  (List.range n).map (fun i =>
    let o := a + i
    match s.chunks[o / 16384]? with
    | some (b, _) => Memory.read d.pools.bytes (3 * 2 ^ 40 + b * 16384 + o % 16384)
    | none => 0)

/-- Where those bytes stand. -/
def segPlaces (s : SegReq) (a n : Nat) : List RegionByte :=
  (List.range n).filterMap (fun i => (s.chunks[(a + i) / 16384]?).map (fun c => .locker (3 * 2 ^ 40 + c.1 * 16384 + (a + i) % 16384)))

/-- Segment k (R213): header copied, identification, sequence number, lengths and checksums set, and flags kept as stated. -/
def segFrame (hdr : Bytes) (k n mss : Nat) (pay : Bytes) : Bytes :=
  let o := typeOffset hdr + 2
  let v4 := beAt hdr (o - 2) 2 == 0x0800
  let t := if v4 then o + 20 else o + 40
  let h := if v4 then
      (let h := patch hdr (o + 4) (toBE 2 (beAt hdr (o + 4) 2 + k))
       let h := patch h (o + 2) (toBE 2 (hdr.length - o + pay.length))
       let h := patch h (o + 10) [0, 0]
       patch h (o + 10) (toBE 2 (ocCheck (slice h o 20))))
    else patch hdr (o + 4) (toBE 2 (hdr.length - t + pay.length))
  let h := patch h (t + 4) (toBE 4 (beAt hdr (t + 4) 4 + k * mss))
  let fl := byteAt hdr (t + 13)
  let fl := if k + 1 = n then fl else setFld (setFld fl 0 1 0) 3 1 0
  let fl := if k = 0 then fl else setFld fl 7 1 0
  let h := patch (patch h (t + 13) [toByte fl]) (t + 16) [0, 0]
  let pseudo := (if v4 then slice h (o + 12) 8 else slice h (o + 8) 32) ++ toBE 4 (hdr.length - t + pay.length) ++ [0, 0, 0, 6]
  let h := patch h (t + 16) (toBE 2 (ocCheck (pseudo ++ h.drop t ++ pay)))
  h ++ pay

/-- One segment enters its egress queue (R213, R470): whether it was dropped. -/
def segSend (now : BellSt) (d : Dev) (s : SegReq) : Bool × Option Nat × Dev :=
  let n := s.count
  let len := min s.mss (s.payLen - s.seq * s.mss)
  let pay := segBytes d s (s.seq * s.mss) len
  let (t, d) := Dev.stamp now d
  let d := d.regionAccess 5 false t (segPlaces s (s.seq * s.mss) len)
  let bytes := segFrame s.hdr s.seq n s.mss pay
  let f : Frame := { bytes, port := s.port, cls := s.cls, rxNs := 0, cells := cellsOf (bytes.length + 4), limited := false, lossless := false,
                     source := 1, held := [], bad := [] }
  match takeCells now d f with
  | (none, _, d) => (true, none, d.bump (M.CNT_BUF_NO_CELL s.port))
  | (some i, _, d) =>
    match enqueue now d f (copyOf i f bytes s.port s.cls false none) none false with
    | (.queued, d) => (false, some i, d.bump (M.CNT_SEG_FRAMES s.port))
    | (.dropped _ _, d) => (true, none, releaseFrame now d i)

/-- The segments whose payload has been fetched are made, in order (R213). -/
def segMake (fuel : Nat) (now : BellSt) (s : SegReq) (d : Dev) : SegReq × Dev :=
  match fuel with
  | 0 => (s, d)
  | fuel + 1 =>
    if s.seq < s.count ∧ min ((s.seq + 1) * s.mss) s.payLen ≤ s.done then
      let (drop, fr, d) := segSend now d s
      let lo := s.seq * s.mss / 16384
      let hi := (min ((s.seq + 1) * s.mss) s.payLen - 1) / 16384
      let chunks := (List.range s.chunks.length).map (fun k =>
        let c := s.chunks.getD k (16, [])
        match fr with
        | some i => if lo ≤ k ∧ k ≤ hi then (c.1, c.2 ++ [i]) else c
        | none => c)
      segMake fuel now { s with seq := s.seq + 1, dropped := s.dropped || drop, chunks } d
    else (s, d)

/-- SEG_CHUNK_FETCH (R213, R214, R401): the request being served takes a buffer of the reserve and fetches its next 16 KiB;
the request ends once every segment has been enqueued or dropped (R470). -/
def segChunkFetch (data : Bytes) (now : BellSt) (d : Dev) : Dev :=
  let d := segReap d
  match d.segs.find? (fun s => decide (s.seq < s.count)) with
  | none => d
  | some s =>
    match segAlloc d with
    | none => d
    | some (b, d) =>
      let n := min 16384 (s.payLen - s.done)
      let (t, d) := Dev.stamp now d
      let d := d.lockerWrite (3 * 2 ^ 40 + b * 16384) (fit n data) t
      let (t, d) := segMake (s.count + 1) now { s with done := s.done + n, chunks := s.chunks ++ [(b, [])] } d
      let d := { d with segs := d.segs.map (fun x => if x.ring = s.ring ∧ x.index = s.index then t else x) }
      if t.seq = t.count then
        segReap ((finishEntry d s.ring s.index (if t.dropped then St.RING_TX_DROP else St.OK)).bump (M.CNT_SEG_REQUEST s.port))
      else segReap d

/-! ## Commands -/

/-- FRAME_RECEIVE (R200). -/
def execFrameReceive (f : RxFrame) (s : State) : Host.Outcome State Fault Refusal :=
  s.onDie (fun now d => frameReceive f now d)

/-- PAUSE_APPLY (R206). -/
def execPauseApply (port ns : Nat) (s : State) : Host.Outcome State Fault Refusal :=
  s.onDie (fun _ d => pauseApply port ns d)

/-- PAUSE_TIMER_EXPIRE (R206). -/
def execPauseTimerExpire (port cls ns : Nat) (s : State) : Host.Outcome State Fault Refusal :=
  s.onDie (fun _ d => pauseTimerExpire port cls ns d)

/-- PAUSE_WATCHDOG (R208). -/
def execPauseWatchdog (port cls ns : Nat) (s : State) : Host.Outcome State Fault Refusal :=
  s.onDie (fun now d => pauseWatchdog port cls ns now d)

/-- PAUSE_HOLDOFF_END (R208). -/
def execPauseHoldoffEnd (port cls ns : Nat) (s : State) : Host.Outcome State Fault Refusal :=
  s.onDie (fun _ d => pauseHoldoffEnd port cls ns d)

/-- LINK_UP (R197). -/
def execLinkUp (port : Nat) (s : State) : Host.Outcome State Fault Refusal :=
  s.onDie (fun _ d => linkUp port d)

/-- LINK_DOWN (R390). -/
def execLinkDown (port : Nat) (s : State) : Host.Outcome State Fault Refusal :=
  s.onDie (fun now d => linkDown port now d)

/-- LPI_ENTER (R211). -/
def execLpiEnter (port : Nat) (s : State) : Host.Outcome State Fault Refusal :=
  s.onDie (fun now d => lpiEnter port now d)

/-- LPI_EXIT (R211). -/
def execLpiExit (port : Nat) (s : State) : Host.Outcome State Fault Refusal :=
  s.onDie (fun now d => lpiExit port now d)

/-- PORT_WAKE_PREPARE (R216). -/
def execPortWakePrepare (port : Nat) (a : Acc) (s : State) : Host.Outcome State Fault Refusal :=
  s.onDev (fun _ d => (d.trigger a (M.PORT_WAKE_PREPARE port) (portWakePrepare port)).2)

/-- SEG_CHUNK_FETCH (R214). -/
def execSegChunkFetch (data : Bytes) (s : State) : Host.Outcome State Fault Refusal :=
  s.onDie (fun now d => segChunkFetch data now d)

/-- MAC_TX_START (R204). -/
def execMacTxStart (port ps : Nat) (s : State) : Host.Outcome State Fault Refusal :=
  s.onDie (fun now d => segReap (macTxStart port ps now d))

/-- PORT_FLUSH_RETURN (R390). -/
def execPortFlushReturn (s : State) : Host.Outcome State Fault Refusal :=
  s.onDie (fun now d => segReap (portFlushReturn now d))

end Sys2Proof.Machine
end

