-- ==== Sys2Proof/Machine/Check.lean ====
section
/-!
DEFINITION. The check-value unit (R485 to R495): eight contexts, their triggers, and the end of a job.
-/
namespace Sys2Proof.Machine

/-- 0 idle, 1 running, 2 stopping after CHK_ABORT (R491). -/
def Dev.chkState (d : Dev) (c : Nat) : Nat := SMap.get zeroAt d.chk c

def Dev.setChk (d : Dev) (c n : Nat) : Dev := { d with chk := SMap.set zeroAt d.chk c n }

/-- Bytes of the space a context scans (R489): its staging buffer, the host region, the tutor data region. -/
def chkSpaceSize (d : Dev) (c : Nat) : Nat :=
  let sp := d.rd (M.CHK_SPACE c)
  if sp = 0 then 4096 else if sp = 1 then d.rd M.HOST_REGION_BYTES else 2 ^ 30

/-- One byte of a context's space (R489); the parts of the tutor data region whose form is open read free values (log 39). -/
def chkByte (d : Dev) (c a : Nat) : Byte :=
  let sp := d.rd (M.CHK_SPACE c)
  if sp = 0 then d.ab (0x08810000 + 0x1000 * c + a)
  else if sp = 1 then Memory.read d.memories.host a
  else d.tdByte (Config.freeValue (d.free + a)) a

/-- The settings checks of R487. -/
def chkSettingsOk (d : Dev) (c : Nat) : Bool :=
  let w := d.rd (M.CHK_WIDTH c)
  decide (8 ≤ w) && decide (w ≤ 64) && decide (d.rd (M.CHK_POLY c) < 2 ^ w) && decide (d.rd (M.CHK_INIT c) < 2 ^ w) &&
    decide (d.rd (M.CHK_EXPECT c) < 2 ^ w) && decide (d.rd (M.CHK_FLAGS c) < 8)

/-- REG after more bytes (R485). -/
def chkFeed (d : Dev) (c reg : Nat) (bs : Bytes) : Nat :=
  crcFeed (d.rd (M.CHK_WIDTH c)) (d.rd (M.CHK_POLY c)) (bitOf (d.rd (M.CHK_FLAGS c)) 0) reg bs

/-- The result taken from REG (R485). -/
def chkOut (d : Dev) (c reg : Nat) : Nat :=
  crcOut (d.rd (M.CHK_WIDTH c)) (bitOf (d.rd (M.CHK_FLAGS c)) 1) (bitOf (d.rd (M.CHK_FLAGS c)) 2) reg

/-- A job ends with a status (R494). -/
def chkEnd (d : Dev) (c st : Nat) : Dev := ((d.wr (M.CHK_STATUS c) st).bump (M.CNT_CHK_JOBS c)).setChk c 0

/-- The end of a job that fed all its bytes (R485, R493). -/
def chkFinish (d : Dev) (c : Nat) : Dev :=
  let res := chkOut d c (d.rd (M.CHK_RUNNING c))
  let d := d.wr (M.CHK_RESULT c) res
  let miss := d.on (M.CHK_COMPARE c) && res != d.rd (M.CHK_EXPECT c)
  (chkEnd d c (if miss then St.CHK_MISMATCH else St.OK)).bumpIf miss (M.CNT_CHK_MISMATCH c)

/-- CHK_RUN and CHK_CONTINUE (R487, R489, R491): `fresh` loads REG from CHK_INIT; REG keeps W bits (R485). -/
def chkStart (fresh : Bool) (c : Nat) (_ : Nat) (d : Dev) : Nat × Dev :=
  if d.chkState c ≠ 0 then (St.BUSY, d) else
  if chkSettingsOk d c = false then (St.OK, chkEnd d c St.RANGE) else
  if chkSpaceSize d c < d.rd (M.CHK_START_ADDR c) + d.rd (M.CHK_LENGTH c) then (St.OK, chkEnd d c St.RANGE) else
  let d := d.wr (M.CHK_RUNNING c) (d.rd (if fresh then M.CHK_INIT c else M.CHK_RUNNING c) % 2 ^ d.rd (M.CHK_WIDTH c))
  let d := (d.wr (M.CHK_DONE_BYTES c) 0).wr (M.CHK_STATUS c) St.PENDING
  if d.rd (M.CHK_LENGTH c) = 0 then (St.OK, chkFinish d c) else (St.OK, d.setChk c 1)

/-- CHK_ABORT (R491): the scan stops after the unit in progress. -/
def chkAbort (c : Nat) (_ : Nat) (d : Dev) : Nat × Dev :=
  if d.chkState c = 1 then (St.OK, d.setChk c 2) else (St.OK, d)

/-- The job feeds the first `n` bytes of its range (R492). -/
def chkScan (d : Dev) (c n : Nat) : Dev :=
  let bs := (List.range n).map (fun i => chkByte d c (d.rd (M.CHK_START_ADDR c) + i))
  let e := (d.wr (M.CHK_RUNNING c) (chkFeed d c (d.rd (M.CHK_RUNNING c)) bs)).wr (M.CHK_DONE_BYTES c) n
  if d.rd (M.CHK_SPACE c) = 2 then { e with free := e.free + 2 ^ 30 } else e

/-- Bytes fed by a job that stops: whole units, no more than the job has (R491, R492). -/
def chkFed (d : Dev) (c n : Nat) : Nat :=
  let len := d.rd (M.CHK_LENGTH c)
  if len ≤ n then len else
  let a := d.rd (M.CHK_START_ADDR c)
  (a + n) / 64 * 64 - a

/-- Bytes a running job has fed so far, which is open between its ends (R486, R492, log 200). -/
def chkSoFar (d : Dev) (c : Nat) : Nat := chkFed d c (Config.freeValue d.free % d.rd (M.CHK_LENGTH c))

/-- REG as a read of a running context returns it: after the last whole unit processed (R486). -/
def chkRegSoFar (d : Dev) (c : Nat) : Nat :=
  (chkScan d c (chkSoFar d c)).rd (M.CHK_RUNNING c)

/-- The requests of a job's first `n` bytes (R490, port 4): the job has told what each unit's read ended in, the last one in an
uncorrectable word where `bad` (R439). -/
def chkRequest (now : BellSt) (d : Dev) (c n : Nat) (bad : Bool) : Dev :=
  let sp := d.rd (M.CHK_SPACE c)
  if sp = 0 then d else
  let (t, d) := Dev.stamp now d
  let place (a : Nat) : RegionByte := if sp = 1 then .host a else .tutor a
  let us := d.unitPlaces ((List.range n).map (fun i => place (d.rd (M.CHK_START_ADDR c) + i)))
  d.unitAccess 4 false t (us.map (fun p => (p, some (bad && us.getLast? == some p))))

/-- CHK_JOB_COMPLETE (R492, R493): the unit that ends a job early by an error was read too. -/
def chkJobComplete (c : Nat) (stop : ChkStop) (now : BellSt) (d : Dev) : Dev :=
  let len := d.rd (M.CHK_LENGTH c)
  if d.chkState c = 0 then d else
  match stop with
  | .done => if d.chkState c = 2 then d else chkRequest now (chkFinish (chkScan d c len) c) c len false
  | .uncorrectable n => chkRequest now (chkEnd (chkScan d c (chkFed d c n)) c St.UNCORRECTABLE) c (min len (chkFed d c n + 64)) true
  | .unavailable n => chkRequest now (chkEnd (chkScan d c (chkFed d c n)) c St.UNAVAILABLE) c (chkFed d c n) false
  | .aborted n => if d.chkState c = 2 then chkRequest now (chkEnd (chkScan d c (chkFed d c n)) c St.CHK_ABORTED) c (chkFed d c n) false else d

/-! ## Commands -/

/-- CHK_RUN (R491). -/
def execChkRun (ctx : Nat) (a : Acc) (s : State) : Host.Outcome State Fault Refusal :=
  s.onDev (fun _ d => (d.trigger a (M.CHK_RUN ctx) (chkStart true ctx)).2)

/-- CHK_CONTINUE (R491). -/
def execChkContinue (ctx : Nat) (a : Acc) (s : State) : Host.Outcome State Fault Refusal :=
  s.onDev (fun _ d => (d.trigger a (M.CHK_CONTINUE ctx) (chkStart false ctx)).2)

/-- CHK_ABORT (R491). -/
def execChkAbort (ctx : Nat) (a : Acc) (s : State) : Host.Outcome State Fault Refusal :=
  s.onDev (fun _ d => (d.trigger a (M.CHK_ABORT ctx) (chkAbort ctx)).2)

/-- CHK_JOB_COMPLETE (R493). -/
def execChkJobComplete (ctx : Nat) (stop : ChkStop) (s : State) : Host.Outcome State Fault Refusal :=
  s.onDie (fun now d => chkJobComplete ctx stop now d)

end Sys2Proof.Machine
end

