-- ==== Sys2Proof/Machine/Editions.lean ====
section
/-!
DEFINITION. Editions and the windows of table entries (R161 to R168), and the pure part of the three tables packets
search: the classifier TCAM (R228 to R238), the prefix trie (R248 to R251) and the layer-2 tables (R253, R254).
-/
namespace Sys2Proof.Machine

/-- The window seen in every edition (R166). -/
def Window.stable : Window := { first := none, last := none }

/-- Whether a window is stable. -/
def Window.isStable (w : Window) : Bool := decide (w = Window.stable)

/-- The rank of an edition against the current one (R166). -/
def rank (c e : Nat) : Nat := (e + 4 - c % 4 + 1) % 4

/-- Whether a packet of edition `e` sees a window while `c` is current (R166). -/
def Window.sees (w : Window) (c e : Nat) : Bool :=
  (match w.first with | none => true | some f => decide (rank c f ≤ rank c e)) &&
  (match w.last with | none => true | some l => decide (rank c e ≤ rank c l))

/-- The six window bits of an entry (R166). -/
def Window.bits (w : Window) : Nat :=
  (match w.first with | none => 0 | some f => 32 + f % 4 * 4) + (match w.last with | none => 0 | some l => 16 + l % 4)

/-- The Gray code of an edition (R167). -/
def gray (e : Nat) : Nat := (e % 4) ^^^ (e % 4 / 2)

/-- The care mask of the pair of editions `x`, `x + 1` (R167): the differing bit cleared. -/
def grayPairMask (x : Nat) : Nat := 3 - (gray x ^^^ gray (x + 1))

/-- The EDITION field and its care mask for a window in the TCAM (R167). -/
def Window.tcam (w : Window) : Nat × Nat :=
  match w.first, w.last with
  | none, none => (0, 0)
  | some f, none => (gray f, 3)
  | none, some l => (gray l, grayPairMask (l + 3))
  | some f, some l => if f % 4 = l % 4 then (gray f, 3) else (gray l, grayPairMask f)

/-! ## Row keys: one number for table, pipe and index -/

/-- Table numbers of R138. -/
abbrev tRoll : Nat := 1
abbrev tEndpoint : Nat := 2
abbrev tTcam : Nat := 3
abbrev tLpm : Nat := 4
abbrev tL2 : Nat := 5
abbrev tSubscriber : Nat := 6
abbrev tQueue : Nat := 7
abbrev tVservice : Nat := 8
abbrev tLbMember : Nat := 9

/-- The key of a row: table, then version (1 for a born version standing beside the row it replaces), pipe and index. -/
def rowKey (table version pipe index : Nat) : Nat := ((table * 2 + version) * 16 + pipe) * 2 ^ 32 + index

/-- Table, version, pipe and index of a row key. -/
def rowTable (k : Nat) : Nat := k / 2 ^ 37
def rowVersion (k : Nat) : Nat := k / 2 ^ 36 % 2
def rowPipe (k : Nat) : Nat := k / 2 ^ 32 % 16
def rowIndex (k : Nat) : Nat := k % 2 ^ 32

/-- The rows of one table and pipe that hold an entry, with an index in `[lo, hi)`, in rising order. -/
def rowsIn (tabs : SMap (Option Row)) (table version pipe lo hi : Nat) : List (Nat × Row) :=
  tabs.filterMap (fun e =>
    match e.2 with
    | some r => if r.valid ∧ rowKey table version pipe lo ≤ e.1 ∧ e.1 < rowKey table version pipe hi then some (rowIndex e.1, r) else none
    | none => none)

/-! ## The classifier TCAM -/

/-- Parts per entry of a bank profile (R228). -/
def profileParts (profile : Nat) : Nat := if profile = 2 then 2 else if profile = 3 then 4 else 1

/-- The bank of an index. -/
def tcamBank (idx : Nat) : Nat := idx / 4096

/-- VALID as TBL_DATA gives it, and PART (R232). -/
def partValid (d : Bytes) : Bool := leAt d 40 2 % 2 == 1
def partNum (d : Bytes) : Nat := fld (leAt d 40 2) 2 2

/-- VALUE and MASK of a part as searched: a head carries its window in bits [159:158] (R167, R229). -/
def partImage (r : Row) : Nat × Nat :=
  let v := leAt r.data 0 20
  let m := leAt r.data 20 20
  if partNum r.data = 0 then (setFld v 158 2 r.win.tcam.1, setFld m 158 2 r.win.tcam.2) else (v, m)

/-- The 160 key bits that part `k` of an entry with `parts` parts compares (R229). -/
def keyPart (key parts k : Nat) : Nat := fld key ((parts - 1 - k) * 160) 160

/-- A key bit matches when its mask bit is 0 or it equals the VALUE bit (R232). -/
def ternary (img : Nat × Nat) (key : Nat) : Bool := (img.1 ^^^ key) &&& img.2 == 0

/-- What one pipe's copy holds of a part: the shadow's image unless a soft error changed it (R240). -/
def copyImage (copies : SMap (Option (Nat × Nat))) (pipe idx : Nat) (r : Row) : Nat × Nat :=
  (SMap.get (fun _ => none) copies (pipe * 32768 + idx)).getD (partImage r)

/-- The row of a TCAM index, if it holds an entry. -/
def tcamRow (tabs : SMap (Option Row)) (idx : Nat) : Option Row :=
  match SMap.get (fun _ => none) tabs (rowKey tTcam 0 0 idx) with
  | some r => if r.valid then some r else none
  | none => none

/-- Whether the entry headed at `idx` matches a key, part by part, each part VALID with the right PART (R235), under the
given reading of a part's image. -/
def tcamEntryMatches (tabs : SMap (Option Row)) (img : Nat → Row → Nat × Nat) (parts key idx : Nat) : Bool :=
  (List.range parts).all (fun k =>
    match tcamRow tabs (idx + k) with
    | some r => partNum r.data == k && ternary (img (idx + k) r) (keyPart key parts k)
    | none => false)

/-- The head indices of a bank, from `start` up, whose entries match a key in a pipe's copy, in rising order (R236). -/
def tcamHits (tabs : SMap (Option Row)) (copies : SMap (Option (Nat × Nat))) (pipe bank parts key start : Nat) : List Nat :=
  ((rowsIn tabs tTcam 0 0 (max start (bank * 4096)) ((bank + 1) * 4096)).filter (fun e =>
    partNum e.2.data == 0 && e.1 % parts == 0 && tcamEntryMatches tabs (copyImage copies pipe) parts key e.1)).map Prod.fst

/-- Whether the shadow of the entry headed at `idx` matches a key (R241). -/
def tcamShadowMatches (tabs : SMap (Option Row)) (parts key idx : Nat) : Bool :=
  tcamEntryMatches tabs (fun _ r => partImage r) parts key idx

/-- The IPV4 key of R230. -/
def keyIpv4 (h : Hdr) (g : Nat) : Nat :=
  g * 2 ^ 158 + h.port * 2 ^ 150 + h.vlanId * 2 ^ 138 + h.dscp * 2 ^ 132 + h.cls * 2 ^ 129 + h.frag * 2 ^ 127 +
    h.tcpFlags * 2 ^ 119 + h.proto * 2 ^ 111 + h.l4Src * 2 ^ 95 + h.l4Dst * 2 ^ 79 + h.ipSrc * 2 ^ 47 + h.ipDst * 2 ^ 15

/-- The L2 key of R231. -/
def keyL2 (h : Hdr) (g : Nat) : Nat :=
  g * 2 ^ 158 + h.port * 2 ^ 150 + h.macDst * 2 ^ 102 + h.macSrc * 2 ^ 54 + h.etherType * 2 ^ 38 + h.vlanId * 2 ^ 26 +
    h.pcp * 2 ^ 23 + h.vlanCount * 2 ^ 21

/-- The first 101 bits of both IPv6 keys (R231), as a number. -/
def keyV6Head (h : Hdr) (g : Nat) : Nat :=
  ((((((((((g * 256 + h.port) * 4096 + h.vlanId) * 64 + h.dscp) * 8 + h.cls) * 4 + h.frag) * 256 + h.tcpFlags) * 256 + h.proto) *
    65536 + h.l4Src) * 65536 + h.l4Dst) * 2 ^ 20 + h.flowLabel)

/-- The IPV6_PREFIX key of R231: 101 head bits, 64 + 64 address bits, 91 reserved. -/
def keyV6Prefix (h : Hdr) (g : Nat) : Nat :=
  ((keyV6Head h g * 2 ^ 64 + h.ipSrc / 2 ^ 64) * 2 ^ 64 + h.ipDst / 2 ^ 64) * 2 ^ 91

/-- The IPV6_FULL key of R231: 101 head bits, 128 + 128 address bits, 283 reserved. -/
def keyV6Full (h : Hdr) (g : Nat) : Nat :=
  ((keyV6Head h g * 2 ^ 128 + h.ipSrc) * 2 ^ 128 + h.ipDst) * 2 ^ 283

/-- The key a profile searches for a packet, `none` where the profile does not apply (R228). -/
def tcamKey (profile : Nat) (h : Hdr) (edition : Nat) : Option Nat :=
  let g := gray edition
  if profile = 0 then (if h.l3 = 1 then some (keyIpv4 h g) else none)
  else if profile = 1 then some (keyL2 h g)
  else if profile = 2 then (if h.l3 = 2 then some (keyV6Prefix h g) else none)
  else (if h.l3 = 2 then some (keyV6Full h g) else none)

/-! ## The prefix trie -/

/-- Fields of a trie entry (R251). -/
def lpmPlen (d : Bytes) : Nat := byteAt d 16
def lpmV6 (d : Bytes) : Bool := fld (byteAt d 17) 6 1 == 1
def lpmPrefix (d : Bytes) : Nat := leAt d 0 16
def lpmResult (d : Bytes) : Nat := leAt d 20 12

/-- The units a prefix costs (R250). -/
def lpmUnits (v6 : Bool) (plen : Nat) : Nat := if !v6 then 1 else if plen ≤ 64 then 2 else 4

/-- Whether an address lies under a prefix. -/
def lpmCovers (d : Bytes) (v6 : Bool) (addr : Nat) : Bool :=
  let w := if v6 then 128 else 32
  lpmV6 d == v6 && decide (lpmPlen d ≤ w) && addr / 2 ^ (w - lpmPlen d) == lpmPrefix d / 2 ^ (w - lpmPlen d)

/-- The longest prefix a packet's edition sees over an address (R249). -/
def lpmLookup (tabs : SMap (Option Row)) (c e : Nat) (v6 : Bool) (addr : Nat) : Option Bytes :=
  (rowsIn tabs tLpm 0 0 0 1572864).foldl (fun best r =>
    if r.2.win.sees c e && lpmCovers r.2.data v6 addr then
      match best with
      | none => some r.2.data
      | some b => if lpmPlen b < lpmPlen r.2.data then some r.2.data else some b
    else best) none

/-! ## The layer-2 tables -/

/-- Fields of a layer-2 entry (R254), read from its 16 bytes as one number. -/
structure L2Entry where
  mac : Nat
  vlan : Nat
  port : Nat
  static : Bool
  router : Bool
  locked : Bool
  lastSeen : Nat
  moves : Nat
  learned : Nat
  deriving DecidableEq, Repr

def L2Entry.ofBytes (d : Bytes) : L2Entry :=
  let v := leAt d 0 16
  { mac := fld v 80 48, vlan := fld v 68 12, port := fld v 60 8, static := bitOf v 59, router := bitOf v 58, locked := bitOf v 57,
    lastSeen := fld v 24 24, moves := fld v 16 8, learned := fld v 0 16 }

/-- The bytes of an entry, VALID and WINDOW left zero. -/
def L2Entry.toBytes (x : L2Entry) : Bytes :=
  toLE 16 (x.mac % 2 ^ 48 * 2 ^ 80 + x.vlan % 4096 * 2 ^ 68 + x.port % 256 * 2 ^ 60 + b2n x.static * 2 ^ 59 + b2n x.router * 2 ^ 58 +
    b2n x.locked * 2 ^ 57 + x.lastSeen % 2 ^ 24 * 2 ^ 24 + x.moves % 256 * 2 ^ 16 + x.learned % 65536)

/-- The 8-byte key of a station (R254). -/
def l2KeyBytes (mac vlan : Nat) : Bytes := toLE 8 (mac % 2 ^ 48 + vlan % 4096 * 2 ^ 48)

/-- The 16 candidate places of a key (R253). -/
def l2Places (mac vlan : Nat) : List Nat :=
  let c := crc32c (l2KeyBytes mac vlan)
  let b1 := c % 65536
  let b2 := c / 65536 % 65536
  let b2 := if b1 = b2 then b1 ^^^ 1 else b2
  (List.range 8).map (b1 * 8 + ·) ++ (List.range 8).map (b2 * 8 + ·)

/-- The versions of a key in a pipe's table: index and row. -/
def l2Versions (tabs : SMap (Option Row)) (pipe mac vlan : Nat) : List (Nat × Row) :=
  (l2Places mac vlan).filterMap (fun i =>
    match SMap.get (fun _ => none) tabs (rowKey tL2 0 pipe i) with
    | some r => if r.valid ∧ (L2Entry.ofBytes r.data).mac = mac ∧ (L2Entry.ofBytes r.data).vlan = vlan then some (i, r) else none
    | none => none)

/-- The version of a key that an edition sees (R166). -/
def l2Lookup (tabs : SMap (Option Row)) (c e pipe mac vlan : Nat) : Option (Nat × Row) :=
  (l2Versions tabs pipe mac vlan).find? (fun v => v.2.win.sees c e)

/-- A group MAC address: the first transmitted octet's lowest bit (R254 holds that octet highest). -/
def isGroupMac (mac : Nat) : Bool := bitOf mac 40

end Sys2Proof.Machine
end

