-- ==== Sys2Proof/Machine/Classify.lean ====
section
/-!
DEFINITION. The classifier as packets and SEARCH use it (R233, R236 to R243): banks, verification against the shadow,
precedence, hit counts, the comparer and shadow repair.
-/
namespace Sys2Proof.Machine

/-! ## RESULT fields (R233) -/

abbrev resAction (r : Nat) : Nat := fld r 108 4
abbrev resStateful (r : Nat) : Bool := bitOf r 107
abbrev resNat (r : Nat) : Bool := bitOf r 106
abbrev resLb (r : Nat) : Bool := bitOf r 105
abbrev resFilter (r : Nat) : Bool := bitOf r 104
abbrev resExport (r : Nat) : Bool := bitOf r 103
abbrev resSetClass (r : Nat) : Bool := bitOf r 102
abbrev resClass (r : Nat) : Nat := fld r 99 3
abbrev resMeterEn (r : Nat) : Bool := bitOf r 98
abbrev resMeter (r : Nat) : Nat := fld r 80 16
abbrev resVservice (r : Nat) : Nat := fld r 64 16
abbrev resPool (r : Nat) : Nat := fld r 56 8
abbrev resZone (r : Nat) : Nat := fld r 48 8
abbrev resRedirect (r : Nat) : Nat := fld r 40 8
abbrev resPrio (r : Nat) : Nat := fld r 37 3
abbrev resUser (r : Nat) : Nat := fld r 0 32

/-! ## Soft errors (R239 to R242) -/

/-- The key of a part in one pipe's copy. -/
def copyKey (pipe idx : Nat) : Nat := pipe * 32768 + idx

/-- A slot taken from packets in a pipe (R239). -/
def stealSlots (d : Dev) (pipe n : Nat) : Dev :=
  (d.addTo (M.CNT_TCAM_SLOT_STEAL pipe) n).setPipe pipe { d.pipe pipe with stolen := (d.pipe pipe).stolen + n }

/-- A part of one copy is rewritten from its shadow (R240, R241). -/
def rewritePart (d : Dev) (pipe idx : Nat) : Dev :=
  { d with tcamCopies := SMap.set (fun _ => none) d.tcamCopies (copyKey pipe idx) none }

/-- An uncorrectable shadow word is restored from the next pipe's shadow that holds it correctly (R242). -/
def repairShadow (now : BellSt) (d : Dev) (pipe idx : Nat) : Dev :=
  if d.tcamBad.contains (copyKey pipe idx) = false then d else
  let d := { d with tcamBad := d.tcamBad.filter (fun x => x != copyKey pipe idx) }
  ((rewritePart d pipe idx).bump (M.CNT_TCAM_SHADOW_REPAIR pipe)).raiseOpen now Ev.TCAM_SHADOW_REPAIR (oid 0x21 pipe)

/-- Whether the shadow of the entry headed at an index agrees with a key in a pipe (R241, R242). -/
def Dev.verifies (d : Dev) (pipe parts key idx : Nat) : Bool :=
  (List.range parts).all (fun k => !d.tcamBad.contains (copyKey pipe (idx + k))) && tcamShadowMatches d.tabs parts key idx

/-- A hit that failed verification (R241): discarded, the entry rewritten, the search repeated in one further slot. -/
def verifyFailed (now : BellSt) (d : Dev) (pipe parts idx : Nat) : Dev :=
  let d := (List.range parts).foldl (fun d k => rewritePart (repairShadow now d pipe (idx + k)) pipe (idx + k)) d
  let d := stealSlots (d.bump (M.CNT_TCAM_VERIFY_FAIL pipe)) pipe 1
  let raised := (d.pipe pipe).verifyRaised
  (d.raiseOpenIf (!raised) now Ev.TCAM_VERIFY_FAIL (oid 0x21 pipe)).setPipe pipe { d.pipe pipe with verifyRaised := true }

/-- The first verified hit of a bank from an index, and whether another entry later in the bank matches (R236, R241). -/
def bankSearch (fuel : Nat) (now : BellSt) (d : Dev) (pipe bank parts key start : Nat) : Option (Nat × Bool) × Dev :=
  match fuel with
  | 0 => (none, d)
  | fuel + 1 =>
    match tcamHits d.tabs d.tcamCopies pipe bank parts key start with
    | [] => (none, d)
    | i :: r =>
      if d.verifies pipe parts key i then (some (i, !r.isEmpty), d)
      else bankSearch fuel now (verifyFailed now d pipe parts i) pipe bank parts key start

/-- `n` cycles of item 5 for one pipe (R39, R240): two entries a cycle against the shadow, in index order. -/
def shadowCompare (now : BellSt) (n : Nat) (d : Dev) (pipe : Nat) : Dev :=
  let lo := d.rd (M.TCAM_COMPARE_POSITION pipe)
  let idx (k : Nat) : Nat := k % 32768
  let inWindow (k : Nat) : Bool := k / 32768 == pipe && decide (lo ≤ idx k) && decide (idx k < lo + 2 * n)
  let bad := d.tcamBad.filter inWindow
  let diff := (d.tcamCopies.filter (fun e => inWindow e.1 && e.2.isSome)).map Prod.fst
  let d := bad.foldl (fun d k => repairShadow now d pipe (idx k)) d
  let d := diff.foldl (fun d k => stealSlots ((rewritePart d pipe (idx k)).bump (M.CNT_TCAM_SHADOW_MISMATCH pipe)) pipe 1) d
  let raised := (d.pipe pipe).mismatchRaised
  let d := match diff with
    | _ :: _ => (d.raiseOpenIf (!raised) now Ev.TCAM_SHADOW_MISMATCH (oid 0x21 pipe)).setPipe pipe { d.pipe pipe with mismatchRaised := true }
    | [] => d
  stealSlots (d.wr (M.TCAM_COMPARE_POSITION pipe) ((lo + 2 * n) % 32768)) pipe n

/-! ## The packet's search (R236 to R238) -/

/-- A bank's hit: precedence, bank, head index, multiple match. -/
structure BankHit where
  prec : Nat
  bank : Nat
  idx : Nat
  multi : Bool
  deriving DecidableEq, Repr

/-- The winner of the banks that hit, and whether it won a tie (R237). -/
def pickBank (hs : List BankHit) : Option (BankHit × Bool) :=
  let top := hs.foldl (fun m h => max m h.prec) 0
  match hs.filter (fun h => h.prec == top) with
  | [] => none
  | h :: r => some (h, !r.isEmpty)

/-- What classification leaves: RESULT, the index of the winning entry (32,768 for a miss), and the flags. -/
structure Class where
  result : Nat
  rule : Nat
  tie : Bool
  multi : Bool
  deriving DecidableEq, Repr

/-- The RESULT of a head part, and its HIT_COUNT increased (R237). -/
def hitEntry (d : Dev) (idx : Nat) : Nat × Dev :=
  let k := rowKey tTcam 0 0 idx
  match d.row k with
  | none => (0, d)
  | some r =>
    let data := patch (fit 64 r.data) 56 (toLE 8 (leAt r.data 56 8 + 1))
    (leAt r.data 42 14, d.setRow k (some { r with data }))

/-- Classification of a well-formed packet (R228 to R238): a miss takes no record where flow records are fused off (R191). -/
def classify (now : BellSt) (d : Dev) (pipe : Nat) (h : Hdr) (edition : Nat) : Class × Dev :=
  let d := d.bump (M.CNT_TCAM_SEARCH pipe)
  let (hits, d) := (List.range 8).foldl (fun (acc : List BankHit × Dev) b =>
    let (hs, d) := acc
    if bitOf (d.rd M.TCAM_BANK_ENABLE) b = false then acc else
    let profile := d.rd (M.TCAM_BANK_PROFILE b)
    match tcamKey profile h edition with
    | none => acc
    | some key =>
      match bankSearch 4097 now d pipe b (profileParts profile) key 0 with
      | (some (i, m), d) => (hs ++ [{ prec := d.rd (M.TCAM_BANK_PREC b), bank := b, idx := i, multi := m }], d)
      | (none, d) => (hs, d)) ([], d)
  match pickBank hits with
  | none =>
    ({ result := d.rd M.TCAM_MISS_ACTION * 2 ^ 108 + b2n (d.on M.TCAM_MISS_STATEFUL && bitOf Config.features 0) * 2 ^ 107, rule := 0x8000, tie := false, multi := false },
      d.bump (M.CNT_TCAM_MISS pipe))
  | some (b, tie) =>
    let (res, d) := hitEntry d b.idx
    ({ result := res, rule := b.idx, tie, multi := b.multi },
      ((d.bump (M.CNT_TCAM_HIT pipe)).bumpIf tie (M.CNT_TCAM_TIE pipe)).bumpIf b.multi (M.CNT_TCAM_MULTI pipe))

end Sys2Proof.Machine
end

