-- ==== Sys2Proof/Machine/Forward.lean ====
section
/-!
DEFINITION. Forwarding (R247 to R263): the layer-2 outcome, routing and its rewrite, learning over the ring and ageing.
-/
namespace Sys2Proof.Machine

/-- Where forwarding sends a packet. -/
inductive Dest where
  /-- Dropped, and the counter that counted it (0 for none). -/
  | drop (counter : Nat)
  | port (p : Nat)
  /-- The flood group of a VLAN (R261). -/
  | flood (group : Nat)
  /-- A receive ring, with the cause of R472. -/
  | ring (r cause : Nat)
  deriving DecidableEq, Repr

/-- The flood group of a VLAN (R261). -/
def Dev.floodGroup (d : Dev) (vlan : Nat) : Nat := (d.ab (0x08070000 + vlan % 4096)).toNat

/-- Member ports of a flood group, but one (R261). -/
def Dev.floodPorts (d : Dev) (group ingress : Nat) : List Nat :=
  let m := d.ale (0x08071000 + 32 * group) 32
  (List.range 256).filter (fun p => bitOf m p && p != ingress)

/-- Orders 3 to 5 of R247 for a key (VLAN, destination). -/
def bridge (d : Dev) (pipe edition ingress vlan mac : Nat) : Dest × Dev :=
  match l2Lookup d.tabs (d.rd M.EDITION_CURRENT) edition pipe mac vlan with
  | some (_, r) =>
    let e := L2Entry.ofBytes r.data
    if e.port = ingress then (.drop (M.CNT_L2_SAME_PORT pipe), d.bump (M.CNT_L2_SAME_PORT pipe)) else (.port e.port, d)
  | none => (.flood (d.floodGroup vlan), d.bump (M.CNT_L2_DA_MISS pipe))

/-- The USER_TAG of a packet's route (R251), 0 where none is found. -/
def routeTag (d : Dev) (pipe edition : Nat) (h : Hdr) : Nat :=
  let router := match l2Lookup d.tabs (d.rd M.EDITION_CURRENT) edition pipe h.macDst h.vlanId with
    | some (_, r) => (L2Entry.ofBytes r.data).router
    | none => false
  if isGroupMac h.macDst ∨ router = false ∨ (h.l3 ≠ 1 ∧ h.l3 ≠ 2) then 0 else
  match lpmLookup d.tabs (d.rd M.EDITION_CURRENT) edition (h.l3 == 2) h.ipDst with
  | some e => fld (lpmResult e) 0 16
  | none => 0

/-- The frame a route sends (R251): new addresses, tags removed, at most one inserted, TTL or hop limit decremented. -/
def routeFrame (f : Bytes) (h : Hdr) (result cls : Nat) : Bytes :=
  let l3 := f.drop h.l2Len
  let l3 := if bitOf result 71 = false then l3 else
    if h.l3 = 1 then
      (let x := patch (patch l3 8 [toByte (byteAt l3 8 - 1)]) 10 [0, 0]
       patch x 10 (toBE 2 (ocCheck (slice x 0 (4 * (byteAt x 0 % 16))))))
    else patch l3 7 [toByte (byteAt l3 7 - 1)]
  let vlan := fld result 72 12
  toBE 6 (fld result 16 48) ++ toBE 6 h.macDst ++ (if vlan = 0 then [] else toBE 2 0x8100 ++ toBE 2 (cls * 8192 + vlan)) ++ toBE 2 h.etherType ++ l3

/-- Routing by the trie (R249, R251): the destination, the frame as it goes on, and the device. -/
def route (d : Dev) (pipe edition cls : Nat) (h : Hdr) (f : Bytes) : Dest × Bytes × Dev :=
  if h.ttl ≤ 1 then (.ring (d.rd M.LPM_EXCEPTION_RING) 5, f, d.bump (M.CNT_LPM_TTL pipe)) else
  let d := d.bump (M.CNT_LPM_LOOKUP pipe)
  match lpmLookup d.tabs (d.rd M.EDITION_CURRENT) edition (h.l3 == 2) h.ipDst with
  | none =>
    let d := d.bump (M.CNT_LPM_MISS pipe)
    (if d.rd M.LPM_MISS_ACTION = 1 then .ring (d.rd M.LPM_EXCEPTION_RING) 5 else .drop (M.CNT_LPM_MISS pipe), f, d)
  | some e =>
    let r := lpmResult e
    let act := fld r 92 4
    if act = 1 then (.drop 0, f, d)
    else if act = 2 then (.ring (d.rd M.LPM_EXCEPTION_RING) 5, f, d)
    else if act = 3 then
      (let (x, d) := bridge d pipe edition h.port (fld r 72 12) (fld r 16 48)
       (x, routeFrame f h r cls, d))
    else (.port (fld r 84 8), routeFrame f h r cls, d)

/-- Forwarding of a packet (R247); `routed` says whether order 2 applies, which a malformed packet's action leaves out (R226). -/
def forwardOf (d : Dev) (pipe edition cls : Nat) (routed : Bool) (h : Hdr) (f : Bytes) : Dest × Bytes × Dev :=
  if isGroupMac h.macDst then (.flood (d.floodGroup h.vlanId), f, d) else
  let router := match l2Lookup d.tabs (d.rd M.EDITION_CURRENT) edition pipe h.macDst h.vlanId with
    | some (_, r) => (L2Entry.ofBytes r.data).router
    | none => false
  if router = true ∧ routed = true ∧ (h.l3 = 1 ∨ h.l3 = 2) then route d pipe edition cls h f else
  let (x, d) := bridge d pipe edition h.port h.vlanId h.macDst
  (x, f, d)

/-! ## Learning (R256 to R260, R478) -/

/-- A notice on the learn ring: kind 1 NEW, 2 MOVE, 3 REFRESH, 4 DELETE. -/
structure Learn where
  kind : Nat
  mac : Nat
  vlan : Nat
  port : Nat
  period : Nat
  lesson : Nat
  deriving DecidableEq, Repr

/-- A notice placed now. -/
def Learn.new (now : BellSt) (kind mac vlan port : Nat) : Learn :=
  { kind, mac, vlan, port, period := now.period.toNat, lesson := now.lesson.toNat }

/-- A notice as the number a pipe's queue holds, and back. -/
def Learn.toNat (n : Learn) : Nat :=
  ((((n.lesson * 16 + n.kind) * 2 ^ 48 + n.mac) * 4096 + n.vlan) * 256 + n.port) * 2 ^ 32 + n.period
def Learn.ofNat (v : Nat) : Learn :=
  { kind := fld v 100 4, mac := fld v 52 48, vlan := fld v 40 12, port := fld v 32 8, period := fld v 0 32, lesson := fld v 104 24 }

/-- The key of a station as one number. -/
def stationKey (mac vlan : Nat) : Nat := mac * 4096 + vlan

/-- Key and two small values as DETAIL carries them (log 32). -/
def stationDetail (mac vlan x y : Nat) : Nat := mac + vlan * 2 ^ 48 + (x + y * 256) * 2 ^ 64

/-- The pipes a staged operation acts in. -/
def StagedOp.pipes (d : Dev) (o : StagedOp) : List Nat :=
  if o.table ≠ 5 then [0] else if o.pipe = 31 then d.activePipes.filter (fun p => !o.without.contains p) else [o.pipe]

/-- Whether a layer-2 key is staged in a pipe in the open transaction (R152, R255, R256). -/
def Dev.l2Staged (d : Dev) (pipe mac vlan : Nat) : Bool :=
  decide (d.txn.state ≠ .idle) && d.txn.ops.any (fun o => o.table == 5 && (o.pipes d).contains pipe &&
    (o.key.take 8 == l2KeyBytes mac vlan || (let e := L2Entry.ofBytes o.data; o.op != 5 && e.mac == mac && e.vlan == vlan)))

/-- Whether some version of a key has a window that is not stable. -/
def Dev.l2Unsettled (d : Dev) (pipe mac vlan : Nat) : Bool := (l2Versions d.tabs pipe mac vlan).any (fun v => !v.2.win.isStable)

/-- The candidate a frame makes (R256): its kind, or the counter of what refused it. -/
def learnKind (now : BellSt) (d : Dev) (pipe edition : Nat) (h : Hdr) : Option Nat × Option Nat :=
  if isGroupMac h.macSrc ∨ bitOf (d.rd (M.L2_LEARN_PORTS (h.port / 64))) (h.port % 64) = false then (none, none) else
  if d.l2Unsettled pipe h.macSrc h.vlanId ∨ d.l2Staged pipe h.macSrc h.vlanId = true then (none, some M.CNT_L2_LEARN_UNSETTLED) else
  match l2Lookup d.tabs (d.rd M.EDITION_CURRENT) edition pipe h.macSrc h.vlanId with
  | none => (some 1, none)
  | some (_, r) =>
    let e := L2Entry.ofBytes r.data
    if e.port ≠ h.port then
      (if e.static then (none, some (M.CNT_L2_STATIC_VIOLATION pipe)) else if e.locked then (none, some (M.CNT_L2_LOCKED_LEARN pipe)) else (some 2, none))
    else if e.lastSeen ≠ now.lesson.toNat then (some 3, none) else (none, none)

/-- Every pipe that is not gated will install a notice. -/
def queueNotice (d : Dev) (n : Learn) : Dev :=
  d.activePipes.foldl (fun d p => d.setPipe p { d.pipe p with learned := (d.pipe p).learned ++ [n.toNat] }) d

/-- The ring judges a NEW or MOVE notice against what it remembers (R258). -/
def judgeNotice (now : BellSt) (d : Dev) (n : Learn) : Dev :=
  let d := d.bump M.CNT_L2_LEARN
  let k := stationKey n.mac n.vlan
  let settle := d.rd M.L2_SETTLE
  let known := d.switch.learnMem.find? (fun x => x.1 == k && decide ((n.period + 2 ^ 32 - x.2.2 % 2 ^ 32) % 2 ^ 32 < settle) && x.2.1 != n.port)
  let d := match known with
    | some x => (d.bump M.CNT_L2_MOVE).raise now Ev.L2_MOVE (oid 0x23 0) (stationDetail n.mac n.vlan x.2.1 n.port)
    | none => d.bumpIf (n.kind == 2) M.CNT_L2_STATION_MOVE
  { d with switch := { d.switch with learnMem := d.switch.learnMem.filter (fun x => x.1 != k) ++ [(k, n.port, n.period)] } }

/-- A frame's learn candidate becomes a notice, within the pipe's 64 of the period (R256). -/
def learnFrom (now : BellSt) (d : Dev) (pipe edition : Nat) (h : Hdr) : Dev :=
  match learnKind now d pipe edition h with
  | (none, none) => d
  | (none, some c) => d.bump c
  | (some kind, _) =>
    if 64 ≤ (d.pipe pipe).placed then d.bump (M.CNT_L2_LEARN_LIMIT pipe) else
    let d := d.setPipe pipe { d.pipe pipe with placed := (d.pipe pipe).placed + 1 }
    let n := Learn.new now kind h.macSrc h.vlanId h.port
    queueNotice (if kind = 3 then d else judgeNotice now d n) n

/-- The free places of a layer-2 key in a pipe, those reserved for a commit left out (R153, R253). -/
def Dev.l2Free (d : Dev) (pipe mac vlan : Nat) : List Nat :=
  (l2Places mac vlan).filter (fun i =>
    (match d.row (rowKey tL2 0 pipe i) with | some r => !r.valid | none => true) && !d.txn.reservedPlaces.contains (pipe, i))

/-- The place a new layer-2 entry takes: the part's choice among the free ones (R253, log 9). -/
def Dev.l2Take (d : Dev) (pipe mac vlan : Nat) : Option Nat :=
  let free := d.l2Free pipe mac vlan
  if free.isEmpty then none else some (free.getD (Config.l2Place (stationKey mac vlan) % free.length) 0)

/-- Whether a layer-2 entry meets the ageing condition (R262). -/
def Dev.l2Old (d : Dev) (lesson : Nat) (e : L2Entry) : Bool :=
  let age := d.rd M.L2_AGE_LESSONS
  decide (age ≠ 0) && decide (age < (lesson + 2 ^ 24 - e.lastSeen) % 2 ^ 24)

/-- MOVE_COUNT after a port change (R257). -/
def moveCount (e : L2Entry) (period : Nat) : Nat :=
  let p := period % 65536
  if (p + 65536 - e.learned) % 65536 < 1024 ∧ p / 1024 = e.learned / 1024 then min 255 (e.moves + 1) else 1

/-- A notice is installed in one pipe's table (R257, R263); the lowest active pipe raises what is raised once. LAST_SEEN takes,
and the ageing condition is judged at, the lesson of the notice's placement, so that every table reaches one state (log 239). -/
def installNotice (now : BellSt) (pipe : Nat) (d : Dev) (n : Learn) : Dev :=
  let first := d.activePipes.head? == some pipe
  let told (d : Dev) (kind : Nat) : Dev :=
    if first then d.notice now 1 Ev.NOTICE_LEARN (oid 0x23 0) (stationDetail n.mac n.vlan n.port kind) else d
  if d.l2Unsettled pipe n.mac n.vlan then d.bump M.CNT_L2_LEARN_UNSETTLED else
  match l2Versions d.tabs pipe n.mac n.vlan with
  | [] =>
    if n.kind = 4 then d else
    (match d.l2Take pipe n.mac n.vlan with
     | none => d.bump (M.CNT_L2_LEARN_FULL pipe)
     | some i =>
       let e : L2Entry := { mac := n.mac, vlan := n.vlan, port := n.port, static := false, router := false, locked := false,
                            lastSeen := n.lesson, moves := 0, learned := n.period % 65536 }
       let d := d.setRow (rowKey tL2 0 pipe i) (some { data := e.toBytes, win := Window.stable, valid := true })
       if n.kind = 3 then d else told d n.kind)
  | (i, r) :: _ =>
    let k := rowKey tL2 0 pipe i
    let e := L2Entry.ofBytes r.data
    if n.kind = 4 then
      (if e.static = false ∧ d.l2Old n.lesson e then told ((d.setRow k (some { r with valid := false })).bump (M.CNT_L2_AGED pipe)) 3 else d)
    else if e.port = n.port then
      (let d := d.setRow k (some { r with data := { e with lastSeen := n.lesson }.toBytes })
       if n.kind = 3 then d else told d n.kind)
    else if e.static ∨ e.locked = true then d
    else
      let moves := moveCount e n.period
      let lock := decide (8 < moves)
      let d := d.setRow k (some { r with data := { e with port := n.port, lastSeen := n.lesson, learned := n.period % 65536, moves, locked := lock }.toBytes })
      let d := if lock ∧ first = true then
          (d.bump M.CNT_L2_FLAP_LOCK).raise now Ev.L2_FLAP_LOCK (oid 0x23 0) (stationDetail n.mac n.vlan n.port 0)
        else d
      if n.kind = 3 then d else told d n.kind

/-- LEARN_NOTICE_INSTALL (R257): the pipe's oldest notice. -/
def learnInstall (pipe : Nat) (now : BellSt) (d : Dev) : Dev :=
  match (d.pipe pipe).learned with
  | [] => d
  | v :: r => if d.gated pipe then d else installNotice now pipe (d.setPipe pipe { d.pipe pipe with learned := r }) (Learn.ofNat v)

/-- At a bell, what was placed before the period that ends is installed if it is not yet (R257). -/
def installDue (fuel : Nat) (now : BellSt) (d : Dev) (pipe : Nat) : Dev :=
  match fuel with
  | 0 => d
  | fuel + 1 =>
    match (d.pipe pipe).learned with
    | [] => d
    | v :: _ =>
      if 2 ≤ (now.period.toNat + 2 ^ 32 - (Learn.ofNat v).period) % 2 ^ 32 then installDue fuel now (learnInstall pipe now d) pipe else d

/-- The ageing sweep (R262): 512 entries of the lowest active pipe's table. -/
def l2Sweep (now : BellSt) (d : Dev) : Dev :=
  match d.activePipes with
  | [] => d
  | p :: _ =>
    let lo := 512 * (now.period.toNat % 1024)
    (rowsIn d.tabs tL2 0 p lo (lo + 512)).foldl (fun d x =>
      let e := L2Entry.ofBytes x.2.data
      if e.static = false ∧ x.2.win.isStable = true ∧ d.l2Old now.lesson.toNat e = true then
        queueNotice d (Learn.new now 4 e.mac e.vlan e.port)
      else d) d

/-! ## Commands -/

/-- LEARN_NOTICE_INSTALL (R257). -/
def execLearnNoticeInstall (pipe : Nat) (s : State) : Host.Outcome State Fault Refusal :=
  s.onDie (fun now d => learnInstall pipe now d)

end Sys2Proof.Machine
end

