-- ==== Sys2Proof/Machine/Tasks.lean ====
section
/-!
DEFINITION. Task slots, ready lists and the trace (R369, R372, R373, R376, R379).
-/
namespace Sys2Proof.Machine

/-- Kinds that use the reserved slots (R372). -/
def reservedKind (k : Nat) : Bool := k == 7 || k == 8 || decide (10 ≤ k)

/-- Priority of a kind, where the kind fixes it (R369). -/
def kindPrio (k : Nat) : Nat := [5, 4, 3, 5, 2, 4, 0, 0, 1].getD k 0

/-- Slots of a pipe in use. -/
def Dev.usedSlots (d : Dev) (pipe : Nat) : List Nat := (d.tutors.tasks.filter (fun t => t.pipe == pipe)).map (fun t => t.slot)

/-- The lowest free slot for a kind (R372; the choice among free slots is the model's, log 30). -/
def Dev.freeSlot (d : Dev) (pipe kind : Nat) : Option Nat :=
  let used := d.usedSlots pipe
  if reservedKind kind then firstFree (used.length + 1) used [] 0 512 else firstFree (used.length + 1) used [] 512 8192

/-- Whether the general slots of a pipe are all in use (R372). -/
def Dev.generalFull (d : Dev) (pipe : Nat) : Bool := (d.freeSlot pipe 0).isNone

/-- Write a trace record of a kind (R379); the cycle within the period is open (log 1). -/
def traceTask (now : BellSt) (d : Dev) (kind : Nat) (t : TaskRec) (tutor info : Nat) : Dev :=
  let n := d.rd (M.CNT_TASK_TRACE t.pipe)
  if d.on M.TASK_TRACE_MODE = false ∨ bitOf (d.rd M.TASK_TRACE_KINDS) kind = false ∨ (d.rd M.TASK_TRACE_MODE = 2 ∧ 4096 ≤ n) then d else
  let (cycle, d) := d.fresh
  let r := now.period.toNat * 2 ^ 96 + cycle % 2 ^ 11 * 2 ^ 85 + kind * 2 ^ 81 + t.prio % 8 * 2 ^ 78 + tutor % 4 * 2 ^ 76 + t.slot % 8192 * 2 ^ 63 +
    t.kind % 64 * 2 ^ 57 + t.order.getD 0 % 65536 * 2 ^ 41 + info % 2 ^ 41
  { d with tutors := { d.tutors with trace := SMap.set zeroAt d.tutors.trace (t.pipe * 4096 + n % 4096) r } }.bump (M.CNT_TASK_TRACE t.pipe)

/-- Number of a task in the ready list: pipe × 8192 + slot. -/
def TaskRec.handle (t : TaskRec) : Nat := t.pipe * 8192 + t.slot

/-- A task before it has a slot. -/
def TaskRec.new (pipe kind prio : Nat) : TaskRec :=
  { pipe, slot := 0, kind, prio, reissue := 0, state := .ready, desc := none, recSlot := none, recCopy := 0, recOrig := 0, recMask := 0,
    epIndex := none, epCopy := 0, epMask := 0, word := [], order := none, cancelled := false, host := none, avoid := [], readied := 0, fate := .verdict }

/-- A task is made ready into a free slot and joins the tail of its level (R372): its handle, or none where no slot is free. -/
def makeReady (now : BellSt) (d : Dev) (t : TaskRec) : Option Nat × Dev :=
  match d.freeSlot t.pipe t.kind with
  | none => (none, d)
  | some s =>
    let t := { t with slot := s, readied := now.period.toNat }
    let d := { d with tutors := { d.tutors with tasks := d.tutors.tasks ++ [t], ready := d.tutors.ready ++ [t.handle] } }
    let d := traceTask now (d.bump (M.CNT_TASK_READY t.pipe)) 1 t 0 0
    (some t.handle, if reservedKind t.kind = false ∧ d.generalFull t.pipe = true then traceTask now d 11 t 0 0 else d)

/-- A slot is freed (R368). -/
def Dev.freeTask (d : Dev) (pipe slot : Nat) : Dev :=
  { d with tutors := { d.tutors with tasks := d.tutors.tasks.filter (fun t => !(t.pipe == pipe && t.slot == slot)),
                                     ready := d.tutors.ready.filter (fun h => h != pipe * 8192 + slot) } }

/-- Whether an earlier task of the pipe with the same order key has not been released, cancelled or abandoned (R373). -/
def Dev.orderBlocked (d : Dev) (t : TaskRec) : Bool :=
  match t.order with
  | none => false
  | some k => (d.tutors.tasks.takeWhile (fun x => !(x.pipe == t.pipe && x.slot == t.slot))).any
      (fun x => x.pipe == t.pipe && x.order == some k && !x.cancelled)

/-- The pipe to whose cluster a release task goes (R332): the pipe of h1[3:0], or the next active pipe upward, wrapping. -/
def Dev.activeFrom (d : Dev) (p : Nat) : Nat := (((List.range 16).map (fun k => (p + k) % 16)).find? (fun q => !d.gated q)).getD p

/-- A NAT_RELEASE request becomes a task, or waits in the pipe's release queue (R332, R376). -/
def natReleaseTask (now : BellSt) (d : Dev) (pipe mapping : Nat) : Dev :=
  match makeReady now d { TaskRec.new pipe 7 0 with word := toLE 64 mapping } with
  | (some _, d) => d
  | (none, d) => { d with services := { d.services with natRelease := d.services.natRelease ++ [(pipe, mapping)] } }

/-- Waiting NAT_RELEASE requests take reserved slots that have become free (R376). -/
def natReleaseRetry (now : BellSt) (d : Dev) : Dev :=
  let waiting := d.services.natRelease
  waiting.foldl (fun d (p, m) => natReleaseTask now d p m) { d with services := { d.services with natRelease := [] } }

/-- NAT_RELEASE requests that wait for a pipe (R381). -/
def Dev.releaseQueue (d : Dev) (pipe : Nat) : Nat := (d.services.natRelease.filter (fun x => x.1 == pipe)).length

/-- An EXPORT_DRAIN task is made ready while the export queue holds notices and none is (R345, R369, log 31). -/
def exportTask (now : BellSt) (d : Dev) : Dev :=
  if d.services.exportQueue.isEmpty ∨ d.tutors.tasks.any (fun t => t.kind == 8) = true then d
  else (makeReady now d (TaskRec.new (d.activeFrom 0) 8 1)).2

end Sys2Proof.Machine
end

