-- ==== Sys2Proof/Machine/Front.lean ====
section
/-!
DEFINITION. The Front Row, its write buffer and the memory behind them (R17, R18, R268, R278 to R281, R325): the current
value of a slot, placement, updates and write-back. Slots from `epSlotBase` up stand for endpoint records.
-/
namespace Sys2Proof.Machine


/-- The set of a slot: s mod S, and e mod S for an endpoint (R278, R325). -/
def Dev.setOf (d : Dev) (slot : Nat) : Nat := slot % epSlotBase % frSets d.palette


/-- The copy of a slot in memory, as a number of 512 bits. -/
def Dev.stored (d : Dev) (slot : Nat) : Nat :=
  if epSlotBase ≤ slot then SMap.get zeroAt d.memories.endpoints (slot - epSlotBase) else SMap.get zeroAt d.memories.roll slot

/-- Write the copy of a slot in memory. -/
def Dev.store (d : Dev) (slot v : Nat) : Dev :=
  if epSlotBase ≤ slot then
    { d with memories := { d.memories with endpoints := SMap.set zeroAt d.memories.endpoints (slot - epSlotBase) (v % 2 ^ 512) } }
  else { d with memories := { d.memories with roll := SMap.set zeroAt d.memories.roll slot (v % 2 ^ 512) } }

/-! ## Lines -/

/-- A line by its number, set × 16 + way. -/
def Dev.line (d : Dev) (k : Nat) : Option Line := SMap.get (fun _ => none) d.roll.lines k

def Dev.setLine (d : Dev) (k : Nat) (l : Option Line) : Dev :=
  { d with roll := { d.roll with lines := SMap.set (fun _ => none) d.roll.lines k l } }

/-- The line that holds a slot, with its number. -/
def Dev.findLine (d : Dev) (slot : Nat) : Option (Nat × Line) :=
  (List.range 16).findSome? (fun w =>
    let k := d.setOf slot * 16 + w
    match d.line k with
    | some l => if l.slot = slot then some (k, l) else none
    | none => none)

/-- A read of a slot goes to its channel (R440); `known` is what its requester has learnt of it already. -/
def readSlot (now : BellSt) (d : Dev) (slot port : Nat) (known : Option Bool) : Dev :=
  let (ch, unit) := d.placeOf slot
  let (t, d) := Dev.stamp now d
  memRequest d ch { MemReq.new port unit false (decide (slot < epSlotBase)) t with known }

/-- A read of a slot goes to its channel (R440, port 0). -/
def requestSlot (now : BellSt) (d : Dev) (slot port : Nat) : Dev := readSlot now d slot port none

/-- The value of a slot's valid line. -/
def Dev.lineVal (d : Dev) (slot : Nat) : Option Nat :=
  match d.findLine slot with
  | some (_, l) => if l.pending then none else some l.data.toNat
  | none => none

/-- A slot's line is marked referenced. -/
def Dev.touchLine (d : Dev) (slot : Nat) : Dev :=
  match d.findLine slot with
  | some (k, l) => d.setLine k (some { l with referenced := true })
  | none => d

/-- A hit marks the lines of the record referenced, its tail's too (R278). -/
def Dev.touch (d : Dev) (slot : Nat) : Dev :=
  let two := match d.lineVal slot with
    | some v => decide (slot < epSlotBase) && recValid v && recKind v != 2 && recTwoSlots v
    | none => false
  if two then (d.touchLine slot).touchLine (slot + 1) else d.touchLine slot

/-- Whether a fill of a slot is outstanding or waits to issue, in any pipe, or the peer is asked for its record (R282 step 3, R285,
R529). -/
def Dev.fillPending (d : Dev) (slot : Nat) : Bool :=
  d.pipes.any (fun p => p.2.reads.contains slot || p.2.missQueue.contains slot) ||
    d.buddy.awaiting.any (fun a => a.2 == some slot || (slot % 2 == 1 && a.2 == some (slot - 1) && recTwoSlots (d.stored (slot - 1))))

/-- A slot's data in the write buffer, the newest where there are several (R280). -/
def Dev.wbData (d : Dev) (slot : Nat) : Option Nat := ((d.roll.wb.reverse.find? (fun l => l.slot == slot)).map (fun l => l.data.toNat))

/-- The value of an update that waits for a line (R279). -/
def Dev.lateData (d : Dev) (slot : Nat) : Option Nat := (d.roll.late.find? (fun l => l.1 == slot)).map (fun l => l.2.toNat)

/-- A slot's update takes its place among those that wait for a line, or leaves them. -/
def Dev.setLate (d : Dev) (slot : Nat) (v : Option Nat) : Dev :=
  let rest := d.roll.late.filter (fun l => l.1 != slot)
  { d with roll := { d.roll with late := match v with
    | some v => rest ++ [(slot, BitVec.ofNat 512 v)]
    | none => rest } }

/-- The current value of a slot (R18): its line, else an update that waits for one, else the write buffer, else the copy in
memory. -/
def Dev.current (d : Dev) (slot : Nat) : Nat :=
  match d.lineVal slot with
  | some v => v
  | none => (d.lateData slot).getD ((d.wbData slot).getD (d.stored slot))

/-- The current record at a slot, with its tail where it has one. -/
def Dev.recordAt (d : Dev) (slot : Nat) : Nat :=
  let h := d.current slot
  if recTwoSlots h then h + d.current (slot + 1) * 2 ^ 512 else h

/-- The record at a slot whose lines are all valid (R278). -/
def Dev.cachedRec (d : Dev) (slot : Nat) : Option Nat :=
  match d.lineVal slot with
  | none => none
  | some h => if recTwoSlots h then (d.lineVal (slot + 1)).map (fun t => h + t * 2 ^ 512) else some h

/-! ## Hashes and candidates (R272 to R274, R294) -/

/-- h1 of a key block with the seeds in force. -/
def Dev.h1Of (d : Dev) (b : Bytes) : Nat := seededHash d.roll.seed1 b

/-- Home bucket, second bucket and tag of a key (R272). -/
def Dev.hashKey (d : Dev) (k : FlowKey) : Nat × Nat × Nat :=
  let b := k.block
  let (home, second) := bucketsOf (rollBuckets d.palette) (seededHash d.roll.seed1 b) (seededHash d.roll.seed2 b)
  (home, second, tagOf (seededHash d.roll.seed3 b))

/-- The candidate slots of a key (R274). -/
def Dev.candidates (d : Dev) (k : FlowKey) : List Nat := let (h, s, t) := d.hashKey k; candidateSlots d.roll.tags h s t

/-- Whether a record holds a key: a tail holds none (R282). -/
def recIs (r : Nat) (k : FlowKey) : Bool := recValid r && recKind r != 2 && decide (recKey r = k)

/-- The slot of a key's record or link by its current value, as a keyed command or a tutor finds it (R294). -/
def Dev.findRecord (d : Dev) (k : FlowKey) : Option Nat := (d.candidates k).find? (fun s => recIs (d.recordAt s) k)

/-! ## Pins (R278) -/

/-- The slot a running host command works on. -/
def Dev.commandSlot (d : Dev) (x : TblIf) : Option Nat :=
  x.running.bind (fun c =>
    if c.table = 1 then (if c.keyed then d.findRecord (FlowKey.ofBlock x.key) else some c.index)
    else if c.table = 2 then some (epSlot c.index) else none)

/-- Slots held by a tutor task or a host command (R278, R308). -/
def Dev.workedSlots (d : Dev) : List Nat :=
  d.tutors.tasks.filterMap (fun t => t.recSlot) ++ d.tutors.tasks.filterMap (fun t => t.epIndex.map epSlot) ++
    d.tif.filterMap (fun x => d.commandSlot x.2)

/-- The slot whose fill a descriptor waits for. -/
def Desc.fetches (x : Desc) : Option Nat :=
  match x.wait with
  | .fetch s => some s
  | _ => none

/-- Slots held by a waiting descriptor, a tutor task or a host command (R278, Pinned). -/
def Dev.pinnedSlots (d : Dev) : List Nat :=
  d.descs.filterMap (fun x => x.slot) ++ d.descs.filterMap (fun x => x.endpoint.map epSlot) ++ d.descs.filterMap Desc.fetches ++ d.workedSlots

/-- Whether a slot's line is Pending (R278). -/
def Dev.linePending (d : Dev) (slot : Nat) : Bool :=
  match d.findLine slot with
  | some (_, l) => l.pending
  | none => false

/-- Whether a slot, or the record it is the tail of, is pinned. -/
def Dev.pinned (d : Dev) (slot : Nat) : Bool :=
  let p := d.pinnedSlots
  d.linePending slot || p.contains slot || (slot % 2 == 1 && decide (slot < epSlotBase) && p.contains (slot - 1) && recTwoSlots (d.current (slot - 1)))

/-- Whether the write buffer is full (R280). -/
def Dev.wbFull (d : Dev) : Bool := decide (16384 ≤ d.roll.wb.length)

/-- Whether a line may be a victim (R279). -/
def Dev.mayEvict (d : Dev) (l : Line) : Bool :=
  !l.pending && !d.pinned l.slot && !(l.dirty && d.wbFull) &&
    !(decide (d.buddy.mode ≠ .paired) && l.dirty && !d.chServes (d.placeOf l.slot).1)

/-! ## The write buffer (R280, R529) -/

/-- A write of a slot goes to its channel (R280, R440 port 6). -/
def requestWrite (now : BellSt) (d : Dev) (slot : Nat) : Dev :=
  let (ch, unit) := d.placeOf slot
  let (t, d) := Dev.stamp now d
  memRequest d ch (MemReq.new 6 unit true (decide (slot < epSlotBase)) t)

/-- A line enters the write buffer, which has room for it, and its write is issued to its channel (R280); in PAIRED a write to a
channel out of service is discarded (R529). -/
def wbPush (now : BellSt) (d : Dev) (slot : Nat) (data : BitVec 512) : Dev :=
  let serves := d.chServes (d.placeOf slot).1
  if d.buddy.mode = .paired ∧ serves = false then d else
  let d := { d with roll := { d.roll with wb := d.roll.wb ++ [{ slot, data, issued := serves }] } }
  if serves then requestWrite now d slot else d

/-- The first entry of a slot leaves the write buffer. -/
def eraseFirst (slot : Nat) (ls : List WbLine) : List WbLine :=
  match ls with
  | [] => []
  | l :: r => if l.slot = slot then r else l :: eraseFirst slot r

/-- Mark the first entry of a slot issued or not. -/
def markFirst (slot : Nat) (b : Bool) (ls : List WbLine) : List WbLine :=
  match ls with
  | [] => []
  | l :: r => if l.slot = slot then { l with issued := b } :: r else l :: markFirst slot b r

/-- FR_WB_WRITE_DONE (R280, R444): a write has completed at its controller, or ended with its channel out of service. -/
def wbWriteDone (slot : Nat) (o : MemOutcome) (now : BellSt) (d : Dev) : Dev :=
  match d.roll.wb.find? (fun l => l.slot == slot) with
  | none => d
  | some l =>
    let (ch, unit) := d.placeOf slot
    if l.issued = false ∧ d.chServes ch = false then d else
    match endAccess now d ch unit 6 true (if o = .unavailable then o else .ok) with
    | none => d
    | some (.unavailable, d) =>
      if d.buddy.mode = .paired then { d with roll := { d.roll with wb := eraseFirst slot d.roll.wb } }
      else { d with roll := { d.roll with wb := markFirst slot false d.roll.wb } }
    | some (_, d) =>
      let d := (d.store slot l.data.toNat).bump M.CNT_FR_WRITEBACK
      { d with roll := { d.roll with wb := eraseFirst slot d.roll.wb } }

/-- Writes that waited for a channel are issued again once it serves (R280). -/
def wbReissue (now : BellSt) (d : Dev) : Dev :=
  let due (l : WbLine) : Bool := !l.issued && d.chServes (d.placeOf l.slot).1
  let slots := (d.roll.wb.filter due).map (fun l => l.slot)
  slots.foldl (requestWrite now) { d with roll := { d.roll with wb := d.roll.wb.map (fun (l : WbLine) => if due l then { l with issued := true } else l) } }

/-! ## Placement (R279) -/

/-- Ways of a set in the order of its hand. -/
def Dev.handWays (d : Dev) (set : Nat) : List Nat := let h := SMap.get zeroAt d.roll.hands set; (List.range 16).map (fun k => (h + k) % 16)

/-- The victim of a set: the ways whose Referenced bit the hand clears, and the way taken. -/
def Dev.victim (d : Dev) (set : Nat) : Option (List Nat × Nat) :=
  let may := (d.handWays set).filter (fun w => match d.line (set * 16 + w) with | some l => d.mayEvict l | none => false)
  let ref (w : Nat) : Bool := match d.line (set * 16 + w) with | some l => l.referenced | none => false
  match may.find? (fun w => !ref w) with
  | some v => some (may.takeWhile ref, v)
  | none => match may with
    | v :: _ => some (may, v)
    | [] => none

/-- A slot takes a line of its set (R279); `none` where no line may be taken. -/
def placeLine (now : BellSt) (d : Dev) (slot : Nat) (data : Nat) (dirty pending : Bool) : Option Dev :=
  let l : Line := { slot, data := BitVec.ofNat 512 data, dirty, pending, referenced := false, updated := now.period.toNat }
  match d.findLine slot with
  | some (k, _) => some (d.setLine k (some l))
  | none =>
    let set := d.setOf slot
    match (List.range 16).find? (fun w => (d.line (set * 16 + w)).isNone) with
    | some w => some (d.setLine (set * 16 + w) (some l))
    | none =>
      match d.victim set with
      | none => none
      | some (cleared, v) =>
        let d := cleared.foldl (fun d w => match d.line (set * 16 + w) with
          | some x => d.setLine (set * 16 + w) (some { x with referenced := false })
          | none => d) d
        let d := match d.line (set * 16 + v) with
          | some x => if x.dirty then (wbPush now d x.slot x.data).bump M.CNT_FR_EVICT_DIRTY else d
          | none => d
        some ({ d with roll := { d.roll with hands := SMap.set zeroAt d.roll.hands set ((v + 1) % 16) } }.setLine (set * 16 + v) (some l))

/-- An update of a line that a slot holds (R18): the line becomes valid and dirty, so that a fetch still outstanding brings nothing
newer. A slot without a line is placed; `none` where it cannot be. -/
def writeSlot (now : BellSt) (d : Dev) (slot v : Nat) : Option Dev :=
  let placed : Option Dev := match d.findLine slot with
    | some (k, l) => some (d.setLine k (some { l with data := BitVec.ofNat 512 v, dirty := true, pending := false, updated := now.period.toNat }))
    | none => placeLine now d slot v true false
  placed.map (fun d => d.setLate slot none)

/-- A record is written at its slot, head and tail (R276). -/
def writeRecord (now : BellSt) (d : Dev) (slot r : Nat) : Option Dev :=
  match writeSlot now d slot (r % 2 ^ 512) with
  | none => none
  | some d => if recTwoSlots r then writeSlot now d (slot + 1) (r / 2 ^ 512) else some d

/-- An update of a slot: where it holds no line and none may be taken, the update waits for its placement (R279). -/
def putSlot (now : BellSt) (d : Dev) (slot v : Nat) : Dev :=
  match writeSlot now d slot v with
  | some d => d
  | none => (d.setLate slot (some v)).bump M.CNT_FR_SET_PINNED

/-- A record is updated, head and tail. -/
def updateRecord (now : BellSt) (d : Dev) (slot r : Nat) : Dev :=
  let d := putSlot now d slot (r % 2 ^ 512)
  if recTwoSlots r then putSlot now d (slot + 1) (r / 2 ^ 512) else d

/-- The oldest update that waits for a line tries again (R279). -/
def retryLate (now : BellSt) (d : Dev) : Dev :=
  match d.roll.late with
  | [] => d
  | (slot, v) :: _ => putSlot now d slot v.toNat

/-- Whether a slot's memory is served here: its channel is in service, and a repair sweep of it has passed the slot (R529). -/
def Dev.readable (d : Dev) (slot : Nat) : Bool :=
  let (ch, unit) := d.placeOf slot
  d.chServes ch && !(decide (slot < epSlotBase) && d.buddy.sweep.any (fun (s : Nat × Nat) => s.1 == ch && decide (s.2 ≤ unit)))

/-- How a slot comes into the Front Row for a command or a repair. -/
inductive Brought where
  | here (d : Dev)
  /-- The peer is asked for its record (R529). -/
  | waits
  /-- No line may be taken (R279). -/
  | line
  /-- Its memory is not served here (R449, R529). -/
  | lost (slot : Nat)

/-- Goes on with the device where a slot has come. -/
def Brought.andThen (b : Brought) (f : Dev → Brought) : Brought :=
  match b with
  | .here d => f d
  | b => b

/-- A slot's value comes into the Front Row without a charge (R281, R294): from an update that waits, from the write buffer or from
memory, by a read at a port, whose outcome the caller knows. -/
def bringSlot (now : BellSt) (d : Dev) (slot port : Nat) (bad : Bool) : Brought :=
  let of (x : Option Dev) : Brought := match x with
    | some d => .here d
    | none => .line
  if (d.lineVal slot).isSome then .here d
  else if d.buddy.awaiting.any (fun a => a.2 == some slot) then .waits
  else match d.lateData slot, d.wbData slot with
  | some v, _ => of (writeSlot now d slot v)
  | none, some v => of ((placeLine now d slot v false false).map (fun d => d.bump M.CNT_FR_WB_FORWARD))
  | none, none =>
    if d.readable slot = false then .lost slot
    else of ((placeLine now d slot (d.stored slot) false false).map (fun d => (readSlot now d slot port (some bad)).bump M.CNT_FR_FILL))

/-- A record comes into the Front Row, with its tail where it has one. -/
def bringRecord (now : BellSt) (d : Dev) (slot port : Nat) (bad : Bool) : Brought :=
  (bringSlot now d slot port bad).andThen (fun d =>
    if slot < epSlotBase ∧ recValid (d.current slot) = true ∧ recTwoSlots (d.current slot) = true then bringSlot now d (slot + 1) port bad else .here d)

/-- How a search by a keyed command ends: with a slot or without one, or while it waits as a slot does. -/
inductive Searched where
  | found (slot : Option Nat) (d : Dev)
  | waits
  | line
  | lost (slot : Nat)

/-- The candidates that are not in the Front Row are brought in order, until one holds the key. -/
def searchSlots (now : BellSt) (k : FlowKey) (port : Nat) (bad : Bool) (ss : List Nat) (d : Dev) : Searched :=
  match ss with
  | [] => .found none d
  | s :: r =>
    match bringRecord now d s port (bad && recIs (d.recordAt s) k) with
    | .here d => if recIs (d.recordAt s) k then .found (some s) (d.touch s) else searchSlots now k port bad r d
    | .waits => .waits
    | .line => .line
    | .lost s => .lost s

/-- The search of a keyed command through the Front Row (R282, R294): the valid lines first, then the other candidates in order. -/
def searchRecord (now : BellSt) (d : Dev) (k : FlowKey) (port : Nat) (bad : Bool) : Searched :=
  match (d.candidates k).find? (fun s => match d.cachedRec s with | some r => recIs r k | none => false) with
  | some s => .found (some s) (d.touch s)
  | none => searchSlots now k port bad ((d.candidates k).filter (fun s => (d.cachedRec s).isNone)) d

/-- A slot is freed (R309, R316): its tag is cleared at once, and the cleared slot reaches the Roll by write-back. Its ageing
candidate goes with it (R308). -/
def clearSlot (now : BellSt) (d : Dev) (slot : Nat) : Dev :=
  let d := { d with roll := { d.roll with
    tags := SMap.set zeroAt d.roll.tags slot 0
    writer := SMap.set zeroAt d.roll.writer slot 0
    candidates := d.roll.candidates.filter (fun c => c.slot != slot) } }
  putSlot now d slot 0

/-- Whether a slot is held by a record, as the tag band says (R274). -/
def Dev.occupied (d : Dev) (slot : Nat) : Bool := SMap.get zeroAt d.roll.tags slot != 0

/-- The record at a slot goes, with its tail (R309). -/
def clearRecord (now : BellSt) (d : Dev) (slot : Nat) : Dev :=
  let two := recTwoSlots (d.current slot)
  let d := clearSlot now d slot
  if two then clearSlot now d (slot + 1) else d

/-! ## Item 9 (R280) -/

/-- Lines of a set whose last update is at least FR_CLEAN_AGE periods old, dirty, and not of a channel that is out of service. -/
def Dev.cleanable (d : Dev) (now : BellSt) (set : Nat) : List Nat :=
  ((List.range 16).map (set * 16 + ·)).filter (fun k => match d.line k with
    | some l => l.dirty && !l.pending && decide (d.rd M.FR_CLEAN_AGE ≤ (now.period.toNat + 2 ^ 32 - l.updated % 2 ^ 32) % 2 ^ 32) &&
        (decide (d.buddy.mode = .paired) || d.chServes (d.placeOf l.slot).1)
    | none => false)

/-- One line is written back: it stays valid and becomes clean. -/
def writeBackLine (now : BellSt) (d : Dev) (k : Nat) : Dev :=
  match d.line k with
  | some l => if d.wbFull then d else (wbPush now d l.slot l.data).setLine k (some { l with dirty := false })
  | none => d

/-- Sets that hold lines, from a set up, wrapping. -/
def Dev.setsFrom (d : Dev) (s : Nat) : List Nat :=
  let sets := ((d.roll.lines.map (fun e => e.1 / 16)).eraseDups)
  sets.filter (fun x => decide (s ≤ x)) ++ sets.filter (fun x => decide (x < s))

/-- Item 9 of the bell `at_` (R280): up to `n` lines, sets in order from where the last period's sweep stopped; how many lines it
could not take for a full write buffer. -/
def frontWriteBack (now at_ : BellSt) (n : Nat) (d : Dev) : Nat × Dev :=
  let all := ((d.setsFrom d.roll.sweepSet).flatMap (d.cleanable at_)).take n
  let ks := all.take (16384 - d.roll.wb.length)
  let d := ks.foldl (writeBackLine now) d
  match ks.reverse with
  | k :: _ => (all.length - ks.length, { d with roll := { d.roll with sweepSet := k / 16 } })
  | [] => (all.length, d)

/-! ## Uncorrectable lines and tag words (R281); fetches -/



/-- The lines in use and the dirty ones (R296). -/
def Dev.dirtyLines (d : Dev) : Nat := (d.roll.lines.filter (fun e => match e.2 with | some l => l.dirty | none => false)).length

/-! ## Commands -/

/-- MEMCH_RETRAIN_DONE (R280, R449): what waited for the channel in the write buffer is issued again. -/
def execMemchRetrainDone (ch : Nat) (i : TrainIn) (s : State) : Host.Outcome State Fault Refusal :=
  s.onDie (fun now d => wbReissue now (memchRetrainDone ch i now d))

/-- FR_WB_WRITE_DONE (R280). -/
def execFrWbWriteDone (slot : Nat) (o : MemOutcome) (s : State) : Host.Outcome State Fault Refusal :=
  s.onDie (fun now d => wbWriteDone slot o now d)

end Sys2Proof.Machine
end

