-- ==== Sys2Proof/Machine/Roll.lean ====
section
/-!
DEFINITION. Records in the Roll (R267 to R277, R284, R300, R303 to R316, R513): ownership and mirroring of a Buddy pair
(R514, R515, R523, R527), creation and links, end-of-flow notices, deletion, and the roll call.
-/
namespace Sys2Proof.Machine

/-! ## Ownership, mirroring and deltas (R514, R515, R523, R527) -/

/-- The ownership key block of a record that is no link (R514). -/
def ownerBlock (r : Nat) : Bytes :=
  if recSvcKind r = 1 ∨ recSvcKind r = 3 then List.replicate 36 0 ++ toBE 4 (recEndpoint r) else (recKey r).block

/-- The ownership block of an endpoint record (R514). -/
def endpointBlock (e : Nat) : Bytes := List.replicate 36 0 ++ toBE 4 e

/-- Whether this device owns what a key block names (R514, R518, R532). -/
def Dev.owns (d : Dev) (block : Bytes) : Bool :=
  match d.buddy.mode with
  | .paired => bitOf (d.h1Of block) 31 == d.on M.STRAP_BUDDY_ROLE
  | .syncing => !d.buddy.returning
  | _ => true

/-- Whether this device owns a record; a link follows its primary. -/
def Dev.ownsRec (d : Dev) (r : Nat) : Bool :=
  if recKind r = 3 then d.owns (ownerBlock (d.recordAt (recPrimary r))) else d.owns (ownerBlock r)

/-- Whether transitions are mirrored (R515, R532). -/
def Dev.mirrors (d : Dev) : Bool := decide (d.buddy.mode = .paired) || decide (d.buddy.mode = .syncing)

/-- The record's bytes as entries carry them (R520). -/
def recBytes (r : Nat) : Bytes := if recTwoSlots r then toLE 128 r else toLE 64 r

/-- Every record and endpoint record this device holds, for SYNC entries: slots of heads, and endpoint slots (R522, R532). -/
def Dev.syncSlots (d : Dev) : List Nat :=
  let eps := (d.memories.endpoints.map (fun e => epSlot e.1)) ++ (d.roll.lines.filterMap (fun e => e.2.bind (fun l => if epSlotBase ≤ l.slot then some l.slot else none))) ++
    (d.roll.wb.filterMap (fun l => if epSlotBase ≤ l.slot then some l.slot else none))
  ((d.roll.tags.map Prod.fst).filter (fun s => let r := d.current s; recValid r && recKind r < 2)) ++
    eps.eraseDups.filter (fun s => bitOf (d.current s) 511)

/-- A full resynchronisation begins (R522): causes 1 queue full, 2 batch unacknowledged. -/
def resync (now : BellSt) (d : Dev) (cause : Nat) : Dev :=
  let all := d.syncSlots.filter (fun s => if epSlotBase ≤ s then d.owns (endpointBlock (s - epSlotBase)) else d.ownsRec (d.recordAt s))
  ({ d with buddy := { d.buddy with syncLeft := all, syncAll := all.length } }.bump M.CNT_BUDDY_MIRROR_DROP).raise now Ev.BUDDY_RESYNC (oid 0x70 0) cause

/-- A transition joins the mirror queue (R521, R523). -/
def mirror (now : BellSt) (d : Dev) (kind slot : Nat) (ext : Bool) (body : Bytes) : Dev :=
  if d.mirrors = false then d else
  if 65536 ≤ d.buddy.mirror.length then resync now d 1 else
  { d with buddy := { d.buddy with mirror := d.buddy.mirror ++ [{ kind, flags := b2n ext, slot, body }] } }

/-- The bytes of a record's link, empty where it has none. -/
def Dev.linkBytes (d : Dev) (slot r : Nat) : Bytes :=
  let l := d.recordAt (recLinkSlot r)
  if recSvcKind r = 0 ∨ recLinkSlot r = slot ∨ recKind l ≠ 3 ∨ recPrimary l ≠ slot then [] else recBytes l

/-- A change this device makes to a record is remembered with its period (R523). -/
def noteChanged (now : BellSt) (d : Dev) (key : Bytes) : Dev :=
  if d.mirrors = false then d else
  { d with buddy := { d.buddy with changed := (key, now.period.toNat) :: d.buddy.changed.filter (fun (x : Bytes × Nat) => x.1 != key) } }

/-- A creation is mirrored with its link (R520, R523). -/
def mirrorCreate (now : BellSt) (d : Dev) (slot : Nat) : Dev :=
  let r := d.recordAt slot
  noteChanged now (mirror now d 1 slot (recTwoSlots r) (recBytes r ++ d.linkBytes slot r)) (recKey r).block

/-- A changed record is mirrored (R523). -/
def mirrorState (now : BellSt) (d : Dev) (slot : Nat) : Dev :=
  let r := d.recordAt slot
  noteChanged now (mirror now d 3 slot (recTwoSlots r) (recBytes r)) (recKey r).block

/-- An endpoint's binding or NAT fields have changed (R523). -/
def mirrorEndpoint (now : BellSt) (d : Dev) (e : Nat) : Dev := mirror now d 4 e false (toBE 4 e ++ toLE 64 (d.current (epSlot e)))

/-- Increments of a record join the delta store (R527). -/
def deltaAdd (d : Dev) (key : Bytes) (dir : Bool) (bytes lesson : Nat) : Dev :=
  if d.mirrors = false then d else
  let up (x : Delta) : Delta :=
    if dir then { x with pktsBA := x.pktsBA + 1, bytesBA := x.bytesBA + bytes, lastHit := lesson }
    else { x with pktsAB := x.pktsAB + 1, bytesAB := x.bytesAB + bytes, lastHit := lesson }
  if d.buddy.deltas.any (fun x => x.key == key) then
    { d with buddy := { d.buddy with deltas := d.buddy.deltas.map (fun x => if x.key = key then up x else x) } }
  else if 524288 ≤ d.buddy.deltas.length then d.bump M.CNT_BUDDY_DELTA_OVERFLOW
  else { d with buddy := { d.buddy with deltas := d.buddy.deltas ++ [up { key, pktsAB := 0, pktsBA := 0, bytesAB := 0, bytesBA := 0, lastHit := lesson }] } }

/-! ## Creation (R284, R285, R300, R315) -/

/-- How a placement ends. -/
inductive Placed where
  | at (slot : Nat) (d : Dev)
  /-- No free place in either bucket (R284). -/
  | bucket
  /-- No line may be taken (R279). -/
  | line

/-- The first free place of a key (R284 step 1): a slot, or an aligned pair. -/
def Dev.freePlace (d : Dev) (home second : Nat) (two : Bool) : Option Nat :=
  let slots := (List.range 4).map (4 * home + ·) ++ (List.range 4).map (4 * second + ·)
  if two then slots.find? (fun s => s % 2 == 0 && !d.occupied s && !d.occupied (s + 1)) else slots.find? (fun s => !d.occupied s)

/-- The tags of a record at a slot are written, by no pipe. -/
def Dev.setTags (d : Dev) (s : Nat) (two : Bool) (tag : Nat) : Dev :=
  let put (m : SMap Nat) (v : Nat) : SMap Nat := let m := SMap.set zeroAt m s v; if two then SMap.set zeroAt m (s + 1) v else m
  { d with roll := { d.roll with tags := put d.roll.tags tag, writer := put d.roll.writer 0 } }

/-- The pipe that has written a slot's tag (R285). -/
def Dev.wroteTag (d : Dev) (s pipe : Nat) : Dev := { d with roll := { d.roll with writer := SMap.set zeroAt d.roll.writer s (pipe + 1) } }

/-- A record with a key is placed: tags and lines are written (R284). -/
def insertRecord (now : BellSt) (d : Dev) (k : FlowKey) (r : Nat) : Placed :=
  let (home, second, tag) := d.hashKey k
  match d.freePlace home second (recTwoSlots r) with
  | none => .bucket
  | some s =>
    match writeRecord now d s r with
    | none => .line
    | some d =>
      .at s (d.setTags s (recTwoSlots r) tag)

/-- A record with a key is placed as one that comes from the peer: its lines wait where none may be taken (R279). Its slot, or none where
neither bucket has a free place. -/
def installRecord (now : BellSt) (d : Dev) (k : FlowKey) (r : Nat) : Option (Nat × Dev) :=
  let (home, second, tag) := d.hashKey k
  (d.freePlace home second (recTwoSlots r)).map (fun s => (s, (updateRecord now d s r).setTags s (recTwoSlots r) tag))

/-- The record of a link (R277). -/
def linkRecord (k : FlowKey) (primary : Nat) : Nat := setFld (recWithKey 0 3 k) 364 28 primary

/-- A link is placed under an outside key, and its primary takes LINK_SLOT (R284 step 4). -/
def insertLink (now : BellSt) (d : Dev) (k : FlowKey) (primary : Nat) : Placed :=
  match insertRecord now d k (linkRecord k primary) with
  | .at l d => .at l (updateRecord now d primary (setFld (d.recordAt primary) 182 28 l))
  | p => p

/-- A link or record is removed without more (R316). -/
def removeLink (now : BellSt) (d : Dev) (slot r : Nat) : Dev :=
  if recSvcKind r = 0 ∨ recLinkSlot r = slot ∨ recKind (d.current (recLinkSlot r)) ≠ 3 ∨ recPrimary (d.current (recLinkSlot r)) ≠ slot then d
  else clearRecord now d (recLinkSlot r)

/-- DGEN of a live edition (R318). -/
def Dev.genOf (d : Dev) (e : Nat) : Nat := SMap.get (fun _ => d.rd M.DECISION_GEN) d.roll.genOf (e % 4)

/-! ## Endings (R309, R310, R316, R332, R344, R513) -/

/-- A notice enters the export queue; false where the queue is full (R310, R344). With EXPORT_MODE 0 it is discarded (R346). -/
def exportNotice (now : BellSt) (d : Dev) (n : Notice) : Bool × Dev :=
  if d.rd M.EXPORT_MODE = 0 then (true, d) else
  if 65536 ≤ d.services.exportQueue.length then (false, d) else
  (true, exportTask now ({ d with services := { d.services with exportQueue := d.services.exportQueue ++ [n] } }.bump M.CNT_EXPORT_NOTICE))

/-- flowEndReason of an end reason (R316, R347). -/
def endReasonIpfix (reason : Nat) : Nat := if reason = 1 then 1 else if reason = 2 then 4 else 5

/-- Whether an end-of-flow notice can be taken (R310, R316). -/
def Dev.exportRoom (d : Dev) (r : Nat) : Bool :=
  !recHasExport r || !d.ownsRec r || d.rd M.EXPORT_MODE == 0 || decide (d.services.exportQueue.length < 65536)

/-- Whether the client of a flow the device rewrites is side B: the endpoint's side with NAPT44, else the side its link
keeps (R323, R336). -/
def Dev.clientB (d : Dev) (slot r : Nat) : Bool :=
  if recSvcKind r = 1 ∨ recSvcKind r = 3 then recEndpointB r else
  if recSvcKind r = 0 ∨ recLinkSlot r = slot then false else
  let k := recKey r
  let l := recKey (d.recordAt (recLinkSlot r))
  !((l.addrA == k.addrA && l.portA == k.portA) || (l.addrB == k.addrA && l.portB == k.portA))

/-- A record as a notice carries it: bit 1,024 says that the flow's client is side B. -/
def Dev.noticeRec (d : Dev) (slot r : Nat) : Nat := r + b2n (d.clientB slot r) * 2 ^ 1024

/-- The end-of-flow notice of a record that is exported (R310, R316, R478). -/
def endNotice (now : BellSt) (d : Dev) (slot r reason : Nat) : Dev :=
  if recHasExport r = false ∨ d.ownsRec r = false then d else
  let (_, d) := exportNotice now d (.flow (endReasonIpfix reason) (d.noticeRec slot r))
  d.notice now 2 Ev.NOTICE_FLOW_END (oid 0x30 0) (slot + reason * 2 ^ 32 + d.h1Of (recKey r).block * 2 ^ 64)

/-- Whether a record is a NAPT44 mapping record (R328). -/
def isMapping (r : Nat) : Bool := recSvcKind r == 1 && !recV6 r && fld r 456 32 == 0 && fld r 408 16 == 0 && recKind r == 0

/-- Inside address and port of a record with NAPT44 state: the endpoint's side (R323). -/
def recInside (r : Nat) : Nat × Nat := if recEndpointB r then (fld r 424 32, fld r 392 16) else (fld r 456 32, fld r 408 16)

/-- The key of the mapping record of an inside address and port (R328). -/
def mappingKey (proto addr port : Nat) : FlowKey := { v6 := false, proto, addrA := 0, addrB := addr, portA := 0, portB := port }

/-- A mapping is named to a release task by its key (R332). -/
def mappingWord (proto addr port : Nat) : Nat := proto * 2 ^ 48 + addr * 2 ^ 16 + port

/-- The word of a release task for a mapping that is gone: it takes one from the endpoint's NAT_MAPS (R332). -/
def mapGoneWord (e : Nat) : Nat := 2 ^ 60 + e

/-- The mapping key of a record with NAPT44 state: a mapping's own, or that of the flow's inside address and port (R328). -/
def releaseKey (r : Nat) : FlowKey := if isMapping r then recKey r else mappingKey (recProto r) (recInside r).1 (recInside r).2

/-- The pipe whose cluster takes a record's release task: h1[3:0] of the mapping key, or the next active pipe upward (R332). -/
def Dev.releasePipe (d : Dev) (r : Nat) : Nat := d.activeFrom (d.h1Of (releaseKey r).block % 16)

/-- Whether a record's release could not be queued (R376). -/
def Dev.releaseFull (d : Dev) (r : Nat) : Bool :=
  (recSvcKind r == 1 || recSvcKind r == 3) && decide (65536 ≤ d.releaseQueue (d.releasePipe r))

/-- The release tasks a deleted record with NAPT44 state needs (R332). -/
def releaseFor (now : BellSt) (d : Dev) (r : Nat) : Dev :=
  if recSvcKind r ≠ 1 ∧ recSvcKind r ≠ 3 then d else
  let k := releaseKey r
  natReleaseTask now d (d.releasePipe r) (if isMapping r then mapGoneWord (recEndpoint r) else mappingWord k.proto k.addrB k.portB)

/-- Whether a task holds a copy of its record: it has started and not been released (R314). -/
def TaskRec.copies (t : TaskRec) : Bool :=
  match t.state with
  | .running _ => true
  | .preempted _ => true
  | _ => false

/-- The updates of tasks that hold a copy of a record become stale (R314). -/
def staleTasks (d : Dev) (slot : Nat) (merge : Bool) : Dev :=
  let ts := (d.tutors.tasks.filter (fun t => t.recSlot == some slot && t.copies)).map TaskRec.handle
  { d with roll := { d.roll with stale := d.roll.stale.filter (fun x => !ts.contains x.1) ++ ts.map (fun t => (t, merge)) } }

/-- Updates in flight to a record become stale (R314, R316): those of tasks that hold a copy, and the peer's entries in transit. -/
def makeStale (now : BellSt) (d : Dev) (slot : Nat) (merge : Bool) : Dev :=
  let key := (recKey (d.recordAt slot)).block
  let d := staleTasks d slot merge
  if d.mirrors = false then d else
  { d with buddy := { d.buddy with replaced := (key, now.period.toNat, merge) :: d.buddy.replaced.filter (fun x => x.1 != key) } }

/-- The peer deletes a record (R523). -/
def mirrorDelete (now : BellSt) (d : Dev) (slot r : Nat) : Dev := mirror now d 2 slot (recTwoSlots r) (recKey r).block

/-- A record goes for an end reason, with its tail and its link (R309, R316): notice, mirror entry and release task. -/
def deleteRecord (now : BellSt) (d : Dev) (slot reason : Nat) : Dev :=
  let r := d.recordAt slot
  let d := endNotice now d slot r reason
  let d := mirrorDelete now d slot r
  let d := removeLink now d slot r
  let d := clearRecord now (makeStale now d slot false) slot
  releaseFor now d r

/-- A slot that cannot be read is freed, with nothing left of it. -/
def wipeSlot (d : Dev) (slot : Nat) : Dev :=
  let d := { d with roll := { d.roll with
    tags := SMap.set zeroAt d.roll.tags slot 0
    writer := SMap.set zeroAt d.roll.writer slot 0
    candidates := d.roll.candidates.filter (fun c => c.slot != slot) } }
  let d := match d.findLine slot with | some (k, _) => d.setLine k none | none => d
  d.store slot 0

/-- The head of the record that a slot belongs to: the slot before it where it is a tail. -/
def Dev.headOf (d : Dev) (slot : Nat) : Nat :=
  if slot % 2 = 1 ∧ slot < epSlotBase ∧ recValid (d.current (slot - 1)) = true ∧ recTwoSlots (d.current (slot - 1)) = true then slot - 1 else slot

/-- A record that cannot be read is lost (R513). -/
def loseSlot (now : BellSt) (d : Dev) (slot : Nat) : Dev :=
  let slot := d.headOf slot
  let two := recTwoSlots (d.current slot)
  let d := wipeSlot d slot
  let d := (if two then wipeSlot d (slot + 1) else d).bump M.CNT_RECORD_LOST
  let d := d.notice now 2 Ev.NOTICE_FLOW_END (oid 0x30 0) (slot + 3 * 2 ^ 32)
  let d := d.raiseIf (!d.buddy.lostRaised) now Ev.RECORD_LOST (oid 0x70 0) slot
  { d with buddy := { d.buddy with lostRaised := true } }

/-! ## Ageing (R303 to R311, R332, R528) -/

/-- Timeout of a record in lessons (R303): in PAIRED at least 2 (R528). -/
def Dev.timeoutOf (d : Dev) (r : Nat) : Nat :=
  let t := if isMapping r then d.rd M.NAT_MAP_HOLD else d.rd (recTimeoutId r)
  if t ≠ 0 ∧ d.buddy.mode = .paired then max 2 t else t

/-- Whether the roll call finds a record expired in a lesson (R304, R305, R332). -/
def Dev.expired (d : Dev) (lesson : Nat) (r : Nat) : Bool :=
  let t := d.timeoutOf r
  let long := match d.roll.wakeLesson with
    | some w => decide (t ≠ 0) && decide (lessonsSince lesson w < lessonsSince lesson (recLastHit r))
    | none => false
  if isMapping r then fld r 112 32 == 0 && recExpired r t lesson else recExpired r t lesson || long

/-- A slice of the roll call: the period and lesson it belongs to (R43), and its first bucket (R566). -/
structure RollSlice where
  period : Nat
  lesson : Nat
  start : Nat

/-- The slice a Roll read belongs to. -/
def RollRead.of (q : RollRead) : RollSlice := { period := q.slice, lesson := q.lesson, start := q.start }

/-- A Roll read for a check of a slice. -/
def RollSlice.read (sl : RollSlice) (slot judged : Nat) : RollRead :=
  { slot, judged, slice := sl.period, lesson := sl.lesson, start := sl.start }

/-- The roll call judges a slot by its current value (R307 orders 2 to 5). -/
def judgeSlot (now : BellSt) (sl : RollSlice) (d : Dev) (s : Nat) : Dev :=
  let r := d.recordAt s
  if d.occupied s = false ∨ recKind r = 2 ∨ recValid r = false then d else
  if recKind r = 3 then
    (let p := d.recordAt (recPrimary r)
     if d.occupied (recPrimary r) ∧ recValid p ∧ recKind p < 2 ∧ recSvcKind p ≠ 0 ∧ recLinkSlot p = s then d
     else (clearRecord now d s).bump M.CNT_ROLL_ORPHAN_LINK)
  else if recPending r ∨ d.pinned s = true ∨ d.ownsRec r = false then d
  else if d.expired sl.lesson r then
    { d with roll := { d.roll with candidates := d.roll.candidates ++ [{ slot := s, lastHit := recLastHit r, rseq := recRseq r, slice := sl.period }] } }
  else d

/-- Whether a slot's value is at hand without a Roll read: in a line, an update that waits, the write buffer, or a write its
controller holds (R307, R444). -/
def Dev.atHand (d : Dev) (slot : Nat) : Bool :=
  let (ch, unit) := d.slotPlace slot
  (d.lineVal slot).isSome || (d.lateData slot).isSome || (d.wbData slot).isSome ||
    (d.channel ch).reqs.any (fun x => x.write && x.unit == unit && !x.issued)

/-- A Roll read joins the roll call's queue (R307); `none` where the queue is full. A channel out of service reads nothing, and
what it would have read is not judged (log 227). -/
def queueRollRead (now : BellSt) (d : Dev) (q : RollRead) : Option Dev :=
  if d.chServes (d.slotPlace q.slot).1 = false then some d
  else if 4096 ≤ d.roll.reads.length then none
  else some (requestSlot now { d with roll := { d.roll with reads := d.roll.reads ++ [q] } } q.slot 3)

/-- A slot whose value is at hand is judged; a link reads its primary first (R307 order 3). -/
def judgeRead (now : BellSt) (sl : RollSlice) (d : Dev) (s : Nat) : Option Dev :=
  let p := recPrimary (d.current s)
  if recValid (d.current s) = true ∧ recKind (d.current s) = 3 ∧ d.occupied p = true ∧ d.atHand p = false then
    queueRollRead now d (sl.read p s)
  else some (judgeSlot now sl d s)

/-- The roll call checks one occupied slot (R307); `none` where its Roll read finds the queue full. A slot whose fetch is
outstanding is read too, since a link is dealt with (order 3) before a pinned line is passed over (order 4). -/
def rollCallSlot (now : BellSt) (sl : RollSlice) (d : Dev) (s : Nat) : Option Dev :=
  (if d.atHand s then judgeRead now sl d s else queueRollRead now d (sl.read s s)).map (fun d => d.bump M.CNT_ROLL_CALL_CHECKED)

/-- Slots checked in order: the first that the item had to stop at, and the device. -/
def rollChecks (now : BellSt) (sl : RollSlice) (d : Dev) (ss : List Nat) : Option Nat × Dev :=
  match ss with
  | [] => (none, d)
  | s :: r =>
    match rollCallSlot now sl d s with
    | some d => rollChecks now sl d r
    | none => (some s, d)

/-- Slots checked per period (R306). -/
def Dev.rollSlice (d : Dev) : Nat := if d.palette = 3 then min 512 (d.rd M.ROLL_CALL_SLICE) else d.rd M.ROLL_CALL_SLICE

/-- Occupied slots in [lo, hi). -/
def Dev.occupiedIn (d : Dev) (lo hi : Nat) : List Nat := (d.roll.tags.map Prod.fst).filter (fun s => decide (lo ≤ s) && decide (s < hi))

/-- The sweep has wrapped in the running period (R305, R306). -/
def sweepWraps (now : BellSt) (d : Dev) : Dev :=
  let p := now.period.toNat + 1
  let took := (p + 2 ^ 32 - d.roll.sweepStart.getD p % 2 ^ 32) % 2 ^ 32
  { d.wr M.ROLL_CALL_LAST_SWEEP took with
    roll := { d.roll with sweepStart := some (p % 2 ^ 32), sweepPartial := false, wakeLesson := if d.roll.sweepPartial then d.roll.wakeLesson else none } }

/-- ROLL_CALL_POSITION advances only over buckets whose checks have finished (R566): it stands at the first check that waits for its
Roll read, else at the next check. -/
def showPosition (d : Dev) : Dev :=
  d.wr M.ROLL_CALL_POSITION ((match d.roll.reads with
    | q :: _ => q.judged
    | [] => d.roll.nextCheck) / 4)

/-- Item 8 (R306, R307): the slice of the bell `at_` from its check `lo` up to its check `hi`; the checks done. -/
def rollCall (now at_ : BellSt) (lo hi : Nat) (d : Dev) : Nat × Dev :=
  let n := rollSlots d.palette
  let s := d.roll.nextCheck
  let e := s + (hi - lo)
  let d : Dev := { d with roll := { d.roll with sweepStart := some (d.roll.sweepStart.getD now.period.toNat) } }
  let sl : RollSlice := { period := at_.period.toNat, lesson := at_.lesson.toNat, start := (s + n - lo % n) % n / 4 }
  let (stop, d) := rollChecks now sl d (if e ≤ n then d.occupiedIn s e else d.occupiedIn s n ++ d.occupiedIn 0 (e - n))
  let did := match stop with
    | some x => (x + n - s % n) % n
    | none => hi - lo
  let d := showPosition { d with roll := { d.roll with nextCheck := (s + did) % n } }
  (lo + did, if n ≤ s + did then sweepWraps now d else d)

/-- A candidate is committed or defeated at the bell (R308 to R311, R376). -/
def commitCandidate (now : BellSt) (d : Dev) (c : Candidate) : Dev :=
  let r := d.recordAt c.slot
  if d.occupied c.slot = false ∨ recValid r = false ∨ 2 ≤ recKind r then d else
  if recLastHit r ≠ c.lastHit ∨ recRseq r ≠ c.rseq ∨ recPending r = true ∨ d.workedSlots.contains c.slot = true ∨ (isMapping r = true ∧ fld r 112 32 ≠ 0) then
    d.bump M.CNT_ROLL_AGE_DEFEATED
  else
    if d.exportRoom r = false ∨ d.releaseFull r = true then d.bump M.CNT_ROLL_AGE_EXPORT_FULL else
    let key := (recKey r).block
    let d := (deleteRecord now d c.slot 1).bump M.CNT_ROLL_AGED
    { d with roll := { d.roll with reborn := d.roll.reborn ++ [key] } }

/-- The ageing commit of a bell cycle (R308, R311): the keys remembered from the bell before are forgotten. -/
def ageingCommit (now : BellSt) (d : Dev) : Dev :=
  let cs := d.roll.candidates
  cs.foldl (commitCandidate now) { d with roll := { d.roll with candidates := [], reborn := [] } }

/-! ## Uncorrectable words of the Front Row and the tag band (R281, R529) -/

/-- A request to the peer for a record, with the slot it is to fill where one is known (R529, R532). -/
def askPeer (d : Dev) (key : FlowKey) (slot : Option Nat) : Dev :=
  let e : WEntry := { kind := 8, flags := 0, slot := slot.getD 0, body := key.block }
  Dev.bump { d with buddy := { d.buddy with fetchOut := d.buddy.fetchOut ++ [e], awaiting := d.buddy.awaiting ++ [(key.block, slot)] } }
    M.CNT_BUDDY_REMOTE_FETCH

/-- A request for the record of a slot (R529). -/
def fetchFromPeer (d : Dev) (key : FlowKey) (slot : Nat) : Dev := askPeer d key (some slot)

/-- Whether reads that fail here are served by the peer (R529). -/
def Dev.peerServes (d : Dev) : Bool := decide (d.buddy.mode = .paired) && decide (2 ≤ d.rd M.BUDDY_VERSION)

/-- A Front Row line is uncorrectable (R281). -/
def badLine (d : Dev) (slot : Nat) : Dev :=
  match d.findLine slot with
  | none => d
  | some (k, l) =>
    let head := d.headOf slot
    let r := d.recordAt head
    let d := d.setLine k none
    if l.dirty = false then d else
    let d := d.bump M.CNT_FR_LOST_DIRTY
    if d.peerServes ∧ slot < epSlotBase ∧ recValid r ∧ recKind r ≠ 2 then fetchFromPeer d (recKey r) head else d

/-- The tag of a slot, as its record gives it. -/
def Dev.tagFrom (d : Dev) (s : Nat) : Nat :=
  let r := d.recordAt s
  if recValid r = false then 0
  else if recKind r = 2 then (d.hashKey (recKey (d.recordAt (s - 1)))).2.2
  else (d.hashKey (recKey r)).2.2

/-- The tags of a bucket are rebuilt from its four slots, through the Front Row (R281); where a slot cannot come in, the bucket goes on
waiting (R279, R449). -/
def rebuildBucket (now : BellSt) (d : Dev) (b : Nat) : Dev :=
  match (List.range 4).foldl (fun (acc : Brought) p => acc.andThen (fun d => bringSlot now d (4 * b + p) 0 false)) (.here d) with
  | .here d =>
    let tags := (List.range 4).foldl (fun tags p => SMap.set zeroAt tags (4 * b + p) (d.tagFrom (4 * b + p))) d.roll.tags
    Dev.bump { d with roll := { d.roll with tags, rebuild := d.roll.rebuild.filter (fun x => x != b) } } M.CNT_ROLL_TAG_REPAIR
  | .line => d.bump M.CNT_FR_SET_PINNED
  | _ => d

/-- The oldest bucket that waits for its rebuild tries again. -/
def retryRebuild (now : BellSt) (d : Dev) : Dev :=
  match d.roll.rebuild with
  | b :: _ => rebuildBucket now d b
  | [] => d

/-- A tag-band word is uncorrectable: each of its 8 buckets is rebuilt (R281, R450). -/
def rebuildWord (now : BellSt) (d : Dev) (b : Nat) : Dev :=
  let bs := tagWordBuckets (b / 8)
  bs.foldl (rebuildBucket now) { d with roll := { d.roll with rebuild := d.roll.rebuild.filter (fun x => !bs.contains x) ++ bs } }

/-- Whether lookups of a key wait for a bucket's rebuild (R281). -/
def Dev.rebuilding (d : Dev) (k : FlowKey) : Bool := let (home, second, _) := d.hashKey k; d.roll.rebuild.contains home || d.roll.rebuild.contains second

/-- A Roll read of the roll call has ended (R307, R513, R529). -/
def rollReadDone (now : BellSt) (d : Dev) (q : RollRead) (bad : Bool) : Dev :=
  if d.roll.reads.contains q = false then d else
  let d := showPosition { d with roll := { d.roll with reads := d.roll.reads.erase q } }
  if bad ∧ d.atHand q.slot = false then
    (if d.peerServes then fetchFromPeer d (recKey (d.recordAt (d.headOf q.slot))) (d.headOf q.slot)
     else if d.occupied q.slot then loseSlot now d q.slot else d)
  else if q.slot = q.judged then showPosition ((judgeRead now q.of d q.judged).getD d)
  else judgeSlot now q.of d q.judged

/-- MEM_ACCESS_COMPLETE with what it means to the roll call: the read that ends is the oldest of its queue for the unit. -/
def memAccess (ch unit : Nat) (e : EccIn) (t : Nat) (now : BellSt) (d : Dev) : Dev :=
  match (d.channel ch).oldest unit with
  | none => d
  | some q =>
    let mine := if q.issued ∧ q.port = 3 ∧ q.write = false then d.roll.reads.find? (fun (r : RollRead) => decide (d.slotPlace r.slot = (ch, unit))) else none
    let d := memAccessComplete ch unit e t now d
    match mine with
    | some r => rollReadDone now d r (unitBad (q.found e))
    | none => d

/-! ## Refusal maps (R292) -/

/-- A refusal with cause CORRIDOR, QUEUE or BUCKET sets the key's bit. -/
def noteRefusal (d : Dev) (pipe h1 : Nat) : Dev :=
  let p := d.pipe pipe
  if p.refusal.contains (h1 % 65536) then d else d.setPipe pipe { p with refusal := h1 % 65536 :: p.refusal }

/-- Whether a creating pipe's maps have the key's bit. -/
def Dev.wasRefused (d : Dev) (pipe h1 : Nat) : Bool := let p := d.pipe pipe; p.refusal.contains (h1 % 65536) || p.refusalOld.contains (h1 % 65536)

/-- The swap of the maps at a lesson start. -/
def swapRefusals (d : Dev) : Dev :=
  (List.range 16).foldl (fun d p => d.setPipe p { d.pipe p with refusalOld := (d.pipe p).refusal, refusal := [] }) d

/-! ## ROLL_PROBE (R295) -/

/-- ROLL_PROBE (R272, R295). -/
def rollProbe (_ : Nat) (d : Dev) : Nat × Dev :=
  let b := d.aread 0x08210000 40
  let h1 := seededHash d.roll.seed1 b
  let h2 := seededHash d.roll.seed2 b
  let h3 := seededHash d.roll.seed3 b
  let (home, second) := bucketsOf (rollBuckets d.palette) h1 h2
  (St.OK, (((((d.wr M.ROLL_PROBE_H1 h1).wr M.ROLL_PROBE_H2 h2).wr M.ROLL_PROBE_H3 h3).wr M.ROLL_PROBE_HOME home).wr M.ROLL_PROBE_SECOND second).wr
    M.ROLL_PROBE_TAG (tagOf h3))

/-! ## Commands -/


/-- ROLL_PROBE (R295). -/
def execRollProbe (a : Acc) (s : State) : Host.Outcome State Fault Refusal :=
  s.onDev (fun _ d => (d.trigger a M.ROLL_PROBE rollProbe).2)

end Sys2Proof.Machine
end

