-- ==== Sys2Proof/Machine/Services.lean ====
section
/-!
DEFINITION. The flow services (R321 to R348): endpoints and admission, NAPT44, load balancing, stateful filtering, the
rewrite of a packet, and the records and messages of the export.
-/
namespace Sys2Proof.Machine

/-! ## Endpoints (R323 to R326) -/

/-- The endpoint a range attributes an address to (R323). -/
def rangeEndpoint (v : Nat) (v6 : Bool) (a : Nat) : Option Nat :=
  let base := fld v 112 128
  let k := (a - base) / 2 ^ fld v 247 7
  if bitOf v 255 ∧ bitOf v 254 = v6 ∧ base ≤ a ∧ k < fld v 63 25 then some (fld v 88 24 + k) else none

/-- The endpoint of an address, by the 64 ranges (R323). -/
def Dev.endpointOf (d : Dev) (v6 : Bool) (a : Nat) : Option Nat :=
  (List.range 64).findSome? (fun k => rangeEndpoint (d.ale (0x08250000 + 32 * k) 32) v6 a)

/-- An endpoint record by its current value (R324, R325). -/
def Dev.endpoint (d : Dev) (e : Nat) : Nat := d.current (epSlot e)

/-- A change of an endpoint record (R325). -/
def setEndpoint (now : BellSt) (d : Dev) (e v : Nat) : Dev := updateRecord now d (epSlot e) v

def epBound (v : Nat) : Bool := bitOf v 510
def epHasBlock (v : Nat) : Bool := bitOf v 509
def epMac (v : Nat) : Nat := fld v 456 48
def epNatAddr (v : Nat) : Nat := fld v 368 12
def epNatBlock (v : Nat) : Nat := fld v 352 16
def epNatMaps (v : Nat) : Nat := fld v 336 16

/-- Whether an endpoint's lease is current (R342). -/
def Dev.leaseCurrent (d : Dev) (v : Nat) : Bool :=
  let l := (fld v 412 24 + 2 ^ 24 - d.rd M.LEASE_CLOCK % 2 ^ 24) % 2 ^ 24
  decide (1 ≤ l) && decide (l ≤ 2 ^ 23 - 1)

/-- New-flow admission of an endpoint (R326): whether the creation proceeds, and the record after it. -/
def epAdmit (period v : Nat) : Bool × Nat :=
  let el := (period + 2 ^ 32 - fld v 240 32) % 2 ^ 32
  let full := fld v 308 12 * 2 ^ 20
  let t := if 2 ^ 31 ≤ el then full else min (fld v 272 32 + el * fld v 320 16) full
  let v := setFld v 240 32 period
  if 2 ^ 20 ≤ t then (true, setFld v 272 32 (t - 2 ^ 20))
  else (false, setFld (setFld v 272 32 t) 56 16 (min 65535 (fld v 56 16 + 1)))

/-- The endpoint meter on a frame of `len` bytes and period `at_` (R38, R420, R421): the colour, and the record after it. -/
def epMeter (cur at_ v input len : Nat) : Nat × Nat :=
  let mode := fld v 507 2
  let t := meterAt cur at_ (fld v 72 32)
  let (tc, te) := meterRefill mode (fld v 220 20) (fld v 200 20) (fld v 184 16) (fld v 168 16) (elapsed t (fld v 72 32)) (fld v 136 32) (fld v 104 32)
  let (col, tc, te) := meterRun mode (bitOf v 506) input (len * 256) tc te
  (col, setFld (setFld (setFld v 136 32 tc) 104 32 te) 72 32 t)

/-- The zone policy of a zone (R338). -/
def Dev.zone (d : Dev) (z : Nat) : Nat := d.ale (0x08350000 + 8 * z) 8

/-! ## NAPT44 (R327 to R333) -/

/-- An entry of the NAT address table and of the pool table (R327). -/
def Dev.natAddr (d : Dev) (i : Nat) : Nat := d.ale (0x08310000 + 8 * i) 8
def Dev.natPool (d : Dev) (p : Nat) : Nat := d.ale (0x08318000 + 16 * p) 16

/-- The index of a public address in the NAT address table. -/
def Dev.natIndexOf (d : Dev) (a : Nat) : Option Nat :=
  (List.range 4096).find? (fun i => let v := d.natAddr i; bitOf v 63 && fld v 0 32 == a)

/-- How NAPT44 sees a flow by its first packet (R329 to R331). -/
inductive NatFlow where
  | none
  | outbound (endpoint : Nat)
  | inbound
  | hairpin (endpoint : Nat)
  deriving DecidableEq, Repr

/-- The NAPT44 case of a first packet. -/
def Dev.natFlow (d : Dev) (h : Hdr) : NatFlow :=
  match d.endpointOf false h.ipSrc, d.natIndexOf h.ipDst with
  | some e, Option.none => .outbound e
  | Option.none, some _ => .inbound
  | some e, some _ => .hairpin e
  | Option.none, Option.none => .none

/-- A pool's fields (R327). -/
def poolBlockLog (v : Nat) : Nat := fld v 97 4
def poolLow (v : Nat) : Nat := fld v 81 16
def poolHigh (v : Nat) : Nat := fld v 65 16

/-- Whether block `k` of an address is held (R335: 1,024 bits per address). -/
def Dev.blockHeld (d : Dev) (a k : Nat) : Bool := bitOf (Memory.read d.tutors.data (128 * 2 ^ 20 + a * 128 + k / 8)).toNat (k % 8)

/-- Hold or free a block. -/
def Dev.setBlock (d : Dev) (a k : Nat) (b : Bool) : Dev :=
  let at_ := 128 * 2 ^ 20 + a * 128 + k / 8
  let v := (Memory.read d.tutors.data at_).toNat
  { d with tutors := { d.tutors with data := Memory.write d.tutors.data at_ (toByte (setFld v (k % 8) 1 (b2n b))) } }

/-- Addresses of a pool from a0 on, wrapping (R329). -/
def poolAddrs (v e : Nat) : List Nat :=
  let n := fld v 101 13
  (List.range n).map (fun k => fld v 114 12 + (e % n + k) % n)

/-- The lowest free block of the first address that has one (R329). -/
def Dev.findBlock (d : Dev) (v e : Nat) : Option (Nat × Nat) :=
  let blocks := (poolHigh v + 1 - poolLow v) / 2 ^ poolBlockLog v
  (poolAddrs v e).findSome? (fun a => ((List.range blocks).find? (fun k => !d.blockHeld a k)).map (fun k => (a, k)))

/-- How a service's decision ends: done, failed under a counter (R322), no free place in a bucket, or a Front Row line to
wait for (R279). -/
inductive Decided (α : Type) where
  | ok (x : α) (d : Dev)
  | fail (counter : Nat) (d : Dev)
  | bucket
  | wait

/-- The key of a mapping link (R328). -/
def mapLinkKey (proto addr port : Nat) : FlowKey := mappingKey proto addr port

/-- The binding of a SVC_STATE (R275): address index and port. -/
def binding (s : Nat) : Nat × Nat := (fld s 20 12, fld s 0 16)

/-- A mapping link and its record are placed (R328, R329 step 2), the record marked where its key was deleted at the last bell (R311);
the caller knows that neither key is present. -/
def placeMapping (now : BellSt) (d : Dev) (proto e inside iport ai pub pport : Nat) : Decided (Nat × Nat) :=
  let lk := mapLinkKey proto pub pport
  let mk := mappingKey proto inside iport
  match insertRecord now d lk (linkRecord lk 0) with
  | .bucket => .bucket
  | .line => .wait
  | .at l d =>
    let lesson := now.lesson.toNat
    let r := recWithKey 0 0 mk
    let r := setFld (setFld (setFld (setFld r 368 24 lesson) 344 24 lesson) 328 16 (d.rd M.DECISION_GEN)) 253 24 e
    let r := setFld (setFld (setFld (setFld (setFld (setFld r 320 1 1) 252 1 1) 242 2 1) 210 32 (ai * 2 ^ 20 + pport)) 182 28 l) 112 32 1
    let again := d.roll.reborn.contains mk.block
    match insertRecord now (d.bumpIf again M.CNT_ROLL_REBORN) mk (setFld r 506 1 (b2n again)) with
    | .bucket => .bucket
    | .line => .wait
    | .at m d =>
      let d := updateRecord now d l (linkRecord lk m)
      let v := d.endpoint e
      let d := setEndpoint now d e (setFld v 336 16 (epNatMaps v + 1))
      .ok (ai, pport) (mirrorEndpoint now (mirrorCreate now (d.bump M.CNT_NAT_MAP_CREATED) m) e)

/-- Tries of one address (R329): the ports in order, until one whose mapping link is not present. -/
def tryPorts (now : BellSt) (proto e inside iport ai pub : Nat) (ports : List Nat) (d : Dev) : Option (Decided (Nat × Nat)) × Dev :=
  match ports with
  | [] => (none, d)
  | p :: rest =>
    if (d.findRecord (mapLinkKey proto pub p)).isSome then tryPorts now proto e inside iport ai pub rest (d.bump M.CNT_NAT_MAP_RACE)
    else (some (placeMapping now d proto e inside iport ai pub p), d)

/-- Tries of several addresses (R329). -/
def tryAddrs (now : BellSt) (proto e inside iport : Nat) (ports : List Nat) (as : List Nat) (d : Dev) : Decided (Nat × Nat) :=
  match as with
  | [] => .fail M.CNT_NAT_PORT_EXHAUSTED d
  | a :: rest =>
    match tryPorts now proto e inside iport a (fld (d.natAddr a) 0 32) ports d with
    | (some r, _) => r
    | (none, d) => tryAddrs now proto e inside iport ports rest d

/-- Ports from a first one upward, wrapping in [low, low + size), at most the probe limit (R329). -/
def portTries (first low size limit : Nat) : List Nat := (List.range (min limit size)).map (fun i => low + (first - low + i) % size)

/-- Step 2 of R329: a public port for an inside address and port of an endpoint. -/
def chooseBinding (now : BellSt) (d : Dev) (pool proto e inside iport : Nat) : Decided (Nat × Nat) :=
  let v := d.natPool pool
  let limit := d.rd M.NAT_PROBE_LIMIT
  if bitOf v 126 = false then
    (let ep := d.endpoint e
     let held := if epHasBlock ep then some (d, epNatAddr ep, epNatBlock ep) else
       if bitOf v 127 = false then none else
       (d.findBlock v e).map (fun (a, k) =>
         let b := poolLow v + k * 2 ^ poolBlockLog v
         (mirrorEndpoint now (setEndpoint now (d.setBlock a k true) e (setFld (setFld (setFld ep 509 1 1) 368 12 a) 352 16 b)) e, a, b))
     match held with
     | none => .fail M.CNT_NAT_BLOCK_EXHAUSTED d
     | some (d, a, b) =>
       let n := 2 ^ poolBlockLog v
       tryAddrs now proto e inside iport (portTries (b + iport % n) b n limit) [a] d)
  else if bitOf v 127 = false then .fail M.CNT_NAT_PORT_EXHAUSTED d
  else if fld v 49 16 ≤ epNatMaps (d.endpoint e) then .fail M.CNT_NAT_MAP_LIMIT d
  else
    let low := poolLow v
    let size := poolHigh v + 1 - low
    let first := if low ≤ iport ∧ iport ≤ poolHigh v then iport else low + d.h1Of (mappingKey proto inside iport).block % size
    tryAddrs now proto e inside iport (portTries first low size limit) ((poolAddrs v e).take 4) d

/-- Steps 1 and 2 of R329: the mapping that is present, one flow more, or a new one. -/
def bindMapping (now : BellSt) (d : Dev) (pool proto e inside iport : Nat) : Decided (Nat × Nat) :=
  match d.findRecord (mappingKey proto inside iport) with
  | some m =>
    let r := d.recordAt m
    .ok (binding (recSvcState r)) (updateRecord now d m (setFld r 112 32 (fld r 112 32 + 1)))
  | none => chooseBinding now d pool proto e inside iport

/-- The mapping record behind a public address and port, with its slot (R330, R331). -/
def Dev.mappingOf (d : Dev) (proto addr port : Nat) : Option (Nat × Nat) :=
  match d.findRecord (mapLinkKey proto addr port) with
  | none => none
  | some l =>
    let r := d.recordAt l
    if recKind r ≠ 3 then none else
    let m := d.recordAt (recPrimary r)
    if recValid m ∧ isMapping m = true then some (recPrimary r, m) else none

/-- A flow lets its mapping go (R332): at the last one LAST_HIT takes LESSON_COUNT. -/
def releaseMapping (now : BellSt) (d : Dev) (k : FlowKey) : Dev :=
  match d.findRecord k with
  | none => d
  | some m =>
    let r := d.recordAt m
    let n := fld r 112 32 - 1
    let r := setFld r 112 32 n
    updateRecord now d m (if n = 0 then setFld r 344 24 now.lesson.toNat else r)

/-- A mapping that is gone leaves its endpoint (R332); with the last one in block mode, the block is freed. -/
def releaseEndpoint (now : BellSt) (d : Dev) (e : Nat) : Dev :=
  let v := d.endpoint e
  let n := epNatMaps v - 1
  let v1 := setFld v 336 16 n
  if n ≠ 0 ∨ epHasBlock v = false then mirrorEndpoint now (setEndpoint now d e v1) e else
  let pool := d.natPool (fld (d.natAddr (epNatAddr v)) 32 8)
  let k := (epNatBlock v - poolLow pool) / 2 ^ poolBlockLog pool
  mirrorEndpoint now (setEndpoint now (d.setBlock (epNatAddr v) k false) e (setFld v1 509 1 0)) e

/-- The work of a NAT_RELEASE task by its word (R332). -/
def natRelease (now : BellSt) (d : Dev) (w : Nat) : Dev :=
  if 2 ^ 60 ≤ w then releaseEndpoint now d (w - 2 ^ 60) else releaseMapping now d (mappingKey (fld w 48 8) (fld w 16 32) (fld w 0 16))

/-! ## Load balancing (R334 to R337) -/

/-- The version of a row that an edition sees (R166). -/
def Dev.seenRow (d : Dev) (edition table i : Nat) : Option Row :=
  let sees (r : Row) : Bool := r.valid && r.win.sees (d.rd M.EDITION_CURRENT) edition
  match d.row (rowKey table 0 0 i), d.row (rowKey table 1 0 i) with
  | some r, some q => if sees r then some r else if sees q then some q else none
  | some r, none => if sees r then some r else none
  | none, some q => if sees q then some q else none
  | none, none => none

/-- The row of a virtual service as a packet's edition sees it (R334). -/
def Dev.vservice (d : Dev) (edition s : Nat) : Option Nat := (d.seenRow edition tVservice s).map (fun r => leVal r.data)

/-- Address and port of a member (R335); a flow keeps a member whose row has been deleted (R337). -/
def Dev.member (d : Dev) (edition state : Nat) : Nat × Nat :=
  let i := fld state 16 16 * 1024 + fld state 0 10
  match (match d.seenRow edition tLbMember i with | some r => some r | none => d.row (rowKey tLbMember 0 0 i)) with
  | some r => let v := leVal r.data; (fld v 112 128, fld v 96 16)
  | none => (0, 0)

/-- The piecewise-linear logarithm's complement NL (R336). -/
def rendezvous (h : Nat) : Nat :=
  let h := h ||| 1
  let k := Nat.log2 h
  2097152 - (k * 65536 + h * 2 ^ (31 - k) / 32768 % 65536)

/-- Eligible members of a service in an edition: number and weight (R336). -/
def Dev.eligible (d : Dev) (edition s members : Nat) : List (Nat × Nat) :=
  ((rowsIn d.tabs tLbMember 0 0 (s * 1024) (s * 1024 + min members 1024)) ++ rowsIn d.tabs tLbMember 1 0 (s * 1024) (s * 1024 + min members 1024)).filterMap
    (fun (i, r) =>
      let v := leVal r.data
      if bitOf v 254 ∧ fld v 240 8 ≠ 0 ∧ r.win.sees (d.rd M.EDITION_CURRENT) edition then some (i % 1024, fld v 240 8) else none)

/-- The member of a service for a client (R336). -/
def Dev.chooseMember (d : Dev) (edition s client cport : Nat) : Option Nat :=
  match d.vservice edition s with
  | none => none
  | some v =>
    let port := if bitOf v 509 then 0 else cport
    let nl (m : Nat) : Nat := rendezvous (seededHash (fld v 460 32) (toBE 16 client ++ toBE 2 port ++ toBE 2 s ++ toBE 2 m))
    let beats (i j : Nat × Nat) : Bool :=
      let a := i.2 * nl j.1
      let b := j.2 * nl i.1
      decide (b < a) || (a == b && decide (i.1 < j.1))
    match d.eligible edition s (fld v 492 11) with
    | [] => none
    | m :: ms => some ((ms.foldl (fun best x => if beats x best then x else best) m).1)

/-- FLOWS_NEW of a row, a field of 40 bits, grows by one. -/
def growFlows (d : Dev) (k lo n : Nat) : Dev :=
  match d.row k with
  | some r => let v := leVal r.data; d.setRow k (some { r with data := toLE n (setFld v lo 40 (fld v lo 40 + 1)) })
  | none => d

/-- A member has been chosen (R334 to R336); both versions of a row count. -/
def countChoice (d : Dev) (s m : Nat) : Dev :=
  let both (d : Dev) (t i lo n : Nat) : Dev := growFlows (growFlows d (rowKey t 0 0 i) lo n) (rowKey t 1 0 i) lo n
  both (both (d.bump M.CNT_LB_CHOICE) tVservice s 420 64) tLbMember (s * 1024 + m) 56 32

/-! ## Stateful filtering (R338 to R340) -/

/-- SYN without ACK. -/
def synOnly (flags : Nat) : Bool := bitOf flags 1 && !bitOf flags 4

/-- TCP_STATE at birth (R339): whether the record starts midstream, and its state. -/
def tcpBirth (proto flags : Nat) (dir : Bool) : Nat :=
  if proto ≠ 6 then 0 else if synOnly flags then (if dir then 2 else 1) else 4

/-- What a packet does to TCP_STATE. -/
inductive TcpStep where
  | to (state : Nat)
  | reopen (state : Nat)
  | invalid
  deriving DecidableEq, Repr

/-- The table of R339; `dir` says that side B sends. The first column that applies decides. -/
def tcpStep (st : Nat) (dir : Bool) (flags : Nat) : TcpStep :=
  let fromX := if st = 1 ∨ st = 5 then !dir else dir
  let syn := if dir then 2 else 1
  let fin := if dir then 6 else 5
  if st = 0 ∨ 9 ≤ st then .to st
  else if bitOf flags 2 then .to 8
  else if synOnly flags then
    (if st ≤ 2 then (if fromX then .to st else .to 3) else if st = 3 then .to 3 else if st = 8 then .reopen syn else .invalid)
  else if bitOf flags 1 then
    (if st ≤ 2 then (if fromX then .invalid else .to 3) else if st = 8 then .invalid else .to st)
  else if bitOf flags 0 then
    (if st ≤ 2 then .invalid else if st = 3 ∨ st = 4 then .to fin
     else if st = 5 ∨ st = 6 then (if fromX then .to st else .to 7) else if st = 7 then .to 7 else .invalid)
  else if st ≤ 2 then (if fromX then .to st else .invalid)
  else if st = 3 then (if bitOf flags 4 then .to 4 else .to 3)
  else if st = 8 then .invalid else .to st

/-! ## The rewrite (R333, R337) -/

/-- A one's-complement checksum updated for one 16-bit word that changes. -/
def ocUpdate (c old new : Nat) : Nat :=
  let s := (65535 - c) + (65535 - old) + new
  let s := s % 65536 + s / 65536
  65535 - (s % 65536 + s / 65536)

/-- A checksum updated for a value of `n` words that changes. -/
def ocUpdates (n c old new : Nat) : Nat := (List.range n).foldl (fun c i => ocUpdate c (fld old (16 * i) 16) (fld new (16 * i) 16)) c

/-- What a packet's addresses and ports become. -/
structure Rewrite where
  src : Nat
  sport : Nat
  dst : Nat
  dport : Nat
  deriving DecidableEq, Repr

/-- A packet's own addresses and key ports. -/
def Rewrite.of (h : Hdr) : Rewrite := { src := h.ipSrc, sport := (keyPorts h).1, dst := h.ipDst, dport := (keyPorts h).2 }

/-- The layer-4 part of a rewrite at offset `o` of a frame: ports or identifier, and the checksum (R333). -/
def rewriteL4 (f : Bytes) (h : Hdr) (o : Nat) (w : Rewrite) : Bytes :=
  let words := if h.l3 = 2 then 8 else 2
  let pseudo (c : Nat) : Nat := ocUpdates words (ocUpdates words c h.ipSrc w.src) h.ipDst w.dst
  if h.l4Type = 1 ∨ h.l4Type = 2 then
    (let at_ := if h.l4Type = 1 then o + 16 else o + 6
     let c := beAt f at_ 2
     let f := patch (patch f o (toBE 2 w.sport)) (o + 2) (toBE 2 w.dport)
     if h.l4Type = 2 ∧ c = 0 then f else
     let c := ocUpdate (ocUpdate (pseudo c) h.l4Src w.sport) h.l4Dst w.dport
     patch f at_ (toBE 2 (if h.l4Type = 2 ∧ c = 0 then 65535 else c)))
  else if h.l4Type = 3 ∨ h.l4Type = 4 then
    (let echo := [8, 0, 128, 129].contains h.icmpType
     let idn := if h.icmpType = 8 ∨ h.icmpType = 128 then w.sport else w.dport
     let c := if h.l4Type = 4 then pseudo (beAt f (o + 2) 2) else beAt f (o + 2) 2
     let c := if echo then ocUpdate c h.icmpId idn else c
     let f := patch f (o + 2) (toBE 2 c)
     if echo then patch f (o + 4) (toBE 2 idn) else f)
  else f

/-- A frame with its addresses and ports rewritten and its checksums updated (R333, R337). A later fragment has no layer-4
header to rewrite. -/
def rewriteFrame (f : Bytes) (h : Hdr) (w : Rewrite) : Bytes :=
  let o := h.l2Len
  let g := if h.l3 = 1 then
      (let c := ocUpdates 2 (ocUpdates 2 (beAt f (o + 10) 2) h.ipSrc w.src) h.ipDst w.dst
       patch (patch (patch f (o + 12) (toBE 4 w.src)) (o + 16) (toBE 4 w.dst)) (o + 10) (toBE 2 c))
    else patch (patch f (o + 8) (toBE 16 w.src)) (o + 24) (toBE 16 w.dst)
  if h.frag = 2 then g else rewriteL4 g h (if h.l3 = 1 then o + 4 * (byteAt f o % 16) else h.l4Off) w

/-- The header vector after a rewrite. -/
def Hdr.rewritten (h : Hdr) (w : Rewrite) : Hdr :=
  let h := { h with ipSrc := w.src, ipDst := w.dst }
  if h.l4Type = 1 ∨ h.l4Type = 2 then { h with l4Src := w.sport, l4Dst := w.dport }
  else if [8, 0, 128, 129].contains h.icmpType ∧ (h.l4Type = 3 ∨ h.l4Type = 4) then
    (let i := if h.icmpType = 8 ∨ h.icmpType = 128 then w.sport else w.dport
     { h with icmpId := i, l4Dst := i })
  else h

/-- The rewrite a record decides for a packet whose sender is the client or not (R333, R337). -/
def Dev.rewriteOf (d : Dev) (edition r : Nat) (client : Bool) (h : Hdr) : Rewrite :=
  let w := Rewrite.of h
  let k := recKey r
  let cb := recEndpointB r
  let inside := recInside r
  let nat := recSvcKind r == 1 || recSvcKind r == 3
  let lb := recSvcKind r == 2 || recSvcKind r == 3
  let (ai, pport) := binding (recSvcState r)
  let pub := fld (d.natAddr ai) 0 32
  let (ma, mp) := d.member edition (if recSvcKind r = 3 then recSvcState2 r else recSvcState r)
  -- the service side of a balanced flow: the endpoint of the key that is not the client
  let far := if nat then (if cb then (k.addrA, k.portA) else (k.addrB, k.portB))
    else if k.addrA = w.dst ∧ k.portA = w.dport then (k.addrB, k.portB) else (k.addrA, k.portA)
  if client then
    let w := if nat then { w with src := pub, sport := pport } else w
    if lb then { w with dst := ma, dport := if mp = 0 then w.dport else mp } else w
  else
    let w := if lb then { w with src := far.1, sport := far.2 } else w
    if nat then { w with dst := inside.1, dport := inside.2 } else w

/-- The key of a flow's link (R284, R329, R336): the outside tuple, as the client's packet carries it after its rewrite. -/
def outsideKey (v6 : Bool) (proto : Nat) (w : Rewrite) : FlowKey := (normalise v6 proto w.src w.sport w.dst w.dport).1

/-! ## Export: records (R347, R348) -/

/-- Microseconds from the start of a lesson back from the current one (R347). -/
def lessonDelta (now : BellSt) (l : Nat) : Nat := lessonsSince now.lesson.toNat l * 1048576 / 1000

/-- The twelve elements every flow record starts with. -/
def flowHead (now : BellSt) (r reason : Nat) : Bytes :=
  let k := recKey r
  let n := if k.v6 then 16 else 4
  toBE n k.addrA ++ toBE n k.addrB ++ toBE 2 k.portA ++ toBE 2 k.portB ++ toBE 1 k.proto ++
    toBE 8 (fld r 40 40) ++ toBE 8 (fld r 112 32) ++ toBE 8 (fld r 0 40) ++ toBE 8 (fld r 80 32) ++
    toBE 4 (lessonDelta now (fld r 368 24)) ++ toBE 4 (lessonDelta now (recLastHit r)) ++ toBE 1 reason

/-- Addresses and ports after the rewrite, in the direction from side A to side B (R347). -/
def Dev.postTuple (d : Dev) (r : Nat) (clientB : Bool) : Rewrite :=
  let k := recKey r
  let nat := recSvcKind r == 1 || recSvcKind r == 3
  let lb := recSvcKind r == 2 || recSvcKind r == 3
  let (ai, pport) := binding (recSvcState r)
  let pub := fld (d.natAddr ai) 0 32
  let (ma, mp) := d.member (d.rd M.EDITION_CURRENT) (if recSvcKind r = 3 then recSvcState2 r else recSvcState r)
  let w : Rewrite := { src := k.addrA, sport := k.portA, dst := k.addrB, dport := k.portB }
  let w := if nat then (if clientB then { w with dst := pub, dport := pport } else { w with src := pub, sport := pport }) else w
  if lb then
    (if clientB then { w with src := ma, sport := if mp = 0 then w.sport else mp } else { w with dst := ma, dport := if mp = 0 then w.dport else mp })
  else w

/-- The data record of a notice and its template (R347, R348). -/
def Dev.dataRecord (now : BellSt) (d : Dev) (n : Notice) : Nat × Bytes :=
  let pen := d.rd M.EXPORT_PEN
  match n with
  | .flow reason x =>
    let r := x % 2 ^ 1024
    let svc := recSvcKind r != 0
    let w := d.postTuple r (bitOf x 1024)
    let post := if svc = false then [] else if recV6 r then toBE 16 w.dst ++ toBE 2 w.dport
      else toBE 4 w.src ++ toBE 4 w.dst ++ toBE 2 w.sport ++ toBE 2 w.dport
    let ent := if pen = 0 then [] else
      toBE 1 (fld r 507 1 + fld r 506 1 * 2 + fld r 505 1 * 4) ++ toBE 2 (if recRuleMiss r then 65535 else recRule r) ++ toBE 1 (recZone r)
    (256 + b2n svc + (if recV6 r then 2 else 0) + (if pen = 0 then 0 else 4), flowHead now r reason ++ post ++ ent)
  | .report v6 src dst sport dport proto port t outcome =>
    let n := if v6 then 16 else 4
    (if v6 then 265 else 264, toBE n src ++ toBE n dst ++ toBE 2 sport ++ toBE 2 dport ++ toBE 1 proto ++ toBE 4 port ++ toBE 8 t ++ toBE 1 outcome)

/-- Reverse elements carry the enterprise number of RFC 5103. -/
def reversePen : Nat := 29305

/-- One field of a template: element, length, and enterprise number, 0 for none. -/
def templateField (x : Nat × Nat × Nat) : Bytes :=
  if x.2.2 = 0 then toBE 2 x.1 ++ toBE 2 x.2.1 else toBE 2 (32768 + x.1) ++ toBE 2 x.2.1 ++ toBE 4 x.2.2

/-- The fields of a template (R347, R348). -/
def templateFields (pen t : Nat) : List (Nat × Nat × Nat) :=
  if 264 ≤ t then
    (if t = 264 then [(8, 4, 0), (12, 4, 0)] else [(27, 16, 0), (28, 16, 0)]) ++
      [(7, 2, 0), (11, 2, 0), (4, 1, 0), (10, 4, 0), (324, 8, 0), (4, 1, pen)]
  else
    let v6 := (t - 256) / 2 % 2 == 1
    let svc := t % 2 == 1
    (if v6 then [(27, 16, 0), (28, 16, 0)] else [(8, 4, 0), (12, 4, 0)]) ++
      [(7, 2, 0), (11, 2, 0), (4, 1, 0), (85, 8, 0), (86, 8, 0), (85, 8, reversePen), (86, 8, reversePen), (158, 4, 0), (159, 4, 0), (136, 1, 0)] ++
      (if svc = false then [] else if v6 then [(282, 16, 0), (228, 2, 0)] else [(225, 4, 0), (226, 4, 0), (227, 2, 0), (228, 2, 0)]) ++
      (if 260 ≤ t then [(1, 1, pen), (2, 2, pen), (3, 1, pen)] else [])

/-- A template record. -/
def templateRecord (pen t : Nat) : Bytes :=
  let fs := templateFields pen t
  toBE 2 t ++ toBE 2 fs.length ++ fs.flatMap templateField

/-- A message header (R346, RFC 7011). -/
def Dev.messageHead (d : Dev) (len : Nat) : Bytes :=
  toBE 2 10 ++ toBE 2 len ++ toBE 4 (d.rd M.EXPORT_SECONDS) ++ toBE 4 (d.services.exportSeq % 2 ^ 32) ++ toBE 4 (d.rd M.EXPORT_DOMAIN)

/-- Bytes of the export ring of a palette (R50), and the bytes it holds (R345). -/
def exportRingBytes (palette : Nat) : Nat := (if palette = 2 then 2 else 1) * 2 ^ 30
def Dev.exportRingUsed (d : Dev) : Nat := (d.services.exportPending.map (fun m => m.2.length)).sum

/-- Bytes of the export ring are written at its end, or read at an offset (R51, R440, port 5). -/
def Dev.exportAccess (d : Dev) (now : BellSt) (write : Bool) (a n : Nat) : Dev :=
  let (t, d) := Dev.stamp now d
  d.regionAccess 5 write t ((List.range n).map (fun i => .exportRing ((a + i) % exportRingBytes d.palette)))

/-- Bytes join the ring at its end. -/
def Dev.exportGrows (d : Dev) (now : BellSt) (n : Nat) : Dev :=
  let d := d.exportAccess now true d.services.exportAt n
  { d with services := { d.services with exportAt := (d.services.exportAt + n) % exportRingBytes d.palette } }

/-- A complete message joins the ring, with the number of its data records. -/
def pushMessage (now : BellSt) (d : Dev) (records : Nat) (body : Bytes) : Dev :=
  let m := d.messageHead (16 + body.length) ++ body
  let d := d.exportGrows now m.length
  { d with services := { d.services with exportPending := d.services.exportPending ++ [(records, m)], exportSeq := (d.services.exportSeq + records) % 2 ^ 32 } }

/-- Template records packed into the sets of messages that leave `room` bytes for them, none split (R345). -/
def packTemplates (room : Nat) (cur : Bytes) (rs : List Bytes) : List Bytes :=
  match rs with
  | [] => if cur.isEmpty then [] else [cur]
  | r :: rest => if cur.isEmpty ∨ cur.length + r.length ≤ room then packTemplates room (cur ++ r) rest else cur :: packTemplates room r rest

/-- The bodies of the messages that carry the template sets (R346, R347), each message no longer than `bytes` (R345). -/
def templateBodies (pen bytes : Nat) : List Bytes :=
  (packTemplates (bytes - 20) [] ((List.range (if pen = 0 then 4 else 10)).map (fun k => templateRecord pen (256 + k)))).map
    (fun ts => toBE 2 2 ++ toBE 2 (4 + ts.length) ++ ts)

/-- Template sets are sent (R346), while the ring has room for them (R345). -/
def sendTemplates (now : BellSt) (d : Dev) : Dev :=
  let bs := templateBodies (d.rd M.EXPORT_PEN) (d.rd M.EXPORT_MSG_BYTES)
  if d.rd M.EXPORT_MODE = 0 ∨ exportRingBytes d.palette < d.exportRingUsed + (bs.map (fun b => 16 + b.length)).sum then d else
  let d := bs.foldl (fun d b => pushMessage now d 0 b) d
  { d with services := { d.services with templateLesson := now.lesson.toNat } }

/-- Notices from the front that fit one message of `room` bytes: sets so far, open set (template and records), count. -/
def packMessage (now : BellSt) (d : Dev) (ns : List Notice) (room : Nat) (closed : Bytes) (cur : Nat × Bytes) (n : Nat) : Bytes × Nat :=
  let close (c : Nat × Bytes) : Bytes := if c.2.isEmpty then [] else toBE 2 c.1 ++ toBE 2 (4 + c.2.length) ++ c.2
  match ns with
  | [] => (closed ++ close cur, n)
  | x :: rest =>
    let (t, b) := d.dataRecord now x
    let cost := b.length + (if cur.2.isEmpty ∨ cur.1 ≠ t then 4 else 0)
    if room < cost then (closed ++ close cur, n)
    else if cur.2.isEmpty ∨ cur.1 ≠ t then packMessage now d rest (room - cost) (closed ++ close cur) (t, b) (n + 1)
    else packMessage now d rest (room - cost) closed (t, cur.2 ++ b) (n + 1)

/-- The drain of the export queue into messages, while the ring has room (R345). -/
def exportDrain (fuel : Nat) (now : BellSt) (d : Dev) : Dev :=
  match fuel with
  | 0 => d
  | fuel + 1 =>
    if d.services.exportQueue.isEmpty then d else
    let (body, n) := packMessage now d d.services.exportQueue (d.rd M.EXPORT_MSG_BYTES - 16) [] (0, []) 0
    if n = 0 ∨ exportRingBytes d.palette < d.exportRingUsed + 16 + body.length then d else
    exportDrain fuel now (pushMessage now { d with services := { d.services with exportQueue := d.services.exportQueue.drop n } } n body)

/-! ## Export: messages and the clock (R346) -/

/-- A message as a UDP frame (R346). The priority bits of a VLAN tag are open (log 1). -/
def Dev.exportFrame (d : Dev) (m : Bytes) : Bytes × Dev :=
  let a := 0x08370000
  let vlan := beAt (d.aread a 16) 12 2 % 4096
  let (pcp, d) := d.fresh
  let udp := toBE 2 (beAt (d.aread (a + 24) 2) 0 2) ++ toBE 2 (beAt (d.aread (a + 26) 2) 0 2) ++ toBE 2 (8 + m.length)
  let ips := d.aread (a + 16) 8
  let ck := ocCheck (ips ++ [0, 17] ++ toBE 2 (8 + m.length) ++ udp ++ [0, 0] ++ m)
  let l4 := udp ++ toBE 2 (if ck = 0 then 65535 else ck) ++ m
  let ip0 := [0x45, toByte (byteAt (d.aread (a + 14) 1) 0 % 64 * 4)] ++ toBE 2 (20 + l4.length) ++ toBE 2 (d.services.exportIpId % 65536) ++
    [0x40, 0, 64, 17, 0, 0] ++ ips
  let ip := patch ip0 10 (toBE 2 (ocCheck ip0))
  (d.aread a 12 ++ (if vlan = 0 then [] else toBE 2 0x8100 ++ toBE 2 (pcp % 16 * 4096 + vlan)) ++ toBE 2 0x0800 ++ ip ++ l4,
    { d with services := { d.services with exportIpId := (d.services.exportIpId + 1) % 65536 } })

/-- A frame the device itself sends enters an egress queue of a port, as if forwarded: whether it was queued. -/
def sendOwn (now : BellSt) (d : Dev) (bytes : Bytes) (port cls : Nat) : Bool × Dev :=
  let f : Frame := { bytes, port, cls, rxNs := 0, cells := cellsOf (bytes.length + 4), limited := false, lossless := false, source := 2, held := [], bad := [] }
  match takeCells now d f with
  | (none, _, d) => (false, d.bump (M.CNT_BUF_NO_CELL port))
  | (some i, _, d) =>
    match enqueue now d f (copyOf i f bytes port cls false none) none false with
    | (.queued, d) => (true, d)
    | (.dropped _ _, d) => (false, releaseFrame now d i)

/-- EXPORT_MESSAGE_SEND (R346): the oldest message of the ring leaves. -/
def exportMessageSend (now : BellSt) (d : Dev) : Dev :=
  match d.services.exportPending with
  | [] => d
  | (n, m) :: rest =>
    if d.rd M.EXPORT_MODE = 0 ∨ d.pins.ready = false ∨ m.length < beAt m 2 2 then d else
    let size := exportRingBytes d.palette
    let d := d.exportAccess now false ((d.services.exportAt + size - d.exportRingUsed % size) % size) m.length
    let d : Dev := { d with services := { d.services with exportPending := rest } }
    let d := (d.bump M.CNT_EXPORT_MESSAGES).addTo M.CNT_EXPORT_RECORDS n
    let d := exportTask now d
    if d.rd M.EXPORT_MODE = 1 then
      (let (f, d) := d.exportFrame m
       (sendOwn now d f (d.rd M.EXPORT_PORT) (d.ale 0x0837000F 1 % 8)).2)
    else
      (let (ns, d) := Dev.stamp now d
       deliver now d (d.rd M.EXPORT_HOST_RING) { ns, parse := 0, user := 0, port := 0, cause := 6, cls := 0 } m)

/-- EXPORT_TEMPLATE_SEND (R346): EXPORT_TEMPLATE_INTERVAL lessons have passed since the last template sets. -/
def exportTemplateSend (now : BellSt) (d : Dev) : Dev :=
  if d.pins.ready ∧ d.rd M.EXPORT_TEMPLATE_INTERVAL ≤ lessonsSince now.lesson.toNat d.services.templateLesson then sendTemplates now d else d

/-- EXPORT_NS (R346): the written remainder takes effect with the seconds then held. -/
def exportNs (v : Nat) (d : Dev) : Nat × Dev := (St.OK, { d with services := { d.services with exportRem := v } })

/-- The export clock at a bell (R346). -/
def exportTick (d : Dev) : Dev :=
  let r := d.services.exportRem + 1024
  if 10 ^ 9 ≤ r then
    { d.wr M.EXPORT_SECONDS ((d.rd M.EXPORT_SECONDS + 1) % 2 ^ 32) with services := { d.services with exportRem := r - 10 ^ 9 } }
  else { d with services := { d.services with exportRem := r } }

/-- The export clock as an NTP time stamp with the bits below a microsecond clear (RFC 7011). -/
def Dev.exportTime (d : Dev) : Nat :=
  (d.rd M.EXPORT_SECONDS + 2208988800) % 2 ^ 32 * 2 ^ 32 + d.services.exportRem * 2 ^ 32 / 10 ^ 9 / 2048 * 2048

/-! ## Commands -/

/-- EXPORT_NS (R346). -/
def execExportNs (a : Acc) (s : State) : Host.Outcome State Fault Refusal :=
  s.onDev (fun _ d => (d.accept a M.EXPORT_NS exportNs).2)

/-- EXPORT_TEMPLATE_SEND (R346). -/
def execExportTemplateSend (s : State) : Host.Outcome State Fault Refusal :=
  s.onDie (fun now d => exportTemplateSend now d)

/-- EXPORT_MESSAGE_SEND (R346). -/
def execExportMessageSend (s : State) : Host.Outcome State Fault Refusal :=
  s.onDie (fun now d => exportMessageSend now d)

end Sys2Proof.Machine
end

