-- ==== Sys2Proof/Machine/Packet.lean ====
section
/-!
DEFINITION. The end of a packet's walk (R163, R223, R289 to R293, R301, R387 to R393, R420, R542 to R548): parked
descriptors, drops, delivery to rings, copies, policing, the act stage, and serving a packet from a record.
-/
namespace Sys2Proof.Machine

/-! ## Descriptors that wait (R286) -/

/-- A descriptor in its place by number. -/
def placeDesc (x : Desc) (xs : List Desc) : List Desc :=
  match xs with
  | [] => [x]
  | y :: r => if y.id < x.id then y :: placeDesc x r else x :: y :: r

/-- Corridor entries of a pipe in use (R286). -/
def Dev.corridorUsed (d : Dev) (pipe : Nat) : Nat := (d.descs.filter (fun x => x.pipe == pipe)).length

/-- Whether a pipe's Corridor is full. -/
def Dev.corridorFull (d : Dev) (pipe : Nat) : Bool := decide (16384 ≤ d.corridorUsed pipe)

/-- A descriptor waits (R286, R295). -/
def park (d : Dev) (x : Desc) (w : Wait) : Dev :=
  let d := { d with descs := placeDesc { x with wait := w } d.descs }
  d.raiseTo (M.ROLL_CORRIDOR_MAX x.pipe) (d.corridorUsed x.pipe)

/-- A descriptor leaves its wait. -/
def Dev.unpark (d : Dev) (id : Nat) : Dev := { d with descs := d.descs.filter (fun x => x.id != id) }

/-- Forwarding class of a packet (R203, R233). -/
def Desc.cls (x : Desc) : Nat := if resSetClass x.result then resClass x.result else x.hdr.cls

/-- A tag's stage delta. -/
def Desc.stamp_ (now : BellSt) (d : Dev) (x : Desc) (lo : Nat) : Desc × Dev :=
  let (t, d) := tagStage now d x.tag lo
  ({ x with tag := t }, d)

/-- A bit of a tag. -/
def Desc.tagBit (x : Desc) (lo w v : Nat) : Desc := { x with tag := x.tag.map (fun t => t.set lo w v) }

/-! ## Ends of a pass (R542, R547) -/

/-- The pass ends in a drop inside the pipe, counted under `counter`. -/
def dropPacket (now : BellSt) (d : Dev) (x : Desc) (counter : Nat) : Dev :=
  freeFrame now (tagWrite (d.bump (M.PERF_SLOT_WASTED x.pipe)) (x.tagBit 383 1 1).tag 5 counter) x.frame

/-- The pass ends with every copy dropped at enqueue. -/
def dropAtEnqueue (now : BellSt) (d : Dev) (x : Desc) (counter : Nat) : Dev :=
  freeFrame now (tagWrite (d.bump (M.PERF_SLOT_WASTED x.pipe)) (x.tagBit 383 1 1).tag 6 counter) x.frame

/-- The pass ends consumed by a tutor. -/
def consumePacket (now : BellSt) (d : Dev) (x : Desc) : Dev :=
  freeFrame now (tagWrite (d.bump (M.PERF_SLOT_RETIRED x.pipe)) (x.tagBit 383 1 1).tag 3 0) x.frame

/-- A packet as a receive ring's completion describes it (R472). -/
def packetMeta (d : Dev) (x : Desc) (cause : Nat) : Meta :=
  { ns := match d.frame x.frame with | some f => f.rxNs | none => 0, parse := x.hdr.result, user := resUser x.result, port := x.hdr.port, cause, cls := x.hdr.cls }

/-- A packet's bytes delivered to a ring: whether the ring took them (R472). -/
def deliverCopy (now : BellSt) (d : Dev) (x : Desc) (ring cause : Nat) : Bool × Dev :=
  let e := deliver now d ring (packetMeta d x cause) x.bytes
  (e.rd (M.CNT_RING_RX_DROP ring) == d.rd (M.CNT_RING_RX_DROP ring) && e.rd (M.CNT_RING_RX_NO_BUFFER ring) == d.rd (M.CNT_RING_RX_NO_BUFFER ring), e)

/-- The pass ends at a receive ring: whether the ring took the packet. -/
def ringPacket (now : BellSt) (d : Dev) (x : Desc) (ring cause : Nat) : Bool × Dev :=
  let before := d.rd (M.CNT_RING_RX_NO_BUFFER ring)
  let (ok, d) := deliverCopy now d x ring cause
  if ok then (true, freeFrame now (tagWrite (d.bump (M.PERF_SLOT_RETIRED x.pipe)) (x.tagBit 383 1 1).tag 2 0) x.frame)
  else
    let starved := d.rd (M.CNT_RING_RX_NO_BUFFER ring) != before
    (false, dropPacket now d x (if starved then M.CNT_RING_RX_NO_BUFFER ring else M.CNT_RING_RX_DROP ring))

/-! ## Enqueue and replication (R387, R391 to R393) -/

/-- The copies of a frame so far: enqueued, dropped under check 2, the last drop's counter, and the tag if no copy took it. -/
structure Copies where
  sent : Nat
  lost : Nat
  counter : Nat
  tag : Option Tag
  deriving DecidableEq, Repr

/-- Whether a drop at a check counts as one of check 2 (R392, R409). -/
def failsCheck2 (k : Nat) : Bool := k == 2 || k == 4 || k == 5

/-- One copy of a packet (R387, R392). -/
def sendCopy (now : BellSt) (x : Desc) (f : Frame) (ep : Option Nat) (group : Option Nat) (multi : Bool) (acc : Copies × Dev) (port : Nat) : Copies × Dev :=
  let (c, d) := acc
  match enqueue now d f (copyOf x.frame f x.bytes port x.cls x.yellow c.tag) ep multi with
  | (.queued, d) => ({ c with sent := c.sent + 1, tag := none }, d.bumpIf multi M.CNT_MC_COPIES)
  | (.dropped k n, d) =>
    let d := match group with
      | some g => if failsCheck2 k = true ∧ multi = true then d.abump (0x08510000 + 8 * g) else d
      | none => d
    ({ c with lost := c.lost + b2n (failsCheck2 k), counter := n }, d)

/-- A packet's copies go to their egress queues (R391 to R393); `host` says that a copy goes to the trap ring too. `rec` is
the record it was served from, whose PARTIAL bit a partial delivery sets (R392). -/
def sendPorts (now : BellSt) (d : Dev) (x : Desc) (ports : List Nat) (group ep slot : Option Nat) (host : Bool) : Dev :=
  match d.frame x.frame with
  | none => d
  | some f =>
    let multi := decide (1 < ports.length + b2n host)
    let d := d.bumpIf multi M.CNT_MC_FRAMES
    let x := if multi then x.tagBit 381 1 1 else x
    let (took, d) := if host then deliverCopy now d x (d.rd M.RX_TRAP_RING) 4 else (false, d)
    let (c, d) := ports.foldl (sendCopy now x f ep group multi) ({ sent := 0, lost := 0, counter := 0, tag := x.tag }, d)
    let partial_ := multi && decide (0 < c.sent + b2n took) && decide (0 < c.lost)
    let d := d.bumpIf partial_ M.CNT_MC_PARTIAL
    let d := match slot with
      | some s => if partial_ then updateRecord now d s (setFld (d.recordAt s) 505 1 1) else d
      | none => d
    let d := d.bumpIf (multi && c.sent == 0 && !took && !ports.isEmpty) M.CNT_MC_ALL_DROPPED
    if c.sent = 0 then
      (if took then freeFrame now (tagWrite (d.bump (M.PERF_SLOT_RETIRED x.pipe)) (x.tagBit 383 1 1).tag 2 0) x.frame
       else if ports.isEmpty then dropPacket now d x 0 else dropAtEnqueue now d x c.counter)
    else
      (setCounts d x.frame c.sent).bump (M.PERF_SLOT_RETIRED x.pipe)

/-! ## Outcomes (R289 to R291, R348) -/

/-- The counter of an outcome, coded as ROLL of R547, at a port (R297). -/
def outcomeCounter (code port : Nat) : Nat :=
  match code with
  | 1 => M.CNT_ROLL_SERVED_HIT port
  | 2 => M.CNT_ROLL_SERVED_CREATE port
  | 3 => M.CNT_ROLL_DELAY_MISS port
  | 4 => M.CNT_ROLL_DELAY_BUDGET port
  | 5 => M.CNT_ROLL_DELAY_HOLD port
  | 6 => M.CNT_ROLL_REFUSE_NOT_READY port
  | 7 => M.CNT_ROLL_REFUSE_CORRIDOR port
  | 8 => M.CNT_ROLL_REFUSE_QUEUE port
  | 9 => M.CNT_ROLL_REFUSE_BUCKET port
  | 10 => M.CNT_ROLL_REFUSE_UNAVAILABLE port
  | _ => M.CNT_ROLL_REFUSE_ORDER port

/-- A packet's outcome code, with the metadata flag that goes with it (R291). -/
def Desc.takes (x : Desc) (code : Nat) : Desc :=
  { x with outcome := code, delayed := x.delayed || (decide (3 ≤ code) && decide (code ≤ 5)), refused := x.refused || decide (6 ≤ code) }.tagBit 384 4 code

/-- A packet takes its outcome (R291). -/
def outcome (d : Dev) (x : Desc) (code : Nat) : Desc × Dev := (x.takes code, d.bump (outcomeCounter code x.hdr.port))

/-- The outcome of a packet that has none yet. -/
def firstOutcome (d : Dev) (x : Desc) (code : Nat) : Desc × Dev := if x.outcome = 0 then outcome d x code else (x, d)

/-- A delayed or refused packet leaves the Roll stage and may be reported (R348). -/
def report (now : BellSt) (d : Dev) (x : Desc) : Dev :=
  let n := d.rd M.EXPORT_REPORT_SAMPLE
  if (x.delayed = false ∧ x.refused = false) ∨ n = 0 ∨ d.rd M.EXPORT_PEN = 0 then d else
  let p := d.pipe x.pipe
  if p.reports + 1 < n then d.setPipe x.pipe { p with reports := p.reports + 1 } else
  let d := d.setPipe x.pipe { p with reports := 0 }
  let r : Notice := .report (x.hdr.l3 == 2) x.hdr.ipSrc x.hdr.ipDst (keyPorts x.hdr).1 (keyPorts x.hdr).2 x.hdr.proto x.hdr.port d.exportTime (x.outcome - 2)
  match exportNotice now d r with
  | (true, d) => d
  | (false, d) => d.bump M.CNT_EXPORT_REPORT_DROP

/-- A packet leaves the Roll stage. -/
def leaveRoll (now : BellSt) (d : Dev) (x : Desc) : Desc × Dev :=
  let d := report now d x
  x.stamp_ now d 216

/-- A packet that must wait finds no Corridor entry: it is refused with cause ORDER, which drops it (R289 order 5, R290; log 226). -/
def refuseOrder (now : BellSt) (d : Dev) (x : Desc) : Dev :=
  let (x, d) := outcome d x 11
  let (x, d) := leaveRoll now d x
  dropPacket now d x (outcomeCounter 11 x.hdr.port)

/-- A descriptor waits in a Corridor entry (R286). -/
def waitIn (now : BellSt) (d : Dev) (x : Desc) (w : Wait) : Dev := if d.corridorFull x.pipe then refuseOrder now d x else park d x w

/-! ## Tasks for packets (R366 to R373) -/

/-- The order key of a packet's task (R373): h1, none for a packet that forms no key. -/
def Desc.orderKey (x : Desc) : Option Nat := if x.key.isSome then some x.h1 else none

/-- A packet becomes a task, or waits for a slot (R372): `x.stage` says where it goes on, `retry` where it stands while it
waits. -/
def taskPacket (now : BellSt) (d : Dev) (x : Desc) (kind prio retry : Nat) (slot ep : Option Nat) (order : Option Nat) : Dev :=
  let t := { TaskRec.new x.pipe kind prio with desc := some x.id, recSlot := slot, epIndex := ep, order }
  if d.corridorFull x.pipe then refuseOrder now d x else
  match makeReady now d t with
  | (some h, d) => park d ((x.tagBit 382 1 1)) (.task h)
  | (none, d) => park d { x with stage := retry } .slot

/-! ## Act (R226, R233, R247, R293, R420) -/

/-- The input colour of a colour-aware meter: yellow where the outer tag's DEI bit is set (R420). -/
def deiColour (f : Bytes) : Nat := if isTpid (beAt f 12 2) then byteAt f 14 / 16 % 2 else 0

/-- Policing of a packet (R420) in the period of its receive stamp (R38): its colour, and which counter made it red. The endpoint meter
runs on what the class meter leaves red too; one that regards colour keeps it red, so that the class meter made it so (log 281). -/
def police (now : BellSt) (d : Dev) (x : Desc) (ep : Option Nat) : Nat × Nat × Dev :=
  let len := x.bytes.length + 4
  let cur := now.period.toNat
  let at_ := match d.frame x.frame with
    | some f => framePeriod now f
    | none => cur
  let m := resMeter x.result
  let runs := resMeterEn x.result && fld (d.profile (m / 256)) 254 2 != 0
  let (col, d) := if runs then classMeter cur at_ d m (deiColour x.bytes) len else (deiColour x.bytes, d)
  let red := runs && col == 2
  let (ran, byClass, col, d) :=
    match ep with
    | some e =>
      let v := d.endpoint e
      if d.on M.ENDPOINT_METERING = false ∨ fld v 507 2 = 0 then (runs, red, col, d) else
      let (c, w) := epMeter cur at_ v col len
      (true, red && bitOf v 506, c, setEndpoint now d e w)
    | none => (runs, red, col, d)
  if ran = false then (0, 0, d) else
  let d := d.bump (if col = 0 then M.CNT_POLICE_GREEN else if col = 1 then M.CNT_POLICE_YELLOW else M.CNT_POLICE_RED)
  (col, if byClass then M.CNT_POLICE_RED_DROP x.hdr.port else M.CNT_EP_POLICE_RED_DROP x.hdr.port, d)

/-- Forwarding of a packet by its tables and its ACTION (R233, R247, R293). -/
def forwardPacket (now : BellSt) (d : Dev) (x : Desc) (routed : Bool) (ep slot : Option Nat) : Dev :=
  let (x, d) := x.stamp_ now d 120
  let host := resAction x.result == 4
  if resAction x.result = 5 then sendPorts now d x [resRedirect x.result] none ep slot false else
  let (dest, f, d) := forwardOf d x.pipe x.edition x.cls routed x.hdr x.bytes
  let x := { x with bytes := f }
  match dest with
  | .drop c =>
    let d := if host then (deliverCopy now d x (d.rd M.RX_TRAP_RING) 4).2 else d
    dropPacket now d x c
  | .port p => sendPorts now d x [p] none ep slot host
  | .flood g => sendPorts now (d.bump (M.CNT_L2_FLOOD x.pipe)) x (d.floodPorts g x.hdr.port) (some g) ep slot host
  | .ring r c =>
    let d := if host then (deliverCopy now d x (d.rd M.RX_TRAP_RING) 4).2 else d
    (ringPacket now d x r c).2

/-- The decision of a packet is carried out: deny, trap, ring or forwarding (R233). -/
def decide_ (now : BellSt) (d : Dev) (x : Desc) (ep slot : Option Nat) : Dev :=
  let a := resAction x.result
  if a = 1 then dropPacket now d x 0
  else if a = 2 then taskPacket now d { x with stage := 3, endpoint := ep } 6 (resPrio x.result) 8 slot ep x.orderKey
  else if a = 3 then (ringPacket now d x (d.rd M.RX_TRAP_RING) 3).2
  else forwardPacket now d x true ep slot

/-- The act stage from policing on (R420); a hairpinned first pass is recirculated (R331). -/
def act (now : BellSt) (d : Dev) (x : Desc) (ep slot : Option Nat) (hairpin : Bool) : Dev :=
  let (col, c, d) := police now d x ep
  if col = 2 then dropPacket now (d.bump c) x c else
  let x := { x with yellow := col == 1 }.tagBit 378 1 (b2n (col == 1))
  if hairpin ∧ resAction x.result ≠ 1 then
    let d := tagWrite ((d.bump M.CNT_NAT_HAIRPIN).bump (M.PERF_SLOT_WASTED x.pipe)) (x.tagBit 383 1 1).tag 4 0
    waitIn now d { x with stage := 4, slot := none, tried := [], cands := none } .recirc
  else decide_ now d x ep slot

/-- The earlier descriptor of its pipe and hash behind which a packet holds (R282 step 1). -/
def Dev.ahead (d : Dev) (x : Desc) : Option Desc :=
  (d.descs.filter (fun y => y.pipe == x.pipe && y.key.isSome && y.h1 == x.h1 && decide (y.id < x.id))).getLast?

/-- The act stage of a packet under its classifier result: it keeps its place behind an earlier packet of its flow that waits (R23,
R287). -/
def actInOrder (now : BellSt) (d : Dev) (x : Desc) : Dev :=
  match (if x.key.isSome then d.ahead x else none) with
  | some y => waitIn now d { x with stage := 11 } (.hold y.id)
  | none => act now d x none none false

/-! ## Refusals (R289, R290, R322) -/

/-- The result a refused packet keeps: no NAPT44, balancing, filtering or export (R290). -/
def plainResult (r : Nat) : Nat := setFld r 103 4 0

/-- A packet is refused (R289, R290, R292). One that must keep its place and finds no Corridor entry is refused with cause ORDER. An
address task it still waits for is made before it goes on (R22, R342). -/
def refuse (now : BellSt) (d : Dev) (x : Desc) (code : Nat) : Dev :=
  let full := d.corridorFull x.pipe
  let code := if full && x.key.isSome && (d.ahead x).isSome then 11 else code
  let (x, d) := outcome d x code
  let d := if code = 7 ∨ code = 8 ∨ code = 9 then noteRefusal d x.pipe x.h1 else d
  let (x, d) := leaveRoll now d x
  if code = 11 ∨ d.rd (M.PORT_OVERFLOW_ACTION x.hdr.port) = 1 then dropPacket now d x (outcomeCounter code x.hdr.port)
  else
    let x := { x with result := plainResult x.result, slot := none, endpoint := none }
    if x.detour && !full && code != 6 then taskPacket now d { x with detour := false, stage := 11 } 2 (kindPrio 2) 15 none none x.orderKey
    else actInOrder now d x

/-- Descriptors held behind a packet (R287): later ones of its pipe with its h1. -/
def Dev.followers (d : Dev) (x : Desc) : List Desc :=
  d.descs.filter (fun y => y.pipe == x.pipe && y.key.isSome && y.h1 == x.h1 && decide (x.id < y.id) &&
    (match y.wait with | .hold _ => true | _ => false))

/-- A packet and those held behind it are refused, in order (R289). -/
def refuseAll (now : BellSt) (d : Dev) (x : Desc) (code : Nat) : Dev :=
  let fs := d.followers x
  fs.foldl (fun d y => refuse now (d.unpark y.id) y code) (refuse now d x code)

/-- A packet and those held behind it are dropped, as a failed creation asks (R322). -/
def dropAll (now : BellSt) (d : Dev) (x : Desc) (counter : Nat) : Dev :=
  let fs := d.followers x
  fs.foldl (fun d y => let (y, d) := leaveRoll now (d.unpark y.id) y; dropPacket now d y counter)
    (let (x, d) := leaveRoll now d x; dropPacket now d x counter)

/-! ## Lines a packet needs (R280, R282, R288, R289, R325) -/

/-- A packet must hold (R289 orders 4 and 5). -/
def holdPacket (now : BellSt) (d : Dev) (x : Desc) (w : Wait) : Dev :=
  if d.corridorFull x.pipe then refuse now d x 11 else
  let (x, d) := if x.stage = 7 then firstOutcome d x 5 else (x, d)
  park d x w

/-- A packet's placement waits for a line (R279). -/
def placeWait (now : BellSt) (d : Dev) (x : Desc) : Dev := holdPacket now (d.bump M.CNT_FR_SET_PINNED) x .place

/-- A read is queued (R282 step 4, R288, R289 orders 6 to 8). -/
def queueRead (now : BellSt) (d : Dev) (x : Desc) (slot : Nat) : Dev :=
  let p := d.pipe x.pipe
  if d.corridorFull x.pipe then refuse now d x 7
  else if d.rd M.ROLL_MISS_QUEUE_LIMIT ≤ p.missQueue.length then refuse now d x 8
  else park (d.setPipe x.pipe { p with missQueue := p.missQueue ++ [slot] }) x (.fetch slot)

/-- A packet joins a fill that another started (R20, R282 step 3, R285). -/
def joinFill (now : BellSt) (d : Dev) (x : Desc) (slot : Nat) : Dev :=
  holdPacket now (d.bumpIf (x.outcome == 0) (M.CNT_ROLL_FILL_WAIT x.pipe)) x (.fetch slot)

/-- The slot of a record whose line is not valid: its tail, if the head is. -/
def Dev.missingPart (d : Dev) (slot : Nat) : Nat := if (d.lineVal slot).isSome then slot + 1 else slot

/-- Whether a slot's value stands in the device, in an update that waits for a line or in the write buffer (R279, R280). -/
def Dev.buffered (d : Dev) (slot : Nat) : Bool := (d.lateData slot).isSome || (d.wbData slot).isSome

/-- What a packet finds where it needs a record or an endpoint record in the Front Row: the value, or the packet waits. -/
inductive Got where
  | have_ (v : Nat) (d : Dev)
  | waits (d : Dev)

/-- A record's value through the Front Row for a packet (R280, R282). -/
def needRecord (fuel : Nat) (now : BellSt) (d : Dev) (x : Desc) (slot : Nat) : Got :=
  match fuel with
  | 0 => .waits (placeWait now d x)
  | fuel + 1 =>
    match d.cachedRec slot with
    | some v => .have_ v (d.touch slot)
    | none =>
      let s := d.missingPart slot
      if d.fillPending s then .waits (joinFill now d x s)
      else if d.buffered s then
        (match bringSlot now d s 0 false with
         | .here d => needRecord fuel now d x slot
         | _ => .waits (placeWait now d x))
      else .waits (queueRead now d x s)

/-! ## Serving from a record (R170, R283, R293, R301, R344, R523, R527) -/

/-- A classifier result with a record's decision in place of its own (R293). -/
def recResult (res r : Nat) : Nat :=
  let x := setFld (setFld (setFld res 108 4 (recAction r)) 103 4 (recSvc r)) 102 1 1
  let x := setFld (setFld (setFld x 99 3 (recClass r)) 98 1 (b2n (recMeterEn r))) 80 16 (recMeter r)
  setFld (setFld x 48 8 (recZone r)) 40 8 (recRedirect r)

/-- A classifier result's decision written into a record (R170, R284, R293). The kept class is the class the packet takes. -/
def recDecide (r : Nat) (x : Desc) : Nat :=
  let q := x.result
  let r := setFld (setFld (setFld r 324 4 (resAction q)) 321 3 x.cls) 316 1 (b2n (resMeterEn q))
  let r := setFld (setFld (setFld r 300 16 (resMeter q)) 292 8 (resZone q)) 144 8 (resRedirect q)
  let r := setFld (setFld r 318 1 (b2n (resFilter q))) 317 1 (b2n (resExport q))
  setFld (setFld r 277 15 (if x.rule = 0x8000 then 0 else x.rule)) 157 1 (b2n (x.rule == 0x8000))

/-- Whether a selector names a record (R169). -/
def selects (sel r : Nat) : Bool :=
  let inside (v : Nat) : Bool := decide (fld sel 0 24 ≤ v) && decide (v ≤ fld sel 24 24)
  let nat := recSvcKind r == 1 || recSvcKind r == 3
  let lb := recSvcKind r == 2 || recSvcKind r == 3
  match fld sel 60 4 with
  | 1 => true
  | 2 => !recRuleMiss r && inside (recRule r)
  | 3 => lb && inside (fld (if recSvcKind r = 3 then recSvcState2 r else recSvcState r) 16 16)
  | 4 => nat && inside (fld (recSvcState r) 20 12)
  | 5 => inside (recZone r)
  | 6 => inside (recEndpoint r)
  | _ => false

/-- What a re-decision covers: policy, member choice, binding (R170). -/
structure Redecide where
  policy : Bool
  member : Bool
  binding : Bool
  deriving DecidableEq, Repr

/-- The re-decision check of R170 for a hit by a packet of the current edition; `none` where no selector names the record. -/
def Dev.redecideOf (d : Dev) (r : Nat) : Option Redecide :=
  let n := (d.rd M.DECISION_GEN + 65536 - recDgen r) % 65536
  if n = 0 then none
  else if 16 < n then some ⟨true, true, true⟩
  else
    let hit := ((d.txn.selectors.take n).flatten).filter (fun s => selects s r)
    if hit.isEmpty then none else
    let has (ks : List Nat) : Bool := hit.any (fun s => ks.contains (fld s 60 4))
    some ⟨has [1, 2, 5, 6], has [3, 6], has [4, 6]⟩

/-- The parts of a re-decision as its packet keeps them from the hit to the end of its task. -/
def Redecide.toNat (q : Redecide) : Nat := b2n q.policy + 2 * b2n q.member + 4 * b2n q.binding
def Redecide.ofNat (v : Nat) : Redecide := ⟨bitOf v 0, bitOf v 1, bitOf v 2⟩

/-- An interval notice is due and placed, or skipped (R344). -/
def intervalNotice (now : BellSt) (d : Dev) (slot r : Nat) : Nat × Dev :=
  let t := d.rd M.EXPORT_ACTIVE
  let lesson := now.lesson.toNat
  let since := if recLastExport r = 0 then fld r 368 24 else recLastExport r
  if recHasExport r = false ∨ t = 0 ∨ lessonsSince lesson since < t then (r, d) else
  let r' := setFld r 158 24 lesson
  match exportNotice now d (.flow 2 (d.noticeRec slot r')) with
  | (true, d) => (r', d)
  | (false, d) => (r, d.bump M.CNT_EXPORT_INTERVAL_SKIPPED)

/-- Whether the packet's sender is the flow's client: the inside host with NAPT44, else the packet did not come by the link. -/
def isClient (r : Nat) (h : Hdr) (viaLink : Bool) : Bool :=
  if recSvcKind r = 1 ∨ recSvcKind r = 3 then decide (recInside r = (h.ipSrc, (keyPorts h).1)) else !viaLink

/-- Whether a record is hairpinned: its LINK_SLOT is its own slot (R331). -/
def isHairpin (slot r : Nat) : Bool := (recSvcKind r == 1 || recSvcKind r == 3) && recLinkSlot r == slot

/-- The act stage of a packet served from a record: the rewrite, then R420 on (R293, R333, R337). -/
def actFromRecord (now : BellSt) (d : Dev) (x : Desc) (slot r : Nat) (client : Bool) : Dev :=
  let res := recResult x.result r
  let rewrite := recSvcKind r != 0
  let w := d.rewriteOf x.edition r client x.hdr
  let x := if rewrite then { x with bytes := rewriteFrame x.bytes x.hdr w, hdr := x.hdr.rewritten w } else x
  act now d { x with result := res } (some (recEndpoint r)) (some slot) (isHairpin slot r && client)

/-- The record update of a served packet (R301, R339, R340): the record, and whether the packet is invalid. -/
def recUpdate (now : BellSt) (d : Dev) (r : Nat) (dir : Bool) (x : Desc) : Nat × Bool × Dev :=
  let len := match d.frame x.frame with | some f => f.bytes.length + 4 | none => 0
  let r := recCount r dir len now.lesson.toNat
  if recProto r ≠ 6 then (r, false, d) else
  match tcpStep (recTcpState r) dir x.hdr.tcpFlags with
  | .invalid => (r, true, d.bump M.CNT_FILTER_INVALID)
  | .to s => (recSeen (setFld r 248 4 s) dir x.hdr.tcpFlags, false, d)
  | .reopen s => (recSeen (setFld r 248 4 s) dir x.hdr.tcpFlags, false, d.bump M.CNT_FILTER_REOPEN)

/-- A packet is served from a record whose lines, and endpoint line where metered, are in the Front Row. -/
def servePacket (now : BellSt) (d : Dev) (x : Desc) (slot r : Nat) (viaLink : Bool) : Dev :=
  let client := isClient r x.hdr viaLink
  let cb := d.clientB slot r
  let dir := if viaLink then (if client then cb else !cb) else x.dirB
  let (x, d) := firstOutcome d x 1
  let len := match d.frame x.frame with | some f => f.bytes.length + 4 | none => 0
  let was := (recTcpState r, recTcpSeen r)
  let (r1, bad, d) := recUpdate now d r dir x
  let r1 := if x.edition = d.rd M.EDITION_CURRENT then setFld r1 328 16 (d.rd M.DECISION_GEN) else r1
  let (r1, d) := intervalNotice now d slot r1
  let d := deltaAdd d (recKey r1).block dir len now.lesson.toNat
  let d := updateRecord now d slot r1
  let d := if was ≠ (recTcpState r1, recTcpSeen r1) then mirrorState now d slot else d
  let (x, d) := leaveRoll now d x
  if bad ∧ recHasFilter r1 = true ∧ bitOf (d.zone (recZone r1)) 1 = false then dropPacket now d x M.CNT_FILTER_INVALID
  else actFromRecord now d { x with slot := none } slot r1 client

/-- A hit on a record that is not PENDING (R170, R282, R301, R325). -/
def hitRecord (now : BellSt) (d : Dev) (x : Desc) (slot r : Nat) (viaLink : Bool) : Dev :=
  let ready : Got := if d.on M.ENDPOINT_METERING then needRecord 4 now d { x with slot := some slot } (epSlot (recEndpoint r)) else .have_ 0 d
  match ready with
  | .waits d => d
  | .have_ _ d =>
    if x.edition ≠ d.rd M.EDITION_CURRENT then servePacket now d x slot r viaLink else
    match d.redecideOf r with
    | none => servePacket now d x slot r viaLink
    | some q =>
      let nat := q.binding && (recSvcKind r == 1 || recSvcKind r == 3)
      let lb := q.member && (recSvcKind r == 2 || recSvcKind r == 3)
      if nat ∨ lb = true then
        if d.corridorFull x.pipe then refuse now d x 11 else
        let (x, d) := firstOutcome d x 5
        if d.generalFull x.pipe then park d { x with stage := 7 } .slot else
        let r := if q.policy then recDecide r x else r
        let d := updateRecord now (d.bump M.CNT_REDECIDE) slot (setFld r 504 1 1)
        taskPacket now d { x with slot := some slot, parts := q.toNat } 5 (kindPrio 5) 7 (some slot) (some (recEndpoint r)) x.orderKey
      else
        let r := setFld (if q.policy then recDecide r x else r) 328 16 x.dgen
        servePacket now (mirrorState now (updateRecord now (d.bump M.CNT_REDECIDE) slot r) slot) x slot r viaLink

end Sys2Proof.Machine
end

