-- ==== Sys2Proof/Machine/TableRows.lean ====
section
/-!
DEFINITION. Rows of the tables as the command interface gives and takes them (R138, R166, R232, R251, R254, R324, R334,
R335, R424, R425), and the room a new entry needs (R250, R253, R335).
-/
namespace Sys2Proof.Machine

/-! ## Tables (R138) -/

/-- Rows of a table; 0 for a table that is not defined. -/
def Dev.tableRows (d : Dev) (t : Nat) : Nat :=
  if t = 1 then rollSlots d.palette else if t = 2 then 16777216 else if t = 3 then 32768 else if t = 4 then 1572864
  else if t = 5 then 524288 else if t = 6 then 131072 else if t = 7 then 1048576 else if t = 8 then 65536 else if t = 9 then 67108864 else 0

/-- Bytes of an entry, 128 at most for a record. -/
def entryBytes (t : Nat) : Nat := [0, 128, 64, 64, 32, 16, 64, 16, 64, 32].getD t 0

/-- Whether a table carries edition tags or next configurations: STAGED is allowed. -/
def tableStages (t : Nat) : Bool := decide (3 ≤ t) && decide (t ≤ 9)

/-- Whether a table takes an operation (R138, R252): by table, opcode and KEYED. -/
def tableTakes (t op : Nat) (keyed : Bool) : Bool :=
  if t = 1 then decide (op ≤ 7) && (op != 3 || keyed)
  else if t = 2 then !keyed && [0, 1, 2, 4, 5, 6, 7].contains op
  else if t = 3 then !keyed && [0, 1, 2, 4, 5, 7, 8].contains op
  else if t = 4 then [0, 1, 7].contains op || (keyed && [2, 3, 5].contains op)
  else if t = 5 then decide (op ≤ 7) && (op != 3 || keyed)
  else if t = 6 ∨ t = 7 then !keyed && [0, 1, 2, 4, 7].contains op
  else !keyed && [0, 1, 2, 4, 5, 7].contains op

/-! ## Images -/

/-- Whether a row of the tables 3 to 9 holds a valid entry. The rows of the timetable hold VALID in their bytes. -/
def rowIsValid (t : Nat) (r : Row) : Bool :=
  if t = 6 then bitOf (leVal r.data) 511 else if t = 7 then bitOf (leVal r.data) 127 else r.valid

/-- The bytes TBL_DATA returns for a row: VALID and the window where the row holds them. -/
def rowImage (t : Nat) (r : Row) : Bytes :=
  let v := leVal r.data
  if t = 3 then
    (let (val, msk) := partImage r
     patch (patch (patch (fit 64 r.data) 0 (toLE 20 val)) 20 (toLE 20 msk)) 40 (toLE 1 (byteAt r.data 40 / 2 * 2 + b2n r.valid)))
  else if t = 4 then patch (fit 32 r.data) 17 [toByte (byteAt r.data 17 / 64 % 2 * 64 + r.win.bits + b2n r.valid * 128)]
  else if t = 5 then toLE 16 (setFld (setFld v 56 1 (b2n r.valid)) 50 6 r.win.bits)
  else if t = 8 then toLE 64 (setFld (setFld v 511 1 (b2n r.valid)) 503 6 r.win.bits)
  else if t = 9 then toLE 32 (setFld (setFld v 255 1 (b2n r.valid)) 248 6 r.win.bits)
  else r.data

/-- Bytes that match under a compare mask (R137, CAS). -/
def casHolds (n : Nat) (entry value mask : Bytes) : Bool :=
  let m := leVal (fit n mask)
  (leVal (fit n entry) &&& m) == (leVal (fit n value) &&& m)

/-- A TCAM part as stored from TBL_DATA (R8, R232 to R234, R237): the edition bits of a head left out, RESULT in the head
only, HIT_COUNT zero. -/
def tcamStored (data : Bytes) : Bytes :=
  let part := partNum data
  let clean (v : Nat) : Nat := if part = 0 then setFld v 158 2 0 else v
  let res := if part = 0 then setFld (setFld (leAt data 42 14) 96 2 0) 32 5 0 else 0
  toLE 20 (clean (leAt data 0 20)) ++ toLE 20 (clean (leAt data 20 20)) ++ toLE 2 (part * 4) ++ toLE 14 res ++ toLE 8 0

/-- A trie entry as stored (R8, R251). -/
def lpmStored (data : Bytes) : Bytes :=
  slice data 0 17 ++ [toByte (byteAt data 17 / 64 % 2 * 64), 0, 0] ++ toLE 12 (setFld (leAt data 20 12) 64 7 0)

/-- A service row as stored (R8, R334): FLOWS_NEW kept. -/
def vsStored (old : Nat) (data : Bytes) : Bytes :=
  toLE 64 (setFld (setFld (setFld (setFld (leVal (fit 64 data)) 511 1 0) 503 6 0) 0 420 0) 420 40 (fld old 420 40))

/-- A member row as stored (R8, R335): FLOWS_NEW kept. -/
def lbStored (old : Nat) (data : Bytes) : Bytes :=
  toLE 32 (setFld (setFld (setFld (setFld (leVal (fit 32 data)) 255 1 0) 248 6 0) 0 56 0) 56 40 (fld old 56 40))

/-- A subscriber row as stored (R8, R425): runtime fields kept. -/
def subStored (old : Nat) (data : Bytes) : Nat := fld old 128 256 * 2 ^ 128 + leVal (fit 64 data) / 2 ^ 387 * 2 ^ 387

/-- A queue row as stored (R8, R423, R424): runtime fields kept, statistics cleared. -/
def queueStored (old : Nat) (data : Bytes) : Nat := leVal (fit 16 data) / 2 ^ 77 * 2 ^ 77 + fld old 56 21 * 2 ^ 56 + fld old 35 21 * 2 ^ 35

/-- A queue row at a flip (R412): runtime fields and statistics kept. -/
def queueFlipped (old : Nat) (data : Bytes) : Nat := leVal (fit 16 data) / 2 ^ 77 * 2 ^ 77 + old % 2 ^ 77

/-- An endpoint record as stored (R8, R324). -/
def epStored (data : Bytes) : Nat := setFld (setFld (setFld (leVal (fit 64 data)) 504 1 0) 304 4 0) 0 56 0

/-! ## Room -/

/-- Trie units in use, all windows (R250). -/
def Dev.lpmUsed (d : Dev) : Nat :=
  ((rowsIn d.tabs tLpm 0 0 0 1572864).map (fun e => lpmUnits (lpmV6 e.2.data) (lpmPlen e.2.data))).sum

/-- A place for a new version of a prefix: the first free index from the part's choice (R252, log 9). -/
def Dev.lpmFree (d : Dev) (data : Bytes) : Nat :=
  let taken := (rowsIn d.tabs tLpm 0 0 0 1572864).map Prod.fst
  let start := Config.lpmPlace (leVal (slice data 0 18)) % 1572864
  ((List.range (taken.length + 1)).map (fun i => (start + i) % 1572864)).find? (fun i => !taken.contains i) |>.getD start

/-- Versions of a prefix: index and row. -/
def Dev.lpmVersions (d : Dev) (data : Bytes) : List (Nat × Row) :=
  (rowsIn d.tabs tLpm 0 0 0 1572864).filter (fun e =>
    lpmV6 e.2.data == lpmV6 data && lpmPlen e.2.data == lpmPlen data && lpmPrefix e.2.data == lpmPrefix data)

/-- Blocks of the member store that hold valid rows: aligned groups of 64 member numbers of one service (R335). -/
def Dev.memberBlocks (d : Dev) : List Nat :=
  ((rowsIn d.tabs tLbMember 0 0 0 67108864).map (fun (e : Nat × Row) => e.1 / 64) ++
    (rowsIn d.tabs tLbMember 1 0 0 67108864).map (fun (e : Nat × Row) => e.1 / 64 + 1048576)).eraseDups

/-- Whether a member row finds a block (R153, R335). -/
def Dev.memberRoom (d : Dev) (version i : Nat) : Bool :=
  let b := i / 64 + version * 1048576
  let used := d.memberBlocks
  used.contains b || decide ((used ++ d.txn.reservedBlocks).eraseDups.length < 65536)

/-! ## The timetable's rules (R415) -/

/-- The status of R415 for one subscriber row under a service table and the other valid subscribers. -/
def subStatus (svc : Nat → Nat) (others : List Nat) (v : Nat) : Nat :=
  if subValid v = false then St.OK else
  let cir := fld v 443 24
  let pir := fld v 419 24
  let first := subQueueFirst v
  let stop := first + subQueueCount v
  if (cir ≠ 0 ∧ pir ≠ 0 ∧ pir < cir) ∨ (cir ≠ 0 ∧ fld v 403 16 < 160) ∨ (pir ≠ 0 ∧ fld v 387 16 < 160) ∨
      others.any (fun o => decide (subQueueFirst o < stop) && decide (first < subQueueFirst o + subQueueCount o)) = true then St.INCONSISTENT
  else if svcValid (svc (subService v)) = false ∨ 1048576 < stop then St.TXN_REFERENCE else St.OK

/-- The valid subscribers but one. -/
def Dev.otherSubs (d : Dev) (i : Nat) : List Nat := (d.subIndices.filter (fun s => s != i)).map d.subRow |>.filter subValid

/-! ## Families of a service and its members (R334) -/

/-- Whether a member row is of a family: an IPv4 address is one that is zero above its low 32 bits (log 240). -/
def memberOf (v6 : Bool) (row : Nat) : Bool := decide (2 ^ 32 ≤ fld row 112 128) == v6

/-- Whether every valid member of a service is of its family. -/
def Dev.membersFit (d : Dev) (s : Nat) (v6 : Bool) : Bool :=
  (rowsIn d.tabs tLbMember 0 0 (s * 1024) (s * 1024 + 1024)).all (fun e => memberOf v6 (leVal e.2.data))

/-- Whether a member fits its service. -/
def Dev.memberFits (d : Dev) (i : Nat) (data : Bytes) : Bool :=
  match d.row (rowKey tVservice 0 0 (i / 1024)) with
  | some r => !r.valid || memberOf (bitOf (leVal r.data) 510) (leVal (fit 32 data))
  | none => true

end Sys2Proof.Machine
end

