-- ==== Sys2Proof/Machine/Tables.lean ====
section
/-!
DEFINITION. Table commands (R134 to R144, R150 to R152, R168, R234, R235, R243, R252 to R255, R294, R312 to R316, R564):
what each operation does to its table, staging, and the 16 interfaces.
-/
namespace Sys2Proof.Machine

/-- A command word (R136). -/
def TblCmd.ofNat (v : Nat) : TblCmd :=
  { table := fld v 48 8, op := fld v 44 4, staged := bitOf v 43, merge := bitOf v 42, keyed := bitOf v 41, pipe := fld v 35 5, index := fld v 0 32 }

/-- The staging words a command works on (R135). -/
structure Words where
  key : Bytes
  data : Bytes
  cmpValue : Bytes
  cmpMask : Bytes
  deriving DecidableEq, Repr

/-- TBL_STATUS (R139). -/
def TblResult.word (r : TblResult) : Nat := b2n r.valid * 2 ^ 49 + b2n r.multi * 2 ^ 48 + r.status % 65536 * 2 ^ 32 + r.index % 2 ^ 32

/-- A command ends with a status and no entry: RESULT_INDEX is open where none was read or found (log 1). -/
def tblFail (d : Dev) (st : Nat) : TblResult × Dev :=
  let (i, d) := d.fresh
  ({ status := st, index := i % 2 ^ 32, valid := false, multi := false, data := none }, d)

/-- A command ends at an index and returns no entry. -/
def tblEnd (st i : Nat) : TblResult := { status := st, index := i, valid := false, multi := false, data := none }

/-- A command ends with an entry. -/
def tblEntry (st i : Nat) (valid : Bool) (image : Bytes) : TblResult :=
  { status := st, index := i, valid, multi := false, data := some (fit 128 image) }

/-! ## Checks of R142 -/

/-- Operation or flag not allowed (R138, R145, R150, R252, R312). -/
def tblBadOp (c : TblCmd) (tutor : Bool) : Bool :=
  !tableTakes c.table c.op c.keyed || (c.merge && !(c.table == 1 && (c.op == 2 || c.op == 4))) ||
    (c.staged && (tutor || !tableStages c.table || !([2, 3, 5].contains c.op) || ((c.table == 4 || c.table == 5) && !c.keyed)))

/-- The first check of R142 that fails, or ST_OK. -/
def tblCheck (d : Dev) (c : TblCmd) (open_ tutor : Bool) : Nat :=
  let rows := d.tableRows c.table
  if c.table = 0 ∨ 9 < c.table then St.BAD_TABLE
  else if tblBadOp c tutor then St.BAD_OP
  else if d.pins.ready = false ∨ (c.table ≤ 2 ∧ d.rollReady = false) then St.NOT_READY
  else if (c.keyed = false ∨ c.op = 7) ∧ rows ≤ c.index then St.RANGE
  else if c.table = 5 ∧ 16 ≤ c.pipe ∧ ¬ (c.pipe = 31 ∧ c.op ≠ 1 ∧ c.op ≠ 7) then St.RANGE
  else if c.table = 3 ∧ c.op = 8 ∧ 16 ≤ c.pipe then St.RANGE
  else if c.staged ∧ open_ = false then St.NO_TXN else St.OK

/-! ## NEXT (R143) -/

/-- The first of the given indices from a start, within 65,536; none found. -/
def nextIndex (rows start : Nat) (is : List Nat) : Option Nat × Nat × Nat :=
  match (is.filter (fun i => decide (start ≤ i) && decide (i < start + 65536))).mergeSort (· ≤ ·) with
  | i :: _ => (some i, St.OK, i)
  | [] => if rows ≤ start + 65536 then (none, St.NOT_FOUND, rows - 1) else (none, St.CONTINUE, start + 65536)

/-! ## The ROLL table (R294, R312 to R316) -/

/-- Slots that hold a standard record, an extended head or a link. -/
def Dev.headSlots (d : Dev) : List Nat :=
  (d.roll.tags.map Prod.fst).filter (fun s => recKind (d.current s) != 2 && recValid (d.current s))

/-- A record as TBL_DATA gives it (R8). -/
def recOfData (data : Bytes) : Nat := recClean (leVal (fit 128 data))

/-- The replacement of a record (R313): the record, or the status of what forbids it. -/
def replaceRecord (d : Dev) (old : Nat) (data : Bytes) (merge : Bool) : Nat × Nat :=
  let new := if recTwoSlots old then recOfData data else recOfData data % 2 ^ 512
  let sameKey := recValid new && recKind new == recKind old && recV6 new == recV6 old && decide (recKey new = recKey old) &&
    (!recTwoSlots old || (fld new 1020 4 == fld old 1020 4))
  let state2 := !recTwoSlots old || recSvcState2 new == recSvcState2 old
  if sameKey = false then (St.ROLL_KEY_MISMATCH, old)
  else if ¬ (recSvcKind new = recSvcKind old ∧ recSvcState new = recSvcState old ∧ state2 = true) then (St.ROLL_LINKED, old)
  else if (bitOf (recSvcKind old) 0 = true ∧ recHasNat new = false) ∨ (bitOf (recSvcKind old) 1 = true ∧ recHasLb new = false) then (St.INCONSISTENT, old)
  else
    let r := setFld (setFld (setFld new 368 24 (fld old 368 24)) 182 28 (recLinkSlot old)) 328 16 (d.rd M.DECISION_GEN)
    let r := if merge then setFld (setFld r 0 144 (fld old 0 144)) 344 24 (recLastHit old) else r
    (St.OK, recSetRseq r ((recRseq old + 1) % 256))

/-- A record the host or a tutor creates (R315, R363); a tutor may create links too, as R329 asks of it (log 35): the record, or the status of what forbids it. -/
def newRecord (now : BellSt) (d : Dev) (key data : Bytes) (tutor : Bool) : Nat × Nat × FlowKey :=
  let k := FlowKey.ofBlock key
  let r0 := recOfData data
  if tutor ∧ recKind r0 = 3 then
    (if (recKey (if recV6 r0 then r0 else r0 % 2 ^ 512)).block ≠ slice key 0 40 then (St.ROLL_KEY_MISMATCH, r0, k) else (St.OK, linkRecord k (recPrimary r0), k))
  else
  let kind := if recV6 r0 then 1 else if tutor ∧ recKind r0 = 1 then 1 else 0
  let r := setFld (if kind = 1 then setFld r0 509 2 1 else setFld (r0 % 2 ^ 512) 509 2 0) 511 1 1
  if (recKey r).block ≠ slice key 0 40 then (St.ROLL_KEY_MISMATCH, r, k)
  else if tutor = false ∧ recSvcKind r ≠ 0 then (St.ROLL_LINKED, r, k)
  else
    let lesson := now.lesson.toNat
    let r := setFld (setFld (setFld (recWithKey r kind k) 368 24 lesson) 344 24 lesson) 328 16 (d.rd M.DECISION_GEN)
    (St.OK, recSetRseq r 0, k)

/-- How a table operation goes on: it ends, waits as the device then stands, waits for a Front Row line (R279), or finds a memory that is
not served here (R449). -/
inductive TblRun where
  | done (r : TblResult) (d : Dev)
  | waits (d : Dev)
  | line
  | lost

/-- An operation that ends. -/
def TblRun.of (x : TblResult × Dev) : TblRun := .done x.1 x.2

/-- How an operation waits for a slot or goes on with it. -/
def Brought.run (b : Brought) (d : Dev) (f : Dev → TblRun) : TblRun :=
  match b with
  | .here d => f d
  | .waits => .waits d
  | .line => .line
  | .lost _ => .lost

/-- The record a ROLL command names. -/
inductive Target where
  | found (st : Nat) (slot : Option Nat) (d : Dev)
  | other (x : TblRun)

/-- The port of a table command's reads (R440): a tutor's 1, the host's 4. -/
def tblPort (tutor : Bool) : Nat := if tutor then 1 else 4

/-- The record a ROLL command names, brought into the Front Row (R294): its slot, or the status that ends the command. A record whose
memory is not served here is asked of the peer by its key where there is one (R529). A key block that no key gives (R271) is no
record's. -/
def rollTarget (now : BellSt) (d : Dev) (c : TblCmd) (w : Words) (bad tutor : Bool) : Target :=
  if c.keyed then
    let k := FlowKey.ofBlock w.key
    if k.block ≠ slice w.key 0 40 then .found St.NOT_FOUND none d else
    match searchRecord now d k (tblPort tutor) bad with
    | .found (some s) d => .found (if recPending (d.recordAt s) then St.BUSY else St.OK) (some s) d
    | .found none d => .found St.NOT_FOUND none d
    | .waits => .other (.waits d)
    | .line => .other .line
    | .lost s => .other (if d.peerServes then .waits (fetchFromPeer d k s) else .lost)
  else
    match bringRecord now d c.index (tblPort tutor) bad with
    | .here d =>
      let r := d.recordAt c.index
      if d.occupied c.index = false then .found St.NOT_FOUND none d
      else if recKind r = 2 then .found St.ROLL_TAIL none d
      else if recPending r ∧ recKind r ≠ 3 then .found St.BUSY (some c.index) d else .found St.OK (some c.index) d
    | b => .other (b.run d (fun d => .waits d))

/-- A replacement takes effect (R313, R314). -/
def rollReplace (now : BellSt) (d : Dev) (s old : Nat) (w : Words) (merge : Bool) : TblResult × Dev :=
  let (st, r) := replaceRecord d old w.data merge
  if st ≠ St.OK then (tblEnd st s, d)
  else
    let d := updateRecord now (makeStale now d s merge) s r
    (tblEnd St.OK s, mirrorState now (d.bump M.CNT_ROLL_HOST_WRITE) s)

/-- A WRITE or DELETE of a record that is uncorrectable (R140): the record goes without its notice, its link and its release, which
only it could name; a WRITE puts TBL_DATA in its place, where what R313 keeps of the present record is open (log 229). -/
def rollOverwrite (now : BellSt) (d : Dev) (c : TblCmd) (s : Nat) (w : Words) : TblResult × Dev :=
  let gone := clearRecord now (makeStale now d s false) s
  if c.op = 5 then (tblEnd St.OK s, gone.bump M.CNT_ROLL_HOST_DELETE) else
  let r := recOfData w.data
  let r := if recV6 r then setFld r 509 2 1 else setFld (r % 2 ^ 512) 509 2 0
  if recTwoSlots r ∧ (s % 2 = 1 ∨ gone.occupied (s + 1) = true) then (tblEnd St.ROLL_KEY_MISMATCH s, d) else
  let (rseq, d) := gone.fresh
  let (created, d) := d.fresh
  let (link, d) := d.fresh
  let r := setFld (setFld (setFld (setFld r 511 1 1) 368 24 (created % 2 ^ 24)) 182 28 (link % 2 ^ 28)) 328 16 (d.rd M.DECISION_GEN)
  let tag := (d.hashKey (recKey r)).2.2
  let d := updateRecord now d s (recSetRseq r (rseq % 256))
  let tags := SMap.set zeroAt d.roll.tags s tag
  let tags := if recTwoSlots r then SMap.set zeroAt tags (s + 1) tag else tags
  let d : Dev := { d with roll := { d.roll with tags } }
  (tblEnd St.OK s, mirrorState now (d.bump M.CNT_ROLL_HOST_WRITE) s)

/-- A deletion takes effect (R316, R376). -/
def rollDelete (now : BellSt) (d : Dev) (s r : Nat) : TblResult × Dev :=
  if d.releaseFull r then (tblEnd St.BUSY s, d)
  else if d.exportRoom r = false then (tblEnd St.ROLL_EXPORT_FULL s, d)
  else (tblEnd St.OK s, (deleteRecord now d s 2).bump M.CNT_ROLL_HOST_DELETE)

/-- NEXT on the ROLL table (R143, R294): the record it finds is read through the Front Row. -/
def rollNext (now : BellSt) (d : Dev) (c : TblCmd) (bad tutor : Bool) : TblRun :=
  match nextIndex (rollSlots d.palette) c.index d.headSlots with
  | (some s, st, _) => (bringRecord now d s (tblPort tutor) bad).run d (fun d =>
      let r := d.recordAt s
      if bad then .done (tblEntry St.UNCORRECTABLE s false []) d
      else if recPending r ∧ recKind r ≠ 3 then .done (tblEnd St.BUSY s) d
      else .done (tblEntry st s true (recBytes r)) d)
  | (none, st, i) => .done (tblEnd st i) d

/-- A ROLL command that names no record: a READ of a free slot, a creation, or the status. -/
def rollAbsent (now : BellSt) (d : Dev) (c : TblCmd) (w : Words) (bad tutor : Bool) (st : Nat) : TblRun :=
  if c.op = 1 ∧ c.keyed = false ∧ st = St.NOT_FOUND then
    .done (if bad then tblEntry St.UNCORRECTABLE c.index false [] else tblEntry St.OK c.index false (toLE 64 (setFld (d.current c.index) 511 1 0))) d
  else if c.keyed ∧ (c.op = 2 ∨ c.op = 3) ∧ st = St.NOT_FOUND then
    (let (st, r, k) := newRecord now d w.key w.data tutor
     if st ≠ St.OK then .of (tblFail d st) else
     match insertRecord now d k r with
     | .bucket => .of (tblFail d St.FULL)
     | .line => .line
     | .at s d => .done (tblEnd St.OK s) (mirrorCreate now d s))
  else .of (if c.keyed then tblFail d st else (tblEnd st c.index, d))

/-- A ROLL command on the record it names (R294, R312 to R316). -/
def rollPresent (now : BellSt) (d : Dev) (c : TblCmd) (w : Words) (bad : Bool) (st s : Nat) : TblResult × Dev :=
  let r := d.recordAt s
  if bad ∧ (c.op = 1 ∨ c.op = 4 ∨ c.op = 6) then (tblEntry St.UNCORRECTABLE s false [], d)
  else if bad ∧ (c.op = 2 ∨ c.op = 5) then rollOverwrite now d c s w
  else if st ≠ St.OK then (tblEnd st s, d)
  else if c.op = 1 then (tblEntry St.OK s true (recBytes r), d)
  else if c.op = 3 then (tblEnd St.EXISTS s, d)
  else if recKind r = 3 then (tblEnd St.ROLL_LINKED s, d)
  else if (c.op = 4 ∨ c.op = 6) ∧ casHolds (recBytes r).length (recBytes r) w.cmpValue w.cmpMask = false then (tblEntry St.COMPARE_FAIL s true (recBytes r), d)
  else if c.op = 2 ∨ c.op = 4 then rollReplace now d s r w c.merge
  else rollDelete now d s r

/-- An operation on the ROLL table. `bad`: the entry is uncorrectable. -/
def rollOp (now : BellSt) (d : Dev) (c : TblCmd) (w : Words) (bad tutor : Bool) : TblRun :=
  if c.op = 7 then rollNext now d c bad tutor else
  match rollTarget now d c w bad tutor with
  | .other x => x
  | .found st none d => rollAbsent now d c w bad tutor st
  | .found st (some s) d => .of (rollPresent now d c w bad st s)

/-! ## The ENDPOINT table (R138, R324, R325) -/

/-- A host's change of an endpoint record; a change of its binding or NAT fields is mirrored (R523). -/
def putEndpoint (now : BellSt) (d : Dev) (e v : Nat) : Dev :=
  let old := d.endpoint e
  let d := setEndpoint now d e v
  if fld old 509 2 ≠ fld v 509 2 ∨ fld old 336 168 ≠ fld v 336 168 then mirrorEndpoint now d e else d

/-- Endpoint records that are valid. -/
def Dev.validEndpoints (d : Dev) : List Nat := (d.syncSlots.filter (fun s => decide (epSlotBase ≤ s))).map (· - epSlotBase)

/-- An operation on a row of the ENDPOINT table. -/
def endpointRow (now : BellSt) (d : Dev) (c : TblCmd) (w : Words) (bad : Bool) : TblResult × Dev :=
  let i := c.index
  let v := d.endpoint i
  let valid := bitOf v 511
  if bad ∧ (c.op = 1 ∨ c.op = 4 ∨ c.op = 6) then (tblEntry St.UNCORRECTABLE i false [], d)
  else if c.op = 1 then (tblEntry St.OK i valid (toLE 64 v), d)
  else if (c.op = 4 ∨ c.op = 6) ∧ casHolds 64 (toLE 64 v) w.cmpValue w.cmpMask = false then (tblEntry St.COMPARE_FAIL i valid (toLE 64 v), d)
  else if c.op = 2 ∨ c.op = 4 then (tblEnd St.OK i, putEndpoint now d i (epStored w.data))
  else if valid = false then (tblEnd St.NOT_FOUND i, d)
  else (tblEnd St.OK i, putEndpoint now d i (setFld v 511 1 0))

/-- An operation on the ENDPOINT table, through the Front Row (R325). -/
def endpointOp (now : BellSt) (d : Dev) (c : TblCmd) (w : Words) (bad tutor : Bool) : TblRun :=
  if c.op = 7 then
    (match nextIndex 16777216 c.index d.validEndpoints with
      | (some e, st, _) => (bringSlot now d (epSlot e) (tblPort tutor) bad).run d (fun d =>
          .done (if bad then tblEntry St.UNCORRECTABLE e false [] else tblEntry st e true (toLE 64 (d.endpoint e))) d)
      | (none, st, k) => .done (tblEnd st k) d)
  else (bringSlot now d (epSlot c.index) (tblPort tutor) bad).run d (fun d => .of (endpointRow now d c w bad))

/-! ## Entries the open transaction has staged (R152) -/

/-- Whether the transaction holds staged operations that unstaged commands must not meet. -/
def Dev.stagesNow (d : Dev) : Bool := decide (d.txn.state ≠ .idle) && decide (d.txn.state ≠ .rollingBack)

/-- Whether an index of a table is staged. -/
def Dev.indexStaged (d : Dev) (t i : Nat) : Bool := d.stagesNow && d.txn.ops.any (fun o => o.table == t && o.index == i)

/-- Whether a prefix is staged. -/
def Dev.lpmStaged (d : Dev) (key : Bytes) : Bool := d.stagesNow && d.txn.ops.any (fun o => o.table == 4 && lpmKeyOf o.key == lpmKeyOf key)
where lpmKeyOf (k : Bytes) : Bytes := slice k 0 17 ++ [toByte (byteAt k 17 / 64 % 2)]

/-! ## The TCAM (R232 to R243) -/

/-- Parts per entry at an index. -/
def Dev.partsAt (d : Dev) (i : Nat) : Nat := profileParts (d.rd (M.TCAM_BANK_PROFILE (tcamBank i)))

/-- A part is written or deleted: every copy and shadow takes it, and one slot of each (R239). -/
def tcamPut (d : Dev) (i : Nat) (r : Option Row) : Dev :=
  let d := { d.setRow (rowKey tTcam 0 0 i) r with
    tcamCopies := SMap.clear d.tcamCopies (fun k => k % 32768 == i), tcamBad := d.tcamBad.filter (fun k => k % 32768 != i) }
  (List.range 16).foldl (fun d p => stealSlots d p 1) d

/-- The stored row of an index: a row that has held no entry reads zero. -/
def Dev.tcamAt (d : Dev) (i : Nat) : Row := (d.row (rowKey tTcam 0 0 i)).getD { data := List.replicate 64 0, win := Window.stable, valid := false }

/-- Whether an entry would enable a service whose FEATURES bit is 0 (R191): a record, a TCAM RESULT, or a virtual service. -/
def featureDenied (t op : Nat) (data : Bytes) : Bool :=
  let off (bit : Nat) : Bool := !bitOf Config.features bit
  (op == 2 || op == 3 || op == 4) &&
    (if t = 1 then
      (let r := recOfData data
       off 0 || (recHasNat r && off 1) || (recHasLb r && off 2) || (recHasFilter r && off 3) || (recHasExport r && off 4))
    else if t = 3 then
      (let r := leAt (fit 64 data) 42 14
       partValid data && partNum (fit 64 data) == 0 && ((bitOf r 107 && off 0) || (bitOf r 106 && off 1) || (bitOf r 105 && off 2) || (bitOf r 104 && off 3) || (bitOf r 103 && off 4)))
    else t == 8 && bitOf (leVal (fit 64 data)) 511 && off 2)

/-- The key of a SEARCH (R243). -/
def searchKey (parts : Nat) (w : Words) : Nat := (leVal (fit 64 w.key) + leVal (slice w.cmpValue 0 16) * 2 ^ 512) % 2 ^ (160 * parts)

/-- SEARCH (R243); the copy of a gated pipe has no power and answers nothing (R54, log 230). -/
def tcamSearch (now : BellSt) (d : Dev) (c : TblCmd) (w : Words) : TblResult × Dev :=
  let bank := tcamBank c.index
  let parts := d.partsAt c.index
  if d.gated c.pipe then tblFail d St.NOT_READY
  else if c.index % parts ≠ 0 then tblFail d St.TCAM_ALIGN else
  match bankSearch 4097 now (stealSlots d c.pipe 1) c.pipe bank parts (searchKey parts w) c.index with
  | (some (i, multi), d) => ({ tblEntry St.OK i true (rowImage 3 (d.tcamAt i)) with multi }, d)
  | (none, d) => (tblEntry St.NOT_FOUND (bank * 4096 + 4095) false [], d)

/-- An unstaged operation on the TCAM (R235 gives the order of its checks). -/
def tcamOp (now : BellSt) (d : Dev) (c : TblCmd) (w : Words) : TblResult × Dev :=
  let i := c.index
  let parts := d.partsAt i
  let r := d.tcamAt i
  if c.op = 1 then (tblEntry St.OK i r.valid (rowImage 3 r), d)
  else if c.op = 7 then
    (match nextIndex 32768 i ((rowsIn d.tabs tTcam 0 0 0 32768).map Prod.fst) with
     | (some k, st, _) => (tblEntry st k true (rowImage 3 (d.tcamAt k)), d)
     | (none, st, k) => (tblEnd st k, d))
  else if c.op = 8 then tcamSearch now d c w
  else if (if c.op = 5 then r.valid && partNum r.data != i % parts else partNum (fit 64 w.data) != i % parts) then (tblEnd St.TCAM_ALIGN i, d)
  else if d.indexStaged 3 i then (tblEnd St.BUSY i, d)
  else if r.valid ∧ r.win.isStable = false then (tblEnd St.TXN_UNSETTLED i, d)
  else if c.op ≠ 5 ∧ i % parts ≠ 0 ∧ (d.tcamAt (i - i % parts)).valid = true then (tblEnd St.TCAM_PART_LIVE i, d)
  else if c.op = 4 ∧ casHolds 64 (rowImage 3 r) w.cmpValue w.cmpMask = false then (tblEntry St.COMPARE_FAIL i r.valid (rowImage 3 r), d)
  else if c.op = 5 then
    (if r.valid then (tblEnd St.OK i, tcamPut d i (some { r with valid := false })) else (tblEnd St.NOT_FOUND i, d))
  else if featureDenied 3 c.op w.data then (tblEnd St.NOT_ALLOWED i, d)
  else (tblEnd St.OK i, tcamPut d i (some { data := tcamStored (fit 64 w.data), win := Window.stable, valid := partValid w.data }))

/-- Whether an unstaged command that ended with a status took search slots (R239). -/
def takesSlots (op st : Nat) : Bool := (op == 8 && (st == St.OK || st == St.NOT_FOUND)) || ([2, 4, 5].contains op && st == St.OK)

/-- At most 8 unstaged commands of a period take slots; `none` where a further one waits (R239). -/
def tcamPaced (now : BellSt) (d : Dev) (c : TblCmd) (w : Words) : Option (TblResult × Dev) :=
  let (r, e) := tcamOp now d c w
  if takesSlots c.op r.status = false then some (r, e)
  else if 8 ≤ d.work.tcamTaken then none
  else some (r, { e with work := { e.work with tcamTaken := e.work.tcamTaken + 1 } })

/-! ## The trie (R250 to R252) -/

/-- The checks of a key (R252). -/
def lpmKeyStatus (key : Bytes) : Nat :=
  let w := if lpmV6 key then 128 else 32
  if w < lpmPlen key then St.LPM_PLEN
  else if lpmPrefix key % 2 ^ (w - lpmPlen key) ≠ 0 ∨ 2 ^ w ≤ lpmPrefix key then St.LPM_HOST_BITS else St.OK

/-- Whether the entry's key equals the command's (R138). -/
def lpmSameKey (key data : Bytes) : Bool := slice key 0 17 == slice data 0 17 && lpmV6 key == lpmV6 data

/-- The version of a prefix the current edition sees. -/
def Dev.lpmSeen (d : Dev) (key : Bytes) : Option (Nat × Row) :=
  let c := d.rd M.EDITION_CURRENT
  (d.lpmVersions key).find? (fun e => e.2.win.sees c c)

/-- A new version of a prefix at a free place; the status of R250 where units are short. -/
def lpmInsert (d : Dev) (data : Bytes) (win : Window) : Option (Nat × Dev) :=
  let cost := lpmUnits (lpmV6 data) (lpmPlen data)
  if 1572864 < d.lpmUsed + d.txn.reservedUnits + cost then none else
  let i := d.lpmFree data
  some (i, d.setRow (rowKey tLpm 0 0 i) (some { data := lpmStored data, win, valid := true }))

/-- An unstaged operation on the trie. -/
def lpmOp (d : Dev) (c : TblCmd) (w : Words) : TblResult × Dev :=
  let stored (i : Nat) : Row := (d.row (rowKey tLpm 0 0 i)).getD { data := List.replicate 32 0, win := Window.stable, valid := false }
  if c.op = 7 then
    (match nextIndex 1572864 c.index ((rowsIn d.tabs tLpm 0 0 0 1572864).map Prod.fst) with
     | (some k, st, _) => (tblEntry st k true (rowImage 4 (stored k)), d)
     | (none, st, k) => (tblEnd st k, d))
  else if c.op = 1 ∧ c.keyed = false then (tblEntry St.OK c.index (stored c.index).valid (rowImage 4 (stored c.index)), d)
  else if lpmKeyStatus w.key ≠ St.OK then tblFail d (lpmKeyStatus w.key)
  else if c.op = 1 then
    (match d.lpmSeen w.key with
     | some (i, r) => (tblEntry St.OK i true (rowImage 4 r), d)
     | none => tblFail d St.NOT_FOUND)
  else if (c.op = 2 ∨ c.op = 3) ∧ lpmSameKey w.key w.data = false then tblFail d St.INCONSISTENT
  else if d.lpmStaged w.key then tblFail d St.BUSY
  else if (d.lpmVersions w.key).any (fun e => !e.2.win.isStable) then tblFail d St.TXN_UNSETTLED
  else
    match d.lpmSeen w.key with
    | some (i, r) =>
      if c.op = 3 then (tblEnd St.EXISTS i, d)
      else if c.op = 5 then (tblEnd St.OK i, d.setRow (rowKey tLpm 0 0 i) (some { r with valid := false }))
      else (tblEnd St.OK i, d.setRow (rowKey tLpm 0 0 i) (some { data := lpmStored w.data, win := Window.stable, valid := true }))
    | none =>
      if c.op = 5 then tblFail d St.NOT_FOUND
      else match lpmInsert d w.data Window.stable with
        | some (i, d) => (tblEnd St.OK i, d)
        | none => tblFail d St.FULL

/-! ## The layer-2 tables (R253 to R255) -/

/-- The entry's own rules (R138, R254): the key in TBL_KEY is judged where the command is keyed. -/
def l2DataStatus (keyed : Bool) (w : Words) : Nat :=
  let e := L2Entry.ofBytes (fit 16 w.data)
  if isGroupMac e.mac then St.L2_GROUP_MAC
  else if e.router ∧ e.static = false then St.INCONSISTENT
  else if keyed ∧ l2KeyBytes e.mac e.vlan ≠ l2KeyBytes (leAt w.key 0 8 % 2 ^ 48) (fld (leAt w.key 0 8) 48 12) then St.INCONSISTENT else St.OK

/-- An entry as stored. -/
def l2Stored (data : Bytes) : Bytes := (L2Entry.ofBytes (fit 16 data)).toBytes

/-- An unstaged operation on one pipe's layer-2 table; a write by index to a place that a transaction has reserved finds it busy (R153, log
282). -/
def l2One (d : Dev) (c : TblCmd) (w : Words) (p : Nat) : TblResult × Dev :=
  let cur := d.rd M.EDITION_CURRENT
  let stored (i : Nat) : Row := (d.row (rowKey tL2 0 p i)).getD { data := List.replicate 16 0, win := Window.stable, valid := false }
  let put (d : Dev) (i : Nat) : TblResult × Dev :=
    (tblEnd St.OK i, d.setRow (rowKey tL2 0 p i) (some { data := l2Stored w.data, win := Window.stable, valid := true }))
  let del (i : Nat) : TblResult × Dev := (tblEnd St.OK i, d.setRow (rowKey tL2 0 p i) (some { stored i with valid := false }))
  let writes := c.op == 2 || c.op == 3 || c.op == 4
  if c.op = 7 then
    (match nextIndex 524288 c.index ((rowsIn d.tabs tL2 0 p 0 524288).map Prod.fst) with
     | (some k, st, _) => (tblEntry st k true (rowImage 5 (stored k)), d)
     | (none, st, k) => (tblEnd st k, d))
  else if c.keyed ∧ isGroupMac (leAt w.key 0 8 % 2 ^ 48) = true then tblFail d St.L2_GROUP_MAC
  else if writes ∧ l2DataStatus c.keyed w ≠ St.OK then tblFail d (l2DataStatus c.keyed w)
  else if c.keyed then
    (let mac := leAt w.key 0 8 % 2 ^ 48
     let vlan := fld (leAt w.key 0 8) 48 12
     let seen := l2Lookup d.tabs cur cur p mac vlan
     if c.op = 1 then
       (match seen with | some (i, r) => (tblEntry St.OK i true (rowImage 5 r), d) | none => tblFail d St.NOT_FOUND)
     else if d.stagesNow ∧ d.l2Staged p mac vlan = true then tblFail d St.BUSY
     else if d.l2Unsettled p mac vlan then tblFail d St.TXN_UNSETTLED
     else
       match seen with
       | some (i, r) =>
         if c.op = 3 then (tblEnd St.EXISTS i, d)
         else if (c.op = 4 ∨ c.op = 6) ∧ casHolds 16 (rowImage 5 r) w.cmpValue w.cmpMask = false then (tblEntry St.COMPARE_FAIL i true (rowImage 5 r), d)
         else if c.op = 5 ∨ c.op = 6 then del i else put d i
       | none =>
         if c.op = 2 ∨ c.op = 3 then (match d.l2Take p mac vlan with | some i => put d i | none => tblFail d St.FULL)
         else tblFail d St.NOT_FOUND)
  else
    let i := c.index
    let r := stored i
    let old := L2Entry.ofBytes r.data
    let new := L2Entry.ofBytes (fit 16 w.data)
    if c.op = 1 then (tblEntry St.OK i r.valid (rowImage 5 r), d)
    else if d.stagesNow ∧ ((r.valid = true ∧ d.l2Staged p old.mac old.vlan = true) ∨ (writes = true ∧ d.l2Staged p new.mac new.vlan = true)) then (tblEnd St.BUSY i, d)
    else if writes = true ∧ d.txn.reservedPlaces.contains (p, i) = true then (tblEnd St.BUSY i, d)
    else if r.valid ∧ r.win.isStable = false then (tblEnd St.TXN_UNSETTLED i, d)
    else if (c.op = 4 ∨ c.op = 6) ∧ casHolds 16 (rowImage 5 r) w.cmpValue w.cmpMask = false then (tblEntry St.COMPARE_FAIL i r.valid (rowImage 5 r), d)
    else if c.op = 5 ∨ c.op = 6 then (if r.valid then del i else (tblEnd St.NOT_FOUND i, d))
    else if (l2Places new.mac new.vlan).contains i = false then (tblEnd St.INCONSISTENT i, d)
    else if (l2Versions d.tabs p new.mac new.vlan).any (fun v => v.1 != i) then (tblEnd St.EXISTS i, d)
    else put d i

/-- An operation on the layer-2 tables: PIPE 31 acts in every active pipe, each on its own (R255). -/
def l2Op (d : Dev) (c : TblCmd) (w : Words) : TblResult × Dev :=
  if c.pipe ≠ 31 then l2One d c w c.pipe else
  let (rs, d) := d.activePipes.foldl (fun (acc : List TblResult × Dev) p => let (r, d) := l2One acc.2 c w p; (acc.1 ++ [r], d)) ([], d)
  match rs.find? (fun r => r.status != St.OK), rs with
  | some r, _ => (r, d)
  | none, r :: _ => (r, d)
  | none, [] => tblFail d St.NOT_READY

/-! ## The tables addressed by index with rows of their own: 6 to 9 -/

/-- The bytes of a row that has held no entry. -/
def Dev.rowAt (d : Dev) (t v i : Nat) : Row := (d.row (rowKey t v 0 i)).getD { data := List.replicate (entryBytes t) 0, win := Window.stable, valid := false }

/-- The version of a row the current edition sees, with its version number: 0 where none is seen. -/
def Dev.rowSeen (d : Dev) (t i : Nat) : Nat × Row :=
  let c := d.rd M.EDITION_CURRENT
  let b := d.rowAt t 1 i
  if b.valid ∧ b.win.sees c c = true then (1, b) else (0, d.rowAt t 0 i)

/-- The bytes a WRITE stores in a row of tables 6 to 9, with VALID, and the rules of the row (R334, R335, R412, R415, R425). -/
def indexStored (d : Dev) (t i : Nat) (old : Row) (data : Bytes) : Nat × Bool × Bytes :=
  let o := leVal old.data
  if t = 6 then
    (let v := subStored o data
     (subStatus d.service (d.otherSubs i) v, true, toLE 64 v))
  else if t = 7 then (St.OK, true, toLE 16 (queueStored o data))
  else if t = 8 then
    (let valid := bitOf (leVal (fit 64 data)) 511
     (if valid && !d.membersFit i (bitOf (leVal (fit 64 data)) 510) then St.INCONSISTENT else St.OK, valid, vsStored o data))
  else
    let valid := bitOf (leVal (fit 32 data)) 255
    (if valid && !d.memberFits i data then St.INCONSISTENT else St.OK, valid, lbStored o data)

/-- The indices of valid rows of a table: of tables 8 and 9, those of which the current edition sees a valid version. -/
def Dev.validRows (d : Dev) (t : Nat) : List Nat :=
  if t = 6 then (d.subIndices.filter (fun i => subValid (d.subRow i)))
  else if t = 7 then (List.range 2048 ++ (d.tabs.filter (fun (e : Nat × Option Row) => e.1 / 2 ^ 37 == 7 && decide (2048 ≤ e.1 % 2 ^ 37))).map (fun (e : Nat × Option Row) => e.1 % 2 ^ 37)).filter
    (fun i => queueValid (d.queueRow i))
  else (((rowsIn d.tabs t 0 0 0 (2 ^ 32) ++ rowsIn d.tabs t 1 0 0 (2 ^ 32)).map Prod.fst).eraseDups).filter (fun i => rowIsValid t (d.rowSeen t i).2)

/-- Where an unstaged write of a row lands in the member store (R335). -/
def indexPut (now : BellSt) (d : Dev) (t i : Nat) (valid : Bool) (data : Bytes) : TblResult × Dev :=
  if t = 9 ∧ valid = true ∧ d.memberRoom 0 i = false then (tblEnd St.FULL i, d) else
  let d := if t = 6 then refillSub now.period.toNat now.period.toNat d i else d
  let data := if t = 6 then toLE 64 (setFld (subStored (leVal (d.rowAt 6 0 i).data) data) 288 32 now.period.toNat) else data
  (tblEnd St.OK i, d.setRow (rowKey t 0 0 i) (some { data, win := Window.stable, valid }))

/-- An unstaged operation on tables 6 to 9. -/
def indexOp (now : BellSt) (d : Dev) (c : TblCmd) (w : Words) (bad : Bool) : TblResult × Dev :=
  let i := c.index
  let t := c.table
  let (_, r) := d.rowSeen t i
  let live := rowIsValid t r
  if c.op = 7 then
    (match nextIndex (d.tableRows t) i (d.validRows t) with
     | (some k, st, _) => (tblEntry st k true (rowImage t (d.rowSeen t k).2), d)
     | (none, st, k) => (tblEnd st k, d))
  else if bad ∧ (c.op = 1 ∨ c.op = 4) then (tblEntry St.UNCORRECTABLE i false [], d)
  else if c.op = 1 then (tblEntry St.OK i live (rowImage t r), d)
  else if d.indexStaged t i then (tblEnd St.BUSY i, d)
  else if (8 ≤ t ∧ (d.rowAt t 1 i).valid = true) ∨ r.win.isStable = false then (tblEnd St.TXN_UNSETTLED i, d)
  else if c.op = 4 ∧ casHolds (entryBytes t) (rowImage t r) w.cmpValue w.cmpMask = false then (tblEntry St.COMPARE_FAIL i live (rowImage t r), d)
  else if c.op = 5 then
    (if live then (tblEnd St.OK i, d.setRow (rowKey t 0 0 i) (some { r with valid := false })) else (tblEnd St.NOT_FOUND i, d))
  else
    let (st, valid, data) := indexStored d t i r w.data
    if st ≠ St.OK then (tblEnd st i, d) else indexPut now d t i valid data


/-- A command on an entry of the on-die tables that is uncorrectable (R140): the compare or the return of it ends, and a change of it
replaces it. -/
def badEntry (bad : Bool) (c : TblCmd) (read : TblCmd → TblResult × Dev) (d : Dev) (r : TblResult × Dev) : TblResult × Dev :=
  let found := (read { c with op := 1 }).1
  if bad ∧ (c.op = 1 ∨ c.op = 4 ∨ c.op = 6) ∧ (r.1.status = St.OK ∨ r.1.status = St.COMPARE_FAIL) ∧ found.status = St.OK then (tblEntry St.UNCORRECTABLE found.index false [], d) else r

/-- Any unstaged operation but NOP. -/
def tableOp (now : BellSt) (d : Dev) (c : TblCmd) (w : Words) (bad tutor : Bool) : TblRun :=
  if c.table = 3 then
    (match tcamPaced now d c w with
     | some x => .of (badEntry bad c (fun c => tcamOp now d c w) d x)
     | none => .waits d)
  else if featureDenied c.table c.op w.data then .of (tblFail d St.NOT_ALLOWED)
  else if c.table = 1 then rollOp now d c w bad tutor
  else if c.table = 2 then endpointOp now d c w bad tutor
  else if c.table = 4 then .of (badEntry bad c (fun c => lpmOp d c w) d (lpmOp d c w))
  else if c.table = 5 then .of (badEntry bad c (fun c => l2Op d c w) d (l2Op d c w))
  else .of (indexOp now d c w bad)

/-! ## Staged commands (R150, R151) -/

/-- Whether two staged operations name the same key or index, in whatever pipe. -/
def StagedOp.same (a b : StagedOp) : Bool :=
  a.table == b.table && a.index == b.index && slice a.key 0 17 == slice b.key 0 17 && lpmV6 a.key == lpmV6 b.key

/-- Whether two staged operations meet in a pipe. -/
def StagedOp.meets (a b : StagedOp) : Bool :=
  (a.pipe == b.pipe && a.pipe != 31) || (a.pipe == 31 && !a.without.contains b.pipe) || (b.pipe == 31 && !b.without.contains a.pipe)

/-- What a later operation leaves of an earlier one (R150): nothing where both name the same key or index in the same pipes, and the
other pipes of one that is for every pipe. -/
def StagedOp.after (o a : StagedOp) : Option StagedOp :=
  if a.same o = false then some a
  else if a.pipe = 31 ∧ o.pipe ≠ 31 then some { a with without := if a.without.contains o.pipe then a.without else a.without ++ [o.pipe] }
  else if a.meets o then none else some a

/-- The staged operation of a command. -/
def stagedOf (c : TblCmd) (w : Words) : StagedOp :=
  let key := if c.table = 4 then slice w.key 0 18 else if c.table = 5 then toLE 8 (leAt w.key 0 8 % 2 ^ 60) else []
  { table := c.table, op := c.op, pipe := if c.table = 5 then c.pipe else 0, without := [], index := if c.keyed then 0 else c.index, key,
    data := fit (entryBytes c.table) w.data }

/-- The status of a staged operation in the trie. -/
def stageLpm (d : Dev) (c : TblCmd) (w : Words) : Nat :=
  if lpmKeyStatus w.key ≠ St.OK then lpmKeyStatus w.key
  else if c.op ≠ 5 ∧ lpmSameKey w.key w.data = false then St.INCONSISTENT
  else if c.op = 3 ∧ ((d.lpmSeen w.key).isSome ∨ d.txn.ops.any (fun o => o.same (stagedOf c w)) = true) then St.EXISTS
  else if c.op = 5 ∧ (d.lpmSeen w.key).isNone = true then St.NOT_FOUND
  else if (d.lpmVersions w.key).any (fun e => !e.2.win.isStable) then St.TXN_UNSETTLED else St.OK

/-- The status of a staged operation in one layer-2 table. -/
def stageL2 (d : Dev) (c : TblCmd) (w : Words) (p : Nat) : Nat :=
  let mac := leAt w.key 0 8 % 2 ^ 48
  let vlan := fld (leAt w.key 0 8) 48 12
  let cur := d.rd M.EDITION_CURRENT
  if isGroupMac mac then St.L2_GROUP_MAC
  else if c.op ≠ 5 ∧ l2DataStatus true w ≠ St.OK then l2DataStatus true w
  else if c.op = 3 ∧ ((l2Lookup d.tabs cur cur p mac vlan).isSome ∨ d.txn.ops.any (fun o => o.same (stagedOf c w) && (o.pipes d).contains p) = true) then St.EXISTS
  else if c.op = 5 ∧ (l2Lookup d.tabs cur cur p mac vlan).isNone = true then St.NOT_FOUND
  else if d.l2Unsettled p mac vlan then St.TXN_UNSETTLED else St.OK

/-- The status of a staged operation on a table addressed by index. -/
def stageIndex (d : Dev) (c : TblCmd) (w : Words) : Nat :=
  let i := c.index
  if c.table = 3 then
    (let r := d.tcamAt i
     if (if c.op = 5 then r.valid && partNum r.data != i % d.partsAt i else partNum (fit 64 w.data) != i % d.partsAt i) then St.TCAM_ALIGN
     else if c.op = 5 ∧ r.valid = false then St.NOT_FOUND
     else if r.valid ∧ r.win.isStable = false then St.TXN_UNSETTLED
     else if c.op = 2 ∧ r.valid = true then St.TXN_INDEX_LIVE else St.OK)
  else
    let (_, r) := d.rowSeen c.table i
    if c.op = 5 ∧ rowIsValid c.table r = false then St.NOT_FOUND
    else if 8 ≤ c.table ∧ ((d.rowAt c.table 1 i).valid = true ∨ r.win.isStable = false) then St.TXN_UNSETTLED else St.OK

/-- The first active pipe in which a staged operation fails, or the first (R255). -/
def stagePipe (d : Dev) (c : TblCmd) (w : Words) : Nat :=
  if c.pipe ≠ 31 then c.pipe else (d.activePipes.find? (fun p => stageL2 d c w p != St.OK)).getD (d.activePipes.headD 0)

/-- A staged command ends (R139): with its index, or that of the entry its key finds; where there is none the index is open. -/
def stageEnd (d : Dev) (c : TblCmd) (w : Words) (st : Nat) : TblResult × Dev :=
  let cur := d.rd M.EDITION_CURRENT
  let found := if c.table = 4 then (d.lpmSeen w.key).map Prod.fst
    else if c.table = 5 then (l2Lookup d.tabs cur cur (stagePipe d c w) (leAt w.key 0 8 % 2 ^ 48) (fld (leAt w.key 0 8) 48 12)).map Prod.fst
    else some c.index
  match found with
  | some i => (tblEnd st i, d)
  | none => tblFail d st

/-- A staged command (R150, R151): checked, and recorded in the staging store. -/
def stageOp (d : Dev) (c : TblCmd) (w : Words) : TblResult × Dev :=
  let o := stagedOf c w
  let rest := d.txn.ops.filterMap o.after
  let st := if c.table = 4 then stageLpm d c w
    else if c.table = 5 then stageL2 d c w (stagePipe d c w)
    else stageIndex d c w
  if st ≠ St.OK then stageEnd d c w st
  else if featureDenied c.table c.op w.data then stageEnd d c w St.NOT_ALLOWED
  else if 65536 ≤ rest.length then stageEnd d c w St.TXN_STAGE_FULL
  else
    let d := { d with txn := { d.txn with ops := rest ++ [o], idleLessons := 0 } }
    stageEnd (d.wr M.TXN_STAGED_ENTRIES (rest.length + 1)) c w St.OK

/-! ## The interfaces (R134, R135, R140, R141) -/

/-- The principal whose transaction an interface may stage into (R134). -/
def ifaceOpen (d : Dev) (i : Nat) : Bool :=
  decide (d.txn.state = .opened) && (if i < 12 then d.rd M.TXN_OWNER == 1 else decide (0x8000 ≤ d.rd M.TXN_OWNER))

/-- A command ends: its result appears and BUSY falls (R139, R141). -/
def tblPublish (d : Dev) (i : Nat) (r : TblResult) : Dev :=
  let x := d.iface i
  d.setIface i { x with status := r.word, data := r.data.getD x.data, running := none, result := none, age := 0 }

/-- A command word reaches an interface (R135 to R137, R141, R142). -/
def tblStart (d : Dev) (i cmd : Nat) : Dev :=
  if 16 ≤ i then d else
  let x := d.iface i
  if x.running.isSome then d.bump M.CNT_TBL_BUSY_WRITE else
  let c := TblCmd.ofNat cmd
  let cmd := c.table * 2 ^ 48 + c.op * 2 ^ 44 + b2n c.staged * 2 ^ 43 + b2n c.merge * 2 ^ 42 + b2n c.keyed * 2 ^ 41 + c.pipe * 2 ^ 35 + c.index
  let d := d.setIface i { x with cmd, age := 0 }
  if c.op = 0 then d else
  let st := tblCheck d c (ifaceOpen d i) false
  if st ≠ St.OK then (let (r, d) := tblFail d st; tblPublish d i r)
  else d.setIface i { d.iface i with running := some c }

/-- A command of the row's own opcode reaches an interface; until READY rises the pages of principal K do not answer (R103, R134,
log 188). -/
def tblCommand (op i cmd : Nat) (d : Dev) : Dev :=
  if fld cmd 44 4 ≠ op ∨ (i < 12 ∧ d.bar0Closed = true) then d else tblStart d i cmd

/-- A running command ends with a status and without effect. -/
def tblEnds (d : Dev) (i st : Nat) : Dev := let (r, d) := tblFail d st; tblPublish d i r

/-- TBL_COMMAND_COMPLETE (R137, R140, R141): the running operation is applied and ends; past 64 periods it ends without effect. A
command whose memory does not answer goes on waiting; one whose memory is out of service ends at once (R449). -/
def tblComplete (i : Nat) (o : MemOutcome) (now : BellSt) (d : Dev) : Dev :=
  let x := d.iface i
  match x.running with
  | none => d
  | some c =>
    if 64 ≤ x.age then tblEnds d i St.UNAVAILABLE else
    if o = .unavailable then d else
    let w : Words := { key := x.key, data := x.data, cmpValue := x.cmpValue, cmpMask := x.cmpMask }
    if c.staged then
      (if ifaceOpen d i then (let (r, d) := stageOp d c w; tblPublish d i r) else tblEnds d i St.NO_TXN)
    else
      match tableOp now d c w (decide (o = .uncorrectable)) false with
      | .done r d => tblPublish d i r
      | .waits d => d
      | .line => d.bump M.CNT_FR_SET_PINNED
      | .lost => tblEnds d i St.UNAVAILABLE

/-- TBL_COMMAND_TIMEOUT (R140): 64 periods have passed. -/
def tblTimeout (i : Nat) (d : Dev) : Dev :=
  match (d.iface i).running with
  | none => d
  | some _ => if (d.iface i).age < 64 then d else tblEnds d i St.UNAVAILABLE

/-- Commands that still run when a data-path restart reaches its step 2 end with ST_NOT_READY (R564). -/
def tblRestart (d : Dev) : Dev :=
  (List.range 16).foldl (fun d i => if (d.iface i).running.isSome then tblEnds d i St.NOT_READY else d) d

/-- A period more for every running command. -/
def tblAge (d : Dev) : Dev :=
  { d with tif := d.tif.map (fun (k, x) => (k, if x.running.isSome then { x with age := x.age + 1 } else x)) }

/-! ## Commands -/

/-- TBL_NOP (R137). -/
def execTblNop (iface cmd : Nat) (s : State) : Host.Outcome State Fault Refusal := s.onDev (fun _ d => tblCommand 0 iface cmd d)

/-- TBL_READ (R137). -/
def execTblRead (iface cmd : Nat) (s : State) : Host.Outcome State Fault Refusal := s.onDev (fun _ d => tblCommand 1 iface cmd d)

/-- TBL_WRITE (R137). -/
def execTblWrite (iface cmd : Nat) (s : State) : Host.Outcome State Fault Refusal := s.onDev (fun _ d => tblCommand 2 iface cmd d)

/-- TBL_INSERT (R137). -/
def execTblInsert (iface cmd : Nat) (s : State) : Host.Outcome State Fault Refusal := s.onDev (fun _ d => tblCommand 3 iface cmd d)

/-- TBL_CAS (R137). -/
def execTblCas (iface cmd : Nat) (s : State) : Host.Outcome State Fault Refusal := s.onDev (fun _ d => tblCommand 4 iface cmd d)

/-- TBL_DELETE (R137). -/
def execTblDelete (iface cmd : Nat) (s : State) : Host.Outcome State Fault Refusal := s.onDev (fun _ d => tblCommand 5 iface cmd d)

/-- TBL_CAS_DELETE (R137). -/
def execTblCasDelete (iface cmd : Nat) (s : State) : Host.Outcome State Fault Refusal := s.onDev (fun _ d => tblCommand 6 iface cmd d)

/-- TBL_NEXT (R143). -/
def execTblNext (iface cmd : Nat) (s : State) : Host.Outcome State Fault Refusal := s.onDev (fun _ d => tblCommand 7 iface cmd d)

/-- TBL_SEARCH (R243). -/
def execTblSearch (iface cmd : Nat) (s : State) : Host.Outcome State Fault Refusal := s.onDev (fun _ d => tblCommand 8 iface cmd d)

/-- TBL_COMMAND_COMPLETE (R141). -/
def execTblCommandComplete (iface : Nat) (o : MemOutcome) (s : State) : Host.Outcome State Fault Refusal :=
  s.onDie (fun now d => tblComplete iface o now d)

/-- TBL_COMMAND_TIMEOUT (R140). -/
def execTblCommandTimeout (iface : Nat) (s : State) : Host.Outcome State Fault Refusal :=
  s.onDie (fun _ d => tblTimeout iface d)

end Sys2Proof.Machine
end

