-- ==== Sys2Proof/Machine/TxnChecks.lean ====
section
/-!
DEFINITION. Validation of a commit (R153): the device with every staged member and area applied, the rows as the new
edition sees them, and the nine checks in their order.
-/
namespace Sys2Proof.Machine

/-- What a failed check reports: its code, and TXN_FAIL_ID from a base and an open part below `spread` (log 1). -/
structure CheckFail where
  code : Nat
  base : Nat
  spread : Nat
  deriving DecidableEq, Repr

/-- A failure that names a member or row. -/
def failAt (code id : Nat) : Option CheckFail := some { code, base := id, spread := 1 }

/-- A failure that names no member: the object ID of a block area is open (log 1). -/
def failOpen (code : Nat) : Option CheckFail := some { code, base := 0, spread := 2 ^ 32 }

/-- A failure at a staged operation (R153): table and row index; the row of a keyed operation is open. -/
def failOp (code : Nat) (o : StagedOp) : Option CheckFail :=
  if o.table = 4 ∨ o.table = 5 then some { code, base := o.table * 2 ^ 24, spread := 2 ^ 24 } else failAt code (o.table * 2 ^ 24 + o.index % 2 ^ 24)

/-- The first of a list that breaks a rule. -/
def firstBad {α : Type} (bad : α → Bool) (fail : α → Option CheckFail) (xs : List α) : Option CheckFail := (xs.find? bad).bind fail

/-! ## The new edition -/

/-- The members and areas of the new edition (R149, R151, R156). -/
def Dev.withStaged (d : Dev) : Dev :=
  let d := d.txn.members.foldl (fun d (e : Nat × Option W64) => match e.2 with | some v => d.wr e.1 v.toNat | none => d) d
  d.txn.areas.foldl (fun d (e : Nat × Option Byte) => match e.2 with | some b => d.awr e.1 [b] | none => d) d

/-- A row of the tables 6 to 9 as the new edition sees it, as a number; zero where it holds no valid entry. -/
def Dev.newRow (d : Dev) (t i : Nat) : Nat :=
  match d.txn.ops.find? (fun o => o.table == t && o.index == i) with
  | some o => if o.op = 5 then 0 else leVal o.data
  | none => let r := (d.rowSeen t i).2; if rowIsValid t r then leVal (rowImage t r) else 0

/-- Indices of rows of a table that may be valid in the new edition. -/
def Dev.newIndices (d : Dev) (t : Nat) : List Nat :=
  (d.validRows t ++ (d.txn.ops.filter (fun o => o.table == t)).map (fun o => o.index)).eraseDups

/-- Valid subscribers of the new edition: index and row. -/
def Dev.newSubs (d : Dev) : List (Nat × Nat) := ((d.newIndices 6).map (fun i => (i, d.newRow 6 i))).filter (fun e => subValid e.2)

/-- Heads of TCAM entries of the new edition: index and result. -/
def Dev.newHeads (d : Dev) : List (Nat × Nat) :=
  let c := d.rd M.EDITION_CURRENT
  let kept := (rowsIn d.tabs tTcam 0 0 0 32768).filter (fun e =>
    partNum e.2.data == 0 && e.2.win.sees c c && !d.txn.ops.any (fun o => o.table == 3 && o.index == e.1 && o.op == 5))
  kept.map (fun e => (e.1, leAt e.2.data 42 14)) ++
    (d.txn.ops.filter (fun o => o.table == 3 && o.op == 2 && partNum o.data == 0 && partValid o.data)).map (fun o => (o.index, leAt o.data 42 14))

/-! ## Checks 1 to 5 -/

/-- Check 1 (R35). -/
def checkLessons (n : Dev) : Option CheckFail :=
  firstBad (fun id => decide (8388607 < n.rd id)) (failAt St.RANGE)
    [M.L2_AGE_LESSONS, M.ROLL_AGE_TCP_EST, M.ROLL_AGE_TCP_OTHER, M.ROLL_AGE_UDP, M.ROLL_AGE_OTHER, M.NAT_MAP_HOLD, M.EXPORT_ACTIVE,
     M.EXPORT_TEMPLATE_INTERVAL]

/-- Check 2 (R13, R195). -/
def checkPorts (n : Dev) : Option CheckFail :=
  firstBad (fun p =>
    let w := modeLanes (n.rd (M.PORT_MODE p))
    decide (w ≠ 0) && (p % w != 0 || (List.range (w - 1)).any (fun k => n.rd (M.PORT_MODE (p + k + 1)) != 0)))
    (fun p => failAt St.TXN_PORT_OVERLAP (M.PORT_MODE p)) (List.range 256)

/-- Check 3 (R388). -/
def checkLimits (n : Dev) : Option CheckFail :=
  firstBad (fun id => decide (n.rd id < 10496)) (failAt St.TXN_LIMIT_FLOOR)
    ((List.range 2048).flatMap (fun k => [M.BUF_INGRESS_LIMIT (k / 8) (k % 8), M.BUF_EGRESS_LIMIT (k / 8) (k % 8)]))

/-- Check 4 (R395). -/
def checkPool3 (n : Dev) : Option CheckFail := if n.poolCount 3 < 16 then failAt St.TXN_POOL3_FLOOR (M.POOL_SHARE 3) else none

/-- Whether a port's gate list closes its cycle (R417). -/
def Dev.gateClosed (n : Dev) (p : Nat) : Bool :=
  let es := n.gateList p
  (es.map Prod.snd).sum == n.gateCycle p && es.all (fun e => e.2 != 0) && decide (n.rd (M.TT_GATE_BASE p) < n.gateCycle p)

/-- Check 5 (R417). -/
def checkGates (n : Dev) : Option CheckFail :=
  firstBad (fun p => n.on (M.TT_GATE_ENABLE p) && !n.gateClosed p) (fun p => failAt St.TXN_GATE_CYCLE (M.TT_GATE_ENABLE p)) (List.range 256)

/-! ## Checks 6 to 8 -/

/-- Check 6 (R229, R235): the parts of a joined entry are born together, and die together. -/
def checkJoin (d n : Dev) : Option CheckFail :=
  firstBad (fun (o : StagedOp) =>
    let parts := profileParts (n.rd (M.TCAM_BANK_PROFILE (tcamBank o.index)))
    let group := (List.range parts).map (o.index - o.index % parts + ·)
    let staged (i op : Nat) : Bool := d.txn.ops.any (fun x => x.table == 3 && x.index == i && x.op == op)
    o.table == 3 && !(if o.op = 5 then group.all (fun i => staged i 5 || !(d.tcamAt i).valid) else group.all (fun i => staged i 2)))
    (failOp St.TXN_TCAM_JOIN) d.txn.ops

/-- Check 7 (R153, R415, R426): references of subscribers, subscriber ranges and classifier entries. -/
def checkReferences (d n : Dev) : Option CheckFail :=
  let subs := d.newSubs
  (firstBad (fun (e : Nat × Nat) => !svcValid (n.service (subService e.2)) || decide (1048576 < subQueueFirst e.2 + subQueueCount e.2))
    (fun e => failAt St.TXN_REFERENCE (6 * 2 ^ 24 + e.1)) subs).orElse (fun _ =>
  (firstBad (fun k =>
      let v := n.ale (0x0855A000 + 16 * k) 16
      let last := (fld v 78 25 - 1) / 2 ^ fld v 72 6
      bitOf v 127 && (List.range (last + 1)).any (fun j => decide (fld v 55 17 + j ≤ 131071) && !subs.any (fun e => e.1 == fld v 55 17 + j)))
    (fun _ => failOpen St.TXN_REFERENCE) (List.range 64)).orElse (fun _ =>
  firstBad (fun (e : Nat × Nat) => (resLb e.2 && !bitOf (d.newRow 8 (resVservice e.2)) 511) || (resNat e.2 && !bitOf (n.natPool (resPool e.2)) 127))
    (fun e => failAt St.TXN_REFERENCE (3 * 2 ^ 24 + e.1)) d.newHeads))


/-- MAC and VLAN of a staged layer-2 operation. -/
def StagedOp.station (o : StagedOp) : Nat × Nat := let v := leAt o.key 0 8; (v % 2 ^ 48, fld v 48 12)

/-- Room for one born entry is reserved (R153 check 8); `none` where there is none. -/
def reserveOp (d : Dev) (o : StagedOp) : Option Dev :=
  if o.op = 5 then some d
  else if o.table = 4 then
    (let cost := lpmUnits (lpmV6 o.data) (lpmPlen o.data)
     if 1572864 < d.lpmUsed + d.txn.reservedUnits + cost then none
     else some { d with txn := { d.txn with reservedUnits := d.txn.reservedUnits + cost } })
  else if o.table = 5 then
    (o.pipes d).foldl (fun (acc : Option Dev) p => acc.bind (fun d =>
      (d.l2Take p o.station.1 o.station.2).map (fun i => { d with txn := { d.txn with reservedPlaces := d.txn.reservedPlaces ++ [(p, i)] } }))) (some d)
  else if o.table = 9 ∧ bitOf (leVal o.data) 255 = true then
    (if d.memberRoom 1 o.index then some { d with txn := { d.txn with reservedBlocks := d.txn.reservedBlocks ++ [o.index / 64 + 1048576] } } else none)
  else some d

/-- Check 8: room for every born entry, in the order staged. -/
def reserveAll (d : Dev) (os : List StagedOp) : Except StagedOp Dev :=
  match os with
  | [] => .ok d
  | o :: r => match reserveOp d o with
    | some d => reserveAll d r
    | none => .error o

/-! ## Check 9 -/

/-- FEC codes allowed in a mode (R194, R195). -/
def fecAllowed (mode fec : Nat) : Bool :=
  fec == 0 || (match mode with
    | 0 => true
    | 1 => fec == 1 || fec == 2
    | 2 => fec == 1 || fec == 2 || fec == 3
    | 4 => fec == 1 || fec == 3
    | _ => fec == 4)

/-- The rules of one port (R195, R210, R220, R389, R415). -/
def portRule (n : Dev) (p : Nat) : Option CheckFail :=
  let mode := n.rd (M.PORT_MODE p)
  let lossless := n.rd (M.PORT_LOSSLESS p)
  let head := n.rd (M.PORT_PFC_HEADROOM p)
  if fecAllowed mode (n.rd (M.PORT_FEC p)) = false then failAt St.INCONSISTENT (M.PORT_FEC p)
  else if n.on (M.PORT_LPI_ENABLE p) ∧ ([1, 2, 4].contains mode = false ∨ n.on (M.TT_GATE_ENABLE p) = true) then failAt St.INCONSISTENT (M.PORT_LPI_ENABLE p)
  else if lossless ≠ 0 ∧ n.rd (M.PORT_FC_MODE p) = 0 then failAt St.INCONSISTENT (M.PORT_LOSSLESS p)
  else if head < 20992 then failAt St.INCONSISTENT (M.PORT_PFC_HEADROOM p)
  else if n.rd (M.TT_PORT_BURST p) < 160 then failAt St.INCONSISTENT (M.TT_PORT_BURST p)
  else firstBad (fun c => bitOf lossless c && decide (n.rd (M.BUF_INGRESS_LIMIT p c) < 2 * head + 10496))
    (fun c => failAt St.INCONSISTENT (M.BUF_INGRESS_LIMIT p c)) (List.range 8)

/-- Whether two of a list of half-open ranges overlap. -/
def overlaps (rs : List (Nat × Nat)) : Bool :=
  match rs with
  | [] => false
  | a :: r => r.any (fun b => decide (a.1 < b.2) && decide (b.1 < a.2)) || overlaps r

/-- The endpoint ranges (R323). -/
def endpointRangesOk (n : Dev) : Bool :=
  let vs := ((List.range 64).map (fun k => n.ale (0x08250000 + 32 * k) 32)).filter (fun v => bitOf v 255)
  let span (v : Nat) : Nat × Nat := (fld v 112 128, fld v 112 128 + fld v 63 25 * 2 ^ fld v 247 7)
  !overlaps ((vs.filter (fun v => !bitOf v 254)).map span) && !overlaps ((vs.filter (fun v => bitOf v 254)).map span) &&
    vs.all (fun v => decide (fld v 88 24 + fld v 63 25 ≤ 16777216))

/-- The NAT tables (R327). -/
def natTablesOk (n : Dev) : Bool :=
  let pools := (List.range 256).filter (fun p => bitOf (n.natPool p) 127)
  let addrs := ((List.range 4096).map n.natAddr).filter (fun v => bitOf v 63)
  let ips := addrs.map (fun v => fld v 0 32)
  decide ips.Nodup && pools.all (fun p =>
    let v := n.natPool p
    (List.range (fld v 101 13)).all (fun k => let a := n.natAddr (fld v 114 12 + k); decide (fld v 114 12 + k < 4096) && bitOf a 63 && fld a 32 8 == p) &&
      decide (poolLow v ≤ poolHigh v) && (bitOf v 126 || decide (2 ^ poolBlockLog v ≤ poolHigh v + 1 - poolLow v)))

/-- The timetable (R415): subscribers, services, and no queue covered twice. -/
def timetableRule (d n : Dev) : Option CheckFail :=
  let subs := d.newSubs
  (firstBad (fun (e : Nat × Nat) =>
      let cir := fld e.2 443 24
      let pir := fld e.2 419 24
      (cir != 0 && pir != 0 && decide (pir < cir)) || (cir != 0 && decide (fld e.2 403 16 < 160)) || (pir != 0 && decide (fld e.2 387 16 < 160)) ||
        subs.any (fun o => o.1 != e.1 && decide (subQueueFirst o.2 < subQueueFirst e.2 + subQueueCount e.2) &&
          decide (subQueueFirst e.2 < subQueueFirst o.2 + subQueueCount o.2)))
    (fun e => failAt St.INCONSISTENT (6 * 2 ^ 24 + e.1)) subs).orElse (fun _ =>
  firstBad (fun i => let v := n.service i; svcValid v && svcRate v != 0 && decide (svcBurst v < 160)) (fun _ => failOpen St.INCONSISTENT) (List.range 4096))

/-- The subscriber ranges (R426). -/
def subRangesOk (n : Dev) : Bool :=
  let vs := ((List.range 64).map (fun k => n.ale (0x0855A000 + 16 * k) 16)).filter (fun v => bitOf v 127)
  !overlaps (vs.map (fun v => (fld v 103 24, fld v 103 24 + fld v 78 25))) &&
    vs.all (fun v => decide (fld v 55 17 + (fld v 78 25 - 1) / 2 ^ fld v 72 6 ≤ 131071))

/-- Families of services and members of the new edition (R334). -/
def lbFamilyRule (d : Dev) : Option CheckFail :=
  firstBad (fun i =>
    let m := d.newRow 9 i
    let v := d.newRow 8 (i / 1024)
    bitOf m 255 && bitOf v 511 && !memberOf (bitOf v 510) m)
    (fun i => failAt St.INCONSISTENT (9 * 2 ^ 24 + i % 2 ^ 24)) (d.newIndices 9)

/-- Pool shares (R395). -/
def poolRule (d n : Dev) : Option CheckFail :=
  if 256 < ([1, 2, 3, 4].map (fun p => n.rd (M.POOL_SHARE p))).sum then failAt St.INCONSISTENT (M.POOL_SHARE 1)
  else firstBad (fun p => n.rd (M.POOL_SHARE p) != d.rd (M.POOL_SHARE p) && d.txn.heldPools.contains p)
    (fun p => failAt St.INCONSISTENT (M.POOL_SHARE p)) [1, 2, 3, 4]

/-- Check 9: every other rule given with a member. -/
def checkRules (d n : Dev) : Option CheckFail :=
  let vlan := if beAt (n.aread 0x08370000 16) 12 2 % 4096 = 0 then 0 else 4
  ((List.range 256).findSome? (portRule n)).orElse (fun _ =>
  (firstBad (fun b => n.rd (M.TCAM_BANK_PROFILE b) != d.rd (M.TCAM_BANK_PROFILE b) && !(rowsIn d.tabs tTcam 0 0 (b * 4096) (b * 4096 + 4096)).isEmpty)
    (fun b => failAt St.INCONSISTENT (M.TCAM_BANK_PROFILE b)) (List.range 8)).orElse (fun _ =>
  (if endpointRangesOk n then none else failOpen St.INCONSISTENT).orElse (fun _ =>
  (if natTablesOk n then none else failOpen St.INCONSISTENT).orElse (fun _ =>
  (poolRule d n).orElse (fun _ =>
  (timetableRule d n).orElse (fun _ =>
  (if subRangesOk n then none else failOpen St.INCONSISTENT).orElse (fun _ =>
  (lbFamilyRule d).orElse (fun _ =>
  (if n.rd (M.PORT_MAX_FRAME (n.rd M.EXPORT_PORT)) < n.rd M.EXPORT_MSG_BYTES + 46 + vlan then failAt St.INCONSISTENT M.EXPORT_MSG_BYTES else none).orElse (fun _ =>
  firstBad (fun id => n.on M.BUDDY_ENABLE && decide (n.rd (M.PORT_MAX_FRAME (n.rd id)) < 9216)) (failAt St.INCONSISTENT) [M.BUDDY_PORT_0, M.BUDDY_PORT_1])))))))))

/-- Validation (R153): the first check that fails, or the device with the room reserved. -/
def validate (d : Dev) : Except CheckFail Dev :=
  let n := d.withStaged
  let early := (checkLessons n).orElse (fun _ => (checkPorts n).orElse (fun _ => (checkLimits n).orElse (fun _ => (checkPool3 n).orElse (fun _ =>
    (checkGates n).orElse (fun _ => (checkJoin d n).orElse (fun _ => checkReferences d n))))))
  match early with
  | some f => .error f
  | none =>
    match reserveAll d d.txn.ops with
    | .error o => match failOp St.FULL o with
      | some f => .error f
      | none => .ok d
    | .ok e => match checkRules d n with
      | some f => .error f
      | none => .ok e

end Sys2Proof.Machine
end

