-- ==== Sys2Proof/Machine/Txn.lean ====
section
/-!
DEFINITION. Transactions and editions (R145 to R173): the triggers, staging, prepare, the flip, retirement, settle,
rollback and abort.
-/
namespace Sys2Proof.Machine

/-! ## Staging (R149 to R151) -/

/-- The staged value of a member. -/
def Txn.member (t : Txn) (id : Nat) : Option W64 := SMap.get (fun _ => none) t.members id

/-- A write of a member by the owner of the open transaction (R149, R151). -/
def stageMember (id v : Nat) (d : Dev) : Nat × Dev :=
  if (d.txn.member id).isNone ∧ 4096 ≤ d.txn.members.length then (St.TXN_STAGE_FULL, d) else
  let ms := SMap.set (fun _ => none) d.txn.members id (some (BitVec.ofNat 64 v))
  (St.OK, { d.wr M.TXN_STAGED_OBJECTS ms.length with txn := { d.txn with members := ms, idleLessons := 0 } })

/-- A write of a staged block area by the owner (R151). -/
def stageArea (a : Nat) (bs : Bytes) (d : Dev) : Dev :=
  let m := ((List.range bs.length).zip bs).foldl (fun m (i, b) => SMap.set (fun _ => none) m (a + i) (some b)) d.txn.areas
  { d with txn := { d.txn with areas := m, idleLessons := 0 } }

/-! ## Ends -/

/-- The transaction is gone: the staged set is discarded, and nothing stays reserved or resizing (R153, R158, R395). -/
def txnClear (d : Dev) : Dev :=
  let t := d.txn
  let d := { d with txn := { t with state := .idle, members := [], areas := [], ops := [], toPrepare := [], undo := [], byTrigger := false, idleLessons := 0,
                                    passed := false, reservedUnits := 0, reservedPlaces := [], reservedBlocks := [] },
                    switch := { d.switch with nextRows := [] }, pools := { d.pools with resizing := [] } }
  ((d.wr M.TXN_OWNER 0).wr M.TXN_STAGED_OBJECTS 0).wr M.TXN_STAGED_ENTRIES 0

/-- A rollback ends (R158): ST_OK for TXN_ROLLBACK, ST_TXN_ABORTED for an abort (R159). -/
def rollbackEnd (d : Dev) (byTrigger : Bool) : Dev :=
  let d := txnClear d
  if byTrigger then (d.wr M.TXN_STATUS St.OK).bump M.CNT_TXN_ROLLBACK else (d.wr M.TXN_STATUS St.TXN_ABORTED).bump M.CNT_TXN_ABORT

/-- Rollback or abort begins (R158, R159): from OPEN it ends at once, and later it waits for item 4. -/
def rollbackBegin (d : Dev) (byTrigger : Bool) : Dev :=
  match d.txn.state with
  | .idle | .rollingBack => d
  | .opened => rollbackEnd d byTrigger
  | _ => { d with txn := { d.txn with state := .rollingBack, byTrigger, toPrepare := [], passed := false } }

/-- The device aborts the transaction (R159). -/
def txnAbort (d : Dev) : Dev := rollbackBegin d false

/-- The abort of a data-path restart, which clears the tables itself: ROLLING_BACK ends at once (R159). -/
def txnAbortNow (d : Dev) : Dev :=
  match d.txn.state with
  | .idle => d
  | .rollingBack => rollbackEnd d d.txn.byTrigger
  | _ => rollbackEnd d false

/-! ## Triggers (R147, R148) -/

/-- TXN_BEGIN (R147). -/
def txnBegin (who : Principal) (_ : Nat) (d : Dev) : Nat × Dev :=
  if d.txn.state ≠ .idle then (if d.rd M.TXN_OWNER = who.owner then St.BUSY else St.TXN_HELD, d) else
  let d := ((d.wr M.TXN_OWNER who.owner).wr M.TXN_STATUS St.OK).wr M.TXN_PREPARED_ENTRIES 0
  (St.OK, { d with txn := { d.txn with state := .opened, idleLessons := 0 } })

/-- What R148 answers to a commit or rollback by a principal where `ok` says whether the state takes it. -/
def txnJudge (who : Principal) (d : Dev) (ok : Bool) : Nat :=
  if d.txn.state = .idle then St.NO_TXN
  else if d.rd M.TXN_OWNER ≠ who.owner then St.TXN_NOT_OWNER
  else if ok then St.OK else St.NO_TXN

/-- Pools whose share the transaction changes (R395). -/
def stagedPools (d : Dev) : List Nat :=
  [1, 2, 3, 4].filter (fun p => match d.txn.member (M.POOL_SHARE p) with | some v => v.toNat != d.rd (M.POOL_SHARE p) | none => false)

/-- TXN_COMMIT (R148, R153): validation starts. -/
def txnCommit (who : Principal) (_ : Nat) (d : Dev) : Nat × Dev :=
  let st := txnJudge who d (decide (d.txn.state = .opened))
  if st ≠ St.OK then (st, d) else
  let held := [1, 2, 3, 4].filter (fun p => !(d.granted p).isEmpty)
  (St.OK, { d.wr M.TXN_STATUS St.PENDING with
    txn := { d.txn with state := .validating, passed := false, heldPools := held }
    pools := { d.pools with resizing := stagedPools d } })

/-- TXN_ROLLBACK (R148, R158, R160). -/
def txnRollback (who : Principal) (_ : Nat) (d : Dev) : Nat × Dev :=
  let st := txnJudge who d (decide (d.txn.state ≠ .rollingBack))
  if st ≠ St.OK then (st, d) else (St.OK, rollbackBegin d true)

/-- TXN_VALIDATION_DONE (R153). -/
def txnValidationDone (d : Dev) : Dev :=
  if d.txn.state ≠ .validating ∨ d.txn.passed = true then d else
  match validate d with
  | .ok e => { e with txn := { e.txn with passed := true } }
  | .error f =>
    let (x, d) := if f.spread = 1 then (0, d) else d.fresh
    (((txnClear d).wr M.TXN_STATUS f.code).wr M.TXN_FAIL_ID (f.base + x % f.spread)).bump M.CNT_TXN_FAIL

/-- TXN_IDLE_ABORT (R159): TXN_IDLE_LIMIT lessons have passed in OPEN without a staged write. -/
def txnIdleAbort (d : Dev) : Dev :=
  let lim := d.rd M.TXN_IDLE_LIMIT
  if d.txn.state = .opened ∧ lim ≠ 0 ∧ lim ≤ d.txn.idleLessons then txnAbort d else d

/-- A lesson more in OPEN. -/
def txnLesson (d : Dev) : Dev :=
  if d.txn.state = .opened then { d with txn := { d.txn with idleLessons := d.txn.idleLessons + 1 } } else d

/-! ## Prepare (R154, R166, R167) -/

/-- A change that rollback can undo (R158). -/
def Dev.noteUndo (d : Dev) (u : Undo) : Dev := { d with txn := { d.txn with undo := u :: d.txn.undo } }

/-- A row of any table with editions is stored; a TCAM part in every copy and shadow (R239). -/
def putRow (d : Dev) (k : Nat) (r : Option Row) : Dev := if rowTable k = tTcam then tcamPut d (rowIndex k) r else d.setRow k r

/-- The row at a key is marked dying after the current edition (R154). -/
def markDying (d : Dev) (k : Nat) : Dev :=
  match d.row k with
  | some r =>
    if r.valid then (putRow d k (some { r with win := { r.win with last := some (d.rd M.EDITION_CURRENT % 4) } })).noteUndo (.dying k r.win) else d
  | none => d

/-- A row born in the next edition (R154). -/
def bornRow (d : Dev) (k : Nat) (data : Bytes) : Dev :=
  (putRow d k (some { data, win := { first := some ((d.rd M.EDITION_CURRENT + 1) % 4), last := none }, valid := true })).noteUndo (.born k)

/-- A trie operation (R154). -/
def prepareLpm (d : Dev) (o : StagedOp) : Dev :=
  let seen := d.lpmSeen o.key
  let d := if o.op = 5 then d else
    let cost := lpmUnits (lpmV6 o.data) (lpmPlen o.data)
    let d := { d with txn := { d.txn with reservedUnits := d.txn.reservedUnits - cost } }
    bornRow d (rowKey tLpm 0 0 (d.lpmFree o.data)) (lpmStored o.data)
  match seen with
  | some (i, _) => markDying d (rowKey tLpm 0 0 i)
  | none => d

/-- A layer-2 operation in one pipe (R154): the born entry takes the place reserved for it. -/
def prepareL2 (o : StagedOp) (d : Dev) (p : Nat) : Dev :=
  let c := d.rd M.EDITION_CURRENT
  let seen := l2Lookup d.tabs c c p o.station.1 o.station.2
  let d := if o.op = 5 then d else
    match d.txn.reservedPlaces.find? (fun x => x.1 == p && (l2Places o.station.1 o.station.2).contains x.2) with
    | some x => bornRow { d with txn := { d.txn with reservedPlaces := d.txn.reservedPlaces.erase x } } (rowKey tL2 0 p x.2) (l2Stored o.data)
    | none => d
  match seen with
  | some (i, _) => markDying d (rowKey tL2 0 p i)
  | none => d

/-- A service or member operation (R154): the born version stands beside the row it replaces. -/
def prepareLb (d : Dev) (o : StagedOp) : Dev :=
  let old := leVal (d.rowAt o.table 0 o.index).data
  let gone := o.op == 5 || !bitOf (leVal o.data) (if o.table = 8 then 511 else 255)
  let d := if gone then d else
    let d := { d with txn := { d.txn with reservedBlocks := d.txn.reservedBlocks.erase (o.index / 64 + 1048576) } }
    bornRow d (rowKey o.table 1 0 o.index) (if o.table = 8 then vsStored old o.data else lbStored old o.data)
  markDying d (rowKey o.table 0 0 o.index)

/-- One staged operation is applied (R154). -/
def prepareOp (d : Dev) (o : StagedOp) : Dev :=
  let d := d.bump M.TXN_PREPARED_ENTRIES
  if o.table = 3 then
    (if o.op = 5 then markDying d (rowKey tTcam 0 0 o.index)
     else if partValid o.data then bornRow d (rowKey tTcam 0 0 o.index) (tcamStored o.data)
     else d)
  else if o.table = 4 then prepareLpm d o
  else if o.table = 5 then (o.pipes d).foldl (prepareL2 o) d
  else if o.table = 6 ∨ o.table = 7 then
    { d with switch := { d.switch with nextRows := SMap.set (fun _ => none) d.switch.nextRows (rowKey o.table 0 0 o.index) (some o.data) } }
  else prepareLb d o

/-! ## Settle, rollback and item 4 (R158, R165) -/

/-- One settle operation of the current edition: the row at a key, by its window (R165). -/
def settleRow (d : Dev) (k : Nat) : Dev :=
  let c := d.rd M.EDITION_CURRENT
  match d.row k with
  | some r =>
    if r.valid = false then d
    else if r.win.last = some ((c + 3) % 4) then putRow d k (some { r with valid := false, win := Window.stable })
    else if r.win.first = some (c % 4) ∧ r.win.last = none then
      (if rowVersion k = 1 then (putRow d k none).setRow (rowKey (rowTable k) 0 0 (rowIndex k)) (some { r with win := Window.stable })
       else putRow d k (some { r with win := Window.stable }))
    else d
  | none => d

/-- The rows that settle has to look at. -/
def settleRows (d : Dev) : List Nat :=
  let c := d.rd M.EDITION_CURRENT
  (d.tabs.filter (fun (e : Nat × Option Row) => match e.2 with
    | some r => r.valid && (decide (r.win.last = some ((c + 3) % 4)) || (decide (r.win.first = some (c % 4)) && r.win.last.isNone))
    | none => false)).map Prod.fst

/-- One operation of a rollback (R158). A row whose settle has finished meanwhile is stable again. -/
def undoOne (d : Dev) (u : Undo) : Dev :=
  match u with
  | .born k => putRow d k (match d.row k with | some r => some { r with valid := false, win := Window.stable } | none => none)
  | .dying k was =>
    let settled := was.first.isSome && !d.on M.EDITION_DRAIN_VALID && !d.txn.settling
    let d := match d.row k with
      | some r => putRow d k (some { r with win := if settled then Window.stable else was })
      | none => d
    if d.txn.settling then { d with txn := { d.txn with settle := d.txn.settle ++ [k] } } else d

/-- Settle for up to `n` operations: what is left of the budget. -/
def settleRun (n : Nat) (d : Dev) : Nat × Dev :=
  match n with
  | 0 => (0, d)
  | n + 1 =>
    match d.txn.settle with
    | [] => (n + 1, { d with txn := { d.txn with settling := false } })
    | k :: r => settleRun n (settleRow { d with txn := { d.txn with settle := r, settling := !r.isEmpty } } k)

/-- Prepare for up to `n` operations (R154). -/
def prepareRun (n : Nat) (d : Dev) : Dev :=
  match d.txn.toPrepare with
  | [] => { d with txn := { d.txn with state := .prepared } }
  | o :: r =>
    match n with
    | 0 => d
    | n + 1 => prepareRun n (prepareOp { d with txn := { d.txn with toPrepare := r } } o)

/-- Rollback for up to `n` operations (R158). -/
def undoRun (n : Nat) (d : Dev) : Dev :=
  match d.txn.undo with
  | [] => rollbackEnd d d.txn.byTrigger
  | u :: r =>
    match n with
    | 0 => d
    | n + 1 => undoRun n (undoOne { d with txn := { d.txn with undo := r } } u)

/-- Item 4 of a period (R39, R154, R158, R165): settle first, then prepare or rollback, `n` of its 64 operations. -/
def txnItem (n : Nat) (d : Dev) : Dev :=
  let (left, d) := settleRun n d
  match d.txn.state with
  | .preparing => prepareRun left d
  | .rollingBack => undoRun left d
  | _ => d

/-! ## The bell's item 1 (R155 to R157, R163, R164) -/

/-- Packets in flight with an edition (R163). -/
def Dev.inflight (d : Dev) (e : Nat) : Nat := (d.descs.filter (fun x => x.edition == e)).length

/-- The draining edition retires, and settle of the current one starts (R163, R165). -/
def retire (d : Dev) : Dev :=
  if d.on M.EDITION_DRAIN_VALID ∧ d.inflight (d.rd M.EDITION_DRAINING) = 0 then
    let rows := settleRows d
    { d.wr M.EDITION_DRAIN_VALID 0 with txn := { d.txn with settle := rows, settling := !rows.isEmpty } }
  else d

/-- A tag of a packet re-stamped under R164 (R547). -/
def markRestamped (t : Tag) : Tag := { t with bits := setFld t.bits 379 1 1 }

/-- Packets stamped more than 4,096 periods ago are stamped afresh (R164), and their tags say so (R547). -/
def restamp (now : BellSt) (d : Dev) : Dev :=
  let old (x : Desc) : Bool := decide (4096 < (now.period.toNat + 2 ^ 32 - x.stamp % 2 ^ 32) % 2 ^ 32)
  let e := d.rd M.EDITION_CURRENT
  let n := (d.descs.filter old).length
  { d.addTo M.CNT_EDITION_RESTAMP n with
    descs := d.descs.map (fun (x : Desc) => if old x then { x with edition := e, dgen := d.genOf e, stamp := now.period.toNat, tag := x.tag.map markRestamped } else x) }

/-- A pool is laid out afresh (R395); a quarantined buffer stays so until the next data-path start (R402). -/
def relayPool (d : Dev) (p : Nat) : Dev :=
  { d with pools := { d.pools with bufs := SMap.clear d.pools.bufs (fun k => k / 2 ^ 24 == p)
                                   badWords := d.pools.badWords.filter (fun k => k / 2 ^ 24 != p) } }

/-- A row of the timetable takes its next configuration (R412, R425): runtime fields are kept, and a subscriber's buckets, brought
up to date at the old rates, count from the flip on (R416). -/
def flipRow (now : BellSt) (d : Dev) (e : Nat × Option Bytes) : Dev :=
  match e.2 with
  | none => d
  | some data =>
    let i := rowIndex e.1
    let t := rowTable e.1
    let d := if t = 6 then refillSub now.period.toNat now.period.toNat d i else d
    let old := leVal (d.rowAt t 0 i).data
    d.setRow e.1 (some { data := if t = 6 then toLE 64 (setFld (subStored old data) 288 32 now.period.toNat) else toLE 16 (queueFlipped old data), win := Window.stable, valid := true })

/-- Ports whose mode changes or that are disabled go down (R197, R390), a port whose PORT_LPI_ENABLE is clear sends no LPI
(R210), a class that is no longer lossless is no longer paused (R389, log 248), the held cells are judged by the new limits (R389),
and the gates are those of the new lists (R417). -/
def flipPorts (now : BellSt) (was : Dev) (d : Dev) : Dev :=
  let d := (List.range 256).foldl (fun d p =>
    if d.rd (M.PORT_MODE p) ≠ was.rd (M.PORT_MODE p) ∨ (d.on (M.PORT_ADMIN p) = false ∧ was.on (M.PORT_ADMIN p)) then portDown now d p else d) d
  let d := { d with
    ports := { d.ports with lpi := d.ports.lpi.filter (fun p => d.on (M.PORT_LPI_ENABLE p)) }
    switch := { d.switch with xoff := d.switch.xoff.filter (fun x => d.losslessOn (x.1 / 8) (x.1 % 8)) } }
  let d := (d.switch.ingress.map Prod.fst).foldl (fun d k => pfcCheck now d (k / 8) (k % 8)) d
  ((List.range 256).filter (fun p => d.on (M.TT_GATE_ENABLE p) || was.on (M.TT_GATE_ENABLE p))).foldl
    (fun d p => gateEntryChange p now.time.toNat d) d

/-- The selectors of a commit (R169): a new generation, its set kept for 16, and the selectors back at NONE. -/
def flipSelectors (d : Dev) : Dev :=
  let sels := (List.range 16).map (fun k => d.rd (M.REDECIDE_SEL k))
  if sels.all (fun s => fld s 60 4 == 0) then d else
  let d := d.wr M.DECISION_GEN ((d.rd M.DECISION_GEN + 1) % 65536)
  let d := { d with txn := { d.txn with selectors := (sels :: d.txn.selectors).take 16 } }
  (List.range 16).foldl (fun d k => d.wr (M.REDECIDE_SEL k) 0) d

/-- Shapers and meters whose settings the flip changes are brought up to date at their old rates and count at the new ones from
the flip bell on (R416). -/
def flipRates (now : BellSt) (was d : Dev) : Dev :=
  let t := now.period.toNat
  let d := ((List.range 4096).filter (fun i => d.service i != was.service i)).foldl
    (fun d i => d.setSvcShaper i { (refillService t t was i).svcShaper i with last := t }) d
  let d := ((List.range 256).filter (fun p => d.rd (M.TT_PORT_RATE p) != was.rd (M.TT_PORT_RATE p))).foldl
    (fun d p => d.setPortShaper p { (refillPort t t was p).portShaper p with last := t }) d
  ((List.range 256).filter (fun k => d.profile k != was.profile k)).foldl (fun d k =>
    (List.range 256).foldl (fun d j =>
      let m := k * 256 + j
      d.setMeter m { (refillMeter t t was m).meter m with last := t }) d) d

/-- The flip (R156, R157, R416): `now` is the period that the bell opens. -/
def flip (now : BellSt) (d : Dev) : Dev :=
  let was := d
  let c := was.rd M.EDITION_CURRENT
  let next := (c + 1) % 256
  let gen := was.rd M.DECISION_GEN
  let d := flipSelectors (was.withStaged)
  let d := { d with roll := { d.roll with genOf := SMap.put (SMap.put d.roll.genOf (c % 4) gen) (next % 4) (d.rd M.DECISION_GEN) } }
  let d := d.switch.nextRows.foldl (flipRow now) d
  let d := flipRates now was d
  let d := [1, 2, 3, 4].foldl (fun d p => if d.rd (M.POOL_SHARE p) ≠ was.rd (M.POOL_SHARE p) then relayPool d p else d) d
  let d := flipPorts now was d
  let d := if d.rd M.EXPORT_MODE ≠ was.rd M.EXPORT_MODE then sendTemplates now d else d
  let d := (((d.wr M.EDITION_CURRENT next).wr M.EDITION_DRAINING c).wr M.EDITION_DRAIN_VALID 1).wr M.EDITION_FLIP_PERIOD now.period.toNat
  ((txnClear d).wr M.TXN_STATUS St.OK).bump M.CNT_TXN_COMMIT |>.bump M.CNT_FLIP

/-- A prepared transaction at a bell: flipped or held (R155). -/
def flipOrHold (now : BellSt) (d : Dev) : Dev :=
  if d.txn.state ≠ .prepared then d
  else if d.on M.EDITION_DRAIN_VALID = false ∧ d.txn.settling = false then flip now d
  else d.bump M.CNT_FLIP_HELD

/-- A validated transaction starts to prepare (R146). -/
def prepareStart (d : Dev) : Dev :=
  if d.txn.state = .validating ∧ d.txn.passed = true then { d with txn := { d.txn with state := .preparing, toPrepare := d.txn.ops } } else d

/-- Item 1 of R39 for editions: re-stamps, retirement, the flip, and the start of prepare. -/
def editionBell (now : BellSt) (d : Dev) : Dev := prepareStart (flipOrHold now (retire (restamp now d)))

/-! ## Commands -/

/-- TXN_BEGIN (R147). -/
def execTxnBegin (a : Acc) (s : State) : Host.Outcome State Fault Refusal :=
  s.onDev (fun _ d => (d.trigger a M.TXN_BEGIN (txnBegin a.who)).2)

/-- TXN_COMMIT (R148). -/
def execTxnCommit (a : Acc) (s : State) : Host.Outcome State Fault Refusal :=
  s.onDev (fun _ d => (d.trigger a M.TXN_COMMIT (txnCommit a.who)).2)

/-- TXN_ROLLBACK (R158). -/
def execTxnRollback (a : Acc) (s : State) : Host.Outcome State Fault Refusal :=
  s.onDev (fun _ d => (d.trigger a M.TXN_ROLLBACK (txnRollback a.who)).2)

/-- TXN_VALIDATION_DONE (R153). -/
def execTxnValidationDone (s : State) : Host.Outcome State Fault Refusal :=
  s.onDie (fun _ d => txnValidationDone d)

/-- TXN_IDLE_ABORT (R159). -/
def execTxnIdleAbort (s : State) : Host.Outcome State Fault Refusal :=
  s.onDie (fun _ d => txnIdleAbort d)

end Sys2Proof.Machine
end

