-- ==== Sys2Proof/Machine/Reading.lean ====
section
/-!
DEFINITION. What reads of the dictionary return (R116, R117, R120 to R122, R128 to R130, R482): members that units hold
or that count what is held, the block areas, and the addresses of BAR0.
-/
namespace Sys2Proof.Machine

/-! ## Members that a unit holds, or that count (R47, R58, R91, R115, R172, R220, R264, R295, R350 to R353, R380 to R382, R404) -/

def StartState.code : StartState → Nat
  | .mainOff => 0 | .starting => 1 | .hold => 2 | .ready => 3 | .restarting => 4 | .recess => 5 | .failed => 6

def RecessState.code : RecessState → Nat
  | .awake => 0 | .entering => 1 | .recess => 2 | .waking => 3

def TxnState.code : TxnState → Nat
  | .idle => 0 | .opened => 1 | .validating => 2 | .preparing => 3 | .prepared => 4 | .rollingBack => 5

def BuddyMode.code : BuddyMode → Nat
  | .off => 0 | .joining => 1 | .syncing => 2 | .paired => 3 | .alone => 4

def BellState.code : BellState → Nat
  | .off => 0 | .prestart => 1 | .run => 2

/-- TUTOR_STATE (R380). -/
def Tutor.code (x : Tutor) : Nat := if x.offline then 3 else if x.trapping then 2 else if x.task.isSome then 1 else 0

/-- Records of the Roll of a kind. -/
def Dev.recsOf (d : Dev) (p : Nat → Bool) : Nat := ((d.roll.tags.map Prod.fst).filter (fun s => let r := d.current s; recValid r && p r)).length

/-- Rows of the trie of a family. -/
def Dev.prefixesOf (d : Dev) (v6 : Bool) : Nat := ((rowsIn d.tabs tLpm 0 0 0 1572864).filter (fun e => lpmV6 e.2.data == v6)).length

/-- The stacked SRAM and the memory regions are divided for a palette: READY has risen since the data path was initialised
(R48, R62, R98). Until then the capacity members show their defaults. -/
def Dev.divided (d : Dev) : Bool := d.on M.ROLL_SLOTS

/-- Members of instance 0 whose value is not stored as such. -/
def readOne (now : BellSt) (d : Dev) (id : Nat) : Option Nat :=
  if id = M.PERIOD_COUNT then some now.period.toNat
  else if id = M.LESSON_COUNT then some now.lesson.toNat
  else if id = M.BELL_TIME then some now.time.toNat
  else if id = M.BELL_STATE then some now.state.code
  else if id = M.START_STATE then some d.start.state.code
  else if id = M.RECESS_STATE then some d.start.recess.code
  else if id = M.TEMP_GRADE then some Config.tempGrade
  else if id = M.SERIAL then some Config.serial
  else if id = M.ISLAND_UPTIME then
    some ((d.rd M.ISLAND_UPTIME + if now.state = .off ∨ d.start.clocksStopped = true then Config.freeValue d.free else 0) % 2 ^ 64)
  else if id = M.FEATURES then some (Config.features % 512)
  else if id = M.ISLAND_FW_VERSION then some (Config.islandImageVersion (d.on M.BOOT_IMAGE))
  else if id = M.DENLYS_MAC then some (leVal (toBE 6 Config.denlysMac))
  else if id = M.TUTOR_KEY_POLICY then some (b2n Config.keyPolicyCustomerOnly)
  else if id = M.TXN_STATE then some d.txn.state.code
  else if id = M.INFLIGHT_CURRENT then some (d.inflight (d.rd M.EDITION_CURRENT))
  else if id = M.INFLIGHT_DRAINING then some (if d.on M.EDITION_DRAIN_VALID then d.inflight (d.rd M.EDITION_DRAINING) else 0)
  else if id = M.SETTLE_REMAINING then some d.txn.settle.length
  else if id = M.SESSIONS_OPEN then some (d.denlys.sessions.filter (fun e => e.2.isSome)).length
  else if id = M.KEY_SLOTS_SET then some ((List.range 3).map (fun s => b2n (SMap.get (fun _ => none) d.denlys.keys s).isSome * 2 ^ s)).sum
  else if id = M.TCAM_PARTS_USED then some (rowsIn d.tabs tTcam 0 0 0 32768).length
  else if id = M.LPM_UNITS_USED then some d.lpmUsed
  else if id = M.LPM_PREFIXES_V4 then some (d.prefixesOf false)
  else if id = M.LPM_PREFIXES_V6 then some (d.prefixesOf true)

  else if id = M.ROLL_SLOTS_USED then some (d.roll.tags.filter (fun e => e.2 != 0)).length
  else if id = M.ROLL_EXTENDED_USED then some (d.recsOf (fun r => recKind r == 1))
  else if id = M.ROLL_LINKS_USED then some (d.recsOf (fun r => recKind r == 3))

  else if id = M.FR_DIRTY then some d.dirtyLines
  else if id = M.FR_WB_USED then some d.roll.wb.length
  else if id = M.NAT_MAPS_LIVE then some (d.recsOf isMapping)
  else if id = M.LB_MEMBERS_USED then some (64 * d.memberBlocks.length)
  else if id = M.EXPORT_RING_USED then some d.exportRingUsed
  else if id = M.EXPORT_QUEUE_USED then some d.services.exportQueue.length
  else if id = M.EXPORT_NS then some d.services.exportRem
  else if id = M.BUF_CELLS then some (if d.divided then bufCells d.palette else 0)
  else if id = M.BUF_CELLS_FREE then some (if d.divided then d.cellsFree else 0)
  else if id = M.POOL_SEG_RESERVE_FREE then some d.segReserveFree
  else if id = M.TT_SUBS_VALID then some (d.validRows 6).length
  else if id = M.TT_QUEUES_VALID then some (d.validRows 7).length
  else if id = M.EVENT_QUEUE_USED then some d.rings.events.length
  else if id = M.TIME_NS then some ((now.ns.toNat + Config.freeValue d.free % 1024) % 2 ^ 32)
  else if id = M.ROLL_ZERO_PROGRESS ∧ d.start.zeroing = true then some (Config.freeValue d.free % 101)
  else if id = M.TIME_SLEW_REMAINING then some (unsgn 64 d.time.remaining)
  else if id = M.BUDDY_SIDE then some (d.rd M.STRAP_BUDDY_ROLE)
  else if id = M.BUDDY_STATE then some d.buddy.mode.code
  else if id = M.BUDDY_MIRROR_QUEUE then some d.buddy.mirror.length
  else none

/-- Members with instances whose value is not stored as such. -/
def readIn (d : Dev) (id : Nat) : Option Nat :=
  let i := id / 256 % 65536
  if id = M.L2_ENTRIES_USED i then some (rowsIn d.tabs tL2 0 i 0 524288).length
  else if id = M.ROLL_MISS_QUEUE i then some (d.pipe i).missQueue.length
  else if id = M.ROLL_CORRIDOR_USED i then some (d.corridorUsed i)
  else if id = M.TUTOR_STATE i then some (d.tutor i).code
  else if id = M.TUTOR_PC i then some (d.tutor i).pc
  else if id = M.TUTOR_TASK i then some ((d.tutor i).task.getD 0)
  else if id = M.TASK_SLOTS_FREE i then some (8192 - (d.usedSlots i).length)
  else if id = M.TASK_READY i then some (d.tutors.ready.filter (fun h => h / 8192 == i)).length
  else if id = M.TASK_RELEASE_QUEUE i then some (d.releaseQueue i)
  else if id = M.POOL_BUFFER_BYTES i then some (if d.divided then poolBytes i else 0)
  else if id = M.POOL_BUFFERS i then some (if d.divided then d.poolCount i else 0)
  else if id = M.POOL_FREE i then some (if d.divided then d.poolFree i else 0)
  else if id = M.BLOCK_PORTS_ACTIVE i then some ((List.range 8).filter (fun k => d.rd (M.PORT_MODE (8 * i + k)) != 0)).length
  else if id = M.CHK_RUNNING i ∧ d.chkState i ≠ 0 then some (chkRegSoFar d i)
  else if id = M.CHK_DONE_BYTES i ∧ d.chkState i ≠ 0 then some (chkSoFar d i)
  else if id = M.PERF_PASSES_INFLIGHT i then some (d.descs.filter (fun x => x.pipe == i && x.wait != .recirc)).length
  else none

/-- The current value of a defined member. -/
def readMember (now : BellSt) (d : Dev) (id : Nat) : Nat :=
  match readOne now d id with
  | some v => v
  | none => match readIn d id with
    | some v => v
    | none => d.rd id

/-- Whether a read of a member uses an open value: the count within the period, the island's time while no bell rings (log 17), and
the progress of zeroing and of check jobs. -/
def Dev.readsOpen (d : Dev) (id : Nat) : Bool :=
  let i := id / 256 % 65536
  id == M.TIME_NS || id == M.ISLAND_UPTIME || (id == M.ROLL_ZERO_PROGRESS && d.start.zeroing) ||
    ((id == M.CHK_RUNNING i || id == M.CHK_DONE_BYTES i) && d.chkState i != 0)

/-- What a principal reads of an ID (R120 to R122, R64, R103): status, value, and the device with refusals counted. -/
def readAs (now : BellSt) (d : Dev) (who : Principal) (id : Nat) : Nat × Nat × Dev :=
  if d.gate (id / 2 ^ 24) then (St.NOT_READY, 0, d) else
  match findMember id with
  | none => (St.NO_OBJECT, 0, d.countRefused St.NO_OBJECT)
  | some m =>
    match m.right who with
    | .none => (St.ACCESS, 0, d.countRefused St.ACCESS)
    | .x => (St.OK, 0, d)
    | _ => (St.OK, readMember now d id, if d.readsOpen id then d.fresh.2 else d)

/-! ## Block areas (R130) -/

/-- How principal K may use a block area. -/
inductive AreaUse where
  | r | rw | rws | w
  deriving DecidableEq, Repr

/-- The mapped areas: first address, bytes, use. Areas of instances are given by `instArea`. -/
def areaRows : List (Nat × Nat × AreaUse) :=
  [(0x08070000, 4096, .rw), (0x08071000, 8192, .rw), (0x08210000, 40, .rw), (0x08250000, 2048, .rws), (0x08310000, 32768, .rws),
   (0x08318000, 4096, .rws), (0x08350000, 2048, .rws), (0x08370000, 28, .rws), (0x08430000, 65536, .r), (0x08510000, 2048, .r),
   (0x08550000, 32768, .rws), (0x08558000, 8192, .rws), (0x0855A000, 1024, .rws), (0x08810000, 32768, .rw), (0x08910000, 2016, .rw),
   (0x08918000, 32768, .r), (0x08B10000, 96, .w)]

/-- The area within a stride block: ports, memory channels and tutors. -/
def instArea (a : Nat) : Option AreaUse :=
  if 0x02000000 ≤ a ∧ a < 0x02400000 then
    (let o := a % 0x4000
     if 0x800 ≤ o ∧ o < 0x840 then some .rws
     else if 0x1800 ≤ o ∧ o < 0x2800 then (if o % 256 < 0x92 then some .rw else some .r)
     else if 0x2800 ≤ o ∧ o < 0x3000 then some .rws else none)
  else if 0x05000000 ≤ a ∧ a < 0x05100000 then (if 0x800 ≤ a % 0x10000 ∧ a % 0x10000 < 0x88C then some .r else none)
  else if 0x06000000 ≤ a ∧ a < 0x06100000 then (if 0x1000 ≤ a % 0x4000 ∧ a % 0x4000 < 0x3000 then some .r else none)
  else none

/-- The use of the block-area byte at an address; `none` where nothing is mapped. -/
def areaUse (a : Nat) : Option AreaUse :=
  match instArea a with
  | some u => some u
  | none => (areaRows.find? (fun x => decide (x.1 ≤ a) && decide (a < x.1 + x.2.1))).map (fun x => x.2.2)

/-- One byte of a block area as a read returns it: views of the trace, the tags and the tutors' local memory; key slots
read zero (R185). -/
def areaRead (d : Dev) (a : Nat) : Byte :=
  if 0x08430000 ≤ a ∧ a < 0x08440000 then
    (let o := a - 0x08430000
     toByte (SMap.get zeroAt d.tutors.trace (d.rd M.TASK_TRACE_PIPE * 4096 + o / 16) / 256 ^ (o % 16)))
  else if 0x08918000 ≤ a ∧ a < 0x08920000 then
    (let o := a - 0x08918000
     toByte (SMap.get zeroAt d.perf.tags (d.rd M.PERF_TAG_VIEW_PIPE * 4096 + (d.rd M.PERF_TAG_VIEW_BASE + o / 64) % 4096) / 256 ^ (o % 64)))
  else if 0x06000000 ≤ a ∧ a < 0x06100000 then Memory.read (d.tutor ((a - 0x06000000) / 0x4000)).localMem (a % 0x4000 - 0x1000)
  else if 0x08B10000 ≤ a ∧ a < 0x08B10060 then 0
  else if areaUse a = none then 0 else d.ab a

/-- Bits of a block-area byte that are stored: reserved bits are not (R8). -/
def areaMask (a : Nat) : Nat :=
  if 0x02000000 ≤ a ∧ a < 0x02400000 then
    (let o := a % 0x4000
     if o < 0x1000 then 7 else if 0x2800 ≤ o ∧ 5 ≤ o % 8 then 0 else 255)
  else if 0x08250000 ≤ a ∧ a < 0x08250800 then (if a % 32 < 7 ∨ a % 32 = 30 then (if a % 32 = 30 then 128 else 0) else if a % 32 = 7 then 128 else 255)
  else if 0x08310000 ≤ a ∧ a < 0x08318000 then (if a % 8 = 7 then 128 else if 5 ≤ a % 8 then 0 else 255)
  else if 0x08318000 ≤ a ∧ a < 0x08319000 then (if a % 16 < 6 then 0 else if a % 16 = 6 then 254 else 255)
  else if 0x08350000 ≤ a ∧ a < 0x08350800 then (if a % 8 = 0 then 7 else 0)
  else if 0x08550000 ≤ a ∧ a < 0x08558000 then (if a % 8 = 0 then 0 else if a % 8 = 1 then 128 else 255)
  else if 0x08558000 ≤ a ∧ a < 0x0855A000 then (if a % 32 < 21 then 0 else if a % 32 = 31 then 224 else 255)
  else if 0x0855A000 ≤ a ∧ a < 0x0855A400 then (if a % 16 < 6 then 0 else if a % 16 = 6 then 128 else 255)
  else 255

/-- The function classes of R129; other numbers from 0x20 to 0x7F are reserved (R130). -/
def functionClass (c : Nat) : Bool :=
  [0x20, 0x21, 0x22, 0x23, 0x30, 0x31, 0x32, 0x38, 0x39, 0x3A, 0x3B, 0x41, 0x48, 0x49, 0x4A, 0x60, 0x68, 0x70, 0x78].contains c

/-- The block area of a class and instance (R130): where it begins, and its size. -/
def blockArea (cls inst : Nat) : Option (Nat × Nat) :=
  if cls = 0x10 ∧ inst < 256 then some (0x01000000 + 0x1000 * inst + 0x800, 0x800)
  else if cls = 0x11 ∧ inst < 256 then some (0x02000000 + 0x4000 * inst + 0x800, 0x3800)
  else if cls = 0x12 ∧ inst < 32 then some (0x03000000 + 0x10000 * inst + 0x800, 0xF800)
  else if cls = 0x50 ∧ inst < 16 then some (0x05000000 + 0x10000 * inst + 0x800, 0xF800)
  else if cls = 0x40 ∧ inst < 64 then some (0x06000000 + 0x4000 * inst + 0x800, 0x3800)
  else if cls = 0x58 ∧ inst < 256 then some (0x07000000 + 0x1000 * inst + 0x800, 0x800)
  else if functionClass cls ∧ inst < 32 then some (0x08000000 + (cls - 0x20) * 0x20000 + 0x10000, 0x10000)
  else if [1, 2, 3, 4, 5, 6, 8].contains cls ∧ inst = 0 then some (cls * 0x100000 + 0x800, 0xFF800)
  else none

/-! ## Addresses (R128, R129) -/

/-- What an offset of BAR0 addresses. -/
inductive Place where
  /-- A member, and the byte within its eight. -/
  | member (id off : Nat)
  /-- The block area of a class. -/
  | area (cls : Nat)
  /-- A table command interface and the offset in its page. -/
  | iface (i off : Nat)
  | nothing
  deriving DecidableEq, Repr

/-- A class, instance and offset in an instance's stride block. -/
def placeIn (cls inst off : Nat) : Place := if off < 0x800 then .member (oid cls inst + off / 8) (off % 8) else .area cls

/-- The place of an offset of BAR0 (R128, R129, R134). -/
def placeOf (a : Nat) : Place :=
  if a < 0x01000000 then placeIn (a / 0x100000) 0 (a % 0x100000)
  else if a < 0x01100000 then placeIn 0x10 ((a - 0x01000000) / 0x1000) (a % 0x1000)
  else if 0x02000000 ≤ a ∧ a < 0x02400000 then placeIn 0x11 ((a - 0x02000000) / 0x4000) (a % 0x4000)
  else if 0x03000000 ≤ a ∧ a < 0x03200000 then placeIn 0x12 ((a - 0x03000000) / 0x10000) (a % 0x10000)
  else if 0x04000000 ≤ a ∧ a < 0x05000000 then placeIn 0x13 ((a - 0x04000000) / 0x100000) (a % 0x100000)
  else if 0x05000000 ≤ a ∧ a < 0x05100000 then placeIn 0x50 ((a - 0x05000000) / 0x10000) (a % 0x10000)
  else if 0x06000000 ≤ a ∧ a < 0x06100000 then placeIn 0x40 ((a - 0x06000000) / 0x4000) (a % 0x4000)
  else if 0x07000000 ≤ a ∧ a < 0x07100000 then placeIn 0x58 ((a - 0x07000000) / 0x1000) (a % 0x1000)
  else if 0x08000000 ≤ a ∧ a < 0x08C00000 then
    (let cls := 0x20 + (a - 0x08000000) / 0x20000
     let o := a % 0x20000
     if functionClass cls = false then .nothing
     else if o < 0x10000 then placeIn cls (o / 0x800) (o % 0x800) else .area cls)
  else if 0x09000000 ≤ a ∧ a < 0x09010000 then .iface ((a - 0x09000000) / 0x1000) (a % 0x1000)
  else .nothing

/-! ## BAR4 (R482, R549) -/

/-- Whether the counter group of an ID is granted to principal U (R482, R549). -/
def Dev.granted_ (d : Dev) (id : Nat) : Bool :=
  let c := id / 2 ^ 24
  bitOf (d.rd (if c < 64 then M.PERF_U_GRANT_0 else M.PERF_U_GRANT_1)) (c % 64)

/-! ## PCIe reads (R117, R122, R130, R134, R135, R141, R482) -/

/-- `n` bytes of a member's eight from byte `off`: 8 bytes at its address, or 4 at its address or four beyond it; any other
read is zero and affects no object (R117). -/
def memberSlice (v off n : Nat) : Bytes :=
  if (n = 8 ∧ off = 0) ∨ (n = 4 ∧ (off = 0 ∨ off = 4)) then slice (toLE 8 v) off n else List.replicate n 0

/-- The page of an interface (R135): BUSY stands in TBL_CMD while a command runs (R136). -/
def TblIf.page (x : TblIf) : Bytes :=
  toLE 8 (x.cmd + b2n x.running.isSome * 2 ^ 63) ++ toLE 8 x.status ++ List.replicate 0x30 0 ++
    fit 64 x.key ++ fit 128 x.data ++ fit 128 x.cmpValue ++ fit 128 x.cmpMask

/-- A read of the object window, the table command pages, the MSI-X table and the pending bits in BAR0 by principal K: the bytes,
and the device with refusals counted. -/
def bar0Read (now : BellSt) (d : Dev) (a n : Nat) : Bytes × Dev :=
  let zero := List.replicate n 0
  if d.bar0Closed ∧ 0x0A000000 ≤ a then (zero, d)
  else if 0x0A000000 ≤ a ∧ a < 0x0A001000 then (d.aread a n, d)
  else if 0x0A001000 ≤ a ∧ a < 0x0A001020 then
    (slice (toLE 32 (((d.rings.pendingVec.map Prod.fst).filter (fun v => decide (v < 256))).foldl (fun m v => m ||| 2 ^ v) 0) ++ zero) (a - 0x0A001000) n, d)
  else match placeOf a with
  | .member id off =>
    if d.gate (id / 2 ^ 24) ∨ ¬ ((n = 8 ∧ off = 0) ∨ (n = 4 ∧ (off = 0 ∨ off = 4))) then (zero, d) else
    let r := readAs now d .k id
    (memberSlice r.2.1 off n, r.2.2)
  | .area c =>
    if d.gate c then (zero, d)
    else if areaUse a = none then (zero, d.countRefused St.NO_OBJECT)
    else ((List.range n).map (fun i => areaRead d (a + i)), d)
  | .iface i off =>
    if d.bar0Closed then (zero, d)
    else if 12 ≤ i then (zero, d.countRefused St.ACCESS)
    else (slice (fit 0x1000 (d.iface i).page ++ zero) off n, d)
  | .nothing => (zero, d.countRefused St.NO_OBJECT)

/-- A read of BAR4 by principal U (R482, R539): the member's value where the member lists U:R and its counter group is granted,
else zero without any count. It is reached through WINDOW_READ, whose address names the BAR in its upper half (log 190). -/
def bar4Read (now : BellSt) (d : Dev) (a n : Nat) : Bytes :=
  match placeOf a with
  | .member id off =>
    if a < 0x09000000 ∧ d.gate (id / 2 ^ 24) = false ∧ d.granted_ id = true ∧ (findMember id).any (fun m => m.u == .r) = true then
      memberSlice (readMember now d id) off n
    else List.replicate n 0
  | _ => List.replicate n 0

end Sys2Proof.Machine
end

