-- ==== Sys2Proof/Machine/Operands.lean ====
section
/-!
DEFINITION. The microword (R357 to R359, R361, R362): its fields, the registers a word reads, conditions, and what makes a
word illegal.
-/
namespace Sys2Proof.Machine

/-! ## Fields of a microword (R357) -/

abbrev wSeq (w : Nat) : Nat := fld w 188 4
abbrev wCond (w : Nat) : Nat := fld w 184 4
abbrev wTarget (w : Nat) : Nat := fld w 169 15
abbrev wSys (w : Nat) : Nat := fld w 165 4
abbrev wSysReg (w : Nat) : Nat := fld w 160 5
abbrev wAlu (w : Nat) : Nat := fld w 154 6
abbrev wDst (w : Nat) : Nat := fld w 149 5
abbrev wSrcA (w : Nat) : Nat := fld w 144 5
abbrev wSrcB (w : Nat) : Nat := fld w 139 5
abbrev wBImm (w : Nat) : Bool := bitOf w 138
abbrev wWidth (w : Nat) : Nat := fld w 136 2
abbrev wMem (w : Nat) : Nat := fld w 131 5
abbrev wMemData (w : Nat) : Nat := fld w 126 5
abbrev wMemAddr (w : Nat) : Nat := fld w 121 5
abbrev wMemOffset (w : Nat) : Nat := fld w 109 12
abbrev wMemWidth (w : Nat) : Nat := fld w 107 2
abbrev wFpos (w : Nat) : Nat := fld w 101 6
abbrev wFlen (w : Nat) : Nat := fld w 95 6
abbrev wReserved (w : Nat) : Nat := fld w 64 31
abbrev wImm (w : Nat) : Nat := fld w 0 64

/-- Bits of a WIDTH code, and bytes of a MEM_WIDTH code. -/
def widthBits (c : Nat) : Nat := 8 * 2 ^ c
def widthBytes (c : Nat) : Nat := 2 ^ c

/-! ## Registers (R354) -/

/-- A register that nothing has written since its tutor was initialised. -/
def zeroReg (_ : Nat) : W64 := 0

/-- A register as a word reads it: G0 is zero, G31 the status of the last memory operation that completed. -/
def Tutor.g (x : Tutor) (i : Nat) : Nat :=
  if i = 0 then 0 else if i = 31 then x.status % 65536 else (SMap.get zeroReg x.regs i).toNat

/-- A register is written; writes to G0 and G31 are discarded. -/
def Tutor.setG (x : Tutor) (i v : Nat) : Tutor :=
  if i = 0 ∨ i = 31 then x else { x with regs := SMap.set zeroReg x.regs i (BitVec.ofNat 64 v) }

/-! ## Conditions (R359) -/

/-- Whether a condition holds on the flags and G31 of the start of the word. -/
def condHolds (c : Nat) (x : Tutor) : Bool :=
  match c with
  | 0 => true
  | 1 => x.z
  | 2 => !x.z
  | 3 => x.n
  | 4 => !x.n
  | 5 => x.c
  | 6 => !x.c
  | 7 => x.g 31 == 1
  | 8 => x.g 31 != 1
  | _ => false

/-! ## Legality (R357 to R362, R376, R377) -/

/-- Whether a loaded word is legal under the ABI minor version of its image: reserved codes and bits, and features of a
later minor version, are not (R377). -/
def wordLegal (minor w : Nat) : Bool :=
  decide (wSeq w ≤ 6) && decide (wCond w ≤ 8) && decide (wSys w ≤ 8) && decide (wAlu w ≤ 0x14) && decide (wMem w ≤ 0x13) &&
    wReserved w == 0 && !((wAlu w == 0x11 || wAlu w == 0x12) && decide (minor < 2)) &&
    !((wMem w == 0x12 || wMem w == 0x13) && decide (minor < 1))

/-! ## Registers a word reads (R355) -/

/-- Registers the ALU operation reads. -/
def aluReads (w : Nat) : List Nat :=
  let b := if wBImm w then [] else [wSrcB w]
  let op := wAlu w
  if op = 0 then []
  else if op = 9 then b
  else if op = 0xA ∨ op = 0xF ∨ op = 0x13 ∨ op = 0x14 then [wSrcA w]
  else if op = 0xB then wDst w :: b
  else wSrcA w :: b

/-- Memory operations that load MEM_DATA. -/
def memLoads (op : Nat) : Bool := [1, 3, 4, 6, 8, 0xA, 0xB, 0xE, 0x10].contains op

/-- Memory operations that read MEM_DATA. -/
def memStores (op : Nat) : Bool := [2, 5, 7, 9, 0xA, 0xC, 0xD, 0xF, 0x10, 0x11, 0x12, 0x13].contains op

/-- Memory operations whose address is G[MEM_ADDR] + MEM_OFFSET or the object ID in G[MEM_ADDR]. -/
def memUsesAddr (op : Nat) : Bool := op != 0 && op != 0xD && op != 0x10 && op != 0x11

/-- Registers the memory operation reads. -/
def memReads (w : Nat) : List Nat :=
  (if memUsesAddr (wMem w) then [wMemAddr w] else []) ++ (if memStores (wMem w) then [wMemData w] else [])

/-- Registers the SYS operation reads. -/
def sysReads (w : Nat) : List Nat := if [1, 2, 3, 7, 8].contains (wSys w) then [wSysReg w] else []

/-- Registers the sequencer reads. -/
def seqReads (w : Nat) : List Nat := if wSeq w = 4 then [wSrcA w] else []

/-- Registers of a tutor that await a load. -/
def Tutor.awaited (x : Tutor) : List Nat := (x.ops.filter (fun o => memLoads o.op && o.reg != 0 && o.reg != 31)).map (fun (o : MemOp) => o.reg)

/-- Whether a word stalls (R355): it reads a register still awaiting a load, or would issue a ninth operation. -/
def Tutor.stalls (x : Tutor) (w : Nat) : Bool :=
  (aluReads w ++ memReads w ++ sysReads w ++ seqReads w).any (fun r => x.awaited.contains r) || (wMem w != 0 && decide (8 ≤ x.ops.length))

end Sys2Proof.Machine
end

