-- ==== Sys2Proof/Machine/Flags.lean ====
section
/-!
DEFINITION. The ALU of a tutor (R360): results and the flags Z, N, C and V.
-/
namespace Sys2Proof.Machine

/-- What an ALU operation leaves: the result for DST, whether DST is written, and the flags. -/
structure AluOut where
  res : Nat
  writes : Bool
  z : Bool
  n : Bool
  c : Bool
  v : Bool
  deriving DecidableEq, Repr

/-- Z and N of a result of `b` bits. -/
def flagZ (b r : Nat) : Bool := r % 2 ^ b == 0
def flagN (b r : Nat) : Bool := bitOf r (b - 1)

/-- Carry out of an addition of two values of `b` bits. -/
def addCarry (b x y : Nat) : Bool := decide (2 ^ b ≤ x + y)

/-- Signed overflow of an addition. -/
def addOverflow (b x y : Nat) : Bool := decide (sgn b ((x + y) % 2 ^ b) ≠ sgn b x + sgn b y)

/-- No borrow of a subtraction. -/
def subNotBorrow (x y : Nat) : Bool := decide (y ≤ x)

/-- Signed overflow of a subtraction. -/
def subOverflow (b x y : Nat) : Bool := decide (sgn b ((x + 2 ^ b - y) % 2 ^ b) ≠ sgn b x - sgn b y)

/-- Leading zeros of a value at `b` bits. -/
def leadingZeros (b x : Nat) : Nat := if x % 2 ^ b = 0 then b else b - 1 - Nat.log2 (x % 2 ^ b)

/-- Ones among the low `b` bits. -/
def popCount (b x : Nat) : Nat := ((List.range b).filter (fun i => bitOf x i)).length

/-- Byte order reversed within `b` bits. -/
def byteSwap (b x : Nat) : Nat := beVal (toLE (b / 8) x)

/-- Arithmetic shift right of a value of `b` bits. -/
def shiftArith (b x s : Nat) : Nat := unsgn b (sgn b x / 2 ^ s)

/-- Bits of a result: MUL and MULHU give 64 and CRC its state of 32, whatever WIDTH says (log 36). -/
def resultBits (op b : Nat) : Nat := if op = 0x10 ∨ op = 0x11 then 64 else if op = 0x12 then 32 else b

/-- The result of an operation on operands of `b` bits; `old` is DST as it stands. -/
def aluResult (op b a c fpos flen old : Nat) : Nat :=
  match op with
  | 0x01 => (a + c) % 2 ^ b
  | 0x02 | 0x0C => (a + 2 ^ b - c) % 2 ^ b
  | 0x03 => a &&& c
  | 0x04 => a ||| c
  | 0x05 => a ^^^ c
  | 0x06 => a * 2 ^ (c % 64) % 2 ^ b
  | 0x07 => a / 2 ^ (c % 64)
  | 0x08 => shiftArith b a (c % 64)
  | 0x09 => c
  | 0x0A => fld a fpos (flen + 1)
  | 0x0B => setFld old fpos (flen + 1) c % 2 ^ b
  | 0x0D => min a c
  | 0x0E => max a c
  | 0x0F => leadingZeros b a
  | 0x10 => a * c % 2 ^ 64
  | 0x11 => a * c / 2 ^ 64
  | 0x12 => crcFeed 32 0x1EDC6F41 true (a % 2 ^ 32) (toLE (b / 8) c)
  | 0x13 => byteSwap b a
  | 0x14 => popCount b a
  | _ => 0

/-- The ALU operation of a word on the registers at its start (R360). -/
def aluRun (x : Tutor) (w : Nat) : AluOut :=
  let op := wAlu w
  let b := widthBits (wWidth w)
  let a := x.g (wSrcA w) % 2 ^ (if op = 0x12 then 32 else b)
  let c := (if wBImm w then wImm w else x.g (wSrcB w)) % 2 ^ b
  if op = 0 then { res := 0, writes := false, z := x.z, n := x.n, c := x.c, v := x.v } else
  let r := aluResult op b a c (wFpos w) (wFlen w) (x.g (wDst w) % 2 ^ b)
  let add := op == 1
  let sub := op == 2 || op == 0xC
  { res := r, writes := op != 0xC, z := flagZ (resultBits op b) r, n := flagN (resultBits op b) r,
    c := (add && addCarry b a c) || (sub && subNotBorrow a c), v := (add && addOverflow b a c) || (sub && subOverflow b a c) }

/-- The tutor after the ALU operation of a word. -/
def aluApply (x : Tutor) (w : Nat) : Tutor :=
  let o := aluRun x w
  let x := if o.writes then x.setG (wDst w) o.res else x
  { x with z := o.z, n := o.n, c := o.c, v := o.v }

end Sys2Proof.Machine
end

