-- ==== Sys2Proof/Machine/Walk.lean ====
section
/-!
DEFINITION. The walk of a packet through its pipe up to its service (R17 to R26, R162, R223 to R227, R270 to R293, R300,
R322, R331, R341 to R343, R524): parse, classification, source guard, address services, the Roll stage and creation, and
the reads, placements and holds that descriptors wait for.
-/
namespace Sys2Proof.Machine

/-! ## Creation (R284, R300, R322) -/

/-- The record a packet creates (R300), under a key with the sender's side. -/
def bornRecord (now : BellSt) (d : Dev) (x : Desc) (k : FlowKey) (dir nat lb : Bool) (ep : Nat) (epB : Bool) : Nat :=
  let len := match d.frame x.frame with | some f => f.bytes.length + 4 | none => 0
  let lesson := now.lesson.toNat
  let r := recWithKey 0 (if k.v6 ∨ (nat && lb) = true then 1 else 0) k
  let r := recDecide (setFld (setFld (setFld r 368 24 lesson) 344 24 lesson) 328 16 x.dgen) x
  let r := setFld (setFld (setFld (setFld r 320 1 (b2n nat)) 319 1 (b2n lb)) 253 24 ep) 252 1 (b2n epB)
  let r := setFld r 248 4 (tcpBirth k.proto x.hdr.tcpFlags dir)
  recSeen (recCount r dir len lesson) dir x.hdr.tcpFlags

/-- The endpoint of a new flow, its side, and whether it is the default (R323). -/
def Dev.attribute (d : Dev) (x : Desc) (k : FlowKey) (nat : Bool) : Nat × Bool × Bool :=
  let other : Nat × Bool × Bool :=
    match d.endpointOf k.v6 k.addrA with
    | some e => (e, false, false)
    | none => match d.endpointOf k.v6 k.addrB with
      | some e => (e, true, false)
      | none => (d.rd M.ENDPOINT_DEFAULT, false, true)
  if nat = false then other else
  match d.natFlow x.hdr with
  | .outbound e => (e, x.dirB, false)
  | .hairpin e => (e, x.dirB, false)
  | .inbound =>
    (match d.mappingOf k.proto x.hdr.ipDst (keyPorts x.hdr).2 with
     | some (_, m) => (recEndpoint m, !x.dirB, false)
     | none => other)
  | .none => other

/-- Marks of a creation (R292, R300, R311): CREATED_LATE, REBORN and the pipe's count. -/
def markBorn (d : Dev) (x : Desc) (key : Bytes) (r : Nat) : Nat × Dev :=
  let late := d.wasRefused x.pipe x.h1
  let reborn := d.roll.reborn.contains key
  let d := (d.bump (M.CNT_ROLL_CREATED x.pipe)).bumpIf late (M.CNT_ROLL_CREATED_LATE x.hdr.port)
  (setFld (setFld r 507 1 (b2n late)) 506 1 (b2n reborn), d.bumpIf reborn M.CNT_ROLL_REBORN)

/-- The act stage of the packet that created a record (R301: its own counts stand in the record from birth). With
BUDDY_SYNC_CREATE the first packet of a translated or balanced flow first waits for the peer (R526). -/
def serveCreated (now : BellSt) (d : Dev) (x : Desc) (acked : Bool) : Dev :=
  match x.slot with
  | none => dropPacket now d x 0
  | some s =>
    let r := d.recordAt s
    if acked = false ∧ d.buddy.mode = .paired ∧ d.on M.BUDDY_SYNC_CREATE ∧ recSvcKind r ≠ 0 then
      waitIn now d { x with stage := 12 } (.syncCreate now.period.toNat)
    else
      let client := isClient r x.hdr false
      let (x, d) := leaveRoll now d x
      actFromRecord now d { x with slot := none } s r client

/-- A new record is placed and its packet served, or waits for its tutor (R284, R289 orders 3 to 5 and 9). -/
def placeNew (now : BellSt) (d0 d : Dev) (x : Desc) (k : FlowKey) (r : Nat) (tutor : Bool) (ep : Nat) : Dev :=
  if tutor ∧ d0.corridorFull x.pipe = true then refuse now d0 x 11 else
  let (r, d) := markBorn d x k.block r
  match insertRecord now d k (setFld r 504 1 (b2n tutor)) with
  | .bucket => refuse now d0 x 9
  | .line => placeWait now d0 { x with endpoint := some ep }
  | .at s d =>
    let d := d.wroteTag s x.pipe
    let x := { x with slot := some s, endpoint := none }
    if tutor then
      let (x, d) := firstOutcome d x 5
      taskPacket now d { x with stage := 6 } 0 (kindPrio 0) 6 (some s) (some ep) x.orderKey
    else
      let (x, d) := firstOutcome d x 2
      serveCreated now (mirrorCreate now d s) x false

/-- The non-owner of a Buddy pair relays the first packet of a flow its peer owns, and holds its flow (R524). -/
def relay (now : BellSt) (d : Dev) (x : Desc) : Dev :=
  if d.corridorFull x.pipe then refuse now d x 11 else
  let (x, d) := firstOutcome d x 5
  let bytes := match d.frame x.frame with | some f => f.bytes | none => x.bytes
  let d := { d with buddy := { d.buddy with relayOut := d.buddy.relayOut ++ [(x.hdr.port, bytes)] } }.bump M.CNT_BUDDY_RELAY
  park d x (.relay now.period.toNat)

/-- Marks in `tried` that the peer has answered MISSING for the packet's key (R532). -/
def askedMark : Nat := 2 ^ 40

/-- The place in the miss queue of a packet's request to the peer, for a record without a slot here. -/
def askSlot (id : Nat) : Nat := 2 ^ 41 + id

/-- A miss of a returning device asks the peer for the record: a read of the miss queue like any other (R288, R529, R532). -/
def askMiss (now : BellSt) (d : Dev) (x : Desc) : Dev := queueRead now d x (askSlot x.id)

/-- The ownership block of the flow a packet would create (R514): a translated flow goes by its endpoint. -/
def Dev.birthBlock (d : Dev) (x : Desc) (k : FlowKey) (nat : Bool) (e : Nat) : Bytes :=
  if nat = false then k.block else
  match d.natFlow x.hdr with
  | .none => k.block
  | _ => endpointBlock e

/-- A packet that found no record creates one: steps 1 to 3 of R322, then placement. `k` is its key. -/
def createFlow (now : BellSt) (d : Dev) (x : Desc) (k : FlowKey) : Dev :=
  let nat := resNat x.result && !k.v6
  let lb := resLb x.result
  let (e, epB, dflt) := d.attribute x k nat
  if d.owns (d.birthBlock x k nat e) = false then
    (if d.buddy.mode = .syncing ∧ 2 ≤ d.rd M.BUDDY_VERSION ∧ x.tried.contains askedMark = false then askMiss now d x else relay now d x)
  else
  match needRecord 4 now d { x with endpoint := some e } (epSlot e) with
  | .waits d => d
  | .have_ v d0 =>
    let d := (d0.bumpIf dflt M.CNT_EP_DEFAULT).bumpIf (resNat x.result && k.v6) M.CNT_NAT_NOT_IPV4
    let zone := d.zone (resZone x.result)
    let tcp := k.proto == 6
    if tcp ∧ resFilter x.result ∧ bitOf zone 0 = true ∧ synOnly x.hdr.tcpFlags = false then
      dropAll now (d.bump M.CNT_FILTER_NO_SYN) x M.CNT_FILTER_NO_SYN
    else
      let adm := bitOf zone 2 && bitOf v 505
      let (ok, v1) := if adm then epAdmit now.period.toNat v else (true, v)
      let tutor := nat || lb
      if ok = false then dropAll now ((setEndpoint now d e v1).bump M.CNT_ADM_DENY) x M.CNT_ADM_DENY
      else if tutor ∧ d.generalFull x.pipe = true then
        (if d0.corridorFull x.pipe then refuse now d0 x 11 else
         let (x, d) := firstOutcome d0 x 5
         park d { x with endpoint := some e } .slot)
      else
        let d := if adm then setEndpoint now d e v1 else d
        let d := d.bumpIf (tcp && !synOnly x.hdr.tcpFlags) M.CNT_FILTER_MIDSTREAM
        placeNew now d0 d x k (bornRecord now d x k x.dirB nat lb e epB) tutor e

/-! ## The Roll stage (R282, R283, R287, R289) -/


/-- The descriptor whose task holds a PENDING record. -/
def Dev.pendingLeader (d : Dev) (slot : Nat) : Nat := match d.descs.find? (fun y => y.slot == some slot) with | some y => y.id | none => 0

/-- What a lookup of a key by a packet finds (R282, R283). -/
inductive Found where
  | rec_ (slot value : Nat) (viaLink : Bool) (d : Dev)
  | create (x : Desc) (d : Dev)
  | waits (d : Dev)

/-- A matching record, or the primary behind a matching link (R283). A link without a primary is removed. -/
def follow (now : BellSt) (d : Dev) (x : Desc) (s r : Nat) : Found :=
  if recKind r ≠ 3 then .rec_ s r false d else
  match needRecord 4 now d { x with slot := some s } (recPrimary r) with
  | .waits d => .waits d
  | .have_ p d =>
    if recValid p ∧ recKind p < 2 ∧ recLinkSlot p = s then .rec_ (recPrimary r) p true (d.bump M.CNT_ROLL_LINK_FOLLOW)
    else .create x ((clearRecord now d s).bump M.CNT_ROLL_ORPHAN_LINK)

/-- The tag read of a lookup (R274). -/
def tagRead (d : Dev) (x : Desc) (k : FlowKey) : Desc := { x with cands := some (x.cands.getD (d.candidates k)) }

/-- The re-read of the tags at a creation (R285): the matching tags written since the packet's tag read, and whether another pipe has
written one of them. -/
def Dev.newTags (d : Dev) (x : Desc) (k : FlowKey) : List Nat × Bool :=
  let new := (d.candidates k).filter (fun s => !(x.cands.getD []).contains s)
  (new, new.any (fun s => SMap.get zeroAt d.roll.writer s != 0 && SMap.get zeroAt d.roll.writer s != x.pipe + 1))

/-- Steps 2 to 5 of R282 over the candidates of the packet's tag read: one that proves false without a wait is judged, and the search
goes on. A creation that finds matching tags written since is abandoned and the lookup repeated (R285). -/
def searchFlow (fuel : Nat) (now : BellSt) (d : Dev) (x : Desc) (k : FlowKey) : Found :=
  match fuel with
  | 0 => .create x d
  | fuel + 1 =>
    let cand := x.cands.getD []
    match cand.find? (fun s => match d.cachedRec s with | some r => recIs r k | none => false) with
    | some s => follow now (d.touch s) x s (d.recordAt s)
    | none =>
      match cand.find? (fun s => (d.cachedRec s).isNone && d.fillPending (d.missingPart s)) with
      | some s => .waits (joinFill now d x (d.missingPart s))
      | none =>
        match cand.find? (fun s => (d.cachedRec s).isNone && !x.tried.contains s) with
        | none =>
          let (new, raced) := d.newTags x k
          if new.isEmpty ∨ x.stage ≠ 7 then .create x d
          else searchFlow fuel now (d.bumpIf raced M.CNT_ROLL_CREATE_RACE) { x with cands := some (d.candidates k) } k
        | some s =>
          match needRecord 4 now d x s with
          | .waits d => .waits d
          | .have_ r d => if recIs r k then follow now d x s r else searchFlow fuel now d { x with tried := s :: x.tried } k

/-- The lookup of a key by a packet (R282); it waits for the rebuild of a bucket (R281). -/
def lookupFlow (now : BellSt) (d : Dev) (x : Desc) (k : FlowKey) : Found :=
  if d.rebuilding k then .waits (holdPacket now d x .place) else searchFlow 24 now d (tagRead d x k) k

/-- A packet's first arrival at the Roll stage. -/
def arriveRoll (now : BellSt) (d : Dev) (x : Desc) : Desc × Dev :=
  if x.stage = 7 then (x, d) else
  let (x, d) := { x with stage := 7, arrived := now.period.toNat }.stamp_ now d 248
  (x, d.bump (M.CNT_ROLL_LOOKUP x.pipe))

/-- The Roll stage of a stateful packet (R282, R289). A mapping record is never served to a packet (R328): one whose key is a
mapping's is refused, as by a record that is not available (log 228). -/
def rollStage (now : BellSt) (d : Dev) (x : Desc) : Dev :=
  let (x, d) := arriveRoll now d x
  match x.key with
  | none => act now d x none none false
  | some k =>
    if d.rollReady = false then refuse now d x 6 else
    match d.ahead x with
    | some y =>
      let alias_ := x.outcome == 0 && y.key != x.key
      holdPacket now (d.bumpIf alias_ (M.CNT_ROLL_HOLD_ALIAS x.pipe)) x (.hold y.id)
    | none =>
      let detour (x : Desc) (d : Dev) : Dev := taskPacket now d { x with detour := false } 2 (kindPrio 2) 14 none none x.orderKey
      match lookupFlow now d x k with
      | .waits d => d
      | .create x d => if x.detour then detour x d else createFlow now d x k
      | .rec_ s r viaLink d =>
        if recPending r then holdPacket now d x (.hold (d.pendingLeader s))
        else if isMapping r then refuse now d x 10
        else if x.detour then detour x d
        else hitRecord now d x s r viaLink

/-- The second pass of a hairpin (R331): the mapping of its destination gives the inside address and port. -/
def hairpinSecond (now : BellSt) (d : Dev) (x : Desc) : Dev :=
  let k := mapLinkKey x.hdr.proto x.hdr.ipDst (keyPorts x.hdr).2
  let gone (d : Dev) : Dev := dropPacket now (d.bump M.CNT_NAT_HAIRPIN_NO_MAP) x M.CNT_NAT_HAIRPIN_NO_MAP
  match lookupFlow now d x k with
  | .waits d => d
  | .create _ d => gone d
  | .rec_ _ m viaLink d =>
    if viaLink = false ∨ isMapping m = false then gone d else
    let (ia, ip) := recInside m
    let w : Rewrite := { Rewrite.of x.hdr with dst := ia, dport := ip }
    decide_ now d { x with bytes := rewriteFrame x.bytes x.hdr w, hdr := x.hdr.rewritten w } none none

/-! ## Before the Roll (R223 to R227, R233, R341 to R343) -/

/-- A packet with its key, its direction and h1 (R270 to R272); a packet that is not IP forms none. -/
def keyed (d : Dev) (x : Desc) : Desc :=
  if x.hdr.l3 = 1 ∨ x.hdr.l3 = 2 then
    (let (k, dir) := flowKey x.hdr
     { x with key := some k, dirB := dir, h1 := d.h1Of k.block })
  else x

/-- After the address services: the Roll for a stateful packet, the act stage for any other (R233), which keeps its place behind an
earlier packet of its flow that waits (R23, R287). -/
def enterRoll (now : BellSt) (d : Dev) (x : Desc) : Dev :=
  if resStateful x.result ∧ x.key.isSome then
    rollStage now d ({ x with stage := 2 }.tagBit 416 32 x.h1)
  else actInOrder now d x

/-- The key of the flow that an ICMP error of R333 is about, from its embedded header. -/
def icmpErrorKey (x : Desc) : Option FlowKey :=
  let o := x.hdr.l4Off + 8
  if x.hdr.l4Type ≠ 3 ∨ x.hdr.frag ≠ 0 ∨ [3, 11, 12].contains x.hdr.icmpType = false ∨ byteAt x.bytes o / 16 ≠ 4 ∨ x.bytes.length < o + 28 ∨
    (parseV4 (Hdr.empty 0 0) (x.bytes.drop o) 0).l3 ≠ 1 then none else
  let l := o + 4 * (byteAt x.bytes o % 16)
  let proto := byteAt x.bytes (o + 9)
  let ports := if proto = 1 then (if byteAt x.bytes l = 8 then (beAt x.bytes (l + 4) 2, 0) else if byteAt x.bytes l = 0 then (0, beAt x.bytes (l + 4) 2) else (0, 0))
    else if proto = 6 ∨ proto = 17 then (beAt x.bytes l 2, beAt x.bytes (l + 2) 2) else (0, 0)
  some (normalise false proto (beAt x.bytes (o + 12) 4) ports.1 (beAt x.bytes (o + 16) 4) ports.2).1

/-- An ICMP error whose embedded header matches a translated flow goes to its cluster, once that flow's record has been fetched (R22,
R333); any other packet goes on to the Roll stage. -/
def icmpStage (now : BellSt) (d : Dev) (x : Desc) : Dev :=
  let on (x : Desc) (d : Dev) : Dev := enterRoll now d { x with tried := [], cands := none, slot := none }
  match (if d.rollReady then icmpErrorKey x else none) with
  | none => on x d
  | some k =>
    match lookupFlow now d { x with stage := 13 } k with
    | .waits d => d
    | .create x d => on x d
    | .rec_ s r _ d =>
      if (recSvcKind r = 1 ∨ recSvcKind r = 3) ∧ isMapping r = false then
        taskPacket now d { x with stage := 11, tried := [], cands := none } 4 (kindPrio 4) 10 (some s) (some (recEndpoint r)) x.orderKey
      else on x d

/-- A port's bit in one of the address-service masks. -/
def Dev.portBit (d : Dev) (m : Nat → Nat) (port : Nat) : Bool := bitOf (d.rd (m (port / 64))) (port % 64)

/-- The DHCPv4 message a packet carries: op, its options' offset, and message type (option 53), 0 where there is none. -/
def dhcpOption (fuel : Nat) (f : Bytes) (o code : Nat) : Option (Nat × Nat) :=
  match fuel with
  | 0 => none
  | fuel + 1 =>
    if f.length ≤ o then none else
    let c := byteAt f o
    if c = 255 then none
    else if c = 0 then dhcpOption fuel f (o + 1) code
    else if c = code then some (o + 2, byteAt f (o + 1))
    else dhcpOption fuel f (o + 2 + byteAt f (o + 1)) code

/-- A DHCP option's value as a number. -/
def dhcpValue (x : Desc) (code : Nat) : Option Nat :=
  (dhcpOption x.bytes.length x.bytes (x.hdr.l4Off + 8 + 240) code).map (fun (o, n) => beAt x.bytes o n)

/-- Whether DHCP messages are looked at: the address services are present (R191, R342; log 34). -/
def dhcpSnoops : Bool := bitOf Config.features 5

/-- Whether a packet is a DHCPv4 message. -/
def isDhcp4 (x : Desc) : Bool := x.hdr.l3 == 1 && x.hdr.dhcp && x.hdr.frag == 0

/-- The address whose endpoint record an address task works on (R341, R342): the target of a request, the address a DHCP message binds
or gives back. -/
def addressOf (x : Desc) : Bool × Nat :=
  let o := x.hdr.l4Off + 8
  if x.hdr.l3 = 3 then (false, beAt x.bytes (x.hdr.l2Len + 24) 4)
  else if x.hdr.l4Type = 4 then (true, beAt x.bytes o 16)
  else match (dhcpValue x 53).getD 0 with
    | 5 => (false, beAt x.bytes (o + 16) 4)
    | 7 => (false, beAt x.bytes (o + 12) 4)
    | _ => (false, (dhcpValue x 50).getD 0)

/-- A packet goes to its cluster as an address task (R341, R342), as an ICMP error task (R333), or on. A request that the proxy takes
goes ahead of its classifier result; a DHCP message with a stateful result has its record first (R22). One that needs an endpoint
record is refused until the Roll is ready (R104). -/
def addressStage (now : BellSt) (d : Dev) (x : Desc) : Dev :=
  let port := x.hdr.port
  let op := byteAt x.bytes (x.hdr.l4Off + 8)
  let ty := (dhcpValue x 53).getD 0
  let trusted := d.portBit M.ADDR_TRUST_PORTS port
  let proxy := d.portBit M.ADDR_PROXY_PORTS port && resAction x.result != 1 &&
    ((x.hdr.l3 == 3 && beAt x.bytes (x.hdr.l2Len + 6) 2 == 1) || (x.hdr.l4Type == 4 && x.hdr.icmpType == 135))
  let snoop := isDhcp4 x && dhcpSnoops && ((op == 2 && trusted && ty == 5) || (op == 1 && (ty == 4 || ty == 7)))
  if isDhcp4 x ∧ dhcpSnoops = true ∧ op = 2 ∧ trusted = false then dropPacket now (d.bump M.CNT_DHCP_SPOOF) x M.CNT_DHCP_SPOOF
  else if proxy ∨ snoop = true then
    (let (v6, a) := addressOf x
     if !d.rollReady && (d.endpointOf v6 a).isSome then refuse now d x 6
     else if !proxy && resStateful x.result && x.key.isSome then enterRoll now d { x with detour := true }
     else taskPacket now d { x with stage := 2 } 2 (kindPrio 2) 9 none none x.orderKey)
  else icmpStage now d x

/-- The source guard (R343). -/
def guardStage (now : BellSt) (d : Dev) (x : Desc) : Dev :=
  let h := x.hdr
  if h.l3 ≠ 1 ∨ d.portBit M.ADDR_GUARD_PORTS h.port = false then addressStage now d x
  else if h.dhcp ∧ h.ipSrc = 0 ∧ h.l4Dst = 67 then addressStage now d x
  else
    let gone (d : Dev) : Dev := dropPacket now (d.bump M.CNT_GUARD_DROP) x M.CNT_GUARD_DROP
    match d.endpointOf false h.ipSrc with
    | none => gone d
    | some e =>
      if d.rollReady = false then refuse now d x 6 else
      match needRecord 4 now d { x with stage := 5, endpoint := some e } (epSlot e) with
      | .waits d => d
      | .have_ v d =>
        if epBound v ∧ d.leaseCurrent v = true ∧ fld v 380 32 = h.ipSrc ∧ epMac v = h.macSrc ∧ fld v 436 8 = h.port then
          addressStage now d { x with endpoint := none }
        else gone d

/-- Classification of a well-formed packet (R228 to R238). -/
def classifyPass (now : BellSt) (d : Dev) (x : Desc) : Dev :=
  let x := keyed d x
  let (c, d) := classify now d x.pipe x.hdr x.edition
  let x := { x with result := c.result, rule := c.rule, tie := c.tie, multi := c.multi,
                    userTag := routeTag d x.pipe x.edition x.hdr }.tagBit 380 1 (b2n c.tie)
  let (x, d) := x.stamp_ now d 280
  guardStage now d x

/-- The key of a fragment's datagram as one number (R370). -/
def datagramKey (h : Hdr) : Nat := ((h.ipSrc * 2 ^ 128 + h.ipDst) * 256 + h.proto) * 2 ^ 32 + h.ipId

/-- A fragment goes to its cluster, or to the host (R227). -/
def fragmentPass (now : BellSt) (d : Dev) (x : Desc) : Dev :=
  let held := (d.tutors.tasks.filter (fun t => t.pipe == x.pipe && t.kind == 1)).length
  if d.rd M.PARSER_FRAG_TUTOR_LIMIT ≤ held ∨ d.generalFull x.pipe = true then
    (let (ok, d) := ringPacket now (d.bump (M.CNT_FRAG_HOST x.pipe)) x (d.rd M.PARSER_FRAG_RING) 2
     d.bumpIf (!ok) (M.CNT_FRAG_DROP x.pipe))
  else taskPacket now (d.bump (M.CNT_FRAG_TUTOR x.pipe)) { x with stage := 1 } 1 (kindPrio 1) 0 none none (some (Config.datagramHash (datagramKey x.hdr) % 2 ^ 32))

/-- A malformed packet's counter (R225). -/
def malformedCounter (code pipe : Nat) : Nat :=
  match code with
  | 1 => M.CNT_MALF_L2 pipe
  | 2 => M.CNT_MALF_IPV4_HDR pipe
  | 3 => M.CNT_MALF_IPV4_CSUM pipe
  | 4 => M.CNT_MALF_IPV4_LEN pipe
  | 5 => M.CNT_MALF_IPV6_LEN pipe
  | 6 => M.CNT_MALF_IPV6_CHAIN pipe
  | 7 => M.CNT_MALF_FRAG pipe
  | 8 => M.CNT_MALF_TCP pipe
  | 9 => M.CNT_MALF_UDP pipe
  | _ => M.CNT_MALF_L4_TRUNC pipe

/-- A malformed packet is counted and takes the malformed action (R225, R226). -/
def malformedPass (now : BellSt) (d : Dev) (x : Desc) : Dev :=
  let c := malformedCounter x.hdr.malformed x.pipe
  let d := (d.bump c).bump (M.CNT_MALFORMED x.pipe)
  if d.rd M.PARSER_MALFORMED_ACTION = 1 then (ringPacket now d x (d.rd M.PARSER_MALFORMED_RING) 1).2
  else if d.rd M.PARSER_MALFORMED_ACTION = 2 then forwardPacket now d { x with result := 0 } false none none
  else dropPacket now d x c

/-- The tag record a pass starts with (R546, R547); a packet re-stamped before its second pass stays marked so. -/
def passTag (now : BellSt) (x : Desc) (rxNs : Nat) : Tag :=
  let again : Nat := match x.tag with
    | some t => fld t.bits 379 1
    | none => 0
  { pipe := x.pipe, bits := rxNs % 2 ^ 32 * 2 ^ 480 + now.period.toNat * 2 ^ 448 + x.hdr.port * 2 ^ 408 + x.edition * 2 ^ 392 + again * 2 ^ 379 }

/-- One pass of a packet is parsed (R162, R223 to R227). -/
def parsePass (now : BellSt) (d : Dev) (x : Desc) (tagged : Bool) : Dev :=
  let (rxNs, cls, port) := match d.frame x.frame with | some f => (f.rxNs, f.cls, f.port) | none => (0, 0, 0)
  let x := { x with hdr := parseFrame x.bytes port cls }
  let x := { x with tag := if tagged then some (passTag now x rxNs) else none }
  let (x, d) := x.stamp_ now (d.bump (M.CNT_PARSED x.pipe)) 312
  if x.hdr.malformed ≠ 0 then malformedPass now d x else
  let d := if x.pass = 1 then learnFrom now d x.pipe x.edition x.hdr else d
  if x.stage = 4 then hairpinSecond now d x
  else if x.hdr.frag ≠ 0 then fragmentPass now d x
  else classifyPass now d x

/-- A packet that comes back from a wait goes on where it stands. -/
def resume (now : BellSt) (d : Dev) (x : Desc) : Dev :=
  match x.stage with
  | 0 => fragmentPass now d x
  | 1 => classifyPass now d x
  | 2 => enterRoll now d x
  | 3 => forwardPacket now d x true x.endpoint none
  | 4 => hairpinSecond now d x
  | 5 => guardStage now d x
  | 6 => serveCreated now d x false
  | 7 => rollStage now d x
  | 8 => taskPacket now d { x with stage := 3 } 6 (resPrio x.result) 8 none x.endpoint x.orderKey
  | 9 => taskPacket now d { x with stage := 2 } 2 (kindPrio 2) 9 none none x.orderKey
  | 10 => icmpStage now d x
  | 11 => actInOrder now d x
  | 13 => icmpStage now d x
  | 14 => taskPacket now d { x with stage := 7 } 2 (kindPrio 2) 14 none none x.orderKey
  | 15 => taskPacket now d { x with stage := 11 } 2 (kindPrio 2) 15 none none x.orderKey
  | _ => serveCreated now d x true

/-- PACKET_PARSE (R223): the pipe takes a recirculated packet first, else its oldest arrival. -/
def packetParse (pipe : Nat) (now : BellSt) (d : Dev) : Dev :=
  if d.pins.ready = false ∨ 16 ≤ pipe ∨ d.gated pipe = true then d else
  match d.descs.find? (fun x => x.pipe == pipe && x.wait == .recirc) with
  | some x =>
    let d := (d.unpark x.id).setLfsr pipe (lfsrStep (d.lfsr pipe))
    let d := d.setPipe pipe { d.pipe pipe with entered := (d.pipe pipe).entered + 1 }
    parsePass now d { x with pass := x.pass + 1 } x.tag.isSome
  | none =>
    match d.ports.arrivals.find? (fun a => a.1 == pipe) with
    | none => d
    | some a =>
      let d := { d with ports := { d.ports with arrivals := d.ports.arrivals.erase a } }
      match d.frame a.2 with
      | none => d
      | some f =>
        let d := d.setPipe pipe { d.pipe pipe with entered := (d.pipe pipe).entered + 1 }
        let (hit, d) := tagPick d pipe
        let e := d.rd M.EDITION_CURRENT
        let x : Desc := { id := d.nextDesc, pipe, frame := a.2, bytes := f.bytes, hdr := Hdr.empty f.port f.cls, edition := e, dgen := d.genOf e,
                          stamp := now.period.toNat, pass := 1, result := 0, rule := 0x8000, yellow := false, key := none, dirB := false, h1 := 0,
                          wait := .recirc, tried := [], cands := none, outcome := 0, delayed := false, refused := false, tie := false,
                          multi := false, userTag := 0, parts := 0, arrived := 0, endpoint := none, slot := none, detour := false, stage := 0, tag := none }
        parsePass now { d with nextDesc := d.nextDesc + 1 } x hit

/-! ## Reads (R279, R280, R282, R288, R289, R529) -/

/-- Packets that wait for a slot's fill go on, in order, each with the slot of the record that it has read. -/
def wakeFill (now : BellSt) (d : Dev) (slot : Nat) : Dev :=
  let head := d.headOf slot
  let xs := d.descs.filter (fun x => x.wait == .fetch slot)
  xs.foldl (fun d x => resume now (d.unpark x.id) (if slot < epSlotBase then { x with tried := head :: x.tried } else x)) d

/-- A read ends without its record (R289): the packets that wait for it, and those held behind them, are refused. -/
def failFill (now : BellSt) (d : Dev) (slot : Nat) : Dev :=
  let xs := d.descs.filter (fun x => x.wait == .fetch slot)
  xs.foldl (fun d x => if d.descs.any (fun y => y.id == x.id) then refuseAll now (d.unpark x.id) x 10 else d) d

/-- Units of a read (R288): two where the slot holds the head of a record of two slots. -/
def Dev.readUnits (d : Dev) (slot : Nat) : Nat := if slot < epSlotBase ∧ recTwoSlots (d.stored slot) = true ∧ recKind (d.stored slot) ≠ 2 then 2 else 1

/-- Packets of a pipe that wait for a slot take MISS, or BUDGET where their first read issues in a later period than they came
(R289, R291); one served without a read takes MISS. -/
def takeMiss (now : BellSt) (read : Bool) (d : Dev) (pipe slot : Nat) : Dev :=
  let due (x : Desc) : Bool := x.pipe == pipe && x.wait == .fetch slot && x.outcome == 0 && x.stage == 7
  let code (x : Desc) : Nat := if read ∧ x.arrived ≠ now.period.toNat then 4 else 3
  let d := (d.descs.filter due).foldl (fun d x => d.bump (outcomeCounter (code x) x.hdr.port)) d
  { d with descs := d.descs.map (fun x => if due x then x.takes (code x) else x) }

/-- The key by which a packet that waits looks a record up: its own, its mapping's in a hairpin's second pass (R331), or that of the
flow an ICMP error is about (R333). -/
def Desc.lookupKey (x : Desc) : Option FlowKey :=
  match x.stage with
  | 4 => some (mapLinkKey x.hdr.proto x.hdr.ipDst (keyPorts x.hdr).2)
  | 13 => icmpErrorKey x
  | _ => x.key

/-- A read of a lookup that has read before follows a false match (R282 step 4). -/
def countFalse (d : Dev) (pipe slot : Nat) : Dev :=
  match d.descs.find? (fun x => x.pipe == pipe && x.wait == .fetch slot) with
  | some x =>
    d.bumpIf (!x.tried.isEmpty && (match x.lookupKey with | some k => (d.candidates k).contains slot | none => false)) M.CNT_ROLL_TAG_FALSE
  | none => d


/-- A pending line is given up. -/
def dropPending (d : Dev) (slot : Nat) : Dev :=
  match d.findLine slot with
  | some (k, l) => if l.pending then d.setLine k none else d
  | none => d

/-- The key by which the peer is asked for a slot's record: that of a packet which waits for it. -/
def Dev.keyWanted (d : Dev) (slot : Nat) : Option FlowKey := d.descs.findSome? (fun x => if x.wait = .fetch slot then x.lookupKey else none)

/-- Whether a read of a slot is to be served by the peer: its memory is not served here, or a read of it has failed (R529). -/
def Dev.remoteRead (d : Dev) (pipe slot : Nat) : Bool :=
  decide (slot < epSlotBase) && d.peerServes && (d.keyWanted slot).isSome && ((d.pipe pipe).remote.contains slot || !d.readable slot)

/-- A pipe's oldest queued read leaves the miss queue, with its charge (R288). -/
def chargeRead (d : Dev) (pipe slot n : Nat) : Dev :=
  let p := d.pipe pipe
  (d.setPipe pipe { p with
    missQueue := p.missQueue.drop 1
    remote := p.remote.filter (· != slot)
    unitsUsed := p.unitsUsed + n }).addTo (M.CNT_ROLL_FETCH_UNITS pipe) n

/-- A pipe's read of a slot has ended. -/
def endRead (d : Dev) (pipe slot : Nat) : Dev := let p := d.pipe pipe; d.setPipe pipe { p with reads := p.reads.erase slot }

/-- A read that ended uncorrectable or on a channel out of service (R289, R513, R529): in PAIRED the peer serves it, charged one
unit as a read of its own, which waits at the head of the queue. -/
def readFailed (now : BellSt) (d : Dev) (pipe slot : Nat) (lost : Bool) : Dev :=
  let d := endRead (d.bump (M.CNT_ROLL_UNAVAILABLE pipe)) pipe slot
  if slot < epSlotBase ∧ d.peerServes ∧ (d.keyWanted slot).isSome then
    let p := d.pipe pipe
    d.setPipe pipe { p with missQueue := slot :: p.missQueue, remote := p.remote ++ [slot] }
  else
    let d := dropPending d slot
    failFill now (if lost ∧ slot < epSlotBase then loseSlot now d slot else d) slot

/-- The oldest queued read of a pipe issues, to memory or to the peer, and its packets take their outcome. -/
def issueRead (now : BellSt) (d : Dev) (pipe slot : Nat) : Dev :=
  let remote := d.remoteRead pipe slot
  let n := if remote then 1 else d.readUnits slot
  if 150 < (d.pipe pipe).unitsUsed + n then d else
  match placeLine now d slot 0 false true with
  | none => d.bump M.CNT_FR_SET_PINNED
  | some d =>
    let d := chargeRead (countFalse (takeMiss now true d pipe slot) pipe slot) pipe slot n
    let p := d.pipe pipe
    let e := d.setPipe pipe { p with reads := p.reads ++ [slot] }
    if remote then fetchFromPeer e ((d.keyWanted slot).getD (recKey 0)) slot
    else if d.readable slot then requestSlot now e slot 0
    else readFailed now e pipe slot false

/-- A packet's request to the peer for a record without a slot here issues, charged one unit (R288, R529). -/
def issueAsk (now : BellSt) (d : Dev) (pipe slot : Nat) : Dev :=
  if 150 < (d.pipe pipe).unitsUsed + 1 then d else
  let d := chargeRead (takeMiss now true d pipe slot) pipe slot 1
  match d.descs.find? (fun x => x.wait == .fetch slot) with
  | some x => askPeer (park (d.unpark x.id) x (.peer now.period.toNat)) (x.key.getD (recKey 0)) none
  | none => d

/-- ROLL_FETCH_ISSUE (R288): the oldest queued read of a pipe issues when its units are available. -/
def rollFetchIssue (pipe : Nat) (now : BellSt) (d : Dev) : Dev :=
  match (d.pipe pipe).missQueue with
  | [] => d
  | slot :: _ =>
    if askSlot 0 ≤ slot then issueAsk now d pipe slot
    else if (d.lineVal slot).isSome ∨ d.buffered slot = true then
      (match bringSlot now d slot 0 false with
       | .here d => wakeFill now (chargeRead (takeMiss now false d pipe slot) pipe slot 0) slot
       | .line => d.bump M.CNT_FR_SET_PINNED
       | _ => d)
    else issueRead now d pipe slot

/-- A read that returns fills its line (R18, R282); a line written since then stays as it is. -/
def installFill (now : BellSt) (d : Dev) (slot : Nat) : Option Dev :=
  if (d.lineVal slot).isSome then some d else
  match d.lateData slot with
  | some v => writeSlot now d slot v
  | none => (placeLine now d slot ((d.wbData slot).getD (d.stored slot)) false false).map (fun d => d.bump M.CNT_FR_FILL)

/-- Whether a slot's line holds the head of a record whose tail has no valid line. -/
def Dev.lacksTail (d : Dev) (slot : Nat) : Bool :=
  let v := d.current slot
  decide (slot < epSlotBase) && recValid v && recKind v != 2 && recTwoSlots v && (d.lineVal (slot + 1)).isNone

/-- The tail of a record whose head has been read is read next (R282 step 4), or comes from the device's own buffers; `none` where it
must wait. -/
def readTail (now : BellSt) (d : Dev) (pipe slot : Nat) : Option Dev :=
  let t := slot + 1
  let goesOn (d : Dev) : Dev := { endRead d pipe slot with
    descs := d.descs.map (fun (x : Desc) => if x.wait = .fetch slot then { x with wait := .fetch t } else x) }
  if d.fillPending t then some (goesOn d)
  else if d.buffered t then
    (match bringSlot now d t 0 false with
     | .here d => some (wakeFill now (endRead d pipe slot) slot)
     | _ => none)
  else (placeLine now d t 0 false true).map (fun d =>
    let d := goesOn d
    let p := d.pipe pipe
    requestSlot now (d.setPipe pipe { p with reads := p.reads ++ [t] }) t 0)

/-- ROLL_FETCH_COMPLETE (R282): an issued read of a pipe returns. -/
def rollFetchComplete (pipe slot : Nat) (o : MemOutcome) (now : BellSt) (d : Dev) : Dev :=
  if (d.pipe pipe).reads.contains slot = false ∨ d.buddy.awaiting.any (fun a => a.2 == some slot) = true then d else
  match endAccess now d (d.placeOf slot).1 (d.placeOf slot).2 0 false o with
  | none => d
  | some (o, e) =>
    if e.readable slot ∧ o = .ok then
      (match (installFill now e slot).bind (fun d =>
          if d.lacksTail slot then readTail now d pipe slot else some (wakeFill now (endRead d pipe slot) slot)) with
       | some d => d
       | none => d.bump M.CNT_FR_SET_PINNED)
    else readFailed now e pipe slot (o == .uncorrectable)

/-- The fetches that a channel out of service leaves unserved end with ST_UNAVAILABLE (R289, R449, R529). -/
def endLost (now : BellSt) (d : Dev) : Dev :=
  (List.range 16).foldl (fun d p =>
    ((d.pipe p).reads.filter (fun s => !d.chServes (d.placeOf s).1 && !d.buddy.awaiting.any (fun a => a.2 == some s))).foldl
      (fun d s => readFailed now d p s false) d) d

/-- FR_PLACEMENT_RETRY (R279, R281): the oldest update, the oldest bucket to be rebuilt and the pipe's oldest packet that wait for a line
try again. -/
def frPlacementRetry (pipe : Nat) (now : BellSt) (d : Dev) : Dev :=
  let d := retryRebuild now (retryLate now d)
  match d.descs.find? (fun x => x.pipe == pipe && x.wait == .place) with
  | none => d
  | some x => resume now (d.unpark x.id) x

/-- Whether the record a held packet would hit is still PENDING. -/
def Dev.hitsPending (d : Dev) (x : Desc) : Bool :=
  match x.key.bind d.findRecord with
  | none => false
  | some s =>
    let r := d.recordAt s
    if recKind r = 3 then recPending (d.recordAt (recPrimary r)) else recPending r

/-- Whether a held packet may go: nothing of its flow is ahead, and its record is not PENDING (R284, R287). -/
def Dev.mayRelease (d : Dev) (x : Desc) : Bool :=
  (match x.wait with | .hold _ => true | _ => false) && (d.ahead x).isNone && !(x.stage == 7 && d.hitsPending x)

/-- ROLL_HOLD_RELEASE (R287): the oldest held packet of a pipe that may go is released. -/
def rollHoldRelease (pipe : Nat) (now : BellSt) (d : Dev) : Dev :=
  match d.descs.find? (fun x => x.pipe == pipe && d.mayRelease x) with
  | none => d
  | some x => resume now (d.unpark x.id) x

/-! ## Commands -/

/-- PACKET_PARSE (R223). -/
def execPacketParse (pipe : Nat) (s : State) : Host.Outcome State Fault Refusal :=
  s.onDie (fun now d => packetParse pipe now d)

/-- ROLL_FETCH_ISSUE (R288). -/
def execRollFetchIssue (pipe : Nat) (s : State) : Host.Outcome State Fault Refusal :=
  s.onDie (fun now d => rollFetchIssue pipe now d)

/-- ROLL_FETCH_COMPLETE (R282). -/
def execRollFetchComplete (pipe slot : Nat) (o : MemOutcome) (s : State) : Host.Outcome State Fault Refusal :=
  s.onDie (fun now d => endLost now (rollFetchComplete pipe slot o now d))

/-- MEM_ACCESS_COMPLETE (R437). -/
def execMemAccessComplete (ch unit : Nat) (e : EccIn) (ns : Nat) (s : State) : Host.Outcome State Fault Refusal :=
  s.onDie (fun now d => endLost now (memAccess ch unit e ns now d))

/-- MEMCH_COMMAND_TIMEOUT (R449). -/
def execMemchCommandTimeout (ch : Nat) (s : State) : Host.Outcome State Fault Refusal :=
  s.onDie (fun now d => endLost now (memchCommandTimeout ch now d))

/-- FR_PLACEMENT_RETRY (R279). -/
def execFrPlacementRetry (pipe : Nat) (s : State) : Host.Outcome State Fault Refusal :=
  s.onDie (fun now d => frPlacementRetry pipe now d)

/-- ROLL_HOLD_RELEASE (R287). -/
def execRollHoldRelease (pipe : Nat) (s : State) : Host.Outcome State Fault Refusal :=
  s.onDie (fun now d => rollHoldRelease pipe now d)

end Sys2Proof.Machine
end

