-- ==== Sys2Proof/Machine/TaskEnd.lean ====
section
/-!
DEFINITION. How a task ends (R365, R367, R368, R373, R374): its updates of record and endpoint record, its verdict on the
packet, its slot, and a cancel.
-/
namespace Sys2Proof.Machine

/-! ## Updates (R314, R325, R365) -/

/-- A value with the bits of a mask taken from another. -/
def maskIn (old new mask : Nat) : Nat := (old ^^^ (old &&& mask)) + (new &&& mask)

/-- The bits of an endpoint record that tutors change (R325): binding and NAT fields. -/
def epTutorBits : Nat := (2 ^ 511 - 2 ^ 509) + (2 ^ 504 - 2 ^ 336)

/-- The increments of a stale update that carries over (R314): packets, bytes, and LAST_HIT where the update wrote it. -/
def mergeStale (cur orig new mask : Nat) : Nat :=
  let add (r lo w : Nat) : Nat := setFld r lo w (fld r lo w + fld new lo w + 2 ^ w - fld orig lo w)
  let r := add (add (add (add cur 80 32) 0 40) 112 32) 40 40
  if fld mask 344 24 = 0 then r else setFld r 344 24 (recLastHit new)

/-- The update of a task's record is applied, or is stale (R314, R365). -/
def applyRecord (now : BellSt) (d : Dev) (t : TaskRec) : Dev :=
  match t.recSlot with
  | none => d
  | some s =>
    if t.recMask = 0 then d else
    match d.roll.stale.find? (fun x => x.1 == t.handle) with
    | some x =>
      let d := { d with roll := { d.roll with stale := d.roll.stale.filter (fun y => y.1 != t.handle) } }
      if x.2 then (updateRecord now d s (mergeStale (d.recordAt s) t.recOrig t.recCopy t.recMask)).bump M.CNT_ROLL_UPDATE_MERGED
      else d.bump M.CNT_ROLL_UPDATE_STALE
    | none =>
      let old := d.recordAt s
      let new := recClean (maskIn old t.recCopy t.recMask)
      let d := updateRecord now d s new
      if recPending old ∧ recPending new = false then mirrorCreate now d s else mirrorState now d s

/-- The bytes a task wrote of its endpoint record are applied (R325, R361). -/
def applyEndpoint (now : BellSt) (d : Dev) (t : TaskRec) : Dev :=
  match t.epIndex with
  | none => d
  | some e =>
    let m := t.epMask &&& epTutorBits
    if m = 0 then d else mirrorEndpoint now (setEndpoint now d e (maskIn (d.endpoint e) t.epCopy m)) e

/-! ## Verdicts (R367) -/

/-- A descriptor still in the Roll stage leaves it. -/
def leaveFor (now : BellSt) (d : Dev) (x : Desc) : Desc × Dev := if x.stage = 6 ∨ x.stage = 7 then leaveRoll now d x else (x, d)

/-- A packet delivered to a receive ring by its task. -/
def ringVerdict (now : BellSt) (d : Dev) (x : Desc) (ring cause : Nat) : Dev :=
  let (x, d) := leaveFor now d x
  let (ok, d) := ringPacket now d x ring cause
  d.bumpIf (!ok && cause == 2) (M.CNT_FRAG_DROP x.pipe)

/-- A packet dropped with its task. -/
def dropVerdict (now : BellSt) (d : Dev) (x : Desc) : Dev := let (x, d) := leaveFor now d x; dropPacket now d x 0

/-- A packet dropped with its cancelled or abandoned task, under that task's counter (R371, R374, fate 8 of R547). -/
def cancelVerdict (now : BellSt) (d : Dev) (x : Desc) (counter : Nat) : Dev :=
  let (x, d) := leaveFor now d x
  freeFrame now (tagWrite (d.bump (M.PERF_SLOT_WASTED x.pipe)) (x.tagBit 383 1 1).tag 8 counter) x.frame

/-- What a verdict does to the task's packet, which has left its wait. A verdict the table does not list acts as one of the
listed, which is open (log 1). -/
def verdictOn (now : BellSt) (d : Dev) (x : Desc) (v : Nat) : Dev :=
  let (k, d) := if fld v 60 4 ≤ 4 then (fld v 60 4, d) else (let (f, d) := d.fresh; (f % 5, d))
  match k with
  | 0 => resume now d x
  | 1 => dropVerdict now d x
  | 2 => ringVerdict now d x (fld v 52 8) 7
  | 3 => let (x, d) := leaveFor now d x; consumePacket now d x
  | _ =>
    let (x, d) := leaveFor now d x
    waitIn now (tagWrite (d.bump (M.PERF_SLOT_WASTED x.pipe)) (x.tagBit 383 1 1).tag 4 0)
      { x with stage := 0, slot := none, endpoint := none, tried := [], cands := none } .recirc

/-! ## Slots (R368, R371, R372, R376, R471) -/

/-- The packets of a pipe that wait for a slot try again, oldest first, while one is free. -/
def wakeSlots (fuel : Nat) (now : BellSt) (d : Dev) (pipe : Nat) : Dev :=
  match fuel with
  | 0 => d
  | fuel + 1 =>
    if d.generalFull pipe then d else
    match d.descs.find? (fun x => x.pipe == pipe && x.wait == .slot) with
    | none => d
    | some x => wakeSlots fuel now (resume now (d.unpark x.id) x) pipe

/-- A task's slot is freed: its ring descriptor ends (R471), and what waited for a slot goes on. -/
def endSlot (now : BellSt) (d : Dev) (t : TaskRec) (st : Nat) : Dev :=
  let d := match t.host with
    | some (r, i) => finishEntry d r i st
    | none => d
  let full : Bool := d.generalFull t.pipe
  let d : Dev := { d.freeTask t.pipe t.slot with roll := { d.roll with stale := d.roll.stale.filter (fun x => x.1 != t.handle) } }
  let d : Dev := if full && !d.generalFull t.pipe then traceTask now d 12 t 0 0 else d
  exportTask now (natReleaseRetry now d)

/-- The packet of a task. -/
def Dev.taskDesc (d : Dev) (t : TaskRec) : Option Desc := t.desc.bind d.desc

/-- A stage delta of the packet a task works on (R546, R547). -/
def stampTask (now : BellSt) (d : Dev) (t : TaskRec) (lo : Nat) : Dev :=
  match d.taskDesc t with
  | some x =>
    let (x, d) := x.stamp_ now d lo
    d.setDesc x
  | none => d

/-- A release is made (R373): its slot is freed and its packet goes where the verdict says. The cycles a release was held
are open (log 1). -/
def makeRelease (now : BellSt) (d : Dev) (t : TaskRec) (tutor v : Nat) : Dev :=
  let d := stampTask now d t 152
  let x := d.taskDesc t
  let (held, d) := match t.state with
    | .held _ => d.fresh
    | _ => (0, d)
  let d := traceTask now (d.bump (M.CNT_TASK_RELEASE t.pipe)) 6 t tutor (fld v 60 4 + held * 16)
  let d := endSlot now d t St.OK
  let d := match x with
    | some x =>
      let d := d.unpark x.id
      (match t.fate with
       | .verdict => verdictOn now d x v
       | .fail c => dropAll now d { x with slot := none } c
       | .toHost => ringVerdict now d x (d.rd M.PARSER_FRAG_RING) 2)
    | none => d
  wakeSlots 4096 now d t.pipe

/-- A task's frame is dropped and its slot freed without a release: it was cancelled or abandoned, which `counter` counted
(R371, R374), or the data path restarts. -/
def discardTask (now : BellSt) (counter : Option Nat) (d : Dev) (t : TaskRec) : Dev :=
  let x := d.taskDesc t
  let d := endSlot now d t St.RING_TASK_CANCELLED
  let d := match x, counter with
    | some x, some c => cancelVerdict now (d.unpark x.id) x c
    | some x, none => dropVerdict now (d.unpark x.id) x
    | none, _ => d
  wakeSlots 4096 now d t.pipe

/-- An abandoned task, and a cancelled one that has run (R368, R371, R374): its frame is dropped at once, and its slot is
released when every earlier task of its order key is done (R373). -/
def abandonTask (now : BellSt) (counter : Nat) (d : Dev) (t : TaskRec) : Dev :=
  if t.order.isSome ∧ d.orderBlocked t = true then
    (let d := d.setTask { t with state := .held 0, cancelled := true, desc := none, recSlot := none, recMask := 0, epIndex := none, epMask := 0 }
     match d.taskDesc t with
     | some x => cancelVerdict now (d.unpark x.id) x counter
     | none => d)
  else discardTask now (some counter) d t

/-- A tutor has no task any more; one taken out of service goes OFFLINE (R371, R380). -/
def Dev.idleTutor (d : Dev) (t : Nat) : Dev :=
  let x := d.tutor t
  let none_ := x.levels.isEmpty
  d.setTutor t { x with task := none, masked := false, trapping := false, due := [], double := false, budget := false, preempt := none, waiting := false,
                        offline := x.offline || (none_ && !d.on (M.TUTOR_ENABLE t)) }

/-- A task ends with a verdict (R365, R367, R368, R373): its updates apply, its tutor is free, and its release is made or
held for its order. A cancelled task ends with its frame dropped. -/
def endTask (now : BellSt) (d : Dev) (t : TaskRec) (tutor v : Nat) : Dev :=
  let d := (applyEndpoint now (applyRecord now d t) t).idleTutor tutor
  if t.cancelled then abandonTask now (M.CNT_TASK_CANCEL t.pipe) d t else
  if t.order.isSome ∧ d.orderBlocked t = true then
    (let t := { t with state := .held v, recSlot := none, recMask := 0, epIndex := none, epMask := 0 }
     traceTask now ((d.setTask t).bump (M.CNT_TASK_RELEASE_HELD t.pipe)) 5 t tutor 0)
  else makeRelease now d t tutor v

/-- A service of the default image ends its task for good: its packet meets a fate of its own under a verdict that says so, drop or a
ring (R322, R370). -/
def endWithFate (now : BellSt) (d : Dev) (t : TaskRec) (tutor : Nat) (f : TaskFate) : Dev :=
  let v := match f with
    | .verdict => 0
    | .fail _ => 2 ^ 60
    | .toHost => 2 * 2 ^ 60 + d.rd M.PARSER_FRAG_RING % 256 * 2 ^ 52
  endTask now d { t with fate := f, recSlot := none, recMask := 0 } tutor v

/-- TASK_HELD_RELEASE (R373): the oldest held release of a pipe that nothing precedes is made. -/
def taskHeldRelease (pipe : Nat) (now : BellSt) (d : Dev) : Dev :=
  let ready (t : TaskRec) : Bool := t.pipe == pipe && !d.orderBlocked t && (match t.state with | .held _ => true | _ => false)
  match d.tutors.tasks.find? ready with
  | none => d
  | some t => match t.state with
    | .held v => if t.cancelled then discardTask now none d t else makeRelease now d t 0 v
    | _ => d

/-! ## Cancel (R374) -/

/-- A trap is raised (R366): it waits for the tutor's word boundary, behind those that wait already; while a trap is being
handled it is a double fault. -/
def Tutor.trapDue (x : Tutor) (cause info pc : Nat) : Tutor :=
  if x.trapping then { x with double := true } else { x with due := x.due ++ [(cause, info, pc)] }

/-- A ready task leaves its list (R374). Whether it was made ready in the same cycle, so that it is withdrawn, is open within the
period in which it was (R375, log 8). -/
def cancelReady (now : BellSt) (d : Dev) (t : TaskRec) : Dev :=
  let (f, d) := if t.readied = now.period.toNat then d.fresh else (0, d)
  let (counter, kind) := if f % 2 = 1 then (M.CNT_TASK_WITHDRAWN t.pipe, 8) else (M.CNT_TASK_CANCEL t.pipe, 7)
  discardTask now (some counter) (traceTask now (d.bump counter) kind t 0 0) t

/-- A cancel of a task by its handle: its status. -/
def cancelTask (now : BellSt) (d : Dev) (h : Nat) : Nat × Dev :=
  match d.taskRec (fld h 13 5) (fld h 0 13) with
  | none => (St.TASK_GONE, d)
  | some t =>
    let at_ : Nat := match t.state with
      | .running u => u
      | .preempted u => u
      | _ => 0
    let counted (d : Dev) : Dev := traceTask now (d.bump (M.CNT_TASK_CANCEL t.pipe)) 7 t at_ 0
    match t.state with
    | .held _ => (St.TASK_GONE, d)
    | .ready => (St.OK, cancelReady now d t)
    | .running u =>
      if t.cancelled then (St.OK, d) else
      let d := counted (d.setTask { t with cancelled := true })
      (St.OK, d.setTutor u ((d.tutor u).trapDue 9 0 (d.tutor u).pc))
    | .preempted _ => if t.cancelled then (St.OK, d) else (St.OK, counted (d.setTask { t with cancelled := true }))

end Sys2Proof.Machine
end

