-- ==== Sys2Proof/Machine/Native.lean ====
section
/-!
DEFINITION. The services of the Raneus default image (R327 to R337, R341, R342, R345, R369, R370): what each kind of task does
when it ends. The image's words are not given, so the work of a task is done where it releases (log 37).
-/
namespace Sys2Proof.Machine

/-! ## New flows (R322, R329 to R331, R336) -/

/-- How the services of a flow end. -/
inductive Served where
  /-- Done: the record as it is to stand, and the slot of the flow's record. -/
  | done (d : Dev)
  | moved (slot : Nat) (dir : Bool) (d : Dev)
  | fail (counter : Nat) (d : Dev)
  | bucket
  | wait

/-- The binding of a flow for a packet from an inside host (R329, R331). -/
def natBind (now : BellSt) (d : Dev) (x : Desc) (e : Nat) : Decided (Nat × Nat) :=
  bindMapping now d (resPool x.result) x.hdr.proto e x.hdr.ipSrc (keyPorts x.hdr).1

/-- A record with its NAPT44 binding. -/
def withBinding (r : Nat) (b : Nat × Nat) : Nat := setFld (setFld r 242 2 1) 210 32 (b.1 * 2 ^ 20 + b.2)

/-- A record with its member (R336). -/
def withMember (r s m : Nat) : Nat :=
  let v := s * 2 ^ 16 + m
  if recSvcKind r = 1 then setFld (setFld r 242 2 3) 784 32 v else setFld (setFld r 242 2 2) 210 32 v

/-- The member step of a creation (R336): the record, or no eligible member. -/
def memberStep (d : Dev) (x : Desc) (r client cport : Nat) : Option (Nat × Dev) :=
  if recHasLb r = false then some (r, d) else
  let s := resVservice x.result
  (d.chooseMember x.edition s client cport).map (fun m => (withMember r s m, countChoice d s m))

/-- The link step of a creation: the record is written, and the link placed under the outside key (R284, R329, R336). -/
def linkStep (now : BellSt) (d : Dev) (x : Desc) (s r : Nat) (hairpin : Bool) : Served :=
  let r := setFld r 504 1 0
  if recSvcKind r = 0 then .done (updateRecord now d s r) else
  if hairpin then .done (updateRecord now d s (setFld r 182 28 s)) else
  let w := d.rewriteOf x.edition r true x.hdr
  match insertLink now (updateRecord now d s r) (outsideKey (x.hdr.l3 == 2) x.hdr.proto w) s with
  | .at _ d => .done d
  | .bucket => .bucket
  | .line => .wait

/-- A creation with an inside client, or with no translation (R329, R331, R336). -/
def createOut (now : BellSt) (d : Dev) (x : Desc) (s r : Nat) (bound : Option (Nat × Nat)) (hairpin : Bool) : Served :=
  let r := match bound with | some b => withBinding r b | none => r
  match memberStep d x r x.hdr.ipSrc (keyPorts x.hdr).1 with
  | none => .fail M.CNT_LB_NO_MEMBER (match bound with | some _ => releaseFor now d r | none => d)
  | some (r, d) => linkStep now d x s r hairpin

/-- An inbound creation (R330): the flow record stands under the inside key, and the packet's PENDING record becomes its link. -/
def createIn (now : BellSt) (d : Dev) (x : Desc) (s r : Nat) : Served :=
  match d.mappingOf x.hdr.proto x.hdr.ipDst (keyPorts x.hdr).2 with
  | none => .fail M.CNT_NAT_IN_NO_MAP d
  | some (m, mr) =>
    let (ia, ip) := recInside mr
    let (k, dir) := normalise false x.hdr.proto x.hdr.ipSrc (keyPorts x.hdr).1 ia ip
    let f := bornRecord now d x k dir true false (recEndpoint mr) (!dir)
    let again := d.roll.reborn.contains k.block
    let f := setFld (setFld (withBinding f (binding (recSvcState mr))) 507 1 (fld r 507 1)) 506 1 (b2n (again || bitOf r 506))
    match insertRecord now d k (setFld f 182 28 s) with
    | .bucket => .bucket
    | .line => .wait
    | .at n d =>
      let d := (if recTwoSlots r then clearSlot now d (s + 1) else d).bumpIf (again && !bitOf r 506) M.CNT_ROLL_REBORN
      let d := updateRecord now d s (linkRecord (x.key.getD (recKey r)) n)
      let d := updateRecord now d m (setFld (d.recordAt m) 112 32 (fld (d.recordAt m) 112 32 + 1))
      .moved n dir d

/-- The services of a new flow. -/
def newFlow (now : BellSt) (d : Dev) (x : Desc) (s r : Nat) : Served :=
  let out (e : Nat) (hairpin : Bool) : Served :=
    match natBind now d x e with
    | .ok b d => createOut now d x s r (some b) hairpin
    | .fail c d => .fail c d
    | .bucket => .bucket
    | .wait => .wait
  if recHasNat r = false then createOut now d x s r none false else
  match d.natFlow x.hdr with
  | .outbound e => out e false
  | .hairpin e => out e true
  | .inbound => createIn now d x s r
  | .none => createOut now d x s r none false

/-- A failed service: the record goes, and the packet and those held behind it are dropped as its task releases (R322, R373). -/
def failFlow (now : BellSt) (d : Dev) (t : TaskRec) (u s counter : Nat) : Dev :=
  endWithFate now (clearRecord now (d.bump counter) s) t u (.fail counter)

/-- A service that finds no place for its link is a Roll refusal with cause BUCKET, and drops as any failed step does (R284, R322). -/
def refuseFlow (now : BellSt) (d : Dev) (t : TaskRec) (u : Nat) (x : Desc) (s : Nat) : Dev :=
  let (x, d) := outcome (noteRefusal (clearRecord now d s) x.pipe x.h1) x 9
  endWithFate now (d.setDesc x) t u (.fail (outcomeCounter 9 x.hdr.port))

/-- Kind 0. -/
def nativeNewFlow (now : BellSt) (d : Dev) (t : TaskRec) (u : Nat) (x : Desc) : Dev :=
  match x.slot with
  | none => endTask now d t u 0
  | some s =>
    match newFlow now d x s (d.recordAt s) with
    | .done d => endTask now (mirrorCreate now d s) t u 0
    | .moved n dir d => endTask now (mirrorCreate now (d.setDesc { x with slot := some n, dirB := dir }) n) t u 0
    | .fail c d => failFlow now d t u s c
    | .bucket => refuseFlow now d t u x s
    | .wait => d.bump M.CNT_FR_SET_PINNED

/-! ## Re-decisions (R170, R337) -/

/-- The client of a flow by its record: inside host, or the side its link keeps. -/
def Dev.clientOf (d : Dev) (s r : Nat) : Nat × Nat :=
  let k := recKey r
  if recSvcKind r = 1 ∨ recSvcKind r = 3 then recInside r else if d.clientB s r then (k.addrB, k.portB) else (k.addrA, k.portA)

/-- The other side of a flow. -/
def Dev.serverOf (d : Dev) (s r : Nat) : Nat × Nat :=
  let k := recKey r
  if d.clientOf s r = (k.addrA, k.portA) then (k.addrB, k.portB) else (k.addrA, k.portA)

/-- The outside tuple of a flow from its client (R329, R336). -/
def Dev.outsideOf (d : Dev) (edition r : Nat) (client server : Nat × Nat) : Rewrite :=
  let nat := recSvcKind r == 1 || recSvcKind r == 3
  let lb := recSvcKind r == 2 || recSvcKind r == 3
  let (ai, pp) := binding (recSvcState r)
  let (ma, mp) := d.member edition (if recSvcKind r = 3 then recSvcState2 r else recSvcState r)
  let w : Rewrite := { src := client.1, sport := client.2, dst := server.1, dport := server.2 }
  let w := if nat then { w with src := fld (d.natAddr ai) 0 32, sport := pp } else w
  if lb then { w with dst := ma, dport := if mp = 0 then w.dport else mp } else w

/-- A binding chosen afresh for a flow: its old mapping is released first (R170, R332). -/
def rebind (now : BellSt) (d : Dev) (x : Desc) (r : Nat) (client : Nat × Nat) : Decided (Nat × Nat) :=
  bindMapping now (releaseMapping now d (mappingKey (recProto r) client.1 client.2)) (resPool x.result) (recProto r) (recEndpoint r) client.1 client.2

/-- The member chosen afresh: record and device; a change counts (R337). -/
def rechoose (d : Dev) (x : Desc) (r : Nat) (client : Nat × Nat) : Option (Nat × Dev) :=
  let st := if recSvcKind r = 3 then recSvcState2 r else recSvcState r
  let s := fld st 16 16
  (d.chooseMember x.edition s client.1 client.2).map (fun m =>
    let v := s * 2 ^ 16 + m
    ((if recSvcKind r = 3 then setFld r 784 32 v else setFld r 210 32 v), (countChoice d s m).bumpIf (decide (v ≠ st)) M.CNT_LB_FAILOVER))

/-- A re-decided record with its new link. -/
def relink (now : BellSt) (d : Dev) (x : Desc) (s r : Nat) (client server : Nat × Nat) (hairpin : Bool) : Served :=
  let r := setFld (setFld r 504 1 0) 328 16 x.dgen
  if hairpin then .done (updateRecord now d s r) else
  let w := d.outsideOf x.edition r client server
  match insertLink now (updateRecord now d s r) (outsideKey (recV6 r) (recProto r) w) s with
  | .at _ d => .done d
  | .bucket => .bucket
  | .line => .wait

/-- The services of a re-decision: what the commit names is decided afresh. -/
def redecide (now : BellSt) (d : Dev) (x : Desc) (s r : Nat) (q : Redecide) : Served :=
  let nat := q.binding && (recSvcKind r == 1 || recSvcKind r == 3)
  let lb := q.member && (recSvcKind r == 2 || recSvcKind r == 3)
  let client := d.clientOf s r
  let server := d.serverOf s r
  let hairpin := isHairpin s r
  let d := removeLink now d s r
  let lbStep (d : Dev) (r : Nat) : Served :=
    if lb = false then relink now d x s r client server hairpin else
    match rechoose d x r client with
    | none => .fail M.CNT_LB_NO_MEMBER (releaseFor now d r)
    | some (r, d) => relink now d x s r client server hairpin
  if nat = false then lbStep d r else
  match rebind now d x r client with
  | .ok (ai, pp) d => lbStep d (setFld r 210 32 (ai * 2 ^ 20 + pp))
  | .fail c d => .fail c d
  | .bucket => .bucket
  | .wait => .wait

/-- A re-decision that fails deletes the flow with its link and its mapping's hold, here and at the peer (R322, R332, R337). -/
def dropFlow (now : BellSt) (d : Dev) (s r : Nat) : Dev := mirrorDelete now (releaseFor now (removeLink now d s r) r) s r

/-- Kind 5. -/
def nativeRedecide (now : BellSt) (d : Dev) (t : TaskRec) (u : Nat) (x : Desc) : Dev :=
  match t.recSlot with
  | none => endTask now d t u 0
  | some s =>
    let r := d.recordAt s
    match redecide now d x s r (Redecide.ofNat x.parts) with
    | .done d => endTask now ((mirrorState now d s).setDesc { x with slot := none }) t u 0
    | .moved _ _ d => endTask now d t u 0
    | .fail c e => failFlow now (mirrorDelete now e s r) t u s c
    | .bucket => refuseFlow now (dropFlow now d s r) t u x s
    | .wait => d.bump M.CNT_FR_SET_PINNED

/-! ## Fragments (R370) -/

/-- The datagram a fragment belongs to. -/
def sameDatagram (pipe : Nat) (h : Hdr) (g : Datagram) : Bool :=
  g.pipe == pipe && g.src == h.ipSrc && g.dst == h.ipDst && g.proto == h.proto && g.ident == h.ipId

def Dev.datagram (d : Dev) (pipe : Nat) (h : Hdr) : Option Datagram := d.tutors.datagrams.find? (sameDatagram pipe h)

/-- Store a datagram's entry. -/
def Dev.setDatagram (d : Dev) (pipe : Nat) (h : Hdr) (g : Datagram) : Dev :=
  let gs := d.tutors.datagrams
  let gs := if gs.any (sameDatagram pipe h) = true then gs.map (fun x => if sameDatagram pipe h x then g else x) else gs ++ [g]
  { d with tutors := { d.tutors with datagrams := gs } }

/-- A later fragment's header vector with the ports of its first fragment (R227). -/
def Hdr.recovered (h : Hdr) (p : Nat × Nat) : Hdr :=
  let t := l4TypeOf (h.l3 == 2) h.proto
  let h := { h with l4Type := t, l4Src := p.1, l4Dst := p.2 }
  if t = 3 ∨ t = 4 then { h with icmpType := p.1 / 256, icmpCode := p.1 % 256, icmpId := p.2 } else h

/-- A fragment is sent to the host ring, in the order of its datagram (R370, R373). -/
def fragmentToHost (now : BellSt) (d : Dev) (t : TaskRec) (u : Nat) : Dev := endWithFate now d t u .toHost

/-- Kind 1. A fragment that waits for its first fragment goes on running. A first fragment needs no entry to go on; the limit of 64 is
for the others (log 284). -/
def nativeFragment (now : BellSt) (d : Dev) (t : TaskRec) (u : Nat) (x : Desc) : Dev :=
  let h := x.hdr
  let lesson := now.lesson.toNat
  let isFirst := h.frag == 1
  let own (g : Datagram) : Datagram := if isFirst then { g with ports := some (h.l4Src, h.l4Dst) } else g
  let finish (d : Dev) (g : Datagram) : Dev :=
    match g.ports with
    | some p => endTask now (d.setDesc { x with hdr := if isFirst then h else h.recovered p }) t u 0
    | none => d
  match d.datagram x.pipe h with
  | none =>
    if 4096 ≤ (d.tutors.datagrams.filter (fun (g : Datagram) => g.pipe == x.pipe)).length then
      (if isFirst then endTask now d t u 0 else fragmentToHost now d t u) else
    let g := own { pipe := x.pipe, src := h.ipSrc, dst := h.ipDst, proto := h.proto, ident := h.ipId, ports := none, count := 1, lastLesson := lesson,
                   waiting := if isFirst then [] else [(t.slot, lesson)] }
    finish (d.setDatagram x.pipe h g) g
  | some g =>
    if g.waiting.any (fun w => w.1 == t.slot) then
      (match g.ports with
       | some _ => finish (d.setDatagram x.pipe h { g with waiting := g.waiting.filter (fun w => w.1 != t.slot) }) g
       | none => d)
    else if 64 ≤ g.count ∧ isFirst = false then fragmentToHost now d t u
    else
      let g := own { g with count := g.count + 1, lastLesson := lesson }
      let g := if g.ports.isNone then { g with waiting := g.waiting ++ [(t.slot, lesson)] } else g
      finish (d.setDatagram x.pipe h g) g

/-- FRAGMENT_WAIT_TIMEOUT (R370): the fragment of a slot has waited 2 lessons; its task ends when it runs. -/
def fragmentWaitTimeout (pipe slot : Nat) (now : BellSt) (d : Dev) : Dev :=
  match d.taskRec pipe slot, d.tutors.datagrams.find? (fun (g : Datagram) => g.pipe == pipe && g.ports.isNone && g.waiting.any (fun w => w.1 == slot)) with
  | some t, some g =>
    (match d.taskDesc t, t.state, g.waiting.find? (fun w => w.1 == slot) with
     | some x, .running u, some w =>
       if lessonsSince now.lesson.toNat w.2 < 2 then d else
       fragmentToHost now (d.setDatagram pipe x.hdr { g with waiting := g.waiting.filter (fun w => w.1 != slot) }) t u
     | _, _, _ => d)
  | _, _ => d

/-- FRAGMENT_ENTRY_EXPIRE (R370): an entry of a pipe goes 64 lessons after its last fragment. -/
def fragmentEntryExpire (pipe : Nat) (now : BellSt) (d : Dev) : Dev :=
  match d.tutors.datagrams.find? (fun (g : Datagram) => g.pipe == pipe && decide (64 ≤ lessonsSince now.lesson.toNat g.lastLesson)) with
  | none => d
  | some g => { d with tutors := { d.tutors with datagrams := d.tutors.datagrams.erase g } }

/-! ## Addresses (R341, R342) -/

/-- The endpoint a proxy answers for: bound, its lease current, and for IPv4 bound to the target. -/
def Dev.proxyFor (d : Dev) (v6 : Bool) (target : Nat) : Option Nat :=
  match d.endpointOf v6 target with
  | none => none
  | some e =>
    let v := d.endpoint e
    if epBound v ∧ d.leaseCurrent v = true ∧ (v6 = true ∨ fld v 380 32 = target) then some v else none

/-- A frame padded to 60 bytes, which the FCS makes the shortest frame. -/
def padFrame (f : Bytes) : Bytes := f ++ List.replicate (60 - f.length) 0

/-- The ARP reply to a request (R341): VLAN tags are kept. -/
def arpReply (x : Desc) (mac target : Nat) : Bytes :=
  let o := x.hdr.l2Len
  let sha := beAt x.bytes (o + 8) 6
  let spa := beAt x.bytes (o + 14) 4
  padFrame (toBE 6 sha ++ toBE 6 mac ++ slice x.bytes 12 (o - 12) ++ slice x.bytes o 6 ++ toBE 2 2 ++ toBE 6 mac ++ toBE 4 target ++ toBE 6 sha ++ toBE 4 spa)

/-- The neighbour advertisement that answers a solicitation (R341): solicited set, override clear. A solicitation without a
source address is answered to all nodes (RFC 4861). -/
def ndReply (x : Desc) (mac target : Nat) : Bytes :=
  let anon := x.hdr.ipSrc == 0
  let dst := if anon then 0xFF020000000000000000000000000001 else x.hdr.ipSrc
  let na0 := [136, 0, 0, 0, 0x40, 0, 0, 0] ++ toBE 16 target ++ [2, 1] ++ toBE 6 mac
  let ck := ocCheck (toBE 16 target ++ toBE 16 dst ++ toBE 4 32 ++ [0, 0, 0, 58] ++ na0)
  let na := patch na0 2 (toBE 2 ck)
  toBE 6 (if anon then 0x333300000001 else x.hdr.macSrc) ++ toBE 6 mac ++ slice x.bytes 12 (x.hdr.l2Len - 12) ++
    [0x60, 0, 0, 0] ++ toBE 2 32 ++ [58, 255] ++ toBE 16 target ++ toBE 16 dst ++ na

/-- A binding from a DHCPACK (R342). -/
def dhcpBind (now : BellSt) (d : Dev) (x : Desc) : Dev :=
  let o := x.hdr.l4Off + 8
  let yi := beAt x.bytes (o + 16) 4
  let ch := beAt x.bytes (o + 28) 6
  match d.endpointOf false yi, dhcpValue x 51, l2Lookup d.tabs (d.rd M.EDITION_CURRENT) x.edition x.pipe ch x.hdr.vlanId with
  | some e, some lease, some (_, row) =>
    let n := min ((lease * 10 ^ 9 + 2 ^ 30 - 1) / 2 ^ 30) (2 ^ 23 - 1)
    let v := setFld (setFld (setFld (d.endpoint e) 510 1 1) 456 48 ch) 444 12 x.hdr.vlanId
    let v := setFld (setFld (setFld v 436 8 (L2Entry.ofBytes row.data).port) 380 32 yi) 412 24 (d.rd M.LEASE_CLOCK + n)
    mirrorEndpoint now ((setEndpoint now d e v).bump M.CNT_DHCP_BIND) e
  | _, _, _ => d

/-- A release or decline by the bound station (R342). -/
def dhcpUnbind (now : BellSt) (d : Dev) (x : Desc) (addr : Nat) : Dev :=
  match d.endpointOf false addr with
  | none => d
  | some e =>
    let v := d.endpoint e
    if epBound v ∧ epMac v = x.hdr.macSrc then mirrorEndpoint now (setEndpoint now d e (setFld v 510 1 0)) e else d

/-- Kind 2: the verdict, and the device. -/
def nativeAddress (now : BellSt) (d : Dev) (x : Desc) : Nat × Dev :=
  let port := x.hdr.port
  let answer (d : Dev) (f : Bytes) (c : Nat) : Nat × Dev := (3 * 2 ^ 60, (sendOwn now (d.bump c) f port x.cls).2)
  if x.hdr.l3 = 3 then
    (let target := beAt x.bytes (x.hdr.l2Len + 24) 4
     match d.proxyFor false target with
     | some v => answer d (arpReply x (epMac v) target) M.CNT_ARP_PROXY
     | none => (0, d))
  else if x.hdr.l4Type = 4 then
    (let target := beAt x.bytes (x.hdr.l4Off + 8) 16
     match d.proxyFor true target with
     | some v => answer d (ndReply x (epMac v) target) M.CNT_ND_PROXY
     | none => (0, d))
  else
    let ty := (dhcpValue x 53).getD 0
    let o := x.hdr.l4Off + 8
    (0, if ty = 5 then dhcpBind now d x
        else if ty = 7 then dhcpUnbind now d x (beAt x.bytes (o + 12) 4)
        else if ty = 4 then dhcpUnbind now d x ((dhcpValue x 50).getD 0) else d)

/-! ## ICMP errors (R333) -/

/-- An ICMP error with its outer and embedded headers translated. -/
def icmpTranslate (d : Dev) (x : Desc) (s r : Nat) : Desc :=
  let o := x.hdr.l4Off + 8
  let f := x.bytes
  let il := 4 * (byteAt f o % 16)
  let l := o + il
  let proto := byteAt f (o + 9)
  let srcIn : Nat := beAt f (o + 12) 4
  let dstIn : Nat := beAt f (o + 16) 4
  let ty := byteAt f l
  let idq := proto == 1
  let ports : Nat × Nat := if idq then (if ty = 8 then (beAt f (l + 4) 2, 0) else (0, beAt f (l + 4) 2)) else (beAt f l 2, beAt f (l + 2) 2)
  let client := d.clientOf s r
  let server := d.serverOf s r
  let out := d.outsideOf x.edition r client server
  -- an error about what the inside host sent comes from outside; one about what it received comes from inside
  let fromOutside := decide ((srcIn, ports.1) = (out.src, out.sport))
  let (ns, nsp, nd, ndp) := if fromOutside then (client.1, client.2, server.1, server.2) else (out.dst, out.dport, out.src, out.sport)
  let g := patch (patch f (o + 12) (toBE 4 ns)) (o + 16) (toBE 4 nd)
  let g := patch (patch g (o + 10) [0, 0]) (o + 10) (toBE 2 (ocCheck (slice (patch g (o + 10) [0, 0]) o il)))
  let g := if idq then (let n := if ty = 8 then nsp else ndp
                        patch (patch g (l + 4) (toBE 2 n)) (l + 2) (toBE 2 (ocUpdate (beAt f (l + 2) 2) (beAt f (l + 4) 2) n)))
    else
      (let g := patch (patch g l (toBE 2 nsp)) (l + 2) (toBE 2 ndp)
       let at_ := if proto = 17 then l + 6 else l + 16
       let c := beAt f at_ 2
       if f.length < at_ + 2 ∨ (proto = 17 ∧ c = 0) then g else
       let c := ocUpdates 2 (ocUpdates 2 c srcIn ns) dstIn nd
       patch g at_ (toBE 2 (ocUpdate (ocUpdate c ports.1 nsp) ports.2 ndp)))
  let src := if fromOutside then (if x.hdr.ipSrc = out.dst then server.1 else x.hdr.ipSrc) else (if x.hdr.ipSrc = client.1 then out.src else x.hdr.ipSrc)
  let dst := if fromOutside then client.1 else (if x.hdr.ipDst = server.1 then out.dst else x.hdr.ipDst)
  let e := x.hdr.l2Len
  let ihl := 4 * (byteAt f e % 16)
  let g := patch (patch (patch g (e + 12) (toBE 4 src)) (e + 16) (toBE 4 dst)) (e + 10) [0, 0]
  let g := patch g (e + 10) (toBE 2 (ocCheck (slice g e ihl)))
  let m := x.hdr.l4Off
  let stop := if x.hdr.ipEnd = 0 then f.length else min f.length x.hdr.ipEnd
  let g := patch g (m + 2) [0, 0]
  let g := patch g (m + 2) (toBE 2 (ocCheck (slice g m (stop - m))))
  { x with bytes := g, hdr := { x.hdr with ipSrc := src, ipDst := dst } }

/-- Kind 4. -/
def nativeIcmp (d : Dev) (t : TaskRec) (x : Desc) : Dev :=
  match t.recSlot with
  | none => d
  | some s =>
    let r := d.recordAt s
    if recValid r = false then d else (d.setDesc (icmpTranslate d x s r)).bump M.CNT_NAT_ICMP_ERROR

/-! ## A task of the default image -/

/-- A task of the default image does its kind's work and ends, or goes on running where it must wait (R369). -/
def nativeRun (now : BellSt) (d : Dev) (t : TaskRec) (u : Nat) : Dev :=
  if t.cancelled then endTask now d t u 0 else
  match d.taskDesc t with
  | some x =>
    (match t.kind with
     | 0 => nativeNewFlow now d t u x
     | 1 => nativeFragment now d t u x
     | 2 => let (v, d) := nativeAddress now d x; endTask now d t u v
     | 4 => endTask now (nativeIcmp d t x) t u 0
     | 5 => nativeRedecide now d t u x
     | _ => endTask now d t u 0)
  | none =>
    (match t.kind with
     | 7 => endTask now (natRelease now d (leVal (fit 8 t.word))) t u 0
     | 8 => endTask now (exportDrain 65536 now d) t u 0
     | _ => endTask now d t u 0)

end Sys2Proof.Machine
end

