-- ==== Sys2Proof/Machine/Sched.lean ====
section
/-!
DEFINITION. Traps, hangs and the task scheduler (R366, R367, R371 to R373), and the control stores (R356, R378).
-/
namespace Sys2Proof.Machine

/-- The cluster of a tutor (R354), which is its pipe. -/
def clusterOf (t : Nat) : Nat := t / 4

/-- The task a tutor runs. -/
def Dev.running (d : Dev) (t : Nat) : Option TaskRec := (d.tutor t).task.bind (fun s => d.taskRec (clusterOf t) s)

/-- The lowest address of the trap frame (R366). -/
def trapBase : Nat := 0x1E00

/-! ## Hangs (R371) -/

/-- A task goes back to the head of its level (R371, R378). -/
def Dev.putBack (d : Dev) (t : TaskRec) : Dev :=
  let d := d.setTask { t with state := .ready }
  { d with tutors := { d.tutors with ready := t.handle :: d.tutors.ready } }

/-- A task of a hung tutor is reissued, or abandoned at its third time. -/
def reissue (now : BellSt) (u : Nat) (d : Dev) (t : TaskRec) : Dev :=
  if 3 ≤ t.reissue + 1 then abandonTask now (M.CNT_TASK_ABANDONED t.pipe) (traceTask now (d.bump (M.CNT_TASK_ABANDONED t.pipe)) 10 t u 0) t
  else
    let t := { t with reissue := t.reissue + 1, avoid := u :: t.avoid }
    traceTask now ((d.putBack t).bump (M.CNT_TASK_REISSUE t.pipe)) 9 t u 0

/-- The tasks on a tutor: the running one and those pre-empted there. -/
def Dev.tasksOn (d : Dev) (u : Nat) : List TaskRec :=
  d.tutors.tasks.filter (fun (t : TaskRec) => match t.state with
    | .running v => v == u
    | .preempted v => v == u
    | _ => false)

/-- A hung tutor is reset, and its tasks reissued or abandoned. -/
def hang (now : BellSt) (d : Dev) (u : Nat) : Dev :=
  let x := d.tutor u
  let off := decide (3 ≤ x.hangs + 1)
  let ts := d.tasksOn u
  let d := d.setTutor u { Tutor.init with localMem := x.localMem, hangs := x.hangs + 1, offline := x.offline || off || !d.on (M.TUTOR_ENABLE u) }
  let d := (d.bump (M.CNT_TUTOR_HANG u)).raiseOpen now Ev.TUTOR_HANG (oid 0x40 u)
  let d := d.raiseOpenIf off now Ev.TUTOR_OFFLINE (oid 0x40 u)
  ts.foldl (reissue now u) d

/-! ## Traps (R366) -/

/-- The trap frame: HEADER, INFO, stack, registers. -/
def trapFrame (x : Tutor) (cause info pc : Nat) : Bytes :=
  let st := x.stack.reverse
  toLE 8 (cause % 256 * 2 ^ 56 + pc % 2 ^ 15 * 2 ^ 41 + b2n x.z * 2 ^ 40 + b2n x.n * 2 ^ 39 + b2n x.c * 2 ^ 38 + b2n x.v * 2 ^ 37 +
    x.stack.length % 32 * 2 ^ 32 + x.task.getD 0 % 2 ^ 13) ++
  toLE 8 info ++ ((List.range 16).flatMap (fun i => toLE 2 (st.getD i 0))) ++ ((List.range 30).flatMap (fun i => toLE 8 (x.g (i + 1)))) ++
  toLE 8 (x.g 31) ++ List.replicate 216 0

/-- A trap is taken, which defers a pre-emption that waits (R362). -/
def takeTrap (d : Dev) (u cause info pc : Nat) : Dev :=
  let x := d.tutor u
  let pc := if 7 ≤ cause then x.pc else pc
  let mem := Memory.writeBytes x.localMem trapBase (trapFrame x cause info pc)
  ((d.setTutor u { x with localMem := mem, masked := true, trapping := true, preempt := none, pc := cause, budget := x.budget || cause == 8 }).bump
    (M.CNT_TUTOR_TRAP u)).wr (M.TUTOR_LAST_TRAP u) cause

/-- TRAP_RETURN: every field of the frame as it then stands. -/
def trapReturn (x : Tutor) : Tutor :=
  let le (o n : Nat) : Nat := leVal (Memory.readBytes x.localMem (trapBase + o) n)
  let h := le 0 8
  let depth := min 16 (fld h 32 5)
  let regs := (List.range 30).foldl (fun m i => SMap.set zeroReg m (i + 1) (BitVec.ofNat 64 (le (0x30 + 8 * i) 8))) []
  { x with pc := fld h 41 15, z := bitOf h 40, n := bitOf h 39, c := bitOf h 38, v := bitOf h 37,
           stack := ((List.range depth).map (fun i => le (0x10 + 2 * i) 2)).reverse, regs, status := le 0x120 8,
           masked := false, trapping := false }

/-! ## Dispatch (R367, R372) -/

/-- Whether dispatch is stopped for an image load (R378). -/
def Dev.dispatchStopped (d : Dev) : Bool := d.tutors.load == .stopping || d.tutors.load == .resumeDue

/-- The ready tasks of a pipe, first to run first within a level. -/
def Dev.readyTasks (d : Dev) (pipe : Nat) : List TaskRec :=
  d.tutors.ready.filterMap (fun h => if h / 8192 = pipe then d.taskRec pipe (h % 8192) else none)

/-- The highest non-empty level's head. -/
def Dev.readyHead (d : Dev) (pipe : Nat) : Option TaskRec :=
  let ts := d.readyTasks pipe
  let top := ts.foldl (fun a t => max a t.prio) 0
  ts.find? (fun t => t.prio == top)

/-- The highest level of a task pre-empted on a tutor. -/
def Dev.preemptedOn (d : Dev) (u : Nat) : Option TaskRec :=
  let ts := d.tutors.tasks.filter (fun (t : TaskRec) => t.state == .preempted u)
  let top := ts.foldl (fun a t => max a t.prio) 0
  ts.find? (fun t => t.prio == top)

/-- Whether a tutor may be dispatched a task of a level: in service, with no task, and none pre-empted on it at that level or above. -/
def Dev.idleFor (d : Dev) (u prio : Nat) : Bool :=
  let x := d.tutor u
  x.task.isNone && !x.offline && d.on (M.TUTOR_ENABLE u) && (match d.preemptedOn u with | some t => decide (t.prio < prio) | none => true)

/-- The tutors of a cluster. -/
def clusterTutors (pipe : Nat) : List Nat := [4 * pipe, 4 * pipe + 1, 4 * pipe + 2, 4 * pipe + 3]

/-- The idle tutor a task goes to: the lowest-numbered, one it hung on last (R371, R372). -/
def Dev.idleTutorFor (d : Dev) (t : TaskRec) : Option Nat :=
  let us := (clusterTutors t.pipe).filter (fun u => d.idleFor u t.prio)
  (us.find? (fun u => !t.avoid.contains u)).orElse (fun _ => us.head?)

/-- The registers a task starts with (R367): G10 for host tasks and those of MAKE_READY alone. -/
def startRegs (d : Dev) (t : TaskRec) : SMap W64 :=
  let x := d.taskDesc t
  let r (f : Desc → Nat) : Nat := match x with | some y => f y | none => 0
  let all := 2 ^ 64 - 1
  let vals : List (Nat × Nat) :=
    [(1, t.handle), (2, t.kind % 64 + t.prio % 8 * 256 + t.reissue % 4 * 4096), (3, r (fun y => y.bytes.length)), (4, t.recSlot.getD all), (5, t.epIndex.getD all),
     (6, r (fun y => fld y.result 0 64)), (7, r (fun y => fld y.result 64 48)), (8, if t.kind = 1 then t.order.getD 0 else r (fun y => y.h1)),
     (9, r (fun y => y.edition % 256 + y.dgen % 65536 * 65536)), (10, if 9 ≤ t.kind then leVal (fit 8 t.word) else 0)]
  vals.foldl (fun m v => SMap.set zeroReg m v.1 (BitVec.ofNat 64 v.2)) []

/-- A task starts on a tutor from its entry, with its copies of record and endpoint record (R365, R367); one cancelled before it
was put back takes trap CANCEL (R374). -/
def startTask (now : BellSt) (d : Dev) (t : TaskRec) (u : Nat) : Dev :=
  let rc := match t.recSlot with | some s => d.recordAt s | none => 0
  let ec := match t.epIndex with | some e => d.endpoint e | none => 0
  let t := { t with state := .running u, recCopy := rc, recOrig := rc, recMask := 0, epCopy := ec, epMask := 0 }
  let entry := match d.tutors.image with | some i => i.entry.getD t.kind 0 | none => 0
  let x := d.tutor u
  let d := d.setTutor u { x with task := some t.slot, pc := entry, z := false, n := false, c := false, v := false, stack := [], regs := startRegs d t,
                                 status := 0, masked := false, trapping := false, due := [], double := false, budget := false, ops := [],
                                 preempt := none, waiting := false }
  let d := d.setTask t
  let d : Dev := { d with
    tutors := { d.tutors with ready := d.tutors.ready.filter (fun h => h != t.handle) }
    roll := { d.roll with stale := d.roll.stale.filter (fun y => y.1 != t.handle) } }
  let d := traceTask now (stampTask now (d.bump (M.CNT_TASK_DISPATCH t.pipe)) t 184) 2 t u 0
  if t.cancelled then takeTrap d u 9 0 entry else d

/-- TASK_DISPATCH (R372, rule 1); in Recess the tutors are clock-gated (R88). -/
def taskDispatch (pipe : Nat) (now : BellSt) (d : Dev) : Dev :=
  if d.dispatchStopped || d.asleep then d else
  match d.readyHead pipe with
  | none => d
  | some t => match d.idleTutorFor t with
    | none => d
    | some u => startTask now d t u

/-- The running task is saved in its level's frame (R372). -/
def saveTask (now : BellSt) (d : Dev) (t : TaskRec) (u slot : Nat) : Dev :=
  let x := d.tutor u
  let s : Saved := { pc := x.pc, z := x.z, n := x.n, c := x.c, v := x.v, stack := x.stack, regs := x.regs, status := x.status, slot := t.slot, cycles := b2n x.budget,
                     trapping := x.trapping, due := x.due }
  let x := { x with levels := SMap.set (fun _ => none) x.levels t.prio (some s), preempt := none, task := none }
  traceTask now (((d.setTutor u x).setTask { t with state := .preempted u }).bump (M.CNT_TASK_PREEMPT t.pipe)) 3 t u slot

/-- A pre-emption at the word boundary with no operation outstanding: the head that is ready starts (R372). -/
def doPreempt (now : BellSt) (d : Dev) (u : Nat) : Dev :=
  let d := d.setTutor u { d.tutor u with preempt := none }
  match d.running u, d.readyHead (clusterOf u) with
  | some t, some h => if t.prio < h.prio ∧ d.dispatchStopped = false then startTask now (saveTask now d t u h.slot) h u else d
  | _, _ => d

/-- What waits for a tutor's word boundary with no memory operation outstanding: the end of a WAIT, a double fault, which hangs
the tutor, a trap, unless one is being handled, a pre-emption. -/
def settleTutor (now : BellSt) (d : Dev) (u : Nat) : Dev :=
  let x := d.tutor u
  if x.ops.isEmpty = false ∨ x.task.isNone = true then d else
  let x := if x.waiting then { x with waiting := false, pc := x.pc + 1 } else x
  let d := d.setTutor u x
  if x.double then hang now d u else
  match (if x.trapping then [] else x.due) with
  | (cause, info, pc) :: rest => takeTrap (d.setTutor u { x with due := rest }) u cause info pc
  | [] => if x.preempt.isSome then doPreempt now d u else d

/-- The tutor a level pre-empts (R372, rule 2): unmasked, at the lowest level below it, the highest-numbered of equals. -/
def Dev.victimTutor (d : Dev) (pipe prio : Nat) : Option Nat :=
  let us := (clusterTutors pipe).filterMap (fun u =>
    let x := d.tutor u
    match d.running u with
    | some t => if t.prio < prio ∧ x.masked = false ∧ (x.due.isEmpty || x.trapping) = true ∧ x.double = false ∧ x.preempt.isNone = true then some (t.prio, u) else none
    | none => none)
  let low := us.foldl (fun a x => min a x.1) 8
  ((us.filter (fun x => x.1 == low)).getLast?).map Prod.snd

/-- TASK_PREEMPT (R372, rule 2). -/
def taskPreempt (pipe : Nat) (now : BellSt) (d : Dev) : Dev :=
  if d.dispatchStopped || d.asleep then d else
  match d.readyHead pipe with
  | none => d
  | some t =>
    if (d.idleTutorFor t).isSome then d else
    match d.victimTutor pipe t.prio with
    | none => d
    | some u => settleTutor now (d.setTutor u { d.tutor u with preempt := some t.prio }) u

/-- TASK_RESUME (R372): the tutor's pre-empted task goes on when no ready task is above its level; a cancelled one takes trap
CANCEL (R374). -/
def taskResume (u : Nat) (now : BellSt) (d : Dev) : Dev :=
  let x := d.tutor u
  if d.asleep then d else
  match x.task, d.preemptedOn u with
  | none, some t =>
    if (match d.readyHead (clusterOf u) with | some h => decide (t.prio < h.prio) | none => false) then d else
    match SMap.get (fun _ => none) x.levels t.prio with
    | none => d
    | some s =>
      let x := { x with task := some t.slot, pc := s.pc, z := s.z, n := s.n, c := s.c, v := s.v, stack := s.stack, regs := s.regs, status := s.status,
                        budget := s.cycles == 1, trapping := s.trapping, due := s.due, levels := SMap.erase x.levels t.prio }
      let x := if t.cancelled then x.trapDue 9 0 s.pc else x
      settleTutor now (traceTask now ((d.setTutor u x).setTask { t with state := .running u }) 4 t u 0) u
  | _, _ => d

/-- TASK_BUDGET_TRAP (R366): the task has run TASK_CYCLE_LIMIT cycles. -/
def taskBudgetTrap (u : Nat) (now : BellSt) (d : Dev) : Dev :=
  let x := d.tutor u
  if x.task.isNone ∨ x.budget = true then d else
  settleTutor now (d.setTutor u ({ x with budget := true }.trapDue 8 0 x.pc)) u

/-- MASK_LIMIT_TRAP (R362): the tutor has been masked for 1,024 cycles. -/
def maskLimitTrap (u : Nat) (now : BellSt) (d : Dev) : Dev :=
  let x := d.tutor u
  if x.task.isNone ∨ x.masked = false then d else
  settleTutor now (d.setTutor u ({ x with masked := false }.trapDue 7 0 x.pc)) u

/-- TUTOR_HANG (R371): a task past its BUDGET trap, or an operation that has not completed within 64 periods. -/
def tutorHang (u : Nat) (now : BellSt) (d : Dev) : Dev :=
  let x := d.tutor u
  if x.task.isSome ∧ (x.budget = true ∨ x.ops.any (fun o => decide (64 ≤ o.age)) = true) then hang now d u else d

/-! ## Service of tutors and image loads (R371, R378, R380) -/

/-- TUTOR_ENABLE (R371, R380). -/
def tutorEnable (u v : Nat) (d : Dev) : Nat × Dev :=
  let d := d.wr (M.TUTOR_ENABLE u) v
  let x := d.tutor u
  (St.OK, d.setTutor u { x with offline := if v = 1 then false else x.offline || (x.task.isNone && x.levels.isEmpty) })

/-- The bytes an image load reads, and whether they are a default image (R378). -/
def Dev.imageBytes (d : Dev) : Bool × Bytes :=
  let src := d.rd M.TUTOR_IMAGE_SOURCE
  if src < 2 then (true, Config.bootTutorImage (src == 1)) else
  (false, if 786752 < d.rd M.TUTOR_IMAGE_LEN then [] else Memory.readBytes d.memories.host (d.rd M.TUTOR_IMAGE_ADDR) (d.rd M.TUTOR_IMAGE_LEN))

/-- TUTOR_IMAGE_LOAD (R378 step 1). -/
def tutorImageLoad (_ : Nat) (d : Dev) : Nat × Dev :=
  if d.tutors.load ≠ .idle ∨ d.start.state = .restarting then (St.BUSY, d) else
  (St.OK, { d.wr M.TUTOR_IMAGE_STATUS St.PENDING with tutors := { d.tutors with load := .checking } })

/-- TUTOR_IMAGE_CHECKED (R377): the checks end. -/
def tutorImageChecked (d : Dev) : Dev :=
  if d.tutors.load ≠ .checking then d else
  let (native, bs) := d.imageBytes
  let st := imageStatus bs
  if st = St.OK then { d with tutors := { d.tutors with load := .stopDue, loading := some (Image.ofBytes native bs) } }
  else { d.wr M.TUTOR_IMAGE_STATUS st with tutors := { d.tutors with load := .idle } }

/-- The tutors of the device. -/
def allTutors : List Nat := List.range 64

/-- The tasks on a tutor go back to the heads of their levels, and the tutor is idle (R378 step 3). -/
def stopTutor (d : Dev) (u : Nat) : Dev :=
  let ts := d.tasksOn u
  if ts.isEmpty then d else
  let x := d.tutor u
  ts.foldl Dev.putBack (d.setTutor u { Tutor.init with localMem := x.localMem, hangs := x.hangs, offline := x.offline || !d.on (M.TUTOR_ENABLE u) })

/-- TUTOR_IMAGE_TASK_STOP (R378 steps 3 and 4): the control stores are written next, and dispatch resumes at the next bell. -/
def tutorImageTaskStop (d : Dev) : Dev :=
  if d.tutors.load ≠ .stopping then d else
  let d := allTutors.foldl stopTutor d
  { d with tutors := { d.tutors with load := .resumeDue } }

/-- What a bell does to an image load (R378 steps 2 and 5), and to the ages of memory operations (R371). -/
def tutorsAtBell (d : Dev) : Dev :=
  let aged := d.tutors.tutors.map (fun (k, x) => (k, { x with ops := x.ops.map (fun (o : MemOp) => { o with age := o.age + 1 }) }))
  let d := { d with tutors := { d.tutors with tutors := aged } }
  match d.tutors.load, d.tutors.loading with
  | .stopDue, _ => { d with tutors := { d.tutors with load := .stopping } }
  | .resumeDue, some i =>
    let d := (d.withImage i).wr M.TUTOR_IMAGE_STATUS St.OK
    { d with tutors := { d.tutors with load := .idle, loading := none } }
  | _, _ => d

/-- At a lesson start the hangs of each tutor are counted afresh (R371). -/
def tutorsAtLesson (d : Dev) : Dev :=
  let clear (k : Nat) (x : Tutor) : SMap Tutor → SMap Tutor := fun m => SMap.set (fun _ => Tutor.init) m k { x with hangs := 0 }
  { d with tutors := { d.tutors with tutors := d.tutors.tutors.foldl (fun m e => clear e.1 e.2 m) d.tutors.tutors } }

/-- An uncorrectable control-store word is copied from the next active cluster (R356). -/
def storeRepair (d : Dev) (k : Nat) : Dev :=
  { d with tutors := { d.tutors with storeBad := d.tutors.storeBad.filter (fun w => w != k) } }.bump M.CNT_TUTOR_STORE_REPAIR

end Sys2Proof.Machine
end

