-- ==== Sys2Proof/Machine/Micro.lean ====
section
/-!
DEFINITION. Microwords (R354 to R366): issue, memory operations and their completion, SYS operations, and the sequencer.
-/
namespace Sys2Proof.Machine

/-! ## Spaces of memory operations (R361) -/

/-- A header vector as the list of its fields. -/
def Hdr.toList (h : Hdr) : List Nat :=
  [h.port, h.cls, h.macDst, h.macSrc, h.etherType, h.vlanCount, h.vlanId, h.pcp, h.l2Len, h.l3, h.dscp, h.ecn, h.ttl, h.ipSrc, h.ipDst, h.ipId,
   h.fragOff, b2n h.mf, h.flowLabel, h.proto, h.l4Type, h.l4Off, h.ipEnd, h.l4Src, h.l4Dst, h.tcpFlags, h.tcpSeq, h.tcpAck, h.tcpOff, h.icmpType,
   h.icmpCode, h.icmpId, h.frag, b2n h.opts, b2n h.ext, b2n h.dhcp, b2n h.nd, b2n h.ptp, h.malformed, h.dei, h.innerTci]

/-- What HV_READ exposes of a packet, in a layout that is open: header vector and parse result (R224), and its route's USER_TAG (R251, log
283). -/
def Desc.headers (x : Desc) : List Nat := x.hdr.toList ++ [x.hdr.result, x.userTag]

/-- Whether an operation's address is outside its space or not aligned to its width (R361). `n` is MEM_DATA. -/
def memRange (d : Dev) (t : TaskRec) (op a width n : Nat) : Bool :=
  let inside (size : Nat) : Bool := decide (a + width ≤ size) && a % width == 0
  match op with
  | 0x01 | 0x02 => !inside 8192
  | 0x03 => !(t.desc.isSome && inside Config.hvBytes)
  | 0x04 | 0x05 => !(t.recSlot.isSome && inside 128)
  | 0x06 | 0x07 => !(t.epIndex.isSome && inside 64)
  | 0x08 => !inside (2 ^ 30)
  | 0x09 | 0x0A => !inside (2 ^ 30) || inDeltaStore a || inDeltaStore (a + width - 1)
  | 0x0B | 0x0C => !(match d.taskDesc t with | some x => inside x.bytes.length | none => false)
  | 0x12 => !(decide (a + n % 2 ^ 14 ≤ 8192) && a % width == 0)
  | 0x13 => !(decide (a < 8192) && a % width == 0 && decide (n % 2 ^ 14 < 60 ∨ 2048 < n % 2 ^ 14 ∨ a + n % 2 ^ 14 ≤ 8192))
  | _ => false

/-- The status of an operation on a memory behind a channel. -/
def memStatus (o : MemOutcome) : Nat := match o with | .ok => St.OK | .uncorrectable => St.UNCORRECTABLE | .unavailable => St.UNAVAILABLE

/-- An operation ends: its status reaches G31, and what it loads its register (R361). -/
def memEnd (d : Dev) (u : Nat) (m : MemOp) (st v : Nat) : Dev :=
  let x := { d.tutor u with status := st }
  d.setTutor u (if st = St.OK ∧ memLoads m.op = true then x.setG m.reg v else x)

/-- What the tutor data region reads: the member store and the delta store hold what the device keeps there, in a form the
spec leaves open (R335, log 39), but for what a tutor wrote itself. -/
def tdRead (d : Dev) (a n : Nat) : Nat × Dev :=
  let (f, d) := if tdOpen a || tdOpen (a + n - 1) then d.fresh else (0, d)
  (leVal ((List.range n).map (fun i => d.tdByte (f / 256 ^ i) (a + i))), d)

/-- A write of the tutor data region. -/
def tdWrite (d : Dev) (a n v : Nat) : Dev :=
  (List.range n).foldl (fun d i => d.tdPut (a + i) ((toLE n v).getD i 0)) d

/-- The requests of a TD operation as it issues (R51, R432, R440, port 1): TD_WRITE and TD_ADD read their unit and write it whole. -/
def tdRequest (now : BellSt) (d : Dev) (m : MemOp) : Dev :=
  if m.op < 8 ∨ 0xA < m.op then d else
  let (t, d) := Dev.stamp now d
  let bs := (List.range m.width).map (fun i => RegionByte.tutor (m.addr + i))
  if m.op = 8 then d.regionAccess 1 false t bs else d.regionUpdate 1 true t bs

/-- The accesses of a TD operation end (R361, R439, R444, R449): how it ends, `none` while one of them cannot. An operation that must end
with its task does. -/
def tdEnd (now : BellSt) (d : Dev) (m : MemOp) (o : MemOutcome) (must : Bool) : Option (MemOutcome × Dev) :=
  let (ch, unit) := d.regionPlace (.tutor m.addr)
  let ends (d : Dev) (write : Bool) (o : MemOutcome) : Option (MemOutcome × Dev) :=
    match endAccess now d ch unit 1 write o with
    | some x => some x
    | none => if must then some (o, d) else none
  match ends d false (if d.chServes ch then o else .unavailable) with
  | none => none
  | some (o, d) => if m.op = 8 then some (o, d) else (ends d true (if o = .unavailable then o else .ok)).map (fun x => (o, x.2))

/-- TABLE (R363): whether it has completed. -/
def memTable (now : BellSt) (d : Dev) (u : Nat) (m : MemOp) (o : MemOutcome) : Bool × Dev :=
  let x := d.tutor u
  let c := TblCmd.ofNat m.value
  let rd (a n : Nat) : Bytes := Memory.readBytes x.localMem a n
  let w : Words := { key := rd 0x40 64, data := rd 0x80 128, cmpValue := rd 0x100 128, cmpMask := rd 0x180 128 }
  let put (r : TblResult) (d : Dev) : Dev :=
    let x := d.tutor u
    let mem := Memory.writeBytes x.localMem 0x8 (toLE 8 r.word)
    let mem := match r.data with | some bs => Memory.writeBytes mem 0x80 (fit 128 bs) | none => mem
    memEnd (d.setTutor u { x with localMem := mem }) u m r.status 0
  let ends (st : Nat) : Bool × Dev := let (r, d) := tblFail d st; (true, put r d)
  if c.op = 0 then (true, memEnd d u m St.OK 0) else
  let st := tblCheck d c false true
  if st ≠ St.OK then ends st else
  if o = .unavailable then ends St.UNAVAILABLE else
  match tableOp now d c w (decide (o = .uncorrectable)) true with
  | .done r d => (true, put r d)
  | .waits d => (false, d)
  | .line => (false, d.bump M.CNT_FR_SET_PINNED)
  | .lost => ends St.UNAVAILABLE

/-- Bytes appended to the export ring (R361): they complete the message at its end, or start one, whose number of data
records is open (log 40). -/
def ringWrite (now : BellSt) (d : Dev) (bs : Bytes) : Nat × Dev :=
  if exportRingBytes d.palette < d.exportRingUsed + bs.length then (St.FULL, d) else
  let d := d.exportGrows now bs.length
  let ms := d.services.exportPending
  let partial_ (m : Nat × Bytes) : Bool := decide (m.2.length < 4) || decide (m.2.length < beAt m.2 2 2)
  match ms.getLast? with
  | some m =>
    if partial_ m then (St.OK, { d with services := { d.services with exportPending := ms.dropLast ++ [(m.1, m.2 ++ bs)] } })
    else let (f, d) := d.fresh; (St.OK, { d with services := { d.services with exportPending := ms ++ [(f % 2 ^ 16, bs)] } })
  | none => let (f, d) := d.fresh; (St.OK, { d with services := { d.services with exportPending := [(f % 2 ^ 16, bs)] } })

/-- SEND (R364): G[MEM_DATA] names port, class and length. -/
def memSend (now : BellSt) (d : Dev) (u : Nat) (m : MemOp) : Nat × Dev :=
  let len := fld m.value 0 14
  if len < 60 ∨ 2048 < len then (St.RANGE, d)
  else (St.OK, (sendOwn now d (Memory.readBytes (d.tutor u).localMem m.addr len) (fld m.value 56 8) (fld m.value 53 3)).2)

/-- An operation on the tutor data region whose accesses have ended (R361, R439). -/
def tdRun (d : Dev) (u : Nat) (m : MemOp) (o : MemOutcome) : Dev :=
  let (v, d) := if m.op = 9 then (0, d) else tdRead d m.addr m.width
  let d := if o = .ok ∧ m.op ≠ 8 then tdWrite d m.addr m.width (if m.op = 9 then m.value else (v + m.value) % 256 ^ m.width) else d
  memEnd d u m (memStatus o) v

/-- An operation of a tutor is carried out: whether it has completed. `must`: it ends with its task. -/
def memRun (now : BellSt) (d : Dev) (u : Nat) (m : MemOp) (o : MemOutcome) (must : Bool) : Bool × Dev :=
  let x := d.tutor u
  match d.running u with
  | none => (true, d)
  | some t =>
    let a := m.addr
    let n := m.width
    let fin (st v : Nat) (d : Dev) : Bool × Dev := (true, memEnd d u m st v)
    let td : Bool × Dev := match tdEnd now d m o must with
      | some (o, d) => (true, tdRun d u m o)
      | none => (false, d)
    match m.op with
    | 0x01 => fin St.OK (leVal (Memory.readBytes x.localMem a n)) d
    | 0x02 => fin St.OK 0 (d.setTutor u { x with localMem := Memory.writeBytes x.localMem a (toLE n m.value) })
    | 0x03 => fin St.OK (match d.taskDesc t with | some y => leVal ((List.range n).map (fun i => toByte (Config.hvByte y.headers (a + i)))) | none => 0) d
    | 0x04 => fin St.OK (fld t.recCopy (8 * a) (8 * n)) d
    | 0x05 => fin St.OK 0 (d.setTask { t with recCopy := recClean (setFld t.recCopy (8 * a) (8 * n) m.value), recMask := t.recMask ||| ((256 ^ n - 1) * 256 ^ a) })
    | 0x06 => fin St.OK (fld t.epCopy (8 * a) (8 * n)) d
    | 0x07 => fin St.OK 0 (d.setTask { t with epCopy := setFld t.epCopy (8 * a) (8 * n) m.value, epMask := t.epMask ||| ((256 ^ n - 1) * 256 ^ a) })
    | 0x08 => td
    | 0x09 => td
    | 0x0A => td
    | 0x0B => fin St.OK (match d.taskDesc t with | some y => leAt y.bytes a n | none => 0) d
    | 0x0C => fin St.OK 0 (match d.taskDesc t with | some y => d.setDesc { y with bytes := patch y.bytes a (toLE n m.value) } | none => d)
    | 0x0D => memTable now d u m o
    | 0x0E => let (st, v, d) := readAs now d (.t u) a; fin st v d
    | 0x0F => let (st, d) := d.accept ⟨.t u, m.value, 8⟩ a (fun v d => (St.OK, d.wr a v)); fin st 0 d
    | 0x10 => let (st, p, d) := poolAlloc d (0x10 + clusterOf u) m.value; fin st p d
    | 0x11 => let (st, d) := poolFree d (0x10 + clusterOf u) m.value; fin st 0 d
    | 0x12 => let (st, d) := ringWrite now d (Memory.readBytes x.localMem a (fld m.value 0 14)); fin st 0 d
    | 0x13 => let (st, d) := memSend now d u m; fin st 0 d
    | _ => (true, d)

/-- The tutor's operations without its oldest. -/
def popOp (d : Dev) (u : Nat) : Dev := d.setTutor u { d.tutor u with ops := (d.tutor u).ops.drop 1 }

/-- MEM_OP_COMPLETE (R361): the tutor's oldest outstanding operation completes. -/
def memOpComplete (u : Nat) (o : MemOutcome) (now : BellSt) (d : Dev) : Dev :=
  match (d.tutor u).ops with
  | [] => d
  | m :: _ => match memRun now d u m o false with
    | (true, e) => settleTutor now (popOp e u) u
    | (false, e) => e

/-- The operations that are outstanding when a task ends complete first (log 41). -/
def drainOps (fuel : Nat) (now : BellSt) (d : Dev) (u : Nat) : Dev :=
  match fuel, (d.tutor u).ops with
  | 0, _ => d
  | _, [] => d
  | fuel + 1, m :: _ => drainOps fuel now (popOp (memRun now d u m .ok true).2 u) u

/-! ## Traps of a word (R358, R361, R366) -/

/-- The next address of a word, or its trap: cause and INFO. `x` is the tutor at the start of the word. -/
def nextAddr (x : Tutor) (w : Nat) : Nat ⊕ (Nat × Nat) :=
  let inc : Nat ⊕ (Nat × Nat) := if 32768 ≤ x.pc + 1 then .inr (2, x.pc + 1) else .inl (x.pc + 1)
  let hold := condHolds (wCond w) x
  if wSys w = 1 ∨ wSys w = 4 then .inl x.pc else
  match wSeq w with
  | 1 => if hold then .inl (wTarget w) else inc
  | 2 => if hold = false then inc else if 16 ≤ x.stack.length then .inr (3, 0) else if 32768 ≤ x.pc + 1 then .inr (2, x.pc + 1) else .inl (wTarget w)
  | 3 => match x.stack with
    | [] => .inr (4, 0)
    | p :: _ => .inl p
  | 4 =>
    let a := wTarget w + ((x.g (wSrcA w) % 256) &&& (wImm w % 256))
    if 32768 ≤ a then .inr (2, a) else .inl a
  | 6 => .inl x.pc
  | _ => inc

/-- The stack after a word. -/
def nextStack (x : Tutor) (w : Nat) : List Nat :=
  if wSys w = 1 ∨ wSys w = 4 then x.stack
  else if wSeq w = 2 ∧ condHolds (wCond w) x = true then (x.pc + 1) :: x.stack
  else if wSeq w = 3 then x.stack.drop 1 else x.stack

/-- The memory operation a word issues, its registers read after the ALU has written (R357). -/
def memOpOf (y : Tutor) (w : Nat) : MemOp :=
  let op := wMem w
  let addr := if op = 0x0E ∨ op = 0x0F then y.g (wMemAddr w) % 2 ^ 32 else (y.g (wMemAddr w) + wMemOffset w) % 2 ^ 64
  { op, reg := wMemData w, addr, width := widthBytes (wMemWidth w), value := y.g (wMemData w), age := 0 }

/-- The trap a word raises, before it has any effect: cause and INFO. -/
def wordTrap (d : Dev) (t : TaskRec) (minor : Nat) (loaded : Bool) (x : Tutor) (w : Nat) : Option (Nat × Nat) :=
  if loaded = false ∨ wordLegal minor w = false then some (1, 0) else
  match nextAddr x w with
  | .inr c => some c
  | .inl _ =>
    let y := aluApply x w
    let m := memOpOf y w
    if memRange d t m.op m.addr m.width m.value then some (5, m.addr)
    else if wSys w = 3 ∧ 8192 < y.g (wSysReg w) + 32 then some (5, y.g (wSysReg w))
    else none

/-! ## SYS operations (R362) -/

/-- MAKE_READY: a task from the word at a local address, in the tutor's own pipe. -/
def sysMakeReady (now : BellSt) (d : Dev) (u reg : Nat) : Dev :=
  let x := d.tutor u
  let word := Memory.readBytes x.localMem (x.g reg) 32
  let kind := 10 + Config.taskWordKind word % 54
  match makeReady now d { TaskRec.new (clusterOf u) kind (byteAt word 0 % 8) with word } with
  | (some h, d) => d.setTutor u ((d.tutor u).setG reg h)
  | (none, d) => d.setTutor u { d.tutor u with status := St.TASK_FULL }

/-- CANCEL (R374). -/
def sysCancel (now : BellSt) (d : Dev) (u reg : Nat) : Dev :=
  let h := (d.tutor u).g reg
  let (st, d) := cancelTask now d h
  let d := d.setTutor u { d.tutor u with status := st }
  match d.taskRec (fld h 13 5) (fld h 0 13) with
  | some t => (match t.state with | .running v => if v = u then d else settleTutor now d v | _ => d)
  | none => d

/-- The SYS operations that do not end the task. -/
def sysRun (now : BellSt) (d : Dev) (u w next : Nat) : Dev :=
  let x := d.tutor u
  match wSys w with
  | 2 => sysCancel now d u (wSysReg w)
  | 3 => sysMakeReady now d u (wSysReg w)
  | 4 => d.setTutor u (trapReturn x)
  | 5 => d.setTutor u { x with masked := true }
  | 6 => d.setTutor u { x with masked := false }
  | 7 => d.setTutor u (x.trapDue 6 (x.g (wSysReg w)) next)
  | 8 => d.raise now Ev.TUTOR_USER (oid 0x40 u) (x.g (wSysReg w))
  | _ => d

/-! ## Issue (R354 to R358) -/

/-- A word that neither stalls nor traps runs: ALU, memory operation, next address, SYS operation. -/
def wordRun (now : BellSt) (d : Dev) (t : TaskRec) (u w next : Nat) : Dev :=
  let x := d.tutor u
  let y := aluApply x w
  let y := { y with ops := if wMem w = 0 then y.ops else y.ops ++ [memOpOf y w], stack := nextStack x w }
  let waits := wSeq w == 5 && !y.ops.isEmpty && wSys w != 1 && wSys w != 4
  let y := { y with pc := if waits then x.pc else next, waiting := waits }
  let d := tdRequest now ((d.setTutor u y).bump (M.CNT_TUTOR_WORDS u)) (memOpOf (aluApply x w) w)
  if wSys w = 1 ∨ wSeq w = 6 then
    let v := if wSys w = 1 then y.g (wSysReg w) else 0
    let d := drainOps 9 now (if wSys w = 1 then d else sysRun now d u w next) u
    endTask now d ((d.running u).getD t) u v
  else settleTutor now (sysRun now d u w next) u

/-- A control-store word, and whether it is loaded (R357). -/
def Dev.storeWord (d : Dev) (pc : Nat) : Bool × Nat :=
  match d.tutors.image with
  | some i => (decide (pc < i.words), if pc < i.words then SMap.get zeroAt i.store pc else 0)
  | none => (false, 0)

/-- Whether a tutor issues words: it has a task, and nothing waits for its word boundary; traps that wait for the end of the
trap being handled do not stop its handler. -/
def Tutor.issues (x : Tutor) : Bool :=
  x.task.isSome && (x.due.isEmpty || x.trapping) && !x.double && x.preempt.isNone && !x.waiting

/-- The uncorrectable control-store word a tutor meets (R356). Which words of the default image a tutor issues is not given, so
whether it meets a bad one of its cluster is open (log 37). -/
def badWord (d : Dev) (u pc : Nat) (native : Bool) : Option Nat × Dev :=
  if native then
    match d.tutors.storeBad.find? (fun k => k / 32768 == clusterOf u) with
    | some k => let (f, d) := d.fresh; (if f % 2 = 0 then some k else none, d)
    | none => (none, d)
  else (if d.tutors.storeBad.contains (clusterOf u * 32768 + pc) then some (clusterOf u * 32768 + pc) else none, d)

/-- A tutor issues the word at its address, if that word holds the operation `holds` asks for. A word of the default image is
not given: it counts, and one that ends its task does its kind's work (log 37). Any command issues a word whose sequencer and ALU codes are
both reserved, which raises ILLEGAL (R357). -/
def issueWord (holds : Nat → Bool) (ends : Bool) (u : Nat) (now : BellSt) (d : Dev) : Dev :=
  let x := d.tutor u
  if d.asleep then d else
  match d.running u with
  | none => d
  | some t =>
    if x.issues = false then d else
    let native : Bool := match d.tutors.image with | some i => i.native | none => false
    match badWord d u x.pc native with
    | (some k, d) => storeRepair d k
    | (none, d) =>
    if native then
      (let d := d.bump (M.CNT_TUTOR_WORDS u)
       if ends then nativeRun now d t u else d)
    else
      let (loaded, w) := d.storeWord x.pc
      if holds w = false ∧ (wSeq w < 7 ∨ wAlu w < 0x15) then d else
      let minor := match d.tutors.image with | some i => i.minor | none => 0
      if loaded ∧ wordLegal minor w = true ∧ x.stalls w = true then d.bump (M.CNT_TUTOR_STALL u) else
      match wordTrap d t minor loaded x w with
      | some (cause, info) => settleTutor now (d.setTutor u (x.trapDue cause info x.pc)) u
      | none =>
        match nextAddr x w with
        | .inl next => wordRun now d t u w next
        | .inr _ => d

/-- A word with a sequencer operation, an ALU operation, a memory operation, a SYS operation. -/
def issueSeq (k u : Nat) (now : BellSt) (d : Dev) : Dev := issueWord (fun w => wSeq w == k) (k == 6) u now d
def issueAlu (k u : Nat) (now : BellSt) (d : Dev) : Dev := issueWord (fun w => wAlu w == k) false u now d
def issueMem (k u : Nat) (now : BellSt) (d : Dev) : Dev := issueWord (fun w => wMem w == k) false u now d
def issueSys (k u : Nat) (now : BellSt) (d : Dev) : Dev := issueWord (fun w => wSys w == k) (k == 1) u now d

/-! ## Commands -/

/-- TASK_DISPATCH (R372). -/
def execTaskDispatch (pipe : Nat) (s : State) : Host.Outcome State Fault Refusal :=
  s.onDie (fun now d => taskDispatch pipe now d)

/-- TASK_PREEMPT (R372). -/
def execTaskPreempt (pipe : Nat) (s : State) : Host.Outcome State Fault Refusal :=
  s.onDie (fun now d => taskPreempt pipe now d)

/-- TASK_RESUME (R372). -/
def execTaskResume (t : Nat) (s : State) : Host.Outcome State Fault Refusal :=
  s.onDie (fun now d => taskResume t now d)

/-- TASK_HELD_RELEASE (R373). -/
def execTaskHeldRelease (pipe : Nat) (s : State) : Host.Outcome State Fault Refusal :=
  s.onDie (fun now d => taskHeldRelease pipe now d)

/-- TASK_BUDGET_TRAP (R366). -/
def execTaskBudgetTrap (t : Nat) (s : State) : Host.Outcome State Fault Refusal :=
  s.onDie (fun now d => taskBudgetTrap t now d)

/-- MASK_LIMIT_TRAP (R362). -/
def execMaskLimitTrap (t : Nat) (s : State) : Host.Outcome State Fault Refusal :=
  s.onDie (fun now d => maskLimitTrap t now d)

/-- TUTOR_HANG (R371). -/
def execTutorHang (t : Nat) (s : State) : Host.Outcome State Fault Refusal :=
  s.onDie (fun now d => tutorHang t now d)

/-- MEM_OP_COMPLETE (R361). -/
def execMemOpComplete (t : Nat) (o : MemOutcome) (s : State) : Host.Outcome State Fault Refusal :=
  s.onDie (fun now d => memOpComplete t o now d)

/-- NEXT (R358). -/
def execSeqNext (t : Nat) (s : State) : Host.Outcome State Fault Refusal :=
  s.onDie (fun now d => issueSeq 0x0 t now d)

/-- JUMP (R358). -/
def execSeqJump (t : Nat) (s : State) : Host.Outcome State Fault Refusal :=
  s.onDie (fun now d => issueSeq 0x1 t now d)

/-- CALL (R358). -/
def execSeqCall (t : Nat) (s : State) : Host.Outcome State Fault Refusal :=
  s.onDie (fun now d => issueSeq 0x2 t now d)

/-- RETURN (R358). -/
def execSeqReturn (t : Nat) (s : State) : Host.Outcome State Fault Refusal :=
  s.onDie (fun now d => issueSeq 0x3 t now d)

/-- DISPATCH (R358). -/
def execSeqDispatch (t : Nat) (s : State) : Host.Outcome State Fault Refusal :=
  s.onDie (fun now d => issueSeq 0x4 t now d)

/-- WAIT (R358). -/
def execSeqWait (t : Nat) (s : State) : Host.Outcome State Fault Refusal :=
  s.onDie (fun now d => issueSeq 0x5 t now d)

/-- END (R358). -/
def execSeqEnd (t : Nat) (s : State) : Host.Outcome State Fault Refusal :=
  s.onDie (fun now d => issueSeq 0x6 t now d)

/-- NOP (R360). -/
def execAluNop (t : Nat) (s : State) : Host.Outcome State Fault Refusal :=
  s.onDie (fun now d => issueAlu 0x0 t now d)

/-- ADD (R360). -/
def execAluAdd (t : Nat) (s : State) : Host.Outcome State Fault Refusal :=
  s.onDie (fun now d => issueAlu 0x1 t now d)

/-- SUB (R360). -/
def execAluSub (t : Nat) (s : State) : Host.Outcome State Fault Refusal :=
  s.onDie (fun now d => issueAlu 0x2 t now d)

/-- AND (R360). -/
def execAluAnd (t : Nat) (s : State) : Host.Outcome State Fault Refusal :=
  s.onDie (fun now d => issueAlu 0x3 t now d)

/-- OR (R360). -/
def execAluOr (t : Nat) (s : State) : Host.Outcome State Fault Refusal :=
  s.onDie (fun now d => issueAlu 0x4 t now d)

/-- XOR (R360). -/
def execAluXor (t : Nat) (s : State) : Host.Outcome State Fault Refusal :=
  s.onDie (fun now d => issueAlu 0x5 t now d)

/-- SHL (R360). -/
def execAluShl (t : Nat) (s : State) : Host.Outcome State Fault Refusal :=
  s.onDie (fun now d => issueAlu 0x6 t now d)

/-- SHR (R360). -/
def execAluShr (t : Nat) (s : State) : Host.Outcome State Fault Refusal :=
  s.onDie (fun now d => issueAlu 0x7 t now d)

/-- SAR (R360). -/
def execAluSar (t : Nat) (s : State) : Host.Outcome State Fault Refusal :=
  s.onDie (fun now d => issueAlu 0x8 t now d)

/-- MOV (R360). -/
def execAluMov (t : Nat) (s : State) : Host.Outcome State Fault Refusal :=
  s.onDie (fun now d => issueAlu 0x9 t now d)

/-- EXTRACT (R360). -/
def execAluExtract (t : Nat) (s : State) : Host.Outcome State Fault Refusal :=
  s.onDie (fun now d => issueAlu 0xA t now d)

/-- INSERT (R360). -/
def execAluInsert (t : Nat) (s : State) : Host.Outcome State Fault Refusal :=
  s.onDie (fun now d => issueAlu 0xB t now d)

/-- CMP (R360). -/
def execAluCmp (t : Nat) (s : State) : Host.Outcome State Fault Refusal :=
  s.onDie (fun now d => issueAlu 0xC t now d)

/-- MINU (R360). -/
def execAluMinu (t : Nat) (s : State) : Host.Outcome State Fault Refusal :=
  s.onDie (fun now d => issueAlu 0xD t now d)

/-- MAXU (R360). -/
def execAluMaxu (t : Nat) (s : State) : Host.Outcome State Fault Refusal :=
  s.onDie (fun now d => issueAlu 0xE t now d)

/-- CLZ (R360). -/
def execAluClz (t : Nat) (s : State) : Host.Outcome State Fault Refusal :=
  s.onDie (fun now d => issueAlu 0xF t now d)

/-- MUL (R360). -/
def execAluMul (t : Nat) (s : State) : Host.Outcome State Fault Refusal :=
  s.onDie (fun now d => issueAlu 0x10 t now d)

/-- MULHU (R360). -/
def execAluMulhu (t : Nat) (s : State) : Host.Outcome State Fault Refusal :=
  s.onDie (fun now d => issueAlu 0x11 t now d)

/-- CRC (R360). -/
def execAluCrc (t : Nat) (s : State) : Host.Outcome State Fault Refusal :=
  s.onDie (fun now d => issueAlu 0x12 t now d)

/-- BSWAP (R360). -/
def execAluBswap (t : Nat) (s : State) : Host.Outcome State Fault Refusal :=
  s.onDie (fun now d => issueAlu 0x13 t now d)

/-- POPCNT (R360). -/
def execAluPopcnt (t : Nat) (s : State) : Host.Outcome State Fault Refusal :=
  s.onDie (fun now d => issueAlu 0x14 t now d)

/-- LOCAL_READ (R361). -/
def execMemLocalRead (t : Nat) (s : State) : Host.Outcome State Fault Refusal :=
  s.onDie (fun now d => issueMem 0x1 t now d)

/-- LOCAL_WRITE (R361). -/
def execMemLocalWrite (t : Nat) (s : State) : Host.Outcome State Fault Refusal :=
  s.onDie (fun now d => issueMem 0x2 t now d)

/-- HV_READ (R361). -/
def execMemHvRead (t : Nat) (s : State) : Host.Outcome State Fault Refusal :=
  s.onDie (fun now d => issueMem 0x3 t now d)

/-- REC_READ (R361). -/
def execMemRecRead (t : Nat) (s : State) : Host.Outcome State Fault Refusal :=
  s.onDie (fun now d => issueMem 0x4 t now d)

/-- REC_WRITE (R365). -/
def execMemRecWrite (t : Nat) (s : State) : Host.Outcome State Fault Refusal :=
  s.onDie (fun now d => issueMem 0x5 t now d)

/-- EP_READ (R361). -/
def execMemEpRead (t : Nat) (s : State) : Host.Outcome State Fault Refusal :=
  s.onDie (fun now d => issueMem 0x6 t now d)

/-- EP_WRITE (R361). -/
def execMemEpWrite (t : Nat) (s : State) : Host.Outcome State Fault Refusal :=
  s.onDie (fun now d => issueMem 0x7 t now d)

/-- TD_READ (R361). -/
def execMemTdRead (t : Nat) (s : State) : Host.Outcome State Fault Refusal :=
  s.onDie (fun now d => issueMem 0x8 t now d)

/-- TD_WRITE (R361). -/
def execMemTdWrite (t : Nat) (s : State) : Host.Outcome State Fault Refusal :=
  s.onDie (fun now d => issueMem 0x9 t now d)

/-- TD_ADD (R361). -/
def execMemTdAdd (t : Nat) (s : State) : Host.Outcome State Fault Refusal :=
  s.onDie (fun now d => issueMem 0xA t now d)

/-- PKT_READ (R361). -/
def execMemPktRead (t : Nat) (s : State) : Host.Outcome State Fault Refusal :=
  s.onDie (fun now d => issueMem 0xB t now d)

/-- PKT_WRITE (R361). -/
def execMemPktWrite (t : Nat) (s : State) : Host.Outcome State Fault Refusal :=
  s.onDie (fun now d => issueMem 0xC t now d)

/-- TABLE (R363). -/
def execMemTable (t : Nat) (s : State) : Host.Outcome State Fault Refusal :=
  s.onDie (fun now d => issueMem 0xD t now d)

/-- DICT_READ (R361). -/
def execMemDictRead (t : Nat) (s : State) : Host.Outcome State Fault Refusal :=
  s.onDie (fun now d => issueMem 0xE t now d)

/-- DICT_WRITE (R361). -/
def execMemDictWrite (t : Nat) (s : State) : Host.Outcome State Fault Refusal :=
  s.onDie (fun now d => issueMem 0xF t now d)

/-- POOL_ALLOC (R398). -/
def execMemPoolAlloc (t : Nat) (s : State) : Host.Outcome State Fault Refusal :=
  s.onDie (fun now d => issueMem 0x10 t now d)

/-- POOL_FREE (R399). -/
def execMemPoolFree (t : Nat) (s : State) : Host.Outcome State Fault Refusal :=
  s.onDie (fun now d => issueMem 0x11 t now d)

/-- RING_WRITE (R361). -/
def execMemRingWrite (t : Nat) (s : State) : Host.Outcome State Fault Refusal :=
  s.onDie (fun now d => issueMem 0x12 t now d)

/-- SEND (R364). -/
def execMemSend (t : Nat) (s : State) : Host.Outcome State Fault Refusal :=
  s.onDie (fun now d => issueMem 0x13 t now d)

/-- RELEASE (R367). -/
def execSysRelease (t : Nat) (s : State) : Host.Outcome State Fault Refusal :=
  s.onDie (fun now d => issueSys 0x1 t now d)

/-- CANCEL (R374). -/
def execSysCancel (t : Nat) (s : State) : Host.Outcome State Fault Refusal :=
  s.onDie (fun now d => issueSys 0x2 t now d)

/-- MAKE_READY (R362). -/
def execSysMakeReady (t : Nat) (s : State) : Host.Outcome State Fault Refusal :=
  s.onDie (fun now d => issueSys 0x3 t now d)

/-- TRAP_RETURN (R366). -/
def execSysTrapReturn (t : Nat) (s : State) : Host.Outcome State Fault Refusal :=
  s.onDie (fun now d => issueSys 0x4 t now d)

/-- MASK (R362). -/
def execSysMask (t : Nat) (s : State) : Host.Outcome State Fault Refusal :=
  s.onDie (fun now d => issueSys 0x5 t now d)

/-- UNMASK (R362). -/
def execSysUnmask (t : Nat) (s : State) : Host.Outcome State Fault Refusal :=
  s.onDie (fun now d => issueSys 0x6 t now d)

/-- FAULT (R362). -/
def execSysFault (t : Nat) (s : State) : Host.Outcome State Fault Refusal :=
  s.onDie (fun now d => issueSys 0x7 t now d)

/-- EVENT (R362). -/
def execSysEvent (t : Nat) (s : State) : Host.Outcome State Fault Refusal :=
  s.onDie (fun now d => issueSys 0x8 t now d)

/-- FRAGMENT_WAIT_TIMEOUT (R370). -/
def execFragmentWaitTimeout (pipe slot : Nat) (s : State) : Host.Outcome State Fault Refusal :=
  s.onDie (fun now d => fragmentWaitTimeout pipe slot now d)

/-- FRAGMENT_ENTRY_EXPIRE (R370). -/
def execFragmentEntryExpire (pipe : Nat) (s : State) : Host.Outcome State Fault Refusal :=
  s.onDie (fun now d => fragmentEntryExpire pipe now d)

/-- TUTOR_IMAGE_LOAD (R378). -/
def execTutorImageLoad (a : Acc) (s : State) : Host.Outcome State Fault Refusal :=
  s.onDev (fun _ d => (d.trigger a M.TUTOR_IMAGE_LOAD tutorImageLoad).2)

/-- TUTOR_IMAGE_CHECKED (R377). -/
def execTutorImageChecked (s : State) : Host.Outcome State Fault Refusal :=
  s.onDie (fun _ d => tutorImageChecked d)

/-- TUTOR_IMAGE_TASK_STOP (R378). -/
def execTutorImageTaskStop (s : State) : Host.Outcome State Fault Refusal :=
  s.onDie (fun _ d => tutorImageTaskStop d)

/-- TUTOR_ENABLE (R371). -/
def execTutorEnable (t : Nat) (a : Acc) (s : State) : Host.Outcome State Fault Refusal :=
  s.onDev (fun _ d => (d.accept a (M.TUTOR_ENABLE t) (tutorEnable t)).2)

end Sys2Proof.Machine
end

