-- ==== Sys2Proof/Machine/Rings.lean ====
section
/-!
DEFINITION. Descriptor rings (R457 to R481): doorbells and pushes, the descriptors, completion, disable and fault, event
records, interrupts, and the host windows.
-/
namespace Sys2Proof.Machine

/-! ## Kinds of rings and descriptors (R467 to R471) -/

def rxRing (r : Nat) : Bool := decide (r < 120)
def txRing (r : Nat) : Bool := decide (120 ≤ r) && decide (r < 240)
def evRing (r : Nat) : Bool := decide (240 ≤ r) && decide (r < 256)

/-- Fields of position 0 (R467). -/
def pos0Phase (b : Bytes) : Nat := fld (leVal (fit 16 b)) 16 1
def pos0Len (b : Bytes) : Nat := fld (leVal (fit 16 b)) 20 4
def pos0Op (b : Bytes) : Nat := fld (leVal (fit 16 b)) 24 8
def pos0BufLen (b : Bytes) : Nat := fld (leVal (fit 16 b)) 32 16
def pos0Addr (b : Bytes) : Nat := fld (leVal (fit 16 b)) 64 64

/-- Position `k` of a descriptor. -/
def posAt (b : Bytes) (k : Nat) : Nat := leVal (slice b (16 * k) 16)

/-- Whether position 0 is as posted: reserved bits, DONE and STATUS zero. -/
def postedOk (b : Bytes) : Bool := let v := posAt b 0; fld v 17 3 == 0 && fld v 48 16 == 0

/-- TX_FRAME as R468 and R469 allow it. -/
def txFrameOk (format : Nat) (b : Bytes) : Bool :=
  let v := posAt b 1
  let inl := bitOf v 11
  let n := pos0Len b
  fld v 24 104 == 0 && fld v 0 11 == 0 && decide (1 ≤ n) && (format == 2 || (n == 1 && !inl)) &&
    (!inl || (decide (pos0BufLen b ≤ 224) && decide (pos0BufLen b ≤ 16 * (n - 1))))

/-- TX_SEG as R468 and R470 allow it. -/
def txSegOk (format : Nat) (b : Bytes) : Bool :=
  let v := posAt b 1
  let pay := fld v 28 19
  format == 2 && pos0Len b == 1 && fld v 47 1 == 0 && fld v 24 4 == 0 && fld v 0 13 == 0 && decide (1 ≤ pay) && decide (pay ≤ 262144)

/-- TASK as R468 and R471 allow it. -/
def taskOk (format : Nat) (b : Bytes) : Bool :=
  let a := pos0Addr b
  format == 2 && pos0Len b == 2 && fld a 11 53 == 0 && fld a 4 4 == 0

/-- Whether a descriptor keeps to R468. -/
def descOk (r format : Nat) (b : Bytes) : Bool :=
  postedOk b &&
  (match pos0Op b with
   | 0x00 => true
   | 0x01 => txRing r && txFrameOk format b
   | 0x02 => txRing r && txSegOk format b
   | 0x03 => txRing r && taskOk format b
   | 0x10 => rxRing r && pos0Len b == 1
   | _ => false)

/-! ## Doorbells and pushes (R464 to R466) -/

/-- The held push that covers an index: its place among the held ones, and the position's 16 bytes. Pushes of one slot stand for the
groups of that slot which the doorbell covers, in order (log 277). -/
def pushFor (x : Ring) (size i : Nat) : Option (Nat × Bytes) :=
  let p := i % size
  let lap := (i + 65536 - x.fetch % 65536 / 4 * 4) % 65536 / 4 / 32
  (((x.pushes.zipIdx.filter (fun e => e.1.1 == p / 4 % 32))[lap]?)).map (fun e => (e.2, slice e.1.2 (16 * (p % 4)) 16))

/-- What a doorbell takes: entries from an index up, with the places of the pushes that gave its positions. `n` positions may be
covered; `mem` is what host memory holds from the index up. -/
def takeEntries (fuel : Nat) (d : Dev) (r n i : Nat) (mem : Bytes) (used : List Nat) (acc : List REntry) : List REntry × Nat × List Nat :=
  match fuel with
  | 0 => (acc, i, used)
  | fuel + 1 =>
    let x := d.ring r
    let size := d.ringSize r
    let at_ (k : Nat) : Option (Option Nat × Bytes) :=
      match pushFor x size ((i + k) % 65536) with
      | some (s, b) => some (some s, b)
      | none => if mem.length < 16 * (k + 1) then none else some (none, slice mem (16 * k) 16)
    if n = 0 then (acc, i, used) else
    match at_ 0 with
    | none => (acc, i, used)
    | some (_, b0) =>
      let phaseBad := d.rd (M.RING_OWNERSHIP r) = 0 && pos0Phase b0 != d.ringPhase r i
      let len := pos0Len b0 + 1
      if phaseBad ∨ n < len then (acc, i, used) else
      match (List.range len).mapM at_ with
      | none => (acc, i, used)
      | some ps =>
        let e : REntry := { index := i, positions := len, bytes := ps.flatMap Prod.snd, started := false, fin := none }
        let e := if descOk r (d.rd (M.RING_FORMAT r)) e.bytes then e
          else { e with started := true, fin := some (St.RING_BAD_DESC, donePos e.bytes St.RING_BAD_DESC) }
        takeEntries fuel d r (n - len) ((i + len) % 65536) (mem.drop (16 * len)) (used ++ ps.filterMap Prod.fst) (acc ++ [e])

/-- Positions a doorbell covers: up to the producer index, or in phase-bit mode as far as the ring has places. -/
def Dev.covered (d : Dev) (r v : Nat) : Nat :=
  let x := d.ring r
  let room := d.ringSize r - (x.fetch + 65536 - d.rd (M.RING_CONS r)) % 65536
  if d.rd (M.RING_OWNERSHIP r) = 0 then room else min room ((v + 65536 - x.fetch) % 65536)

/-- Whether a ring of host tasks holds a task that finds no slot (R372): it fetches nothing. -/
def Dev.taskStalled (d : Dev) (r : Nat) : Bool :=
  match (d.ring r).entries.find? (fun e => !e.started) with
  | some e => pos0Op e.bytes == 3 && !d.gated (pos0Addr e.bytes % 16) && d.generalFull (pos0Addr e.bytes % 16)
  | none => false

/-- What a doorbell of a transmit or receive ring fetches (R465, R466): `mem` is what host memory holds from the next position to
fetch. -/
def ringFetch (r v : Nat) (mem : Bytes) (d : Dev) : Dev :=
  let x := d.ring r
  let (es, i, used) := takeEntries (d.ringSize r) d r (d.covered r v) x.fetch mem [] []
  let bad := (es.filter (fun e => e.started)).length
  let unused := x.pushes.length - used.eraseDups.length
  let d := d.setRing r { x with entries := x.entries ++ es, fetch := i, pushes := [], waiting := none }
  ((d.addTo (M.CNT_RING_BAD_DESC r) bad).addTo (M.CNT_RING_PUSH_USED r) used.length).addTo (M.CNT_RING_PUSH_DISCARD r) unused

/-- The fetch of a doorbell that waited, once the ring fetches again (R372). -/
def fetchWaiting (d : Dev) (r : Nat) : Dev :=
  match (d.ring r).waiting with
  | some (v, mem) => if d.rd (M.RING_STATE r) ≠ 1 ∨ d.taskStalled r = true then d else ringFetch r v mem d
  | none => d

/-- RING_DOORBELL (R464 to R466): while the ring's fetching is stopped the doorbell waits (R372). -/
def ringDoorbell (r offset : Nat) (data mem : Bytes) (d : Dev) : Dev :=
  if d.rd (M.RING_STATE r) ≠ 1 ∨ 256 ≤ r ∨ offset ≠ 0 ∨ data.length ≠ 4 then d else
  let v := leVal data % 65536
  if evRing r then d.wr (M.RING_CONS r) v else
  let d := if d.rd (M.RING_OWNERSHIP r) = 1 then d.wr (M.RING_PROD r) v else d
  if d.taskStalled r then d.setRing r { d.ring r with waiting := some (v, mem) } else ringFetch r v mem d

/-- RING_PUSH (R465, R466). -/
def ringPush (r j : Nat) (data : Bytes) (single : Bool) (d : Dev) : Dev :=
  if d.rd (M.RING_STATE r) ≠ 1 ∨ 240 ≤ r then d else
  let x := d.ring r
  if single = false ∨ data.length ≠ 64 ∨ 8 ≤ x.pushes.length then d.bump (M.CNT_RING_PUSH_DISCARD r)
  else d.setRing r { x with pushes := x.pushes ++ [(j % 32, data)] }

/-! ## Starting an entry (R468 to R472) -/

/-- The entry a ring starts next, if it has the operation. -/
def Dev.nextEntry (d : Dev) (r op : Nat) : Option REntry :=
  if d.rd (M.RING_STATE r) ≠ 1 then none else
  ((d.ring r).entries.find? (fun e => !e.started)).filter (fun e => pos0Op e.bytes == op)

/-- An entry has started. -/
def Dev.started (d : Dev) (r i : Nat) : Dev := d.setRing r ((d.ring r).amend i (fun e => { e with started := true }))

/-- NOP (R468). -/
def ringNop (r : Nat) (d : Dev) : Dev :=
  match d.nextEntry r 0 with
  | some e => finishEntry d r e.index St.OK
  | none => d

/-- RX_BUF (R468, R472): the buffer is posted. -/
def rxBuf (r : Nat) (d : Dev) : Dev :=
  match d.nextEntry r 0x10 with
  | some e => d.started r e.index
  | none => d

/-- Frame length of a TX_FRAME (R469). -/
def txLength (b : Bytes) : Nat :=
  if bitOf (posAt b 1) 11 then pos0BufLen b else pos0BufLen b + ((List.range (pos0Len b - 1)).map (fun k => fld (posAt b (k + 2)) 0 16)).sum

/-- Whether a segmentation request of a ring still makes segments (R213). -/
def Dev.segBusy (d : Dev) (r : Nat) : Bool := d.segs.any (fun s => s.ring == r && decide (s.seq < s.count))

/-- A frame of the host as one copy to a port (R469, R507): an event message that the port stamps ends its descriptor as it
is transmitted. -/
def txCopy (now : BellSt) (d : Dev) (r i port cls : Nat) (bytes : Bytes) : Dev :=
  let f : Frame := { bytes, port, cls, rxNs := 0, cells := cellsOf (bytes.length + 4), limited := false, lossless := false, source := 1, held := [], bad := [] }
  match takeCells now d f with
  | (none, _, d) => finishEntry (d.bump (M.CNT_BUF_NO_CELL port)) r i St.RING_TX_DROP
  | (some n, _, d) =>
    let stamped := (ptpPlace bytes).isSome && (d.rd (M.PTP_MODE port) == 1 || d.rd (M.PTP_MODE port) == 3)
    let c := { copyOf n f bytes port cls false none with ring := if stamped then some (r, i) else none }
    match enqueue now d f c none false with
    | (.queued, d) => if stamped then d.started r i else finishEntry d r i St.OK
    | (.dropped _ _, d) => finishEntry (releaseFrame now d n) r i St.RING_TX_DROP

/-- A frame of the host that enters the pipe of a port (R386, R469); the status of one dropped at its ingress is open. -/
def txInject (now : BellSt) (d : Dev) (r i port : Nat) (bytes : Bytes) : Dev :=
  let (ns, d) := Dev.stamp now d
  let (ok, d) := admitFrame now d port (ingressClass d port bytes) bytes ns 1
  if ok then finishEntry d r i St.OK else (let (f, d) := d.fresh; finishEntry d r i (f % 2 ^ 16))

/-- TX_FRAME (R469): `data` is what the descriptor's buffers hold. -/
def txFrame (r : Nat) (data : Bytes) (now : BellSt) (d : Dev) : Dev :=
  match d.nextEntry r 1 with
  | none => d
  | some e =>
    if d.pins.ready = false ∨ d.segBusy r = true then d else
    let v := posAt e.bytes 1
    let port := fld v 16 8
    let len := txLength e.bytes
    if len < 60 ∨ d.rd (M.PORT_MAX_FRAME port) < len + 4 then finishEntry d r e.index St.RANGE else
    let bytes := if bitOf v 11 then slice e.bytes 32 len else fit len data
    if bitOf v 12 then txInject now d r e.index port bytes else txCopy now d r e.index port (fld v 13 3) bytes

/-- Whether a segmentation header parses as R212 asks: Ethernet, VLAN tags, IPv4 without options or IPv6 without extension
headers, and TCP, ending where the header ends. -/
def segHeaderOk (h : Bytes) : Bool :=
  let o := typeOffset h + 2
  let t := beAt h (o - 2) 2
  let tcp (l : Nat) : Bool := decide (l + 20 ≤ h.length) && decide (5 ≤ byteAt h (l + 12) / 16) && h.length == l + 4 * (byteAt h (l + 12) / 16)
  if t = 0x0800 then byteAt h o == 0x45 && byteAt h (o + 9) == 6 && tcp (o + 20)
  else if t = 0x86DD then byteAt h o / 16 == 6 && byteAt h (o + 6) == 6 && tcp (o + 40)
  else false

/-- A segmentation request that completes before its first segment (R212); it is counted like every other (R213). -/
def segRefused (d : Dev) (r port : Nat) (index : Nat) (status : Nat) : Dev :=
  (finishEntry d r index status).bump (M.CNT_SEG_REQUEST port)

/-- TX_SEG (R212, R470): `hdr` is what host memory holds at HDR_ADDR. -/
def txSeg (r : Nat) (hdr : Bytes) (d : Dev) : Dev :=
  match d.nextEntry r 2 with
  | none => d
  | some e =>
    if d.pins.ready = false then d else
    let v := posAt e.bytes 1
    let port := fld v 16 8
    let mss := fld v 48 16
    let n := pos0BufLen e.bytes
    let h := fit n hdr
    if n = 0 ∨ 256 < n ∨ segHeaderOk h = false then segRefused d r port e.index St.PORT_SEG_HEADER
    else if mss = 0 ∨ d.rd (M.PORT_MAX_FRAME port) < n + mss + 4 then segRefused d r port e.index St.PORT_SEG_SIZE
    else
      let s : SegReq := { ring := r, index := e.index, port, cls := fld v 13 3, mss, hdr := h, payAddr := pos0Addr e.bytes, payLen := fld v 28 19,
                          done := 0, seq := 0, dropped := false, chunks := [] }
      { d.started r e.index with segs := (d.started r e.index).segs ++ [s] }

/-- TASK (R471). -/
def ringTask (r : Nat) (now : BellSt) (d : Dev) : Dev :=
  match d.nextEntry r 3 with
  | none => d
  | some e =>
    let a := pos0Addr e.bytes
    let pipe := a % 16
    if d.gated pipe then finishEntry d r e.index St.NOT_ALLOWED else
    let t := { TaskRec.new pipe 9 (fld a 8 3) with word := slice e.bytes 16 32, host := some (r, e.index) }
    match makeReady now d t with
    | (some _, d) => fetchWaiting (d.started r e.index) r
    | (none, d) => d

/-! ## Completion (R473) -/

/-- RING_COMPLETION (R473): the entry at the head of the ring, if it is finished, is written back. -/
def ringCompletion (r : Nat) (d : Dev) : Dev :=
  let x := d.ring r
  match x.entries with
  | [] => d
  | e :: rest =>
    match e.fin with
    | none => d
    | some (_, bs) =>
      let d := (d.emit (.dma (d.ringAddr r e.index) bs false)).setRing r { d.announced r x with entries := rest }
      (d.wr (M.RING_CONS r) ((e.index + e.positions) % 65536)).bump (M.CNT_RING_DONE r)

/-! ## Enable, disable and fault (R474 to R476) -/

/-- The checks of R476 in order: ST_OK or the code of the first that fails. -/
def Dev.ringEnableStatus (d : Dev) (r : Nat) : Nat :=
  let size := d.rd (M.RING_SIZE r)
  if d.rd (M.RING_STATE r) ≠ 0 then St.NOT_ALLOWED
  else if size < 64 ∨ 32768 < size ∨ size ≠ 2 ^ Nat.log2 size ∨ d.rd (M.RING_BASE r) % 4096 ≠ 0 ∨ d.rd (M.RING_HEAD_ADDR r) % 8 ≠ 0 then St.RANGE
  else if d.rd (M.RING_FORMAT r) ≠ 1 ∧ d.rd (M.RING_FORMAT r) ≠ 2 then St.RANGE
  else if (d.rd (M.RING_RX_MODE r) ≠ 0 ∧ rxRing r = false) ∨ (d.rd (M.RING_EVENT_MASK r) ≠ 0 ∧ evRing r = false) then St.RING_KIND
  else St.OK

/-- Entries that have not started, and on a receive ring those not filled, go without completion (R474 step 1). Entries complete in ring
order, so that one already found bad behind them goes with them: HEAD stays in front of both. -/
def discardEntries (d : Dev) (r : Nat) : Dev :=
  let x := d.ring r
  let kept := x.entries.takeWhile (fun e => e.fin.isSome || (e.started && !rxRing r))
  let gone := x.entries.length - kept.length + x.pushes.length
  (d.setRing r { x with entries := kept, pushes := [], waiting := none }).addTo (M.CNT_RING_DISCARDED r) gone

/-- A write of RING_ENABLE (R474 to R476). -/
def ringEnableWrite (r v : Nat) (d : Dev) : Nat × Dev :=
  let st := d.rd (M.RING_STATE r)
  if v = 1 then
    let c := d.ringEnableStatus r
    if c ≠ St.OK then (St.OK, d.wr (M.RING_STATUS r) c)
    else
      let d := ((d.wr (M.RING_STATUS r) St.OK).wr (M.RING_STATE r) 1).wr (M.RING_ENABLE r) 1
      (St.OK, d.setRing r { d.ring r with entries := [], fetch := d.rd (M.RING_CONS r), pushes := [], faulting := false, waiting := none })
  else
    let d := d.wr (M.RING_ENABLE r) 0
    if st = 1 then (St.OK, (discardEntries d r).wr (M.RING_STATE r) 2)
    else if st = 3 then (St.OK, d.wr (M.RING_STATE r) 0) else (St.OK, d)

/-- The head record (R474): `disabled` is its bit 17. -/
def headRecord (now : BellSt) (d : Dev) (r : Nat) (disabled : Bool) : Dev :=
  let a := d.rd (M.RING_HEAD_ADDR r)
  let head := d.rd (M.RING_CONS r)
  if a = 0 then d else
  d.emit (.dma a (toLE 8 (now.period.toNat * 2 ^ 32 + b2n disabled * 2 ^ 17 + d.ringPhase r head * 2 ^ 16 + head)) false)

/-- RING_DISABLE_COMPLETE (R474 steps 2 to 4, R475): every started entry has completed. -/
def ringDisableComplete (r : Nat) (now : BellSt) (d : Dev) : Dev :=
  if d.rd (M.RING_STATE r) ≠ 2 ∨ (d.ring r).entries.isEmpty = false then d else
  let d := headRecord now d r true
  if (d.ring r).faulting then
    let d := d.setRing r { d.ring r with faulting := false }
    ((d.wr (M.RING_STATE r) 3).wr (M.RING_STATUS r) St.RING_DMA).raise now Ev.RING_FAULT (oid 0x58 r) (r + d.rd (M.RING_CONS r) * 2 ^ 32)
  else d.wr (M.RING_STATE r) 0

/-- RING_DMA_FAULT (R475): the access that failed belongs to the segmentation request that reads its payload, else to the
entry that starts next; a ring that is being disabled stops by it too. -/
def ringDmaFault (r : Nat) (d : Dev) : Dev :=
  if d.rd (M.RING_STATE r) ≠ 1 ∧ d.rd (M.RING_STATE r) ≠ 2 then d else
  let d := match d.segs.find? (fun s => s.ring == r && decide (s.seq < s.count)) with
    | some s =>
      let x := d.ring r
      let gone := x.entries.dropWhile (fun e => e.index != s.index)
      let d := { d with segs := d.segs.map (fun (q : SegReq) =>
        if q.ring = r ∧ gone.any (fun e => e.index == q.index) = true then q.orphan else q) }
      (d.setRing r { x with entries := x.entries.takeWhile (fun e => e.index != s.index) }).addTo (M.CNT_RING_DISCARDED r) gone.length
    | none => d
  let d := (discardEntries d r).wr (M.RING_STATE r) 2
  d.setRing r { d.ring r with faulting := true }

/-! ## Interrupts (R481) -/

/-- A message on a vector, or its pending bit. -/
def signal (d : Dev) (r v : Nat) : Dev :=
  if d.rings.unmasked.contains v then (d.emit (.msix v)).bump (M.CNT_RING_IRQ r)
  else if d.rings.pendingVec.any (fun x => x.1 == v) then d
  else { d with rings := { d.rings with pendingVec := d.rings.pendingVec ++ [(v, r)] } }

/-- RING_IRQ (R464, R474, R481): on an event record, on the count, or when the delay timer ends; count and vector are those of the last
completion or record. -/
def ringIrq (r : Nat) (timer : Bool) (now : BellSt) (d : Dev) : Dev :=
  let x := d.ring r
  let n := x.irqLimit
  if n ≠ 0 ∧ (x.irqNow = true ∨ (x.irqCount ≠ 0 ∧ n ≤ x.irqCount) ∨ (timer && x.irqTimer) = true) then
    let d := headRecord now (d.setRing r { x with irqCount := 0, irqTimer := false, irqNow := false }) r (d.rd (M.RING_STATE r) == 0)
    signal d r x.vector
  else d

/-- The mask bit of a vector is written (R481, PCIe 5.0): a pending message leaves as its vector is unmasked, and counts at the ring that
signalled it. -/
def maskVector (d : Dev) (v : Nat) (mask : Bool) : Dev :=
  let others := d.rings.unmasked.filter (fun x => x != v)
  if mask then { d with rings := { d.rings with unmasked := others } } else
  let d := { d with rings := { d.rings with unmasked := others ++ [v] } }
  match d.rings.pendingVec.find? (fun x => x.1 == v) with
  | none => d
  | some (_, r) =>
    let d := { d with rings := { d.rings with pendingVec := d.rings.pendingVec.filter (fun x => x.1 != v) } }
    (d.emit (.msix v)).bump (M.CNT_RING_IRQ r)

/-! ## Windows (R460, R461) -/

/-- A byte of a window's region: where it stands, if the window is on and the address within the region. -/
inductive WinByte where
  | host (a : Nat)
  | locker (a : Nat)
  | none
  deriving DecidableEq, Repr

/-- The region byte a BAR0 address names. -/
def Dev.winByte (d : Dev) (addr : Nat) : WinByte :=
  if addr < 0x0C000000 ∨ 0x10000000 ≤ addr then .none else
  let k := (addr - 0x0C000000) / 2 ^ 24
  let a := d.rd (M.WIN_BASE k) + addr % 2 ^ 24
  let g := d.rd (M.WIN_REGION k)
  if g = 1 then (if a < d.rd M.HOST_REGION_BYTES then .host a else .none)
  else if 2 ≤ g ∧ g ≤ 5 then (if a < d.poolCount (g - 1) * poolBytes (g - 1) then .locker ((g - 1) * 2 ^ 40 + a) else .none)
  else .none

/-- What a window reads at one byte. -/
def Dev.winRead (d : Dev) (addr : Nat) : Byte :=
  match d.winByte addr with
  | .host a => Memory.read d.memories.host a
  | .locker a => Memory.read d.pools.bytes a
  | .none => 0

/-- One byte through a window. -/
def winPut (d : Dev) (addr : Nat) (b : Byte) : Dev :=
  match d.winByte addr with
  | .host a => { d with memories := { d.memories with host := Memory.write d.memories.host a b } }
  | .locker a => { d with pools := { d.pools with bytes := Memory.write d.pools.bytes a b } }
  | .none => d

/-- Whether every byte of an access lies in a region. -/
def Dev.winInside (d : Dev) (addr n : Nat) : Bool := (List.range n).all (fun i => d.winByte (addr + i) != .none)

/-- Where a byte of an access stands in LPDDR6: its channel and unit. -/
def Dev.winPlace (d : Dev) (addr : Nat) : Option (Nat × Nat) :=
  match d.winByte addr with
  | .host a => some (d.regionPlace (.host a))
  | .locker a => some (d.regionPlace (.locker a))
  | .none => none

/-- The units of an access, in address order. -/
def Dev.winUnits (d : Dev) (addr n : Nat) : List (Nat × Nat) := ((List.range n).filterMap (fun i => d.winPlace (addr + i))).eraseDups

/-- How the access of a unit ends: `os` names the outcomes of an access's units `us` in order, `ok` where it names none; a channel that
serves no requests makes its units unavailable (R449). -/
def Dev.unitOutcome (d : Dev) (us : List (Nat × Nat)) (os : List MemOutcome) (p : Nat × Nat) : MemOutcome :=
  if d.chServes p.1 then os.getD (us.idxOf p) .ok else .unavailable

/-- Whether an access covers part of a unit only. -/
def Dev.winPart (d : Dev) (addr n : Nat) (p : Nat × Nat) : Bool := ((List.range n).filter (fun i => d.winPlace (addr + i) == some p)).length != 64

/-- Requests of a window access at some units (R51, R440, port 4); what each ends in has been told (R439). -/
def winRequest (now : BellSt) (d : Dev) (write : Bool) (us : List ((Nat × Nat) × MemOutcome)) : Dev :=
  let (t, d) := Dev.stamp now d
  d.unitAccess 4 write t (us.map (fun x => (x.1, some (decide (x.2 = .uncorrectable)))))

/-- What a read through a window gives at one byte (R461): `f` is what a unit of a channel out of service reads, which is open (log 139). -/
def Dev.winByteOf (d : Dev) (us : List (Nat × Nat)) (os : List MemOutcome) (f : Byte) (addr : Nat) : Byte :=
  match (d.winPlace addr).map (d.unitOutcome us os) with
  | some .uncorrectable => 0xFF
  | some .unavailable => f
  | _ => d.winRead addr

/-- WINDOW_READ (R461): the outcomes are those of the units it covers. An address below the windows reads the object window, one whose
upper half is 4 reads BAR4 (R117, R482, log 190), and one whose upper half is 2 reads a doorbell page of BAR2, which is zero (R465). -/
def windowRead (addr n : Nat) (os : List MemOutcome) (now : BellSt) (d : Dev) : Dev :=
  if d.start.pcieUp = false then d else
  if addr < 0x0C000000 then (let r := bar0Read now d addr n; r.2.emit (.readData r.1)) else
  if addr / 2 ^ 32 = 4 then d.emit (.readData (bar4Read now d (addr % 2 ^ 32) n)) else
  if addr / 2 ^ 32 = 2 then d.emit (.readData (List.replicate n 0)) else
  if d.bar0Closed then d.emit (.readData (List.replicate n 0)) else
  let us := d.winUnits addr n
  let ends := us.map (fun p => (p, d.unitOutcome us os p))
  let (f, d) := if ends.any (fun x => decide (x.2 = .unavailable)) then d.fresh else (0, d)
  let data := (List.range n).map (fun i => d.winByteOf us os (byteAt (toLE n f) i) (addr + i))
  ((winRequest now d false ends).emit (.readData data)).addTo M.CNT_WIN_UNCORRECTABLE (ends.filter (fun x => decide (x.2 = .uncorrectable))).length

/-- The bytes of a write through a window whose units take it. -/
def winPutsAt (d : Dev) (takes : Nat × Nat → Bool) (addr : Nat) (bs : Bytes) : Dev :=
  bs.zipIdx.foldl (fun d (b, i) => if (d.winPlace (addr + i)).any takes then winPut d (addr + i) b else d) d

/-- WINDOW_WRITE (R432, R461): a unit that is covered in part is read before it is written whole, and one whose read fails keeps its
bytes; the write is recorded as rejected with the code of the first unit that refuses it (log 278). -/
def windowWrite (addr : Nat) (bs : Bytes) (os : List MemOutcome) (now : BellSt) (d : Dev) : Dev :=
  if d.start.pcieUp = false ∨ d.bar0Closed = true then d else
  let n := bs.length
  if d.winInside addr n = false then d.rejectPcie St.RANGE 0 else
  let us := d.winUnits addr n
  let ends := us.map (fun p => (p, if d.chServes p.1 && !d.winPart addr n p && decide (os.getD (us.idxOf p) .ok = .uncorrectable) then .ok
    else d.unitOutcome us os p))
  let takes (p : Nat × Nat) : Bool := ends.contains (p, .ok)
  let d := winRequest now d false (ends.filter (fun x => d.winPart addr n x.1))
  let d := winRequest now d true (ends.filter (fun x => decide (x.2 = .ok)))
  let d := winPutsAt d takes addr bs
  match ends.find? (fun x => decide (x.2 ≠ .ok)) with
  | some (_, .uncorrectable) => d.rejectPcie St.UNCORRECTABLE 0
  | some _ => d.rejectPcie St.UNAVAILABLE 0
  | none => d

/-! ## Commands -/

/-- RING_DOORBELL (R465). -/
def execRingDoorbell (ring offset : Nat) (data fetched : Bytes) (s : State) : Host.Outcome State Fault Refusal :=
  s.onDie (fun _ d => ringDoorbell ring offset data fetched d)

/-- RING_PUSH (R466). -/
def execRingPush (ring j : Nat) (data : Bytes) (single : Bool) (s : State) : Host.Outcome State Fault Refusal :=
  s.onDie (fun _ d => ringPush ring j data single d)

/-- RING_NOP (R468). -/
def execRingNop (ring : Nat) (s : State) : Host.Outcome State Fault Refusal :=
  s.onDie (fun _ d => ringNop ring d)

/-- TX_FRAME (R469). -/
def execTxFrame (ring : Nat) (data : Bytes) (s : State) : Host.Outcome State Fault Refusal :=
  s.onDie (fun now d => txFrame ring data now d)

/-- TX_SEG (R470). -/
def execTxSeg (ring : Nat) (hdr : Bytes) (s : State) : Host.Outcome State Fault Refusal :=
  s.onDie (fun _ d => txSeg ring hdr d)

/-- TASK (R471). -/
def execRingTask (ring : Nat) (s : State) : Host.Outcome State Fault Refusal :=
  s.onDie (fun now d => ringTask ring now d)

/-- RX_BUF (R472). -/
def execRxBuf (ring : Nat) (s : State) : Host.Outcome State Fault Refusal :=
  s.onDie (fun _ d => rxBuf ring d)

/-- RING_COMPLETION (R473). -/
def execRingCompletion (ring : Nat) (s : State) : Host.Outcome State Fault Refusal :=
  s.onDie (fun _ d => ringCompletion ring d)

/-- RING_ENABLE (R476). -/
def execRingEnable (ring : Nat) (a : Acc) (s : State) : Host.Outcome State Fault Refusal :=
  s.onDev (fun _ d => (d.accept a (M.RING_ENABLE ring) (ringEnableWrite ring)).2)

/-- RING_DISABLE (R474). -/
def execRingDisable (ring : Nat) (a : Acc) (s : State) : Host.Outcome State Fault Refusal :=
  s.onDev (fun _ d => (d.accept a (M.RING_ENABLE ring) (ringEnableWrite ring)).2)

/-- RING_DISABLE_COMPLETE (R474). -/
def execRingDisableComplete (ring : Nat) (s : State) : Host.Outcome State Fault Refusal :=
  s.onDie (fun now d => ringDisableComplete ring now d)

/-- RING_DMA_FAULT (R475). -/
def execRingDmaFault (ring : Nat) (s : State) : Host.Outcome State Fault Refusal :=
  s.onDie (fun _ d => ringDmaFault ring d)

/-- EVENT_RECORD_WRITE (R479). -/
def execEventRecordWrite (s : State) : Host.Outcome State Fault Refusal :=
  s.onDie (fun _ d => writeEvents 1 d)

/-- RING_IRQ (R481). -/
def execRingIrq (ring : Nat) (timer : Bool) (s : State) : Host.Outcome State Fault Refusal :=
  s.onDie (fun now d => ringIrq ring timer now d)

/-- WINDOW_READ (R461). -/
def execWindowRead (addr len : Nat) (o : List MemOutcome) (s : State) : Host.Outcome State Fault Refusal :=
  s.onDie (fun now d => windowRead addr len o now d)

/-- WINDOW_WRITE (R461). -/
def execWindowWrite (addr : Nat) (data : Bytes) (o : List MemOutcome) (s : State) : Host.Outcome State Fault Refusal :=
  s.onDie (fun now d => windowWrite addr data o now d)

end Sys2Proof.Machine
end

