-- ==== Sys2Proof/Machine/Absence.lean ====
section
/-!
DEFINITION. Absence: the data-path restart and PCIe resets as commands (R61, R106, R108, R159, R457), entering and leaving
Recess (R87 to R90, R218), and the board sensor bus (R556).
-/
namespace Sys2Proof.Machine

/-! ## Discarding the packets held (R62 step 4, R88 step 3) -/

/-- One packet of a pipe is discarded, with the task that works on it. -/
def discardDesc (now : BellSt) (d : Dev) (i : Nat) : Dev :=
  match d.desc i with
  | none => d
  | some x =>
    match d.tutors.tasks.find? (fun (t : TaskRec) => t.desc == some i) with
    | some t =>
      let d := match t.state with
        | .running u => d.idleTutor u
        | _ => d
      discardTask now none d t
    | none => dropVerdict now (d.unpark x.id) x

/-- Every packet in the pipes, the queues and the buffer is discarded; a TX_FRAME descriptor whose copy was queued ends
without a stamp (R507). -/
def discardPackets (now : BellSt) (d : Dev) : Dev :=
  let d := (d.descs.map (fun (x : Desc) => x.id)).foldl (discardDesc now) d
  let copies := d.switch.queues.flatMap (fun (e : Nat × List Copy) => e.2) ++ d.switch.macq.flatMap (fun (e : Nat × List Copy) => e.2)
  let d := copies.foldl finishDropped d
  let d := (d.switch.frames.map Prod.fst).foldl (freeFrame now) d
  { d with
    descs := []
    ports := { d.ports with arrivals := [], control := [] }
    switch := { d.switch with frames := [], egress := [], queues := [], macq := [], flush := [] } }

/-! ## Restart and PCIe resets -/

/-- A PCIe reset (R106, R108, R457): configuration space, MSI-X state and class RING; every ring stops without publishing
its head, its segmentation requests end, and a transaction that K owns is aborted (R159). -/
def pcieReset (d : Dev) : Dev :=
  let d := if d.rd M.TXN_OWNER = 1 then txnAbort d else d
  let d := resetPcie d
  segReap { d with segs := d.segs.map SegReq.orphan }

/-- PERST_N_ASSERT (R108): the link is down with it. -/
def perstAssert (d : Dev) : Dev :=
  let d := pcieReset d
  { d.wr M.PCIE_LINK 0 with pins := { d.pins with perstHigh := false }, start := { d.start with pcieUp := false } }

/-! ## Recess (R87 to R90, R218) -/

/-- The wake-port conditions of R218. -/
def wakePortsOk (d : Dev) : Bool :=
  let ports := (List.range 256).filter (fun p => d.on (M.PORT_WAKE_ENABLE p))
  decide (ports.length ≤ 8) &&
    ports.all (fun p => (List.range 16).all (fun k => !bitOf (d.rd (M.PORT_WAKE_ENABLE p)) k || (d.ab (patternAddr p k + 0x94)).toNat == 0))

/-- The first condition of R88 that does not hold: ST_OK where all hold. Before READY no palette is active. -/
def recessCheck (d : Dev) : Nat :=
  if bitOf Config.features 7 = false then St.NOT_ALLOWED
  else if d.palette ≠ 3 ∨ d.start.state = .mainOff ∨ d.start.state = .starting ∨ d.start.state = .hold ∨ d.start.state = .failed then St.NOT_ALLOWED
  else if d.txn.state = .opened ∨ d.start.state = .restarting ∨ d.start.recess ≠ .awake then St.BUSY
  else if wakePortsOk d = false then St.INCONSISTENT
  else St.OK

/-- RECESS_ENTER (R88): the checks, then steps 1 and 2; READY falls at the next bell. -/
def recessEnter (_ : Nat) (d : Dev) : Nat × Dev :=
  let st := recessCheck d
  if st ≠ St.OK then (st, d.wr M.RECESS_STATUS st) else
  let d : Dev := { d with
    start := { d.start with recess := .entering, fallDue := true, wakeLatch := none, drained := false }
    roll := { d.roll with recessLesson := 0 } }
  (St.OK, (d.wr M.RECESS_STATUS St.PENDING).goes .recess)

/-- RECESS_DRAIN_TIMEOUT (R88 step 3): 1 ms after READY fell, the packets left are discarded and counted. -/
def recessDrainTimeout (now : BellSt) (d : Dev) : Dev :=
  if d.start.recess = .entering ∧ d.start.fallDue = false ∧ d.start.drained = false then
    let d := discardPackets now (d.addTo M.CNT_RECESS_DISCARD d.switch.frames.length)
    { d with start := { d.start with drained := true } }
  else d

/-- The Front Row is lost after the write-back of every dirty line (R87, R88 step 4), which counts (R296); in a channel out of service
the write is lost too. -/
def frontLost (d : Dev) : Dev :=
  let put (d : Dev) (slot : Nat) (data : BitVec 512) : Dev := if d.chServes (d.placeOf slot).1 then (d.store slot data.toNat).bump M.CNT_FR_WRITEBACK else d
  let d := d.roll.wb.foldl (fun d (l : WbLine) => put d l.slot l.data) d
  let d := d.roll.late.foldl (fun d (l : Nat × BitVec 512) => put d l.1 l.2) d
  let d := d.roll.lines.foldl (fun d (e : Nat × Option Line) => match e.2 with
    | some l => if l.dirty then put d l.slot l.data else d
    | none => d) d
  { d with
    roll := { d.roll with lines := [], hands := [], wb := [], late := [], reads := [], sweepSet := 0 }
    pipes := d.pipes.map (fun (e : Nat × Pipe) => (e.1, { e.2 with reads := [], missQueue := [] })) }

/-- A channel enters self-refresh, its requests done (R88 step 5, R446); one that is in self-refresh stays so. -/
def channelSleeps (d : Dev) (ch : Nat) : Dev :=
  if d.rd (M.MEMCH_STATE ch) = 2 then (let d := sleepChannel d ch; d.setChannel ch { d.channel ch with reqs := [] })
  else if d.chServes ch then d.setChannel ch { d.channel ch with reqs := [] } else d

/-- The tutors are gated (R88 step 5): a task that holds no packet goes back to wait for the wake. -/
def tutorsGated (d : Dev) : Dev :=
  d.tutors.tasks.foldl (fun d (t : TaskRec) => match t.state with
    | .running u => (d.putBack t).idleTutor u
    | .preempted u => let d := d.putBack t; d.setTutor u { d.tutor u with levels := [] }
    | _ => d) d

/-- RECESS_ENTRY_COMPLETE (R88 steps 4 to 6): a wake latched while entry ran begins at once (R89). -/
def recessEntryComplete (now : BellSt) (d : Dev) : Dev :=
  if d.start.recess ≠ .entering ∨ d.start.fallDue = true then d else
  let d := if d.start.drained then d else recessDrainTimeout now d
  let d := frontLost d
  let d := ((List.range 256).filter (fun p => !d.on (M.PORT_WAKE_ENABLE p))).foldl (portDown now) d
  let d := (List.range 16).foldl channelSleeps (tutorsGated d)
  let d := { d with start := { d.start with recess := .recess } }.wr M.RECESS_STATUS St.OK
  match d.start.wakeLatch with
  | some (c, p, k) => recessWake now d c p k
  | none => d

/-- RECESS_EXIT (R89): cause 2 over PCIe, 3 over Denlys; without effect while no Recess is entered or running. -/
def recessExit (now : BellSt) (who : Principal) (_ : Nat) (d : Dev) : Nat × Dev :=
  let cause := match who with
    | .d _ => 3
    | _ => 2
  if d.start.recess = .awake ∨ d.start.recess = .waking then (St.OK, d) else
  (St.OK, (recessWake now d cause 0 0).wr M.RECESS_STATUS St.PENDING)

/-- RECESS_WAKE_COMPLETE (R90 steps 2 to 4). -/
def recessWakeComplete (now : BellSt) (d : Dev) : Dev :=
  if d.start.recess ≠ .waking then d else
  let d := (List.range 16).foldl (fun d ch => if d.rd (M.MEMCH_STATE ch) = 3 then d.wr (M.MEMCH_STATE ch) 2 else d) d
  let d := if 2 ^ 23 ≤ d.roll.recessLesson then
      { d with roll := { d.roll with wakeLesson := some now.lesson.toNat, sweepPartial := d.rd M.ROLL_CALL_POSITION != 0 } }
    else d
  let d := { d with tcamCopies := [], start := { d.start with recess := .awake, wakeLatch := none, drained := false } }
  ((d).wr M.RECESS_STATUS St.OK |>.goes .ready).setReady true

/-! ## Commands -/

/-- PERST_N_ASSERT (R108). -/
def execPerstNAssert (s : State) : Host.Outcome State Fault Refusal :=
  s.onDev (fun _ d => perstAssert d)

/-- FUNCTION_LEVEL_RESET (R457). -/
def execFunctionLevelReset (s : State) : Host.Outcome State Fault Refusal :=
  s.onDie (fun _ d => pcieReset d)

/-- DATAPATH_RESTART (R61). -/
def execDatapathRestart (a : Acc) (s : State) : Host.Outcome State Fault Refusal :=
  s.onDev (fun _ d => (d.trigger a M.DATAPATH_RESTART (datapathRestart txnAbortNow)).2)

/-- RECESS_ENTER (R88). -/
def execRecessEnter (a : Acc) (s : State) : Host.Outcome State Fault Refusal :=
  s.onDev (fun _ d => (d.trigger a M.RECESS_ENTER recessEnter).2)

/-- RECESS_DRAIN_TIMEOUT (R88). -/
def execRecessDrainTimeout (s : State) : Host.Outcome State Fault Refusal :=
  s.onDie (fun now d => recessDrainTimeout now d)

/-- RECESS_ENTRY_COMPLETE (R88). -/
def execRecessEntryComplete (s : State) : Host.Outcome State Fault Refusal :=
  s.onDie (fun now d => recessEntryComplete now d)

/-- RECESS_EXIT (R89). -/
def execRecessExit (a : Acc) (s : State) : Host.Outcome State Fault Refusal :=
  s.onDev (fun now d => (d.trigger a M.RECESS_EXIT (recessExit now a.who)).2)

/-- RECESS_WAKE_COMPLETE (R90). -/
def execRecessWakeComplete (s : State) : Host.Outcome State Fault Refusal :=
  s.onDie (fun now d => recessWakeComplete now d)

/-- I2C_STRETCH_TIMEOUT (R556). -/
def execI2cStretchTimeout (s : State) : Host.Outcome State Fault Refusal :=
  s.onDev (fun _ d => if d.start.island.answers then d.emit .i2cStop else d)

end Sys2Proof.Machine
end

