-- ==== Sys2Proof/Machine/Buddy.lean ====
section
/-!
DEFINITION. Buddy pairs (R514 to R532): Walger frames as sent and received, joining, mirroring, relays, reads served by the
peer, takeover, return and hand-back, and the device's share of a bell (item 10 of R39).
-/
namespace Sys2Proof.Machine

/-! ## Walger frames and entries (R519, R520) -/

/-- An entry's bytes. -/
def WEntry.bytes (e : WEntry) : Bytes := toBE 1 e.kind ++ toBE 1 e.flags ++ toBE 2 e.body.length ++ toBE 4 e.slot ++ e.body

/-- The entries in a payload, at most `n` of them. -/
def readEntries (n : Nat) (bs : Bytes) : List WEntry :=
  match n with
  | 0 => []
  | n + 1 =>
    if bs.length < 8 then [] else
    let len := beAt bs 2 2
    { kind := byteAt bs 0, flags := byteAt bs 1, slot := beAt bs 4 4, body := (bs.drop 8).take len } :: readEntries n (bs.drop (8 + len))

/-- A frame's payload. -/
def WFrame.payload (w : WFrame) : Bytes := w.entries.flatMap WEntry.bytes ++ w.raw

/-- Whether period a is after period b (R35). -/
def periodAfter (a b : Nat) : Bool := let x := (a + 2 ^ 32 - b % 2 ^ 32) % 2 ^ 32; decide (0 < x) && decide (x < 2 ^ 31)

/-- Periods from b to a. -/
def periodsSince (a b : Nat) : Nat := (a + 2 ^ 32 - b % 2 ^ 32) % 2 ^ 32

/-- The Buddy ports that are up (R516). -/
def Dev.walgerPorts (d : Dev) : List Nat :=
  ([d.rd M.BUDDY_PORT_0, d.rd M.BUDDY_PORT_1].eraseDups).filter (fun p => decide (p < 256) && d.on (M.PORT_LINK p))

/-- A Walger frame leaves on a port: the MAC addresses are open (log 1), and ACK is the last period received complete. -/
def sendWalger (now : BellSt) (d : Dev) (port period : Nat) (w : WFrame) : Dev :=
  let (dst, d) := d.fresh
  let (src, d) := d.fresh
  let version := if d.buddy.mode = .syncing ∨ d.buddy.mode = .paired then d.rd M.BUDDY_VERSION else 1
  let head := toBE 6 dst ++ toBE 6 src ++ toBE 2 (d.rd M.BUDDY_ETHERTYPE) ++ toBE 1 version ++ toBE 1 w.type ++
    toBE 1 (w.flags + b2n (decide (d.buddy.mode = .alone)) * 2) ++ toBE 1 w.part ++ toBE 4 period ++
    toBE 4 (d.buddy.received.getD (d.rd M.BUDDY_PEER_PERIOD)) ++ toBE 2 w.entries.length ++ toBE 2 w.payload.length
  let f := fit (max 60 (30 + w.payload.length)) (head ++ w.payload)
  macSends now d port f

/-! ## Joining (R517, R518, R532) -/

/-- The HELLO of a bell (R519): versions 1 to 2, side, palette, seeds, and the count and BELL_TIME of the last bell. -/
def helloPayload (now : BellSt) (d : Dev) : Bytes :=
  toBE 1 1 ++ toBE 1 2 ++ toBE 1 (d.rd M.STRAP_BUDDY_ROLE) ++ toBE 1 d.palette ++ toBE 4 d.roll.seed1 ++ toBE 4 d.roll.seed2 ++
    toBE 4 d.roll.seed3 ++ toBE 4 now.period.toNat ++ toBE 4 now.time.toNat

/-- The count this device had, or will have, at a bell given by its BELL_TIME (R517 check 4). -/
def countAt (now : BellSt) (t : Nat) : Nat :=
  (((now.period.toNat : Int) + sgn 32 ((t + 2 ^ 32 - now.time.toNat) % 2 ^ 32) / 1024) % 2 ^ 32).toNat

/-- The first check of R517 that a HELLO fails: ST_OK where all pass. -/
def helloCheck (now : BellSt) (d : Dev) (p : Bytes) : Nat :=
  if byteAt p 2 = d.rd M.STRAP_BUDDY_ROLE then St.BUDDY_SIDE
  else if byteAt p 3 ≠ d.palette then St.BUDDY_PALETTE
  else if beAt p 4 4 ≠ d.roll.seed1 ∨ beAt p 8 4 ≠ d.roll.seed2 ∨ beAt p 12 4 ≠ d.roll.seed3 then St.BUDDY_SEEDS
  else if beAt p 16 4 ≠ countAt now (beAt p 20 4) then St.BUDDY_PERIOD
  else St.OK

/-- A received frame of a type, where the oldest one waiting is of that type: its bytes and the device without it. -/
def takeWalger (d : Dev) (type : Nat) : Option (Bytes × Dev) :=
  match d.buddy.rx with
  | (_, f) :: rest => if byteAt f 1 = type then some (f, { d with buddy := { d.buddy with rx := rest } }) else none
  | [] => none

/-- The payload of a received frame. -/
def walgerPayload (f : Bytes) : Bytes := (f.drop 16).take (beAt f 14 2)

/-- BUDDY_HELLO_RX (R517): a device that is not joined checks the HELLO. The device that returns is the one whose peer is in
ALONE, and side 1 where neither or both are (R531, log 47). -/
def buddyHelloRx (now : BellSt) (d : Dev) : Dev :=
  match takeWalger d 1 with
  | none => d
  | some (f, d) =>
    if d.buddy.mode ≠ .joining ∧ d.buddy.mode ≠ .alone then d else
    let p := walgerPayload f
    let d := d.wr M.BUDDY_PEER_PERIOD (beAt p 16 4)
    let st := helloCheck now d p
    if st ≠ St.OK then d.wr M.BUDDY_REFUSE_REASON st else
    let peerAlone := bitOf (byteAt f 2) 1
    let mine := decide (d.buddy.mode = .alone)
    let returning := if mine = peerAlone then d.on M.STRAP_BUDDY_ROLE else peerAlone
    { d.wr M.BUDDY_VERSION (min 2 (byteAt p 1)) with buddy := { d.buddy with joinDue := some returning } }

/-- The Roll region of a returning device is zeroed (R532 step 3): ROLL_READY falls, and every record is gone. -/
def zeroRoll (d : Dev) : Dev :=
  let tasks := d.tutors.tasks.filter (fun (t : TaskRec) => t.recSlot.isSome && t.copies)
  { d.wr M.ROLL_READY 0 with
    memories := { d.memories with roll := [] }
    roll := { d.roll with
      tags := []
      writer := []
      rebuild := []
      lines := d.roll.lines.filter (fun (e : Nat × Option Line) => match e.2 with | some l => decide (epSlotBase ≤ l.slot) | none => false)
      wb := d.roll.wb.filter (fun (l : WbLine) => decide (epSlotBase ≤ l.slot))
      late := d.roll.late.filter (fun (l : Nat × BitVec 512) => decide (epSlotBase ≤ l.1))
      reads := []
      candidates := []
      stale := tasks.map (fun (t : TaskRec) => (t.handle, false)) }
    start := { d.start with zeroing := true } }

/-- SYNCING begins (R532 step 2): the returning device zeroes its Roll, and the other sends every record. -/
def joinBell (now : BellSt) (d : Dev) (returning : Bool) : Dev :=
  let b := { Buddy.init with mode := .syncing, returning, rx := d.buddy.rx }
  let d := { d with buddy := b }.raise now Ev.BUDDY_JOIN (oid 0x70 0) (d.rd M.BUDDY_VERSION)
  if returning then zeroRoll d else
  let all := d.syncSlots
  { d with buddy := { d.buddy with syncLeft := all, syncAll := all.length } }

/-! ## Mirror reads (R440, port 2) -/

/-- The reads of a record, or of an endpoint record, for the Buddy mirror: of the slots that stand in no line or buffer here. What they
return is known as they are made; what their code words show is known at the controller (log 285). -/
def mirrorRead (now : BellSt) (d : Dev) (slot : Nat) : Dev :=
  let two := decide (slot < epSlotBase) && recTwoSlots (d.current slot)
  (if two then [slot, slot + 1] else [slot]).foldl (fun d s =>
    if (d.lineVal s).isSome || d.buffered s || !d.readable s then d else readSlot now d s 2 none) d

/-! ## Batches received (R522, R523) -/

/-- Bits of a record that a STATE entry leaves alone: counters, LAST_HIT, and the place of its link here (R523). -/
def stateKept : Nat := (2 ^ 144 - 1) + (2 ^ 368 - 2 ^ 344) + (2 ^ 210 - 2 ^ 182)

/-- The record in an entry, and the bytes after it. -/
def entryRecord (e : WEntry) : Nat × Bytes := let n := if bitOf e.flags 0 then 128 else 64; (leVal (e.body.take n), e.body.drop n)

/-- Packets that waited for the creation of a key go on (R524): the first, which was relayed, ends here, and those behind it
are released by their hold. -/
def wakeRelayed (now : BellSt) (d : Dev) (k : FlowKey) : Dev :=
  let isIt (x : Desc) : Bool := decide (x.key = some k) && (match x.wait with | .relay _ => true | _ => false)
  (d.descs.filter isIt).foldl (fun d x => let (x, d) := leaveRoll now (d.unpark x.id) x; consumePacket now d x) d

/-- A record with its link is installed, or brought up to date (R520, R523, R524). Its lines wait where none may be taken (R279); where
its buckets or its link's have no free place, none of it is installed (R25, log 275). -/
def applyCreate (now : BellSt) (d : Dev) (e : WEntry) : Dev :=
  let (r, link) := entryRecord e
  let r := setFld r 182 28 0
  let k := recKey r
  let d := match d.findRecord k with
    | some s => updateRecord now d s (maskIn r (d.recordAt s) stateKept)
    | none => match installRecord now d k r with
      | none => d
      | some (s, d) =>
        if recSvcKind r = 0 ∨ isMapping r = true then d
        else if link.isEmpty then updateRecord now d s (setFld r 182 28 s)
        else
          let lk := recKey (leVal link)
          match installRecord now d lk (linkRecord lk s) with
          | some (l, d) => updateRecord now d s (setFld r 182 28 l)
          | none => clearRecord now d s
  let d := if link.isEmpty then d else wakeRelayed now d (recKey (leVal link))
  wakeRelayed now d k

/-- A deletion by the peer (R523): where this device owns the record it places the notice and releases what the record held. -/
def applyDelete (now : BellSt) (d : Dev) (key : Bytes) : Dev :=
  match d.findRecord (FlowKey.ofBlock key) with
  | none => d
  | some s =>
    let r := d.recordAt s
    let own := d.ownsRec r
    let d := if own then endNotice now d s r 2 else d
    let d := clearRecord now (staleTasks (removeLink now d s r) s false) s
    if own then releaseFor now d r else d

/-- Whether an entry of a period was in transit when its record was replaced or deleted here (R314, R523), and whether the replacement
merges. -/
def Dev.staleEntry (d : Dev) (key : Bytes) (period : Nat) : Option Bool :=
  (d.buddy.replaced.find? (fun (x : Bytes × Nat × Bool) => x.1 == key && !periodAfter period x.2.1)).map (fun x => x.2.2)

/-- A stale update is counted (R314). -/
def countStale (d : Dev) (merge : Bool) : Dev := d.bump (if merge then M.CNT_ROLL_UPDATE_MERGED else M.CNT_ROLL_UPDATE_STALE)

/-- A changed record of the peer (R523): the owner's own later change prevails, and a stale one is discarded; it carries no increments
(R314). -/
def applyState (now : BellSt) (d : Dev) (period : Nat) (e : WEntry) : Dev :=
  let (r, _) := entryRecord e
  match d.staleEntry (recKey r).block period, d.findRecord (recKey r) with
  | some merge, _ => countStale d merge
  | none, none => d
  | none, some s =>
    let old := d.recordAt s
    let later := d.buddy.changed.any (fun (c : Bytes × Nat) => c.1 == (recKey r).block && !periodAfter period c.2)
    if d.ownsRec old ∧ later = true then d.bump M.CNT_BUDDY_CONFLICT
    else updateRecord now d s (maskIn r old stateKept)

/-- Binding and NAT fields of an endpoint (R523). -/
def applyPeerEndpoint (now : BellSt) (d : Dev) (e : WEntry) : Dev :=
  let i := beAt e.body 0 4
  let v := leVal (e.body.drop 4)
  let old := d.endpoint i
  setEndpoint now d i (if bitOf old 511 then maskIn old v epTutorBits else v)

/-- Increments of the peer (R527): those in transit when the record was replaced count only where the replacement merges (R314). -/
def applyDelta (now : BellSt) (d : Dev) (period : Nat) (e : WEntry) : Dev :=
  let b := e.body
  let stale := d.staleEntry (b.take 40) period
  match d.findRecord (FlowKey.ofBlock (b.take 40)) with
  | none => d.bump M.CNT_BUDDY_LATE_DELTA
  | some s =>
    if stale = some false then countStale d false else
    let d := if stale = some true then countStale d true else d
    let r := d.recordAt s
    let r := setFld (setFld r 112 32 (fld r 112 32 + beAt b 40 4)) 80 32 (fld r 80 32 + beAt b 44 4)
    let r := setFld (setFld r 40 40 (fld r 40 40 + beAt b 48 5)) 0 40 (fld r 0 40 + beAt b 53 5)
    let hit := beAt b 58 3
    let newer := decide (lessonsSince hit (recLastHit r) < 2 ^ 23)
    updateRecord now d s (if newer then setFld r 344 24 hit else r)

/-- The key a transition names. -/
def WEntry.key (e : WEntry) : Bytes := if e.kind = 2 then e.body else (recKey (entryRecord e).1).block

/-- One entry of a batch is applied (R520, R523, R527). A transition that was in transit when its record was replaced or deleted here is
stale: it is discarded, and carries no increments (R314). -/
def applyEntry (now : BellSt) (period : Nat) (d : Dev) (e : WEntry) : Dev :=
  match (if e.kind = 1 ∨ e.kind = 2 then d.staleEntry e.key period else none) with
  | some merge => countStale d merge
  | none =>
  if e.kind = 1 ∨ e.kind = 6 then applyCreate now d e
  else if e.kind = 2 then applyDelete now d e.body
  else if e.kind = 3 then applyState now d period e
  else if e.kind = 4 ∨ e.kind = 7 then applyPeerEndpoint now d e
  else if e.kind = 5 then applyDelta now d period e
  else d

/-- Whether an entry was a transition that applied (R523, R533): a record is held after its CREATE, one was held before its DELETE
or STATE, and the owner did not discard the STATE. -/
def entryApplied (before after : Dev) (period : Nat) (e : WEntry) : Bool :=
  match e.kind with
  | 1 => (before.staleEntry e.key period).isNone && (after.findRecord (recKey (entryRecord e).1)).isSome
  | 2 => (before.staleEntry e.key period).isNone && (before.findRecord (FlowKey.ofBlock e.body)).isSome
  | 3 => (before.findRecord (recKey (entryRecord e).1)).isSome && (before.staleEntry (recKey (entryRecord e).1).block period).isNone && before.rd M.CNT_BUDDY_CONFLICT == after.rd M.CNT_BUDDY_CONFLICT
  | 4 => true
  | _ => false

/-- The slot here of what an entry is about. -/
def WEntry.slotHere (d : Dev) (e : WEntry) : Option Nat :=
  match e.kind with
  | 2 => d.findRecord (FlowKey.ofBlock e.body)
  | 4 | 7 => some (epSlot (beAt e.body 0 4))
  | 5 => d.findRecord (FlowKey.ofBlock (e.body.take 40))
  | _ => d.findRecord (recKey (entryRecord e).1)

/-- One entry of a batch is applied to what it is about, which is read for it, and counted if it was a transition. -/
def takeEntry (now : BellSt) (period : Nat) (d : Dev) (e : WEntry) : Dev :=
  let d := match e.slotHere d with
    | some s => mirrorRead now d s
    | none => d
  let after := applyEntry now period d e
  after.bumpIf (entryApplied d after period e) M.CNT_BUDDY_RX

/-- Whether every part of a batch is here. -/
def WBatch.complete (b : WBatch) : Bool :=
  match b.last with
  | some n => (List.range (n + 1)).all (fun i => b.parts.any (fun (p : Nat × List WEntry) => p.1 == i))
  | none => false

/-- The entries of a batch in the order of its parts. -/
def WBatch.entries (b : WBatch) : List WEntry :=
  (List.range (b.last.getD 0 + 1)).flatMap (fun i => (b.parts.filter (fun (p : Nat × List WEntry) => p.1 == i)).flatMap (fun (p : Nat × List WEntry) => p.2))

/-- Batches are applied in period order while the next one is complete (R522). -/
def applyBatches (fuel : Nat) (now : BellSt) (d : Dev) : Dev :=
  match fuel with
  | 0 => d
  | fuel + 1 =>
    match d.buddy.received with
    | none => d
    | some r =>
      match d.buddy.early.find? (fun (b : WBatch) => decide (b.period = (r + 1) % 2 ^ 32) && b.complete) with
      | none => d
      | some b =>
        let d := { d with buddy := { d.buddy with received := some b.period, early := d.buddy.early.filter (fun (x : WBatch) => x.period != b.period) } }
        applyBatches fuel now (b.entries.foldl (takeEntry now b.period) d)

/-- A part of a batch is noted; false where it has come before (R522). The first batch after joining opens the count. -/
def notePart (d : Dev) (f : Bytes) (entries : List WEntry) : Bool × Dev :=
  let period := beAt f 4 4
  let part := byteAt f 3
  let r := d.buddy.received.getD ((period + 2 ^ 32 - 1) % 2 ^ 32)
  let b := (d.buddy.early.find? (fun (x : WBatch) => x.period == period)).getD { period, parts := [], last := none }
  if periodAfter period r = false ∨ b.parts.any (fun (p : Nat × List WEntry) => p.1 == part) = true then (false, d) else
  let b := { b with parts := b.parts ++ [(part, entries)], last := if bitOf (byteAt f 2) 0 then some part else b.last }
  (true, { d with buddy := { d.buddy with received := some r, early := d.buddy.early.filter (fun (x : WBatch) => x.period != period) ++ [b] } })

/-- Whether frames of a joined pair are taken. -/
def Dev.joined (d : Dev) : Bool := decide (d.buddy.mode = .syncing) || decide (d.buddy.mode = .paired)

/-- Batches the peer has acknowledged are forgotten (R522). -/
def ackBatches (d : Dev) (ack : Nat) : Dev :=
  { d with buddy := { d.buddy with sent := d.buddy.sent.filter (fun (b : Nat × List WFrame) => periodAfter b.1 ack) } }

/-- Whether a record's creation is still to be acknowledged (R526). -/
def Dev.createUnacked (d : Dev) (key : FlowKey) : Bool :=
  let isIt (e : WEntry) : Bool := e.kind == 1 && decide (recKey (entryRecord e).1 = key)
  d.buddy.mirror.any isIt || d.buddy.sent.any (fun (b : Nat × List WFrame) => b.2.any (fun (w : WFrame) => w.entries.any isIt))

/-- First packets whose creation the peer knows are released (R526). -/
def releaseCreated (now : BellSt) (d : Dev) : Dev :=
  let due (x : Desc) : Bool := (match x.wait with | .syncCreate _ => true | _ => false) &&
    (match x.slot with | some s => !d.createUnacked (recKey (d.recordAt s)) | none => true)
  (d.descs.filter due).foldl (fun d x => resume now (d.unpark x.id) x) d

/-- BUDDY_PERIOD_RX (R522): the heartbeat, its ACK, and a part of the peer's batch. -/
def buddyPeriodRx (now : BellSt) (d : Dev) : Dev :=
  match takeWalger d 2 with
  | none => d
  | some (f, d) =>
    if d.joined = false then d else
    let d := { d.wr M.BUDDY_PEER_PERIOD (beAt f 4 4) with buddy := { d.buddy with heard := true } }
    let d := releaseCreated now (ackBatches d (beAt f 8 4))
    let (fresh, d) := notePart d f (readEntries (beAt f 12 2) (walgerPayload f))
    if fresh then applyBatches (d.buddy.early.length + 1) now d else d

/-- A frame of a batch other than PERIOD is taken once: its payload, the frame, and the device. -/
def takePart (now : BellSt) (d : Dev) (type : Nat) : Option (Bytes × Bytes) × Dev :=
  match takeWalger d type with
  | none => (none, d)
  | some (f, d) =>
    if d.joined = false then (none, d) else
    let (fresh, d) := notePart d f []
    if fresh then (some (walgerPayload f, f), applyBatches (d.buddy.early.length + 1) now d) else (none, d)

/-! ## Reads served by the peer (R529) -/

/-- The answer to a request: the record that serves its key, as it stands here, or MISSING. A link's PRIMARY_SLOT means nothing to the
peer, which places by key (R520), so the key of a link is answered with its primary (log 231). -/
def fetchAnswer (d : Dev) (e : WEntry) : WEntry :=
  match d.findRecord (FlowKey.ofBlock e.body) with
  | some s =>
    let s := if recKind (d.recordAt s) = 3 then recPrimary (d.recordAt s) else s
    let r := d.recordAt s
    if d.cachedRec s = none ∧ d.readable s = false then { kind := 10, flags := 0, slot := s, body := e.body }
    else { kind := 9, flags := b2n (recTwoSlots r), slot := s, body := recBytes r }
  | none => { kind := 10, flags := 0, slot := e.slot, body := e.body }

/-- BUDDY_FETCH_RX (R529). -/
def buddyFetchRx (now : BellSt) (d : Dev) : Dev :=
  match takePart now d 3 with
  | (none, d) => d
  | (some (p, f), d) =>
    let answers := ((readEntries (beAt f 12 2) p).filter (fun (e : WEntry) => e.kind == 8)).map (fetchAnswer d)
    let d := answers.foldl (fun d (e : WEntry) => if e.kind = 9 then mirrorRead now d e.slot else d) d
    { d with buddy := { d.buddy with replyOut := d.buddy.replyOut ++ answers } }

/-- A record with this device's own unsent increments added (R529). -/
def addOwnDelta (d : Dev) (r : Nat) : Nat :=
  match d.buddy.deltas.find? (fun (x : Delta) => x.key == (recKey r).block) with
  | none => r
  | some x =>
    let r := setFld (setFld r 112 32 (fld r 112 32 + x.pktsAB)) 80 32 (fld r 80 32 + x.pktsBA)
    let r := setFld (setFld r 40 40 (fld r 40 40 + x.bytesAB)) 0 40 (fld r 0 40 + x.bytesBA)
    if lessonsSince x.lastHit (recLastHit r) < 2 ^ 23 then setFld r 344 24 x.lastHit else r

/-- A request is answered. -/
def answered (d : Dev) (key : Bytes) (slot : Option Nat) : Dev :=
  { d with buddy := { d.buddy with awaiting := d.buddy.awaiting.erase (key, slot) } }

/-- No pipe reads a slot any more. -/
def endReads (d : Dev) (slot : Nat) : Dev :=
  { d with pipes := d.pipes.map (fun (e : Nat × Pipe) => (e.1, { e.2 with reads := e.2.reads.erase slot })) }

/-- Packets that asked the peer for their record go on (R532). -/
def wakeAsked (now : BellSt) (d : Dev) (k : FlowKey) (missing : Bool) : Dev :=
  let isIt (x : Desc) : Bool := decide (x.key = some k) && (match x.wait with | .peer _ => true | _ => false)
  (d.descs.filter isIt).foldl (fun d x => resume now (d.unpark x.id) (if missing then { x with tried := askedMark :: x.tried } else x)) d

/-- Packets that wait for a slot or for its tail go on. -/
def wakeBoth (now : BellSt) (d : Dev) (s : Nat) : Dev := wakeFill now (endReads (wakeFill now (endReads d s) s) (s + 1)) (s + 1)

/-- What a reply holds for a slot whose record was asked for under a key: the record itself, or the link at the slot that leads to it.
`none` where the record behind the link is not here. -/
def replyRecord (d : Dev) (k : FlowKey) (s r : Nat) : Option Nat :=
  let primary := (d.candidates k).any (fun l => match d.cachedRec l with | some v => recIs v k && recKind v == 3 && recPrimary v == s | none => false)
  if recKey r = k ∨ primary = true then some (addOwnDelta d (setFld r 182 28 (recLinkSlot (d.recordAt s))))
  else (d.findRecord (recKey r)).map (linkRecord k)

/-- Whether a slot, or the tail of its record, holds a value of this device's own that is newer than its memory: a valid line, an update
that waits for one, or the write buffer. -/
def Dev.holdsOwn (d : Dev) (s : Nat) : Bool := (d.lineVal s).isSome || d.buffered s

/-- Whether what the peer sends for a slot is still that slot's: it holds a record with the tag of the key, and where its memory is
served here, no other key's (R309, R313, R316). -/
def Dev.stillHolds (d : Dev) (s : Nat) (k : FlowKey) : Bool :=
  d.occupied s && SMap.get zeroAt d.roll.tags s == (d.hashKey k).2.2 && (!(d.holdsOwn s || d.readable s) || recIs (d.recordAt s) k)

/-- A FETCH_REPLY fills the line dirty, which waits for its placement where no line may be taken (R279, R529). A slot that has been freed
or taken by another record since, and a value this device has itself changed since, stay as they are; the latter is rewritten to a
memory that may have missed it. -/
def fillReply (now : BellSt) (d : Dev) (e : WEntry) (a : Bytes × Option Nat) : Dev :=
  let d := answered d a.1 a.2
  let (r, _) := entryRecord e
  let k := FlowKey.ofBlock a.1
  match a.2 with
  | none => wakeAsked now (applyCreate now d e) k false
  | some s =>
    let cur := d.recordAt s
    let all := d.holdsOwn s && (d.holdsOwn (s + 1) || !recTwoSlots cur)
    if d.stillHolds s k = false ∧ d.stillHolds s (recKey r) = false then wakeBoth now (dropPending d s) s
    else
      match (if all then some cur else replyRecord d k s r) with
      | none => failFill now (dropPending (endReads d s) s) s
      | some v =>
        let head := if d.holdsOwn s then d.current s else v % 2 ^ 512
        let tail := if d.holdsOwn (s + 1) then d.current (s + 1) else v / 2 ^ 512
        wakeBoth now (updateRecord now (dropPending d s) s (head + tail * 2 ^ 512)) s

/-- MISSING: the peer holds no record of the key (R529). -/
def fillMissing (now : BellSt) (d : Dev) (key : Bytes) (a : Bytes × Option Nat) : Dev :=
  let d := answered d a.1 a.2
  let k := FlowKey.ofBlock key
  match a.2 with
  | none => wakeAsked now d k true
  | some s =>
    let d := dropPending (endReads d s) s
    let d := if d.holdsOwn s = false ∧ d.occupied s = true ∧ recIs (d.recordAt s) k = true then clearRecord now d s else d
    wakeBoth now d s

/-- BUDDY_REPLY_RX (R529). -/
def buddyReplyRx (now : BellSt) (d : Dev) : Dev :=
  match takePart now d 4 with
  | (none, d) => d
  | (some (p, f), d) =>
    (readEntries (beAt f 12 2) p).foldl (fun d e =>
      let key := if e.kind = 9 then (recKey (entryRecord e).1).block else e.body
      let named := d.buddy.awaiting.filter (fun (a : Bytes × Option Nat) => a.1 == key)
      -- the primary of a link answers the oldest request (log 231)
      (if named.isEmpty ∧ e.kind = 9 then d.buddy.awaiting.take 1 else named).foldl (fun d a =>
        if e.kind = 9 then fillReply now d e a else if e.kind = 10 then fillMissing now d key a else d) d) d

/-! ## Relayed frames (R524, R525) -/

/-- A relayed frame is processed as received on its port, from parsing onward (R524). -/
def relayedFrame (now : BellSt) (d : Dev) (port : Nat) (bytes : Bytes) : Dev :=
  let (t, d) := Dev.stamp now d
  if 256 ≤ port then d else (admitFrame now d port (ingressClass d port bytes) bytes t 0).2

/-- BUDDY_RELAY_RX (R525). -/
def buddyRelayRx (now : BellSt) (d : Dev) : Dev :=
  match takePart now d 5 with
  | (none, d) => d
  | (some (p, f), d) =>
    let period := beAt f 4 4
    let port := beAt p 0 2
    let bytes := p.drop 4
    if bitOf (byteAt f 2) 2 then { d with buddy := { d.buddy with relayPart := some (period, port, bytes) } } else
    match d.buddy.relayPart with
    | some (q, port', lead) =>
      if q = period ∧ port' = port then relayedFrame now { d with buddy := { d.buddy with relayPart := none } } port (lead ++ bytes)
      else relayedFrame now d port bytes
    | none => relayedFrame now d port bytes

/-- A first part whose second part did not come: what waits here for its key is refused (R525). -/
def relayLost (now : BellSt) (d : Dev) : Dev :=
  match d.buddy.relayPart with
  | none => d
  | some (_, port, bytes) =>
    let d := { d with buddy := { d.buddy with relayPart := none } }.bump M.CNT_BUDDY_RELAY_LOST
    let k := (flowKey (parseFrame bytes port 0)).1
    let waits (x : Desc) : Bool := decide (x.key = some k) && (match x.wait with | .relay _ => true | .hold _ => true | _ => false)
    (d.descs.filter waits).foldl (fun d x => if (d.desc x.id).isSome then refuseAll now (d.unpark x.id) x 10 else d) d

/-- BUDDY_CREATE_TIMEOUT (R524): the oldest packet whose relayed creation, or request to the peer, was not answered in time. -/
def buddyCreateTimeout (now : BellSt) (d : Dev) : Dev :=
  let late (p : Nat) : Bool := decide (d.rd M.BUDDY_CREATE_WAIT ≤ periodsSince now.period.toNat p)
  let due (x : Desc) : Bool := match x.wait with
    | .relay p => late p
    | .peer p => late p
    | _ => false
  match d.descs.find? due with
  | none => d
  | some x => refuseAll now ((d.unpark x.id).bump M.CNT_BUDDY_CREATE_TIMEOUT) x 10

/-! ## Takeover and hand-back (R530 to R532) -/

/-- A read that the peer was to serve ends without its record. -/
def dropAwait (now : BellSt) (d : Dev) (a : Bytes × Option Nat) : Dev :=
  match a.2 with
  | some s => failFill now (dropPending (endReads d s) s) s
  | none => wakeAsked now d (FlowKey.ofBlock a.1) false

/-- BUDDY_TAKEOVER (R530): at the bell found due, the device enters ALONE and owns both sides. -/
def buddyTakeover (now : BellSt) (d : Dev) : Dev :=
  if d.buddy.takeoverDue = false then d else
  let d := relayLost now d
  let waits := d.buddy.awaiting
  let d := { d with buddy := { Buddy.init with mode := .alone, rx := d.buddy.rx, lostRaised := d.buddy.lostRaised } }
  let d := (d.wr M.BUDDY_TAKEOVER_PERIOD now.period.toNat).bump M.CNT_BUDDY_TAKEOVER
  let d := d.raise now Ev.BUDDY_TAKEOVER (oid 0x70 0) now.period.toNat
  releaseCreated now (waits.foldl (dropAwait now) d)

/-- BUDDY_HANDBACK (R532, R533). -/
def buddyHandback (_ : Nat) (d : Dev) : Nat × Dev :=
  if d.buddy.mode = .syncing then (St.OK, { d with buddy := { d.buddy with wantHandback := true } }) else (St.NOT_ALLOWED, d)

/-- BUDDY_HANDBACK_RX (R532 step 5). -/
def buddyHandbackRx (now : BellSt) (d : Dev) : Dev :=
  match takePart now d 6 with
  | (none, d) => d
  | (some (p, _), d) =>
    if d.buddy.mode = .syncing ∧ d.buddy.returning = true then { d with buddy := { d.buddy with handback := some (beAt p 0 4) } } else d

/-- The named bell (R532 step 6). -/
def handbackBell (now : BellSt) (d : Dev) : Dev :=
  if d.buddy.mode = .syncing ∧ d.buddy.handback = some now.period.toNat then
    let d := { d with buddy := { d.buddy with mode := .paired, returning := false, handback := none, wantHandback := false } }
    (d.bump M.CNT_BUDDY_HANDBACK).raise now Ev.BUDDY_HANDBACK (oid 0x70 0) now.period.toNat
  else d

/-! ## The bell (item 10 of R39, R517, R521, R522, R527, R529) -/

/-- Elements taken from a list while bytes and units last; one that starts may use more bytes than are left. -/
def takeSome {α : Type} (cost units : α → Nat) (left n : Nat) (xs : List α) : List α × List α × Nat :=
  match xs with
  | [] => ([], [], left)
  | x :: r =>
    if left = 0 ∨ n < units x then ([], x :: r, left) else
    let (a, b, l) := takeSome cost units (left - cost x) (n - units x) r
    (x :: a, b, l)

/-- Entries packed into payloads of at most `m` bytes, in order. -/
def packEntries (m : Nat) (es : List WEntry) (cur : List WEntry) (size : Nat) : List (List WEntry) :=
  match es with
  | [] => if cur.isEmpty then [] else [cur]
  | e :: r =>
    let n := e.bytes.length
    if cur.isEmpty = false ∧ m < size + n then cur :: packEntries m r [e] n else packEntries m r (cur ++ [e]) (size + n)

/-- The frames of a relayed frame (R525): one, or two parts. -/
def relayFrames (maxFrame : Nat) (x : Nat × Bytes) : List WFrame :=
  let head := toBE 2 x.1 ++ toBE 2 0
  let n := maxFrame - 38
  if x.2.length + 38 ≤ maxFrame then [{ type := 5, flags := 0, part := 0, entries := [], raw := head ++ x.2 }]
  else [{ type := 5, flags := 4, part := 0, entries := [], raw := head ++ x.2.take n },
        { type := 5, flags := 0, part := 0, entries := [], raw := head ++ x.2.drop n }]

/-- Entries of one type as frames. -/
def entryFrames (type m : Nat) (es : List WEntry) : List WFrame :=
  (packEntries m es [] 0).map (fun c => { type, flags := 0, part := 0, entries := c, raw := [] })

/-- The SYNC entry of a slot or an endpoint, if it still holds something that can be read (R520): a record with its link (log 46). -/
def syncEntry (d : Dev) (slot : Nat) : Option WEntry :=
  if d.holdsOwn slot = false ∧ d.readable slot = false then none else
  if epSlotBase ≤ slot then
    (let e := slot - epSlotBase
     if bitOf (d.endpoint e) 511 then some { kind := 7, flags := 0, slot := e, body := toBE 4 e ++ toLE 64 (d.endpoint e) } else none)
  else
    let r := d.recordAt slot
    if d.occupied slot ∧ recValid r = true ∧ recKind r < 2 then
      some { kind := 6, flags := b2n (recTwoSlots r), slot, body := recBytes r ++ d.linkBytes slot r }
    else none

/-- The DELTA entry of a store entry (R520). -/
def Delta.entry (x : Delta) : WEntry :=
  { kind := 5, flags := 0, slot := 0, body := x.key ++ toBE 4 x.pktsAB ++ toBE 4 x.pktsBA ++ toBE 5 x.bytesAB ++ toBE 5 x.bytesBA ++
      toBE 3 x.lastHit ++ toBE 8 0 }

/-- The HANDBACK frame, once every record has been sent (R532 step 5): it names a bell 16 periods on. -/
def handbackFrame (now : BellSt) (d : Dev) : List WFrame × Dev :=
  if d.buddy.mode = .syncing ∧ d.buddy.returning = false ∧ d.buddy.syncLeft = [] ∧ d.buddy.handback = none ∧
     (d.on M.BUDDY_HANDBACK_AUTO = true ∨ d.buddy.wantHandback = true) then
    (let p := (now.period.toNat + 16) % 2 ^ 32
     ([{ type := 6, flags := 0, part := 0, entries := [], raw := toBE 4 p }], { d with buddy := { d.buddy with handback := some p } }))
  else ([], d)

/-- Parts are numbered through the period's frames, and the last is marked LAST (R519). -/
def numberParts (ws : List WFrame) : List WFrame :=
  (ws.zip (List.range ws.length)).map (fun (x : WFrame × Nat) =>
    { x.1 with part := x.2, flags := x.1.flags + b2n (decide (x.2 + 1 = ws.length)) })

/-- The frames of a batch with their ports, in rotation; a second RELAY part follows its first. -/
def onPorts (ports : List Nat) (period : Nat) (ws : List WFrame) (i : Nat) : List (Nat × Nat × WFrame) :=
  match ws with
  | [] => []
  | w :: r => (ports.getD (i % ports.length) 0, period, w) :: onPorts ports period r (if bitOf w.flags 2 then i else i + 1)

/-- Frames leave on their ports. -/
def sendFrames (now : BellSt) (d : Dev) (ws : List (Nat × Nat × WFrame)) : Dev := ws.foldl (fun d w => sendWalger now d w.1 w.2.1 w.2.2) d

/-- Unacknowledged batches (R522): forgotten after 16 periods with a resynchronisation, and sent again from the second bell
on (log 48): the frames sent again. -/
def resendBatches (now : BellSt) (d : Dev) (ports : List Nat) : List (Nat × Nat × WFrame) × Dev :=
  let age (b : Nat × List WFrame) : Nat := periodsSince now.period.toNat b.1
  let old := d.buddy.sent.filter (fun b => decide (16 ≤ age b))
  let d := { d with buddy := { d.buddy with sent := d.buddy.sent.filter (fun b => decide (age b < 16)) } }
  let d := if old.isEmpty then d else resync now d 2
  let again := d.buddy.sent.filter (fun b => decide (2 ≤ age b))
  (again.flatMap (fun b => onPorts ports b.1 b.2 0), d.addTo M.CNT_BUDDY_RESEND again.length)

/-- The batch of item 10 (R521) in its order, within what the ports carry in 1,024 ns: its frames with their ports and periods. -/
def buddyBatch (now : BellSt) (d : Dev) : List (Nat × Nat × WFrame) × Dev :=
  let ports := d.walgerPorts
  if d.joined = false ∨ ports.isEmpty = true then ([], d) else
  let (again, d) := resendBatches now d ports
  let maxFrame := ports.foldl (fun m p => min m (d.rd (M.PORT_MAX_FRAME p))) 10240
  let m := maxFrame - 34
  let cap := (ports.map (fun p => d.gbps p * 128)).sum
  let size (e : WEntry) : Nat := e.bytes.length
  let (hb, d) := handbackFrame now d
  let (relays, relayLeft, l) := takeSome (fun (x : Nat × Bytes) => x.2.length + 38) (fun _ => 0) cap 0 d.buddy.relayOut
  let (fetches, fetchLeft, l) := takeSome size (fun _ => 0) l 0 d.buddy.fetchOut
  let (replies, replyLeft, l) := takeSome size (fun _ => 0) l 0 d.buddy.replyOut
  let (moves, mirrorLeft, l) := takeSome size (fun _ => 1) l 320 d.buddy.mirror
  let slots := d.buddy.syncLeft.map (fun s => (s, syncEntry d s))
  let (syncs, slotsLeft, l) := takeSome (fun (x : Nat × Option WEntry) => match x.2 with | some e => size e | none => 0)
    (fun (x : Nat × Option WEntry) => match x.2 with | some e => 1 + b2n (bitOf e.flags 0) | none => 0) l 384 slots
  let d := (syncs.filter (fun (x : Nat × Option WEntry) => x.2.isSome)).foldl (fun d (x : Nat × Option WEntry) => mirrorRead now d x.1) d
  let deltas := d.buddy.deltaLeft.filterMap (fun k => d.buddy.deltas.find? (fun (x : Delta) => x.key == k))
  let (outDeltas, deltasLeft, _) := takeSome (fun (x : Delta) => size x.entry) (fun _ => 1) l 512 deltas
  let entries := moves ++ syncs.filterMap (fun (x : Nat × Option WEntry) => x.2) ++ outDeltas.map Delta.entry
  let periods := entryFrames 2 m entries
  let empty : WFrame := { type := 2, flags := 0, part := 0, entries := [], raw := [] }
  let periods := periods ++ List.replicate (ports.length - periods.length) empty
  let urgent := relays.flatMap (relayFrames maxFrame) ++ entryFrames 3 m fetches ++ entryFrames 4 m replies ++ hb
  let ws := numberParts (urgent ++ periods)
  let gone := outDeltas.map (fun (x : Delta) => x.key)
  let d := { d with buddy := { d.buddy with
    relayOut := relayLeft, fetchOut := fetchLeft, replyOut := replyLeft, mirror := mirrorLeft
    syncLeft := slotsLeft.map (fun (x : Nat × Option WEntry) => x.1)
    deltas := d.buddy.deltas.filter (fun (x : Delta) => !gone.contains x.key)
    deltaLeft := deltasLeft.map (fun (x : Delta) => x.key)
    sent := d.buddy.sent ++ [(now.period.toNat, ws)] } }
  let p := now.period.toNat
  (again ++ onPorts ports p (ws.take urgent.length) 0 ++ onPorts ports p (ws.drop urgent.length) 0, d.addTo M.CNT_BUDDY_TX moves.length)

/-- HELLO frames of an enabled device that is not joined (R517). -/
def buddyHello (now : BellSt) (d : Dev) : Dev :=
  if d.buddy.mode ≠ .joining ∧ d.buddy.mode ≠ .alone then d else
  let w : WFrame := { type := 1, flags := 0, part := 0, entries := [], raw := helloPayload now d }
  d.walgerPorts.foldl (fun d p => sendWalger now d p now.period.toNat w) d

/-- The Roll slot of a channel's unit. -/
def Dev.unitSlot (d : Dev) (ch unit : Nat) : Nat := 4 * (unit / 4 * d.rollChannels + ch) + unit % 4

/-- One period of a repair sweep (R529): the occupied heads among 512 units are asked of the peer. -/
def sweepChannel (d : Dev) (s : Nat × Nat) : Dev :=
  let slots := (d.roll.tags.map Prod.fst).filter (fun k =>
    let (ch, unit) := d.slotPlace k
    ch == s.1 && decide (s.2 ≤ unit) && decide (unit < s.2 + 512) && d.occupied k && decide (recKind (d.recordAt k) < 2))
  slots.foldl (fun d k => fetchFromPeer d (recKey (d.recordAt k)) k) d

/-- The sweeps of a period, and the share done of them or of a synchronisation (R529, R533). -/
def repairSweeps (d : Dev) : Dev :=
  let units := rollSlots d.palette / max 1 d.rollChannels
  let d := d.buddy.sweep.foldl sweepChannel d
  let next := d.buddy.sweep.map (fun (s : Nat × Nat) => (s.1, s.2 + 512))
  let d := { d with buddy := { d.buddy with sweep := next.filter (fun (s : Nat × Nat) => decide (s.2 < units)) } }
  match next with
  | s :: _ => d.wr M.BUDDY_REPAIR_PROGRESS (min 100 (s.2 * 100 / units))
  | [] =>
    if d.buddy.syncAll = 0 then d
    else d.wr M.BUDDY_REPAIR_PROGRESS ((d.buddy.syncAll - d.buddy.syncLeft.length) * 100 / d.buddy.syncAll)

/-- Batches that can no longer be completed are given up (log 48): what of them came is not applied. -/
def giveUpBatches (fuel : Nat) (now : BellSt) (d : Dev) : Dev :=
  match fuel with
  | 0 => d
  | fuel + 1 =>
    match d.buddy.received with
    | none => d
    | some r =>
      let next := (r + 1) % 2 ^ 32
      if d.buddy.early.any (fun (b : WBatch) => decide (16 ≤ periodsSince b.period next) && periodAfter b.period next) then
        let d := match d.buddy.relayPart with
          | some (q, _, _) => if q = next then relayLost now d else d
          | none => d
        let d := { d with buddy := { d.buddy with received := some next, early := d.buddy.early.filter (fun (b : WBatch) => b.period != next) } }
        giveUpBatches fuel now (applyBatches (d.buddy.early.length + 1) now d)
      else d

/-- What a bell does before item 10, in the bell cycle: enabling, joining, the hand-back, and whether a takeover is due (R517,
R530, R532); at a lesson start every delta entry is to be sent (R527). -/
def buddyBell (now : BellSt) (lesson : Bool) (d : Dev) : Dev :=
  if d.on M.BUDDY_ENABLE = false then (if d.buddy.mode = .off then d else { d with buddy := { Buddy.init with lostRaised := d.buddy.lostRaised } }) else
  let d := if d.buddy.mode = .off then { d with buddy := { d.buddy with mode := .joining } } else d
  let d := match d.buddy.joinDue with
    | some r => if d.joined then d else joinBell now d r
    | none => d
  let d := giveUpBatches 64 now (handbackBell now d)
  let silent := if d.buddy.heard then 0 else d.buddy.silent + 1
  let due := d.joined && (decide (4 ≤ silent) || d.buddy.bothDown)
  { d with buddy := { d.buddy with
    joinDue := none, heard := false, bothDown := false
    silent := if d.joined then silent else 0
    takeoverDue := due
    changed := d.buddy.changed.filter (fun (c : Bytes × Nat) => decide (periodsSince now.period.toNat c.2 < 64))
    replaced := d.buddy.replaced.filter (fun (c : Bytes × Nat × Bool) => decide (periodsSince now.period.toNat c.2.1 < 64))
    deltaLeft := if lesson then d.buddy.deltas.map (fun (x : Delta) => x.key) else d.buddy.deltaLeft } }

/-! ## Commands -/

/-- BUDDY_TAKEOVER (R530). -/
def execBuddyTakeover (s : State) : Host.Outcome State Fault Refusal :=
  s.onDie (fun now d => buddyTakeover now d)

/-- BUDDY_HELLO_RX (R517). -/
def execBuddyHelloRx (s : State) : Host.Outcome State Fault Refusal :=
  s.onDie (fun now d => buddyHelloRx now d)

/-- BUDDY_PERIOD_RX (R522). -/
def execBuddyPeriodRx (s : State) : Host.Outcome State Fault Refusal :=
  s.onDie (fun now d => buddyPeriodRx now d)

/-- BUDDY_FETCH_RX (R529). -/
def execBuddyFetchRx (s : State) : Host.Outcome State Fault Refusal :=
  s.onDie (fun now d => buddyFetchRx now d)

/-- BUDDY_REPLY_RX (R529). -/
def execBuddyReplyRx (s : State) : Host.Outcome State Fault Refusal :=
  s.onDie (fun now d => buddyReplyRx now d)

/-- BUDDY_RELAY_RX (R525). -/
def execBuddyRelayRx (s : State) : Host.Outcome State Fault Refusal :=
  s.onDie (fun now d => buddyRelayRx now d)

/-- BUDDY_HANDBACK_RX (R532). -/
def execBuddyHandbackRx (s : State) : Host.Outcome State Fault Refusal :=
  s.onDie (fun now d => buddyHandbackRx now d)

/-- BUDDY_CREATE_TIMEOUT (R524). -/
def execBuddyCreateTimeout (s : State) : Host.Outcome State Fault Refusal :=
  s.onDie (fun now d => buddyCreateTimeout now d)

/-- BUDDY_HANDBACK (R532). -/
def execBuddyHandback (a : Acc) (s : State) : Host.Outcome State Fault Refusal :=
  s.onDev (fun _ d => (d.trigger a M.BUDDY_HANDBACK buddyHandback).2)

end Sys2Proof.Machine
end

