-- ==== Sys2Proof/Machine/Dict.lean ====
section
/-!
DEFINITION. Writes to the dictionary (R8, R36, R60, R99, R118 to R126, R130, R134, R135, R141, R149, R151, R185, R191, R464,
R476, R491): every member with what its own chapter adds, the block areas, the table command pages and the MSI-X table.
-/
namespace Sys2Proof.Machine

/-! ## Key slots and sessions (R185, R187) -/

/-- A session ends: its transaction is aborted (R159), and its subscription and its waiting request go. -/
def endSession (d : Dev) (s : Nat) : Dev :=
  if (d.session s).isNone then d else
  let d := if d.rd M.TXN_OWNER = 0x8000 + s then txnAbort d else d
  let d := d.setSession s none
  { d with denlys := { d.denlys with
    second := d.denlys.second.filter (fun (x : Nat × Bytes) => x.1 != s)
    requests := d.denlys.requests.filter (fun (r : DenReq) => byteAt r.part 1 == 1 || byteAt r.part 2 != s) } }

/-- Every session of a role ends (R185). -/
def endRole (d : Dev) (role : Nat) : Dev :=
  (List.range 9).foldl (fun d s => match d.session s with
    | some x => if x.role = role then endSession d s else d
    | none => d) d

/-- Some bytes of a key slot are written: bytes never written are zero. -/
def keyPut (d : Dev) (slot off : Nat) (bs : Bytes) : Dev :=
  let old := (SMap.get (fun _ => none) d.denlys.keys slot).getD (List.replicate 32 0)
  endRole { d with denlys := { d.denlys with keys := SMap.set (fun _ => none) d.denlys.keys slot (some (patch old off bs)) } } slot

/-- KEY_SLOT_WRITE (R185): by principal K, in the DENLYS block area; a write that runs beyond the slots meets offsets where nothing is
mapped (R123, R130). -/
def keySlotWrite (w : PcieWrite) (d : Dev) : Dev :=
  if w.bar ≠ 0 ∨ w.addr < 0x08B10000 ∨ 0x08B10060 ≤ w.addr ∨ w.data = [] ∨ d.start.pcieUp = false then d else
  if 0x08B10060 < w.addr + w.data.length then (d.countRefused St.NO_OBJECT).rejectPcie St.NO_OBJECT 0 else
  (List.range 3).foldl (fun d s =>
    let lo := max w.addr (0x08B10000 + 32 * s)
    let hi := min (w.addr + w.data.length) (0x08B10000 + 32 * s + 32)
    if lo < hi then keyPut d s (lo - 0x08B10000 - 32 * s) ((w.data.drop (lo - w.addr)).take (hi - lo)) else d) d

/-- KEY_SAVE (R185). -/
def keySave (_ : Nat) (d : Dev) : Nat × Dev :=
  (St.OK, { d with start := { d.start with boot := { d.start.boot with
    keys := some ((List.range 3).map (fun s => SMap.get (fun _ => none) d.denlys.keys s))
    settings := [M.DENLYS_ETHERTYPE, M.PLCA_NODE_COUNT].map (fun id => (id, BitVec.ofNat 64 (d.rd id))) } } })

/-! ## BELL_LOAD (R36) -/

/-- Whether BELL_LOAD may latch: ST_OK, or why it fails. -/
def bellLoadStatus (now : BellSt) (d : Dev) : Nat :=
  if now.readyRisen then St.NOT_ALLOWED
  else if d.rd M.LESSON_PRESET % 2 ^ 22 ≠ d.rd M.PERIOD_PRESET / 1024 ∨ 2 ^ 24 ≤ d.rd M.LESSON_PRESET then St.INCONSISTENT
  else St.OK

/-- The bell with the presets latched. -/
def bellLatch (now : BellSt) (d : Dev) : BellSt :=
  { now with latch := some (BitVec.ofNat 32 (d.rd M.PERIOD_PRESET), BitVec.ofNat 2 (d.rd M.LESSON_PRESET / 2 ^ 22)) }

/-- BELL_LOAD as a trigger: its status, the bell, and the device. -/
def bellLoad (now : BellSt) (d : Dev) (a : Acc) : Nat × BellSt × Dev :=
  let reaches := d.gate 0x04 == false && (a.who != .k || d.start.pcieUp) && d.writeStatus a M.BELL_LOAD == St.OK && storedValue M.BELL_LOAD a.val != 0
  let st := bellLoadStatus now d
  let q := d.trigger a M.BELL_LOAD (fun _ d => (st, d))
  (q.1, if reaches && st == St.OK then bellLatch now d else now, q.2)

/-! ## Members (R120 to R126) -/

/-- What an X member's trigger does, given by the chapter that defines it. -/
def triggerOf (now : BellSt) (who : Principal) (id : Nat) : Option (Nat → Dev → Nat × Dev) :=
  let i := id / 256 % 65536
  if id = M.DATAPATH_RESTART then some (datapathRestart txnAbortNow)
  else if id = M.PALETTE_SAVE then some paletteSave
  else if id = M.START_RELEASE then some startRelease
  else if id = M.START_RETRY then some startRetry
  else if id = M.ROLL_SEED_SAVE then some rollSeedSave
  else if id = M.RECESS_ENTER then some recessEnter
  else if id = M.RECESS_EXIT then some (recessExit now who)
  else if id = M.TXN_BEGIN then some (txnBegin who)
  else if id = M.TXN_COMMIT then some (txnCommit who)
  else if id = M.TXN_ROLLBACK then some (txnRollback who)
  else if id = M.TIME_STEP then some timeStep
  else if id = M.TIME_SERVO_RESET then some (timeServoReset now)
  else if id = M.PORT_WAKE_PREPARE i then some (portWakePrepare i)
  else if id = M.ROLL_PROBE then some rollProbe
  else if id = M.TUTOR_IMAGE_LOAD then some tutorImageLoad
  else if id = M.POOL_HOST_ALLOC then some poolHostAlloc
  else if id = M.POOL_HOST_FREE then some poolHostFree
  else if id = M.MEMCH_RETRAIN i then some (memchRetrain i)
  else if id = M.CHK_RUN i then some (chkStart true i)
  else if id = M.CHK_CONTINUE i then some (chkStart false i)
  else if id = M.CHK_ABORT i then some (chkAbort i)
  else if id = M.BUDDY_HANDBACK then some buddyHandback
  else if id = M.KEY_SAVE then some keySave
  else none

/-- What a write of an RW member does beyond storing its value. -/
def writeOf (id : Nat) : Option (Nat → Dev → Nat × Dev) :=
  let i := id / 256 % 65536
  if id = M.TIME_OFFSET_IN then some timeOffsetIn
  else if id = M.TIME_ANCHOR_NS then some timeAnchorNs
  else if id = M.TIME_DRIFT then some timeDrift
  else if id = M.TIME_PPS_OUT_ENABLE then some ppsOutEnable
  else if id = M.TUTOR_ENABLE i then some (tutorEnable i)
  else if id = M.RING_ENABLE i then some (ringEnableWrite i)
  else if id = M.EXPORT_NS then some exportNs
  else if id = M.THROTTLE_N_STEP then some throttleStepWrite
  else if id = M.PERF_TAG_SEED i then some (perfTagSeed i)
  else if id = M.PERF_TAG_MODE i then some (perfTagMode i)
  else if id = M.PERF_SNAP_ENABLE then some perfSnapEnable
  else none

/-- Members of a ring that are written only while it is DISABLED (R464, R476). -/
def ringSettings (i : Nat) : List Nat :=
  [M.RING_BASE i, M.RING_SIZE i, M.RING_FORMAT i, M.RING_OWNERSHIP i, M.RING_PROD i, M.RING_CONS i, M.RING_HEAD_ADDR i, M.RING_RX_MODE i,
   M.RING_EVENT_MASK i]

/-- Settings of a check-value context, which are written only while it is idle (R491). -/
def chkSettings (i : Nat) : List Nat :=
  [M.CHK_WIDTH i, M.CHK_POLY i, M.CHK_INIT i, M.CHK_FLAGS i, M.CHK_SPACE i, M.CHK_START_ADDR i, M.CHK_LENGTH i, M.CHK_RUNNING i, M.CHK_EXPECT i,
   M.CHK_COMPARE i]

/-- Check 7 of R123 on a plain RW member: ST_OK where its chapter lets the write pass. -/
def ownRule (d : Dev) (id v : Nat) : Nat :=
  let i := id / 256 % 65536
  if (ringSettings i).contains id ∧ d.rd (M.RING_STATE i) ≠ 0 then St.NOT_ALLOWED
  else if (chkSettings i).contains id ∧ d.chkState i ≠ 0 then St.BUSY
  else if id = M.SESSION_TIMEOUT ∧ v < 3 * d.rd M.HEARTBEAT_INTERVAL then St.INCONSISTENT
  else St.OK

/-- Whether a staged value would enable a service whose FEATURES bit is 0 (R191). -/
def memberDenied (id v : Nat) : Bool :=
  let off (bit : Nat) : Bool := !bitOf Config.features bit
  v != 0 && ((id == M.BUDDY_ENABLE && off 6) || (id == M.EXPORT_MODE && off 4) || (id == M.TCAM_MISS_STATEFUL && off 0) ||
    ((List.range 4).any (fun k => id == M.ADDR_PROXY_PORTS k || id == M.ADDR_TRUST_PORTS k || id == M.ADDR_GUARD_PORTS k) && off 5))

/-- What a clear of a member that is no bit field loads: a low-water mark takes the present count (R404, R405), others zero. -/
def Dev.clearLoads (d : Dev) (id : Nat) : Nat :=
  let i := id / 256 % 65536
  if d.divided = false then 0
  else if id = M.BUF_CELLS_FREE_MIN then d.cellsFree
  else if id = M.POOL_FREE_MIN i then d.poolFree i else 0

/-- The clear of an RC member (R124). -/
def rcClear (m : MemberRow) (id v : Nat) (d : Dev) : Nat × Dev :=
  let bits := match m.ty with
    | .bits32 | .bits64 => true
    | _ => false
  let old := d.rd id
  (St.OK, d.wr id (if bits then old - (old &&& v) else if v = 0 then old else d.clearLoads id))

/-- A member's write under the right it is written with. -/
def plainWrite (m : MemberRow) (rt : Right) (id v : Nat) (d : Dev) : Nat × Dev :=
  match rt with
  | .rws =>
    let q := stageMember id v d
    if q.1 = St.OK ∧ memberDenied id v = true then (St.NOT_ALLOWED, d) else q
  | .rc => rcClear m id v d
  | _ => let st := ownRule d id v; if st = St.OK then (st, d.wr id v) else (st, d)

/-- A write of a member by a principal (R120 to R126): its status, the bell and the device. -/
def writeMember (now : BellSt) (d : Dev) (a : Acc) (id : Nat) : Nat × BellSt × Dev :=
  if id = M.BELL_LOAD then bellLoad now d a else
  match triggerOf now a.who id, writeOf id with
  | some f, _ => let q := d.trigger a id f; (q.1, now, q.2)
  | none, some f => let q := d.accept a id f; (q.1, now, q.2)
  | none, none =>
    let q := d.accept a id (fun v d => match findMember id with
      | some m => plainWrite m (m.right a.who) id v d
      | none => (St.NO_OBJECT, d))
    (q.1, now, q.2)

/-! ## Block areas (R130, R149, R151, R216, R491) -/

/-- The class of a block-area byte, for whether it answers (R64, R103). -/
def areaClass (a : Nat) : Nat := match placeOf a with
  | .area c => c
  | .member id _ => id / 2 ^ 24
  | _ => 0

/-- The first check a write of a block area fails (R123). -/
def areaStatus (d : Dev) (a n : Nat) : Nat :=
  let uses := (List.range n).map (fun i => areaUse (a + i))
  if uses.any (fun u => u.isNone) then St.NO_OBJECT
  else if uses.any (fun u => u == some .r) then St.ACCESS
  else if uses.any (fun u => u == some .rws) ∧ d.ownsOpen .k = false then St.NO_TXN
  else if 0x08810000 ≤ a ∧ a < 0x08818000 ∧ d.chkState ((a - 0x08810000) / 0x1000) ≠ 0 then St.BUSY
  else St.OK

/-- Whether an address lies in the wake patterns of a port (R215). -/
def inPatterns (a : Nat) : Bool :=
  decide (0x02000000 ≤ a) && decide (a < 0x02400000) && decide (0x1800 ≤ a % 0x4000) && decide (a % 0x4000 < 0x2800)

/-- Whether a write would leave a wake pattern's OFFSET above 10,112 (R215). -/
def badOffset (d : Dev) (a : Nat) (bs : Bytes) : Bool :=
  inPatterns a && [a, a + bs.length - 1].any (fun x =>
    let o := x / 256 * 256 + 0x90
    let byte (y : Nat) : Nat := if a ≤ y ∧ y < a + bs.length then byteAt bs (y - a) else (d.ab y).toNat
    decide (10112 < byte o + 256 * byte (o + 1)))

/-- A write of a wake pattern makes its CHECK stale (R216). -/
def markStale (d : Dev) (a n : Nat) : Dev :=
  if inPatterns a then
    ([a, a + n - 1].eraseDups).foldl (fun d x => d.awr (x / 256 * 256 + 0x94) [1]) d
  else d

/-- A write of bytes in a block area by principal K. -/
def areaWrite (d : Dev) (a : Nat) (bs : Bytes) : Dev :=
  if d.gate (areaClass a) then d else
  let st := areaStatus d a bs.length
  let st := if st = St.OK ∧ badOffset d a bs then St.RANGE else st
  if st ≠ St.OK then (d.countRefused st).rejectPcie st 0 else
  let bs := (bs.zip (List.range bs.length)).map (fun (x : Byte × Nat) => toByte (x.1.toNat &&& areaMask (a + x.2)))
  if areaUse a = some .rws then stageArea a bs d else markStale (d.awr a bs) a bs.length

/-! ## Table command pages (R134, R135, R141) -/

/-- A write of staging words. -/
def stagingWrite (d : Dev) (i off : Nat) (bs : Bytes) : Dev :=
  let n := bs.length
  let aligned := (n == 4 && off % 4 == 0) || (n != 0 && n % 8 == 0 && off % 8 == 0)
  if aligned = false ∨ off < 0x40 ∨ 0x200 < off + n then d else
  let x := d.iface i
  let all := patch (fit 64 x.key ++ fit 128 x.data ++ fit 128 x.cmpValue ++ fit 128 x.cmpMask) (off - 0x40) bs
  d.setIface i { x with key := slice all 0 64, data := slice all 64 128, cmpValue := slice all 192 128, cmpMask := slice all 320 128 }

/-- A write to the page of an interface by principal K; until READY rises the pages do not answer (R103, log 188). -/
def pageWrite (d : Dev) (i off : Nat) (bs : Bytes) : Dev :=
  if d.bar0Closed then d
  else if 12 ≤ i then (d.countRefused St.ACCESS).rejectPcie St.ACCESS 0
  else if (d.iface i).running.isSome then d.bump M.CNT_TBL_BUSY_WRITE
  else if off = 0 ∧ bs.length = 8 then tblStart d i (leVal bs)
  else if off < 8 then d.rejectPcie St.TYPE 0
  else if off < 16 then (d.countRefused St.ACCESS).rejectPcie St.ACCESS 0
  else stagingWrite d i off bs

/-! ## PCIe writes (R118, R128, R481, R482) -/

/-- A write of the MSI-X table: its bytes are kept, and a vector whose mask bit is written is masked or released. -/
def msixWrite (d : Dev) (a : Nat) (bs : Bytes) : Dev :=
  let d := d.awr a bs
  ((List.range 256).filter (fun v => decide (a ≤ 0x0A00000C + 16 * v) && decide (0x0A00000C + 16 * v < a + bs.length))).foldl
    (fun d v => maskVector d v (bitOf (d.ab (0x0A00000C + 16 * v)).toNat 0)) d

/-- Which row a PCIe write to the object window belongs to. -/
inductive WriteKind where
  | plain | staged | clear | key
  deriving DecidableEq, Repr

/-- The row a write belongs to: by the right principal K has to its target. -/
def writeKind (w : PcieWrite) : WriteKind :=
  if w.bar ≠ 0 then .plain else
  match placeOf w.addr with
  | .member id _ => (match findMember id with
    | some m => (match m.k with
      | .rws => .staged
      | .rc => .clear
      | _ => .plain)
    | none => .plain)
  | .area _ => (match areaUse w.addr with
    | some .rws => .staged
    | some .w => .key
    | _ => .plain)
  | _ => .plain

/-- The object ID that a BAR4 offset has (R123, R482): 0 for an offset with none. -/
def bar4Id (a : Nat) : Nat :=
  match (if a < 0x09000000 then placeOf a else .nothing) with
  | .member id _ => id
  | _ => 0

/-- A PCIe write (R118, R122, R123, R128): member, block area, table page or MSI-X table; writes of BAR4 and of offsets where
nothing is mapped are rejected, and a write of the pending bits does nothing. Doorbell pages and host windows have rows of their own. -/
def pcieWrite (now : BellSt) (d : Dev) (w : PcieWrite) : BellSt × Dev :=
  if d.start.pcieUp = false ∨ w.data = [] then (now, d) else
  if w.bar = 4 then (now, (d.countRefused St.ACCESS).rejectPcie St.ACCESS (bar4Id w.addr)) else
  if w.bar ≠ 0 then (now, d) else
  if 0x0C000000 ≤ w.addr ∧ w.addr < 0x10000000 ∨ 0x0A000000 ≤ w.addr ∧ d.bar0Closed = true then (now, d) else
  if 0x0A000000 ≤ w.addr ∧ w.addr + w.data.length ≤ 0x0A001000 then (now, msixWrite d w.addr w.data) else
  if 0x0A001000 ≤ w.addr ∧ w.addr < 0x0A001020 then (now, d) else
  match placeOf w.addr with
  | .member id off =>
    let q := writeMember now d { who := .k, val := leVal w.data, width := if off = 0 then w.data.length else 0 } id
    (q.2.1, q.2.2)
  | .area _ => (now, areaWrite d w.addr w.data)
  | .iface i off => (now, pageWrite d i off w.data)
  | .nothing => (now, (d.countRefused St.NO_OBJECT).rejectPcie St.NO_OBJECT 0)

/-- A PCIe write whose target belongs to a row. -/
def pcieWriteOf (k : WriteKind) (now : BellSt) (d : Dev) (w : PcieWrite) : BellSt × Dev := if writeKind w = k then pcieWrite now d w else (now, d)

/-! ## Commands -/

/-- BELL_LOAD (R36). -/
def execBellLoad (a : Acc) (s : State) : Host.Outcome State Fault Refusal :=
  s.onBoth (fun now d => (bellLoad now d a).2)

/-- REGISTER_WRITE (R123). -/
def execRegisterWrite (w : PcieWrite) (s : State) : Host.Outcome State Fault Refusal :=
  s.onBoth (fun now d => pcieWriteOf .plain now d w)

/-- STAGED_WRITE (R149). -/
def execStagedWrite (w : PcieWrite) (s : State) : Host.Outcome State Fault Refusal :=
  s.onBoth (fun now d => pcieWriteOf .staged now d w)

/-- RC_CLEAR (R124). -/
def execRcClear (w : PcieWrite) (s : State) : Host.Outcome State Fault Refusal :=
  s.onBoth (fun now d => pcieWriteOf .clear now d w)

/-- KEY_SLOT_WRITE (R185). -/
def execKeySlotWrite (w : PcieWrite) (s : State) : Host.Outcome State Fault Refusal :=
  s.onDev (fun _ d => keySlotWrite w d)

/-- KEY_SAVE (R185). -/
def execKeySave (a : Acc) (s : State) : Host.Outcome State Fault Refusal :=
  s.onDev (fun _ d => (d.trigger a M.KEY_SAVE keySave).2)

end Sys2Proof.Machine
end

