-- ==== Sys2Proof/Machine/Sha.lean ====
section
/-!
DEFINITION. SHA-256 and HMAC-SHA-256 (R177, R183), on bytes. A block is worked on by a small machine: two banks of four
registers and a window of the sixteen schedule words to come, of which each of the 64 rounds takes the first and appends one.
-/
namespace Sys2Proof.Machine

/-- Word `i` of a number of `n` words of 32 bits, the first word in its top bits. -/
def shaWord (n v i : Nat) : BitVec 32 := BitVec.ofNat 32 (v >>> (32 * (n - 1 - i)))

/-- The constants of the rounds, four rounds in each number. -/
def shaConsts : List Nat :=
  [0x428a2f9871374491b5c0fbcfe9b5dba5,
   0x3956c25b59f111f1923f82a4ab1c5ed5,
   0xd807aa9812835b01243185be550c7dc3,
   0x72be5d7480deb1fe9bdc06a7c19bf174,
   0xe49b69c1efbe47860fc19dc6240ca1cc,
   0x2de92c6f4a7484aa5cb0a9dc76f988da,
   0x983e5152a831c66db00327c8bf597fc7,
   0xc6e00bf3d5a7914706ca635114292967,
   0x27b70a852e1b21384d2c6dfc53380d13,
   0x650a7354766a0abb81c2c92e92722c85,
   0xa2bfe8a1a81a664bc24b8b70c76c51a3,
   0xd192e819d6990624f40e3585106aa070,
   0x19a4c1161e376c082748774c34b0bcb5,
   0x391c0cb34ed8aa4a5b9cca4f682e6ff3,
   0x748f82ee78a5636f84c878148cc70208,
   0x90befffaa4506cebbef9a3f7c67178f2]

/-- The constant of round `t`. -/
def shaConst (t : Nat) : BitVec 32 := shaWord 4 (shaConsts.getD (t / 4) 0) (t % 4)

/-- A bank of four registers, filled at its first and emptied at its last. -/
structure ShaBank where
  r0 : BitVec 32
  r1 : BitVec 32
  r2 : BitVec 32
  r3 : BitVec 32

/-- A word enters a bank and the others move on by one. -/
def ShaBank.push (b : ShaBank) (x : BitVec 32) : ShaBank := { r0 := x, r1 := b.r0, r2 := b.r1, r3 := b.r2 }

/-- Two banks added word by word. -/
def ShaBank.plus (b c : ShaBank) : ShaBank := { r0 := b.r0 + c.r0, r1 := b.r1 + c.r1, r2 := b.r2 + c.r2, r3 := b.r3 + c.r3 }

/-- A bank of the four words of a number, and its bytes. -/
def ShaBank.ofNat (v : Nat) : ShaBank := { r0 := shaWord 4 v 0, r1 := shaWord 4 v 1, r2 := shaWord 4 v 2, r3 := shaWord 4 v 3 }
def ShaBank.bytes (b : ShaBank) : Bytes := [b.r0, b.r1, b.r2, b.r3].flatMap (fun w => toBE 4 w.toNat)

/-- The machine between two rounds: the upper and the lower bank and the window. -/
structure Sha where
  hi : ShaBank
  lo : ShaBank
  window : List (BitVec 32)

/-- The machine before the first block. -/
def Sha.init : Sha :=
  { hi := .ofNat 0x6a09e667bb67ae853c6ef372a54ff53a, lo := .ofNat 0x510e527f9b05688c1f83d9ab5be0cd19, window := [] }

/-- The exclusive or of a word turned right by each of several amounts. -/
def turned (x : BitVec 32) (amounts : List Nat) : BitVec 32 := amounts.foldl (fun acc k => acc ^^^ x.rotateRight k) 0

/-- The schedule word that follows a window. -/
def Sha.nextWord (w : List (BitVec 32)) : BitVec 32 :=
  let at_ (i : Nat) : BitVec 32 := w.getD i 0
  at_ 0 + at_ 9 + (turned (at_ 1) [7, 18] ^^^ at_ 1 >>> 3) + (turned (at_ 14) [17, 19] ^^^ at_ 14 >>> 10)

/-- Round `t`: the lower bank and the window make a sum that enters both banks. A bit of the upper majority is the bit on which
two of its first three registers agree; a bit of the lower choice comes from the register that its first one selects. -/
def Sha.round (m : Sha) (t : Nat) : Sha :=
  let choice := m.lo.r2 ^^^ (m.lo.r0 &&& (m.lo.r1 ^^^ m.lo.r2))
  let agreed := (m.hi.r0 &&& m.hi.r1) ||| (m.hi.r2 &&& (m.hi.r0 ||| m.hi.r1))
  let sum := m.window.headD 0 + shaConst t + m.lo.r3 + choice + turned m.lo.r0 [6, 11, 25]
  { hi := m.hi.push (sum + agreed + turned m.hi.r0 [2, 13, 22])
    lo := m.lo.push (m.hi.r3 + sum)
    window := m.window.drop 1 ++ [Sha.nextWord m.window] }

/-- A block of 64 bytes goes through the machine. -/
def Sha.block (m : Sha) (b : Bytes) : Sha :=
  let w := (List.range 16).map (fun i => BitVec.ofNat 32 (beAt b (4 * i) 4))
  let e := (List.range 64).foldl Sha.round { m with window := w }
  { e with hi := m.hi.plus e.hi, lo := m.lo.plus e.lo }

/-- A message as it is padded: a one bit, zeros and the message's length in bits, in whole blocks. -/
def shaPadded (m : Bytes) : Bytes := m ++ [0x80] ++ List.replicate ((119 - m.length % 64) % 64) 0 ++ toBE 8 (8 * m.length)

/-- SHA-256 of a message. -/
def sha256 (m : Bytes) : Bytes :=
  let p := shaPadded m
  let e := (List.range (p.length / 64)).foldl (fun s i => s.block (slice p (64 * i) 64)) Sha.init
  e.hi.bytes ++ e.lo.bytes

/-- HMAC-SHA-256 under a key of at most 64 bytes. -/
def hmac (key m : Bytes) : Bytes :=
  let pad (x : Byte) : Bytes := (fit 64 key).map (fun b => b ^^^ x)
  sha256 (pad 0x5c ++ sha256 (pad 0x36 ++ m))

end Sys2Proof.Machine
end

