-- ==== Sys2Proof/Machine/Denlys.lean ====
section
/-!
DEFINITION. Denlys, the field-bus endpoint of the management island (R174 to R189): frames, sessions, operations,
subscriptions, heartbeats and transmit opportunities.
-/
namespace Sys2Proof.Machine

/-! ## Frames (R176 to R178) -/

/-- A Denlys frame to a station: header, payload, the first 16 bytes of the HMAC under a key (16 zero bytes without one),
padding and FCS. -/
def denlysFrame (d : Dev) (dst : Nat) (key : Option Bytes) (version op session seq status : Nat) (payload : Bytes) : Bytes :=
  let part := toBE 1 version ++ toBE 1 (op + 128) ++ toBE 1 session ++ toBE 1 0 ++ toBE 4 seq ++ toBE 2 status ++ toBE 2 payload.length ++ payload
  let tag := match key with
    | some k => (hmac k part).take 16
    | none => List.replicate 16 0
  let f := toBE 6 dst ++ toBE 6 Config.denlysMac ++ toBE 2 (d.rd M.DENLYS_ETHERTYPE) ++ part ++ tag
  let f := fit (max 60 f.length) f
  f ++ toLE 4 (crcEth f)

/-- LENGTH of a Denlys part. -/
def denlysLen (part : Bytes) : Nat := beAt part 10 2

/-- The payload of a Denlys part. -/
def denlysPayload (part : Bytes) : Bytes := (part.drop 12).take (denlysLen part)

/-- Whether the TAG of a Denlys part verifies under a key. -/
def tagOk (key part : Bytes) : Bool :=
  let n := denlysLen part
  decide (n ≤ 1400) && decide (n + 28 ≤ part.length) && slice part (12 + n) 16 == (hmac key (part.take (12 + n))).take 16

/-- A frame is sent in a transmit opportunity. -/
def denlysSend (d : Dev) (f : Bytes) : Dev := (d.emit (.denlys f)).bump M.CNT_DENLYS_TX

/-- The answer to a request that ended at `ns` waits for a transmit opportunity (R188). -/
def denlysReady (d : Dev) (ns : Nat) (f : Bytes) : Dev := { d with denlys := { d.denlys with ready := d.denlys.ready ++ [(f, ns)] } }

/-- A session's frame with its own sequence number (R186), and the session after it. -/
def Session.frame (x : Session) (d : Dev) (s dst op status : Nat) (payload : Bytes) : Bytes × Session :=
  (denlysFrame d dst (some x.key) x.version op s x.devSeq status payload, { x with devSeq := (x.devSeq + 1) % 2 ^ 32 })

/-- A request is answered, and its response is kept (R186). -/
def answerRequest (d : Dev) (r : DenReq) (status : Nat) (payload : Bytes) : Dev :=
  let s := byteAt r.part 2
  match d.session s with
  | none => d
  | some x =>
    let (f, x) := x.frame d s r.src (byteAt r.part 1 % 128) status payload
    denlysReady (d.setSession s (some { x with seq := some (beAt r.part 4 4), kept := f })) r.ns f

/-- Operations a request may name (R179). -/
def requestOps : List Nat := [0x02, 0x03, 0x0A, 0x04, 0x08, 0x05, 0x06, 0x07]

/-- A verified request waits to be executed. -/
def queueRequest (d : Dev) (r : DenReq) : Dev := { d with denlys := { d.denlys with requests := d.denlys.requests ++ [r] } }

/-- A verified frame of a session restarts its timer (R187) and is old, repeated, while another executes, or to be executed (R186). -/
def sessionRequest (d : Dev) (r : DenReq) (s : Nat) (x : Session) : Dev :=
  let last := x.seq.getD 0
  let diff := (beAt r.part 4 4 + 2 ^ 32 - last) % 2 ^ 32
  let d := d.setSession s (some { x with heard := r.ns })
  if d.denlys.requests.any (fun (q : DenReq) => byteAt q.part 2 == s && byteAt q.part 1 != 1) then d
  else if diff = 0 then (if x.kept.isEmpty then d else denlysReady d r.ns x.kept)
  else if 2 ^ 31 ≤ diff then d.bump M.CNT_DENLYS_REPLAY
  else if requestOps.contains (byteAt r.part 1) then queueRequest d r
  else answerRequest d r St.BAD_OP []

/-- DENLYS_FRAME_RX (R176, R178, R182, R186): a HELLO that names an empty key slot goes on unverified. -/
def denlysFrameRx (frame : Bytes) (rx : DenRx) (d : Dev) : Dev :=
  if d.start.island.answers = false then d else
  if rx.fcsOk = false then d.bump M.CNT_DENLYS_FCS else
  let dst := beAt frame 0 6
  if (dst ≠ Config.denlysMac % 2 ^ 48 ∧ dst ≠ 2 ^ 48 - 1) ∨ beAt frame 12 2 ≠ d.rd M.DENLYS_ETHERTYPE then d else
  let d := d.bump M.CNT_DENLYS_RX
  let part := frame.drop 14
  let r : DenReq := { src := beAt frame 6 6, ns := rx.ns, part }
  if byteAt part 1 = 1 then
    let known := SMap.get (fun _ => none) d.denlys.keys (byteAt part 14)
    let ok := match known with
      | some k => tagOk k part
      | none => true
    if ok then queueRequest d r else d.bump M.CNT_DENLYS_BAD_TAG
  else
    match d.session (byteAt part 2) with
    | none => d.bump M.CNT_DENLYS_BAD_TAG
    | some x => if tagOk x.key part then sessionRequest d r (byteAt part 2) x else d.bump M.CNT_DENLYS_BAD_TAG

/-! ## HELLO (R182, R183, R189) -/

/-- The session key. -/
def sessionKey (role : Bytes) (client device : Nat) (node : Nat) : Bytes :=
  hmac role ([0x44, 0x45, 0x4E, 0x4C, 0x59, 0x53] ++ toBE 8 client ++ toBE 8 device ++ toBE 1 node)

/-- A refused HELLO: version 1 format, VMIN and VMAX, no session; its SEQ is open (log 1). -/
def refuseHello (d : Dev) (r : DenReq) (key : Option Bytes) (status : Nat) : Dev :=
  let (seq, d) := d.fresh
  denlysReady d r.ns (denlysFrame d r.src key 1 1 0 (seq % 2 ^ 32) status (toBE 1 1 ++ toBE 1 (d.rd M.DENLYS_VERSION_MAX) ++ toBE 2 0))

/-- The answer to an empty slot, at most one per source address in each 100 ms (R182 step 2). -/
def helloNoKey (d : Dev) (r : DenReq) (ms : Nat) : Dev :=
  let recent := d.denlys.refused.any (fun (x : Nat × Nat) => x.1 == r.src && decide (ms < x.2 + 100))
  let d := d.bump M.CNT_DENLYS_NO_KEY
  if recent then d else
  let others := d.denlys.refused.filter (fun (x : Nat × Nat) => x.1 != r.src && decide (ms < x.2 + 100))
  refuseHello { d with denlys := { d.denlys with refused := others ++ [(r.src, ms)] } } r none St.DENLYS_NO_KEY

/-- Any session held by a source address ends (R182 step 5). -/
def endSource (d : Dev) (src : Nat) : Dev :=
  (List.range 9).foldl (fun d s => match d.session s with
    | some x => if x.mac = src then endSession d s else d
    | none => d) d

/-- The DEVICE_NONCE for a draw of the island's random source: the first from it up that has not been given out (R183). -/
def newNonce (used : List Nat) (draw : Nat) : Nat :=
  ((List.range (used.length + 1)).map (fun k => (draw + k) % 2 ^ 64)).find? (fun n => !used.contains n) |>.getD draw

/-- Steps 4 to 6 of R182, for a verified HELLO. -/
def helloOpen (d : Dev) (r : DenReq) (role : Nat) (key p : Bytes) (draw : Nat) : Dev :=
  let vmax := min (byteAt p 1) (d.rd M.DENLYS_VERSION_MAX)
  if ((List.range 9).filter (fun s => (d.session s).isSome)).length = 8 then
    refuseHello (d.bump M.CNT_DENLYS_NO_SESSION) r (some key) St.DENLYS_NO_SESSION
  else if vmax < max 1 (byteAt p 0) then refuseHello d r (some key) St.DENLYS_VERSION
  else
    let nonce := newNonce d.denlys.nonces draw
    let d := endSource { d with denlys := { d.denlys with nonces := nonce :: d.denlys.nonces } } r.src
    match [1, 2, 3, 4, 5, 6, 7, 8].find? (fun s => (d.session s).isNone) with
    | none => d
    | some s =>
      let k := sessionKey key (beAt p 4 8) nonce (d.rd M.STRAP_NODEID)
      let body := toBE 1 1 ++ toBE 1 (d.rd M.DENLYS_VERSION_MAX) ++ toBE 2 0 ++ toBE 8 nonce ++ toBE 2 (d.rd M.DICT_LEVEL) ++ toBE 8 (Config.features % 512)
      let f := denlysFrame d r.src (some key) vmax 1 s 1 St.OK body
      denlysReady (d.setSession s (some { version := vmax, role, mac := r.src, key := k, seq := none, devSeq := 2, heard := r.ns, beat := r.ns, kept := [],
                                          sub := none })) r.ns f

/-- HELLO (R182): `nonce` is a draw of the island's random source, and `ms` is the island's time. -/
def denlysHello (nonce ms : Nat) (d : Dev) : Dev :=
  match d.denlys.requests with
  | r :: rest =>
    if byteAt r.part 1 ≠ 1 then d else
    let d : Dev := { d with denlys := { d.denlys with requests := rest } }
    let p := denlysPayload r.part
    let role := byteAt p 2
    match (if role < 3 then SMap.get (fun _ => none) d.denlys.keys role else none) with
    | none => helloNoKey d r ms
    | some k => if tagOk k r.part then helloOpen d r role k p nonce else d.bump M.CNT_DENLYS_BAD_TAG
  | [] => d

/-! ## Requests (R179 to R181, R184) -/

/-- The version an operation exists from (R179). -/
def opVersion (op : Nat) : Nat := if op = 4 ∨ op = 8 then 2 else if 5 ≤ op ∧ op ≤ 7 then 3 else 1

/-- The lowest role that may use an operation (R184). -/
def opRole (op : Nat) : Nat := if op = 3 then 1 else if 5 ≤ op ∧ op ≤ 7 then 2 else 0

/-- The oldest request is executed where it has the operation: version and role, then `f`, which gives status and payload. -/
def serveRequest (op : Nat) (now : BellSt) (d : Dev) (f : Nat → Session → Bytes → BellSt × Dev → Nat × Bytes × BellSt × Dev) : BellSt × Dev :=
  match d.denlys.requests with
  | [] => (now, d)
  | r :: rest =>
    if byteAt r.part 1 ≠ op then (now, d) else
    let d : Dev := { d with denlys := { d.denlys with requests := rest } }
    let s := byteAt r.part 2
    match d.session s with
    | none => (now, d)
    | some x =>
      if x.version < opVersion op then (now, answerRequest d r St.BAD_OP [])
      else if x.role < opRole op then (now, answerRequest (d.countRefused St.DENLYS_ROLE) r St.DENLYS_ROLE [])
      else
        let (st, payload, now, d) := f s x (denlysPayload r.part) (now, d)
        (now, answerRequest d r st payload)

/-- READ (R179). -/
def denlysRead (now : BellSt) (d : Dev) : BellSt × Dev :=
  serveRequest 2 now d (fun s _ p (now, d) =>
    let n := byteAt p 0
    if n = 0 ∨ 32 < n then (St.DENLYS_TOO_LONG, [], now, d) else
    let (out, d) := (List.range n).foldl (fun (acc : Bytes × Dev) i =>
      let (st, v, d) := readAs now acc.2 (.d s) (beAt p (4 + 4 * i) 4)
      (acc.1 ++ toBE 2 st ++ toBE 2 0 ++ toBE 8 v, d)) ([], d)
    (St.OK, out, now, d))

/-- WRITE (R180): item by item. -/
def denlysWrite (now : BellSt) (d : Dev) : BellSt × Dev :=
  serveRequest 3 now d (fun s _ p (now, d) =>
    let n := byteAt p 0
    if n = 0 ∨ 32 < n then (St.DENLYS_TOO_LONG, [], now, d) else
    let (out, now, d) := (List.range n).foldl (fun (acc : Bytes × BellSt × Dev) i =>
      let (st, now, d) := writeMember acc.2.1 acc.2.2 { who := .d s, val := beAt p (8 + 12 * i) 8, width := 8 } (beAt p (4 + 12 * i) 4)
      (acc.1 ++ toBE 2 st, now, d)) ([], now, d)
    (St.OK, out, now, d))

/-- What a HEARTBEAT carries (R179). -/
def heartbeatPayload (now : BellSt) (d : Dev) : Bytes :=
  toBE 1 d.start.state.code ++ toBE 3 0 ++ toBE 4 (d.rd M.ALERT_CAUSE) ++ toBE 4 now.period.toNat

/-- HEARTBEAT request (R179). -/
def denlysHeartbeat (now : BellSt) (d : Dev) : BellSt × Dev :=
  serveRequest 0x0A now d (fun _ _ _ (now, d) => (St.OK, heartbeatPayload now d, now, d))

/-- READ_BLOCK (R122, R130, R179): a block with an offset that is not mapped is refused whole (log 268). -/
def denlysReadBlock (now : BellSt) (d : Dev) : BellSt × Dev :=
  serveRequest 4 now d (fun _ _ p (now, d) =>
    let n := beAt p 8 2
    let off := beAt p 4 4
    if n = 0 ∨ 1024 < n then (St.DENLYS_TOO_LONG, [], now, d) else
    if d.gate (byteAt p 0) then (St.NOT_READY, [], now, d) else
    match blockArea (byteAt p 0) (beAt p 2 2) with
    | none => (St.NO_OBJECT, [], now, d.countRefused St.NO_OBJECT)
    | some (base, size) =>
      if size < off + n ∨ (List.range n).any (fun i => (areaUse (base + off + i)).isNone) = true then (St.NO_OBJECT, [], now, d.countRefused St.NO_OBJECT)
      else (St.OK, (List.range n).map (fun i => areaRead d (base + off + i)), now, d))

/-- Whether a session may read a member (R181). -/
def mayRead (s id : Nat) : Bool :=
  match findMember id with
  | some m => m.right (.d s) != .none
  | none => false

/-- SUBSCRIBE (R103, R181). -/
def denlysSubscribe (now : BellSt) (d : Dev) : BellSt × Dev :=
  serveRequest 8 now d (fun s _ p (now, d) =>
    let n := byteAt p 3
    let interval := beAt p 0 2
    let ids := (List.range n).map (fun i => beAt p (4 + 4 * i) 4)
    if 32 < n then (St.DENLYS_TOO_LONG, [], now, d)
    else if interval = 0 ∨ 1024 < interval then (St.RANGE, [], now, d)
    else if ids.any (fun id => d.gate (id / 2 ^ 24)) then (St.NOT_READY, [], now, d)
    else if ids.any (fun id => !mayRead s id) then (St.ACCESS, [], now, d.countRefused St.ACCESS)
    else
      let sub : Subscription := { interval, events := bitOf (byteAt p 2) 0, ids, lessons := 0, checked := 0, last := ids.map (readMember now d),
                                  pendingEvents := [], overflow := 0 }
      let d := match d.session s with
        | some x => d.setSession s (some { x with sub := some sub })
        | none => d
      (St.OK, [], now, d))

/-- A transaction trigger of a session (R180): its outcome is the answer's STATUS. -/
def denlysTrigger (op id : Nat) (now : BellSt) (d : Dev) : BellSt × Dev :=
  serveRequest op now d (fun s _ _ (now, d) =>
    let (st, now, d) := writeMember now d { who := .d s, val := 1, width := 8 } id
    (st, [], now, d))

/-! ## Frames the device sends (R181, R187, R188) -/

/-- The time in ns from a request's end in which its response starts, without what other nodes hold the medium for (R188). -/
def Dev.denlysBound (d : Dev) : Nat := 12000 + d.rd M.PLCA_NODE_COUNT * d.rd M.PLCA_TO_TIMER * 100 + 2000

/-- DENLYS_RESPONSE_TX (R188); with NODEID 255 no bound applies (R175). -/
def denlysResponseTx (tx : DenTx) (d : Dev) : Dev :=
  match d.denlys.ready with
  | [] => d
  | (f, ended) :: rest =>
    (denlysSend { d with denlys := { d.denlys with ready := rest } } f).bumpIf
      (d.rd M.STRAP_NODEID != 255 && decide (ended + d.denlysBound + tx.heldNs < tx.ns)) M.CNT_DENLYS_LATE

/-- Whether a subscription is to be checked in this lesson (R181). -/
def Subscription.due (b : Subscription) : Bool := b.lessons % b.interval == 0 && b.checked != b.lessons

/-- Subscriptions count the start of a lesson. -/
def denlysLesson (d : Dev) : Dev :=
  let count (x : Session) : Session := { x with sub := x.sub.map (fun b => { b with lessons := b.lessons + 1 }) }
  { d with denlys := { d.denlys with sessions := d.denlys.sessions.map (fun (e : Nat × Option Session) => (e.1, e.2.map count)) } }

/-- The payload of a NOTIFY. -/
def notifyPayload (overflow : Nat) (vals : List (Nat × Nat)) (evs : List EvRec) : Bytes :=
  toBE 2 (min overflow 65535) ++ toBE 1 vals.length ++ toBE 1 evs.length ++ vals.flatMap (fun (v : Nat × Nat) => toBE 4 v.1 ++ toBE 8 v.2) ++
    evs.flatMap EvRec.denlysBytes

/-- What a check of a subscription reads: a member of a class that does not answer (R64, R103) stays at the value read last (log 269). -/
def Subscription.reads (b : Subscription) (now : BellSt) (d : Dev) : List Nat :=
  (b.ids.zip b.last).map (fun (v : Nat × Nat) => if d.gate (v.1 / 2 ^ 24) then v.2 else readMember now d v.1)

/-- NOTIFY (R181): the check of a session's subscription, with the members that changed and the earliest events. -/
def denlysNotify (s : Nat) (now : BellSt) (d : Dev) : Dev :=
  match d.session s with
  | none => d
  | some x =>
    match x.sub with
    | none => d
    | some b =>
      if b.due = false ∨ d.start.island.answers = false then d else
      let cur := b.reads now d
      let vals := ((b.ids.zip cur).zip b.last).filterMap (fun (v : (Nat × Nat) × Nat) => if v.1.2 = v.2 then none else some v.1)
      if vals.isEmpty ∧ b.pendingEvents.isEmpty then d.setSession s (some { x with sub := some { b with checked := b.lessons } }) else
      let evs := b.pendingEvents.take 64
      let lost := b.pendingEvents.length - evs.length
      let room := (1396 - 12 * vals.length) / 32
      let (f, x) := x.frame d s x.mac 9 St.OK (notifyPayload b.overflow vals (evs.take room))
      let rest := evs.drop room
      let (second, x) := if rest.isEmpty then ([], x) else (let (g, x) := x.frame d s x.mac 9 St.OK (notifyPayload 0 [] rest); ([(s, g)], x))
      let b := { b with checked := b.lessons, last := cur, pendingEvents := [], overflow := lost }
      let d := (denlysSend (d.setSession s (some { x with sub := some b })) f).addTo M.CNT_DENLYS_NOTIFY_DROP lost
      { d with denlys := { d.denlys with second := d.denlys.second ++ second } }

/-- NOTIFY_CONTINUATION (R181). -/
def denlysNotifyContinuation (s : Nat) (d : Dev) : Dev :=
  match d.denlys.second.find? (fun (x : Nat × Bytes) => x.1 == s) with
  | none => d
  | some x => denlysSend { d with denlys := { d.denlys with second := d.denlys.second.erase x } } x.2

/-- DENLYS_HEARTBEAT_SEND (R187): HEARTBEAT_INTERVAL has passed for a session. -/
def denlysHeartbeatSend (a : DenAt) (now : BellSt) (d : Dev) : Dev :=
  let s := a.session
  match d.session s with
  | none => d
  | some x =>
    if a.ns < x.beat + d.rd M.HEARTBEAT_INTERVAL * 1000000 then d else
    let (f, x) := x.frame d s x.mac 0x0A St.OK (heartbeatPayload now d)
    denlysSend (d.setSession s (some { x with beat := a.ns })) f

/-- DENLYS_SESSION_TIMEOUT (R187): no verified frame of the client for SESSION_TIMEOUT. -/
def denlysSessionTimeout (a : DenAt) (d : Dev) : Dev :=
  match d.session a.session with
  | none => d
  | some x =>
    if a.ns < x.heard + d.rd M.SESSION_TIMEOUT * 1000000 then d else (endSession d a.session).bump M.CNT_DENLYS_SESSION_TIMEOUT

/-- PLCA_BEACON (R175): the coordinator opens a PLCA cycle. -/
def plcaBeacon (d : Dev) : Dev :=
  if d.start.island.answers = true ∧ d.rd M.STRAP_NODEID = 0 then d.emit (.beacon (d.rd M.PLCA_NODE_COUNT)) else d

/-! ## Commands -/

/-- DENLYS_FRAME_RX (R176). -/
def execDenlysFrameRx (frame : Bytes) (rx : DenRx) (s : State) : Host.Outcome State Fault Refusal :=
  s.onDev (fun _ d => denlysFrameRx frame rx d)

/-- HELLO (R182). -/
def execDenlysHello (nonce ms : Nat) (s : State) : Host.Outcome State Fault Refusal :=
  s.onDev (fun _ d => denlysHello nonce ms d)

/-- READ (R179). -/
def execDenlysRead (s : State) : Host.Outcome State Fault Refusal :=
  s.onBoth (fun now d => denlysRead now d)

/-- WRITE (R180). -/
def execDenlysWrite (s : State) : Host.Outcome State Fault Refusal :=
  s.onBoth (fun now d => denlysWrite now d)

/-- HEARTBEAT (R179). -/
def execDenlysHeartbeat (s : State) : Host.Outcome State Fault Refusal :=
  s.onBoth (fun now d => denlysHeartbeat now d)

/-- READ_BLOCK (R179). -/
def execDenlysReadBlock (s : State) : Host.Outcome State Fault Refusal :=
  s.onBoth (fun now d => denlysReadBlock now d)

/-- SUBSCRIBE (R181). -/
def execDenlysSubscribe (s : State) : Host.Outcome State Fault Refusal :=
  s.onBoth (fun now d => denlysSubscribe now d)

/-- BEGIN (R180). -/
def execDenlysBegin (s : State) : Host.Outcome State Fault Refusal :=
  s.onBoth (fun now d => denlysTrigger 5 M.TXN_BEGIN now d)

/-- COMMIT (R180). -/
def execDenlysCommit (s : State) : Host.Outcome State Fault Refusal :=
  s.onBoth (fun now d => denlysTrigger 6 M.TXN_COMMIT now d)

/-- ROLLBACK (R180). -/
def execDenlysRollback (s : State) : Host.Outcome State Fault Refusal :=
  s.onBoth (fun now d => denlysTrigger 7 M.TXN_ROLLBACK now d)

/-- DENLYS_RESPONSE_TX (R188). -/
def execDenlysResponseTx (tx : DenTx) (s : State) : Host.Outcome State Fault Refusal :=
  s.onDev (fun _ d => denlysResponseTx tx d)

/-- NOTIFY (R181). -/
def execDenlysNotify (session : Nat) (s : State) : Host.Outcome State Fault Refusal :=
  s.onDev (fun now d => denlysNotify session now d)

/-- NOTIFY_CONTINUATION (R181). -/
def execDenlysNotifyContinuation (session : Nat) (s : State) : Host.Outcome State Fault Refusal :=
  s.onDev (fun _ d => denlysNotifyContinuation session d)

/-- DENLYS_HEARTBEAT_SEND (R187). -/
def execDenlysHeartbeatSend (at_ : DenAt) (s : State) : Host.Outcome State Fault Refusal :=
  s.onDev (fun now d => denlysHeartbeatSend at_ now d)

/-- DENLYS_SESSION_TIMEOUT (R187). -/
def execDenlysSessionTimeout (at_ : DenAt) (s : State) : Host.Outcome State Fault Refusal :=
  s.onDev (fun _ d => denlysSessionTimeout at_ d)

/-- PLCA_BEACON (R175). -/
def execPlcaBeacon (s : State) : Host.Outcome State Fault Refusal :=
  s.onDev (fun _ d => plcaBeacon d)

end Sys2Proof.Machine
end

