-- ==== Sys2Proof/Machine/Bell.lean ====
section
/-!
DEFINITION. BELL: the counts advance, READY rises or falls, the bell cycle's flip and latch, the periodic items in their order
with what an earlier period left, and everything else a period or a lesson brings about (R29 to R47, R566).
-/
namespace Sys2Proof.Machine

/-! ## The counts (R29 to R36) -/

/-- The counter at the next bell: the next multiple of 1,024, or the one a hard step ended on (R29, R31). -/
def nextBell (b : BellSt) : BitVec 32 :=
  BitVec.ofNat 32 (if b.due then b.ns.toNat / 1024 * 1024 else (b.ns.toNat / 1024 + 1) * 1024)

/-- Whether the new PERIOD_COUNT begins a lesson (R33). -/
def lessonStarts (p : BitVec 32) : Bool := p.toNat % 1024 == 0

/-- The counts of the next bell (R33, R34), or those BELL_LOAD latched (R36). -/
def nextCounts (b : BellSt) : BitVec 32 × BitVec 24 :=
  match b.latch with
  | some (p, top) => (p, BitVec.ofNat 24 (top.toNat * 2 ^ 22 + p.toNat / 1024))
  | none =>
    let p := b.period + 1
    (p, if lessonStarts p then b.lesson + 1 else b.lesson)

/-- BELL_STATE from this bell on (R46, R62, R87): `ready` is READY before it. -/
def nextBellState (b : BellSt) (ready fall : Bool) : BellState :=
  if fall then .prestart else if b.state = .prestart ∧ ready = true then .run else b.state

/-- The bell after it has rung. -/
def ring (b : BellSt) (ready fall rise : Bool) : BellSt :=
  let ns := nextBell b
  let c := nextCounts b
  { state := nextBellState b ready fall, period := c.1, lesson := c.2, time := ns, ns, latch := none, due := false,
    readyRisen := b.readyRisen || rise }

/-! ## The period that ends -/

/-- The slots of a pipe in the period that ends (R542, R543): `x` gives the slots without a pass in which nothing waited, and
those the replication engine held. -/
def slotCounts (i : BellIn) (d : Dev) (p : Nat) : Dev :=
  let q := d.pipe p
  let given := max (2 * i.cycles) q.entered
  let total := max 2560 given
  let short := total - given
  let idle := given - q.entered
  let use := i.slots.find? (fun (x : Nat × Nat × Nat) => x.1 == p)
  let front := match use with
    | some x => min x.2.1 idle
    | none => idle
  let back := idle - front
  let steal := min back q.stolen
  let buffer := match use with
    | some x => min x.2.2 (back - steal)
    | none => 0
  let waits := i.waiting.contains p
  let d := d.addTo (M.PERF_SLOT_TOTAL p) total
  let d := d.addTo (M.PERF_SLOT_FRONT p) (front + if waits then 0 else short)
  let d := (d.addTo (M.PERF_SLOT_BACK_STEAL p) steal).addTo (M.PERF_SLOT_BACK_BUFFER p) buffer
  (d.addTo (M.PERF_SLOT_BACK_CORRIDOR p) (back - steal - buffer)).addTo (M.PERF_SLOT_BACK_SAG p) (if waits then short else 0)

/-- What is counted of a pipe at the end of a period, and its amounts set afresh (R53, R256, R288, R542). -/
def pipeCloses (i : BellIn) (d : Dev) (p : Nat) : Dev :=
  let d := if d.gated p ∨ d.pins.ready = false then d else slotCounts i d p
  let d := d.bumpIf (!(d.pipe p).missQueue.isEmpty) (M.CNT_ROLL_BUDGET_EXHAUSTED p)
  d.setPipe p { d.pipe p with unitsUsed := 0, entered := 0, stolen := 0, placed := 0 }

/-- The pipes with back-starved slots of cause SAG in the period that ends (R82, R543). -/
def sagStarved (i : BellIn) (d : Dev) : List Nat :=
  if 1280 ≤ i.cycles then [] else d.activePipes.filter (fun p => i.waiting.contains p)

/-- Cycles of the period that ends, by what they were spent in (R47, R280, R380, R381). -/
def cycleCounts (i : BellIn) (d : Dev) : Dev :=
  let d := (d.wr M.CYCLES_LAST (i.cycles % 65536)).wr M.WORK_CYCLES_LAST (i.work % 65536)
  let d := d.raiseTo M.WORK_CYCLES_MAX (i.work % 65536)
  let d := i.idle.foldl (fun d (u, n) => if u < 64 then d.addTo (M.CNT_TUTOR_IDLE u) (min n i.cycles) else d) d
  let d := i.fullSlots.foldl (fun d (p, n) => if p < 16 then d.addTo (M.CNT_TASK_BACKPRESSURE p) (min n i.cycles) else d) d
  if i.wbFull = 0 then d else d.addTo M.CNT_FR_WB_FULL (min i.wbFull i.cycles)

/-- A soft error found in the period that ends. -/
def softError (now : BellSt) (d : Dev) (e : SoftError) : Dev :=
  match e with
  | .tcamCopy p k value mask =>
    if p < 16 ∧ k < 32768 then { d with tcamCopies := SMap.set (fun _ => none) d.tcamCopies (copyKey p k) (some (value % 2 ^ 160, mask % 2 ^ 160)) } else d
  | .tcamShadow k => if k < 16 * 32768 ∧ d.tcamBad.contains k = false then { d with tcamBad := d.tcamBad ++ [k] } else d
  | .line slot => countSram (badLine d slot) false 3
  | .tagWord b => if b < rollSlots d.palette / 4 then countSram (rebuildWord now d b) false 3 else d
  | .cell n k w extension =>
    let d := countSram d (!extension) 3
    match d.frame n with
    | some f => if k < f.cells ∧ f.bad.contains (8 * k + w) = false then d.setFrame n (some { f with bad := f.bad ++ [8 * k + w] }) else d
    | none => d
  | .store c a =>
    if c < 16 ∧ a < 32768 ∧ d.tutors.storeBad.contains (c * 32768 + a) = false then
      { d with tutors := { d.tutors with storeBad := d.tutors.storeBad ++ [c * 32768 + a] } }
    else d
  | .storeCorrected u => if u < 64 then d.bump (M.CNT_TUTOR_STORE_CORRECTED u) else d
  | .poolMeta p b => if p ≤ 4 then poolQuarantine now d p b else d
  | .poolWord p w =>
    if p ≤ 4 ∧ d.pools.badWords.contains (bufKey p w) = false then { d with pools := { d.pools with badWords := d.pools.badWords ++ [bufKey p w] } } else d
  | .poolCorrected p => if p ≤ 4 then d.bump (M.CNT_POOL_META_CORRECTED p) else d
  | .sram k => if 1 ≤ k ∧ k ≤ 3 then countSram d false k else d
  | .packetBuffer k => if 1 ≤ k ∧ k ≤ 3 then countSram d true k else d

/-- The period that ends is closed: its slots, cycles and errors, and the throttle judged on it. -/
def closePeriod (now : BellSt) (i : BellIn) (d : Dev) : Dev :=
  let d : Dev := { d with
    power := { d.power with starved := sagStarved i d }
    pools := { d.pools with grantedNow := [] }
    work := { d.work with tcamTaken := 0 } }
  let d := cycleCounts i ((List.range 16).foldl (pipeCloses i) d)
  i.errors.foldl (softError now) d

/-! ## READY (R62, R87, R98) -/

/-- READY rises (R98 step 9, R62 step 9). -/
def readyRises (d : Dev) : Dev :=
  let d := if d.start.state = .restarting then (d.bump M.CNT_DATAPATH_RESTART).wr M.RESTART_STATUS St.OK
    else (d.wr M.START_TIME_MS (d.start.elapsedMs % 65536)).wr M.START_STEP 10
  let d := ((applyPalette d).wr M.ROLL_READY 0).wr M.ROLL_ZERO_PROGRESS 0
  ({ d with start := { d.start with readyDue := false } }.goes .ready).setReady true

/-- A ring is disabled with its head published (R62 step 4, R474): what is finished is written back first. -/
def ringCloses (now : BellSt) (d : Dev) (r : Nat) : Dev :=
  if d.rd (M.RING_STATE r) ≠ 1 ∧ d.rd (M.RING_STATE r) ≠ 2 then d else
  let d := discardEntries d r
  let d := (d.ring r).entries.foldl (fun d _ => ringCompletion r d) d
  headRecord now d r true

/-- A data-path restart clears the data path (R62 steps 2 to 4, R63): tasks and requests of the rings end, heads are published,
table commands end (R564), and everything outside the classes kept is initialised. -/
def restartFalls (now : BellSt) (d : Dev) : Dev :=
  let d := discardPackets now d
  let d := (d.tutors.tasks.filter (fun (t : TaskRec) => t.host.isSome)).foldl (discardTask now none) d
  let d := (d.segs.filter (fun (q : SegReq) => decide (q.seq < q.count))).foldl (fun d q => finishEntry d q.ring q.index St.RING_TX_DROP) d
  let d := tblRestart ((List.range 256).foldl (ringCloses now) d)
  let d := ((resetDataPath d).wr M.ROLL_READY 0).wr M.ROLL_ZERO_PROGRESS 0
  { d with start := { d.start with txIdle := true, zeroing := false } }

/-- The slices whose checks have not all finished: those of an item 8 that is carried, and those that wait for a Roll read. -/
def Dev.openSlices (d : Dev) : List Nat :=
  (d.work.carried.filter (fun c => c.item == 8)).map (fun c => c.bell.period.toNat) ++ d.roll.reads.map (fun q => q.slice)

/-- The first bucket of the oldest slice whose checks have not all finished: the next check's bucket where there is none. -/
def Dev.resumeBucket (d : Dev) : Nat :=
  let n := rollSlots d.palette
  match d.roll.reads, d.work.carried.find? (fun c => c.item == 8) with
  | q :: _, _ => q.start
  | [], some c => (d.roll.nextCheck + n - c.done % n) % n / 4
  | [], none => d.roll.nextCheck / 4

/-- At the bell into PRESTART, work of items 4 to 10 is discarded (R566): candidates judged in an unfinished slice are not committed,
and the sweep resumes at the first bucket of the discarded slice. -/
def discardWork (d : Dev) : Dev :=
  let open_ := d.openSlices
  showPosition { d with
    work := { d.work with carried := d.work.carried.filter (fun c => decide (c.item ≤ 3)) }
    roll := { d.roll with reads := [], nextCheck := 4 * d.resumeBucket, candidates := d.roll.candidates.filter (fun c => !open_.contains c.slice) } }

/-- READY falls at a bell: a data-path restart (R62) or Recess entry (R88 step 2). The pair state goes to OFF with its queues
empty (log 213). -/
def readyFalls (now : BellSt) (d : Dev) : Dev :=
  let d : Dev := { d with
    start := { d.start with fallDue := false }
    buddy := { Buddy.init with lostRaised := d.buddy.lostRaised } }
  let d := d.setReady false
  if d.start.state = .restarting then restartFalls now d else d

/-! ## Overrun (R43, R44) -/

/-- The unfinished items are counted, set in OVERRUN_ITEMS and reported; `last` is the bell of the period that ends. -/
def overrun (now last : BellSt) (items : List Nat) (d : Dev) : Dev :=
  if items.isEmpty then { d with work := { d.work with overran := false } } else
  let d := d.bump M.CNT_PERIOD_OVERRUN
  let d := d.wr M.OVERRUN_ITEMS (items.foldl (fun m k => m ||| 2 ^ (k - 1)) (d.rd M.OVERRUN_ITEMS))
  let again := !d.work.overran || d.work.raised != now.lesson.toNat
  let d := d.raiseIf again now Ev.PERIOD_OVERRUN (oid 4 0) (last.period.toNat + d.rd M.OVERRUN_ITEMS * 2 ^ 32)
  { d with work := { d.work with overran := true, raised := if again then now.lesson.toNat else d.work.raised } }

/-! ## Items (R39) -/

/-- Item 6 from one cycle to another of its 64 (R39, R41): 64 meters a cycle of the period's 4,096 in rotation, 256 of each of 16
profiles; a profile that is off refills nothing. -/
def meterItem (cur : Nat) (at_ : BellSt) (lo hi : Nat) (d : Dev) : Dev :=
  (List.range 16).foldl (fun d k =>
    let p := at_.period.toNat % 16 * 16 + k
    if fld (d.profile p) 254 2 = 0 then d else
    ((List.range 256).filter (fun j => decide (lo ≤ 4 * k + j / 64) && decide (4 * k + j / 64 < hi))).foldl
      (fun d j => refillMeter cur at_.period.toNat d (p * 256 + j)) d) d

/-- Item 3 with the period and lesson numbers of its period. -/
def servoItem (cur at_ : BellSt) (d : Dev) : BellSt × Dev :=
  let r := timeItem { cur with period := at_.period, lesson := at_.lesson, time := at_.time } d
  ({ cur with ns := r.1.ns, due := r.1.due }, r.2)

/-- The amount of an item in units of its rate (R39): 64-byte units of item 2, table operations of item 4, cycles of items 5 to 7,
checks of item 8, lines of item 9, frames of item 10. An item with nothing to do has none. -/
def itemAmount (d : Dev) (c : Carried) : Nat :=
  match c.item with
  | 2 => if d.perf.banks.isEmpty then 0 else 64
  | 4 => if d.txn.settling ∨ d.txn.state = .preparing ∨ d.txn.state = .rollingBack then 64 else 0
  | 5 => 32
  | 6 => 64
  | 7 => 196
  | 8 => d.rollSlice
  | 9 => 512
  | 10 => c.done + c.frames.length
  | _ => 1

/-- One item goes on from the units it has done up to `hi`: the units it reaches, the bell and the device. -/
def itemUnits (s : BellSt × Dev) (c : Carried) (hi : Nat) : Nat × BellSt × Dev :=
  let (b, d) := s
  let at_ := c.bell
  if hi ≤ c.done then (c.done, s) else
  match c.item with
  | 2 => (hi, b, snapCopyOut c.done hi d)
  | 3 => (hi, servoItem b at_ d)
  | 4 => (hi, b, txnItem (hi - c.done) d)
  | 5 => (hi, b, d.activePipes.foldl (shadowCompare b (hi - c.done)) d)
  | 6 => (hi, b, meterItem b.period.toNat at_ c.done hi d)
  | 7 => (hi, b, shaperItem b.period.toNat at_ c.done hi d)
  | 8 => let (n, d) := rollCall b at_ c.done hi d; (n, b, d)
  | 9 => let (left, d) := frontWriteBack b at_ (hi - c.done) d; (hi - left, b, d)
  | 10 => (hi, b, sendFrames b d (c.frames.take (hi - c.done)))
  | _ => (hi, s)

/-- Item 10 composes its batch as it starts. -/
def itemStarts (d : Dev) (c : Carried) : Carried × Dev :=
  if c.item = 10 ∧ c.done = 0 ∧ c.frames = [] then (let (fs, d) := buddyBatch c.bell d; ({ c with frames := fs }, d)) else (c, d)

/-- One item runs until it is done or is held back after `reach` units (R43): what is left of it. -/
def runItem (s : BellSt × Dev) (c : Carried) (reach : Option Nat) : Option Carried × BellSt × Dev :=
  let (c, d) := itemStarts s.2 c
  let n := itemAmount d c
  let (did, s) := itemUnits (s.1, d) c (match reach with | some k => min n k | none => n)
  (if did < n then some { c with done := did, frames := c.frames.drop (did - c.done) } else none, s)

/-- The items a period runs (R46). -/
def itemsOf (st : BellState) : List Nat :=
  match st with
  | .off => []
  | .prestart => [2, 3]
  | .run => [1, 2, 3, 4, 5, 6, 7, 8, 9, 10]

/-- Items stay scheduled. -/
def carry (s : BellSt × Dev) (cs : List Carried) : BellSt × Dev :=
  (s.1, { s.2 with work := { s.2.work with carried := s.2.work.carried ++ cs } })

/-- The items from place `i` of the order of work on, of which the first `olds` are carried: those have no window and are completed in
their order, so that one which is held back holds back all after it; an item of the new period gives way at the end of its window
(R43, log 224). -/
def workOn (held : List (Nat × Nat)) (olds i : Nat) (cs : List Carried) (s : BellSt × Dev) : BellSt × Dev :=
  match cs with
  | [] => s
  | c :: r =>
    match runItem s c ((held.find? (fun h => h.1 == i)).map Prod.snd) with
    | (none, s) => workOn held olds (i + 1) r s
    | (some c, s) => if i < olds then carry s (c :: r) else workOn held olds (i + 1) r (carry s [c])

/-- Periodic work of a bell (R43): what earlier periods left, in order, then the new period's items. -/
def periodicWork (b : BellSt) (held : List (Nat × Nat)) (d : Dev) : BellSt × Dev :=
  let olds := d.work.carried
  workOn held olds.length 0 (olds ++ (itemsOf b.state).map (fun k => { item := k, bell := b, done := 0, frames := [] }))
    (b, { d with work := { d.work with carried := [] } })

/-! ## What else a period brings -/

/-- Queues sampled in a period (R423). -/
def sampleQueue (now : BellSt) (d : Dev) (q : Nat) : Dev :=
  let r := d.queueRow q
  if queueValid r = false then d else
  let depth := queueDepth r
  let age := match d.queue q with
    | c :: _ => min 4095 ((now.period.toNat + 2 ^ 32 - c.enqueued % 2 ^ 32) % 2 ^ 32)
    | [] => 0
  let r := setFld (setFld r 14 21 (max depth (fld r 14 21))) 2 12 (max age (fld r 2 12))
  let d := (d.setQueueRow q r).bump M.CNT_TT_SAMPLES
  if age = 0 then d else
  match d.subOfQueue q with
  | some s => let p := svcPort (d.service (subService (d.subRow s))); d.raiseTo (M.TT_DELAY_MAX p) age
  | none => d

/-- 16,384 queues are sampled, in rising order (R423). -/
def sampleQueues (now : BellSt) (d : Dev) : Dev :=
  let lo := d.rd M.TT_SAMPLE_NEXT
  let rows := (List.range 2048) ++ (d.tabs.filter (fun e => e.1 / 2 ^ 37 == 7 && decide (2048 ≤ e.1 % 2 ^ 37))).map (fun e => e.1 % 2 ^ 37)
  let qs := rows.filter (fun q => decide (lo ≤ q) && decide (q < lo + 16384))
  (qs.foldl (sampleQueue now) d).wr M.TT_SAMPLE_NEXT ((lo + 16384) % 1048576)

/-- What a period of a running data path brings besides its items. -/
def runPeriod (now : BellSt) (lesson : Bool) (d : Dev) : Dev :=
  let d := d.activePipes.foldl (fun d p => installDue (d.pipe p).learned.length now d p) (l2Sweep now d)
  let d := sampleQueues now d
  let d := repairSweeps (buddyHello now (buddyBell now lesson d))
  let d := exportTask now (natReleaseRetry now (segReap d))
  { d with switch := { d.switch with learnMem := d.switch.learnMem.filter (fun (x : Nat × Nat × Nat) =>
    decide ((now.period.toNat + 2 ^ 32 - x.2.2 % 2 ^ 32) % 2 ^ 32 < 64)) } }

/-- What the line side counted in the period that ends (R219 to R221): FEC symbols, FEC codewords, ingress buffers. -/
def lineCounts (i : BellIn) (d : Dev) : Dev :=
  let d := i.fec.foldl (fun d (l, n) => if l < 256 then d.addTo (M.CNT_FEC_CORRECTED_SYMBOLS l) n else d) d
  let d := i.fecBad.foldl (fun d (p, n) => if p < 256 then d.addTo (M.CNT_FEC_UNCORRECTED p) n else d) d
  i.fill.foldl (fun d (b, most, lost) =>
    if b < 32 then (d.raiseTo (M.BLOCK_INGRESS_FILL_MAX b) (most % 2 ^ 32)).addTo (M.CNT_BLOCK_INGRESS_OVERFLOW b) lost else d) d

/-- What every period brings, in PRESTART too. -/
def everyPeriod (now : BellSt) (i : BellIn) (d : Dev) : Dev :=
  let d := throttleBell now (tempSample now i.temps (avsRetry i.avsAck i.vcore d))
  let d := tblAge (tutorsAtBell (exportTick (alertAgain d)))
  let d := (List.range 16).foldl (patrolScrub now) (sramScrub d)
  let d := lineCounts i d
  let d := i.signal.foldl (fun d (l, on) => if l < 256 then d.wr (M.LANE_SIGNAL l) (b2n on) else d) d
  let d := if now.period.toNat % 2 ^ 20 = 0 then d.wr M.LEASE_CLOCK ((d.rd M.LEASE_CLOCK + 1) % 2 ^ 32) else d
  d.addTo M.ISLAND_UPTIME i.islandNs

/-- What the start of a lesson brings. -/
def everyLesson (now : BellSt) (i : BellIn) (d : Dev) : Dev :=
  let d := denlysLesson d
  let d := (avsLesson i.vcore d).wr M.POWER_NOW (i.power % 65536)
  let d := tutorsAtLesson (swapRefusals (txnLesson (endLost now (memLesson now i.drift i.dieTemp d))))
  let d := i.snr.foldl (fun d (l, x) => if l < 256 then d.wr (M.LANE_SNR l) (x % 65536) else d) d
  let d := (List.range 16).foldl (fun d p => d.setPipe p { d.pipe p with mismatchRaised := false, verifyRaised := false }) d
  { d with
    buddy := { d.buddy with lostRaised := false }
    roll := { d.roll with recessLesson := d.roll.recessLesson + b2n (d.start.recess != .awake) } }

/-! ## BELL -/

/-- What entry `i` of a snapshot holds of an ID: zero where principal K cannot read it (R540). -/
def snapValue (now : BellSt) (d : Dev) (i id : Nat) : Nat :=
  let r := readAs now { d with free := d.free + i } .k id
  if r.1 = St.OK then r.2.1 else 0

/-- The bell cycle (R40): flip and in-flight bookkeeping, ageing commit and snapshot latch, before the items. -/
def bellCycle (now : BellSt) (was : BellState) (d : Dev) : Dev :=
  let d := if now.state = .run then editionBell now d else d
  let d : Dev := if was = .run then ageingCommit now d else { d with roll := { d.roll with reborn := [] } }
  snapLatch now (snapValue now d) d

/-- What the device does at a bell that has rung: `b` is the bell before it, `now` after it. -/
def bellWork (b now : BellSt) (fall rise : Bool) (i : BellIn) (d : Dev) : BellSt × Dev :=
  let lesson := lessonStarts now.period
  let d := closePeriod now i d
  let d := if fall then discardWork d else d
  let d := overrun now b (d.work.carried.map (fun c => c.item)) d
  let d := bellCycle now b.state (if fall then readyFalls now d else if rise then readyRises d else d)
  let d := if lesson then everyLesson now i d else d
  let d := everyPeriod now i d
  let d := if now.state = .run ∧ d.rd M.START_STEP = 10 then d.wr M.START_STEP 11 else d
  let d := if now.state = .run then runPeriod now lesson d else d
  let s := periodicWork now i.held d
  (s.1, writeEvents s.2.rings.events.length s.2)

/-- BELL (R29): while the time base runs and the clocks do. -/
def bell (i : BellIn) (b : BellSt) (d : Dev) : BellSt × Dev :=
  if b.state = .off ∨ d.start.clocksStopped = true then (b, d) else
  let fall := d.start.fallDue
  let rise := d.start.readyDue && !fall
  bellWork b (ring b d.pins.ready fall rise) fall rise i d

/-! ## Commands -/

/-- BELL (R29). -/
def execBell (i : BellIn) (s : State) : Host.Outcome State Fault Refusal :=
  s.onBoth (fun now d => bell i now d)

end Sys2Proof.Machine
end

