-- ==== Sys2Proof/Machine/Dispatch.lean ====
section
/-!
DEFINITION. One arm per command: a direct call of its meaning.
-/
namespace Sys2Proof.Machine

/-- What a command does to everything but the queue. -/
def exec (i : Instr) (s : State) : Host.Outcome State Fault Refusal :=
  match i with
  | .bell found => Sys2Proof.Machine.execBell found s
  | .bellLoad a => Sys2Proof.Machine.execBellLoad a s
  | .buddyTakeover => Sys2Proof.Machine.execBuddyTakeover s
  | .avsTransactionFail => Sys2Proof.Machine.execAvsTransactionFail s
  | .avsSettleEnd => Sys2Proof.Machine.execAvsSettleEnd s
  | .thermtrip temp => Sys2Proof.Machine.execThermtrip temp s
  | .thermtripRelease temp => Sys2Proof.Machine.execThermtripRelease temp s
  | .sagStepDown volts => Sys2Proof.Machine.execSagStepDown volts s
  | .sagStepRecover uv => Sys2Proof.Machine.execSagStepRecover uv s
  | .throttleNFall => Sys2Proof.Machine.execThrottleNFall s
  | .throttleNRise => Sys2Proof.Machine.execThrottleNRise s
  | .throttlePauseRefresh => Sys2Proof.Machine.execThrottlePauseRefresh s
  | .vauxUp straps => Sys2Proof.Machine.execVauxUp straps s
  | .vauxLoss => Sys2Proof.Machine.execVauxLoss s
  | .islandStart images => Sys2Proof.Machine.execIslandStart images s
  | .resetNPulse ns straps => Sys2Proof.Machine.execResetNPulse ns straps s
  | .vcorePgRise => Sys2Proof.Machine.execVcorePgRise s
  | .mainSeqStepDone found => Sys2Proof.Machine.execMainSeqStepDone found s
  | .mainSeqStepTimeout => Sys2Proof.Machine.execMainSeqStepTimeout s
  | .startRelease a => Sys2Proof.Machine.execStartRelease a s
  | .startRetry a => Sys2Proof.Machine.execStartRetry a s
  | .vcorePgFall ns => Sys2Proof.Machine.execVcorePgFall ns s
  | .rollReady => Sys2Proof.Machine.execRollReady s
  | .perstNAssert => Sys2Proof.Machine.execPerstNAssert s
  | .perstNDeassert => Sys2Proof.Machine.execPerstNDeassert s
  | .lifeToggle => Sys2Proof.Machine.execLifeToggle s
  | .lifeStop => Sys2Proof.Machine.execLifeStop s
  | .paletteSave a => Sys2Proof.Machine.execPaletteSave a s
  | .datapathRestart a => Sys2Proof.Machine.execDatapathRestart a s
  | .restartComplete => Sys2Proof.Machine.execRestartComplete s
  | .recessEnter a => Sys2Proof.Machine.execRecessEnter a s
  | .recessDrainTimeout => Sys2Proof.Machine.execRecessDrainTimeout s
  | .recessEntryComplete => Sys2Proof.Machine.execRecessEntryComplete s
  | .recessExit a => Sys2Proof.Machine.execRecessExit a s
  | .recessWakeComplete => Sys2Proof.Machine.execRecessWakeComplete s
  | .registerWrite w => Sys2Proof.Machine.execRegisterWrite w s
  | .stagedWrite w => Sys2Proof.Machine.execStagedWrite w s
  | .rcClear w => Sys2Proof.Machine.execRcClear w s
  | .tblNop iface cmd => Sys2Proof.Machine.execTblNop iface cmd s
  | .tblRead iface cmd => Sys2Proof.Machine.execTblRead iface cmd s
  | .tblWrite iface cmd => Sys2Proof.Machine.execTblWrite iface cmd s
  | .tblInsert iface cmd => Sys2Proof.Machine.execTblInsert iface cmd s
  | .tblCas iface cmd => Sys2Proof.Machine.execTblCas iface cmd s
  | .tblDelete iface cmd => Sys2Proof.Machine.execTblDelete iface cmd s
  | .tblCasDelete iface cmd => Sys2Proof.Machine.execTblCasDelete iface cmd s
  | .tblNext iface cmd => Sys2Proof.Machine.execTblNext iface cmd s
  | .tblSearch iface cmd => Sys2Proof.Machine.execTblSearch iface cmd s
  | .tblCommandComplete iface o => Sys2Proof.Machine.execTblCommandComplete iface o s
  | .tblCommandTimeout iface => Sys2Proof.Machine.execTblCommandTimeout iface s
  | .txnBegin a => Sys2Proof.Machine.execTxnBegin a s
  | .txnCommit a => Sys2Proof.Machine.execTxnCommit a s
  | .txnRollback a => Sys2Proof.Machine.execTxnRollback a s
  | .txnValidationDone => Sys2Proof.Machine.execTxnValidationDone s
  | .txnIdleAbort => Sys2Proof.Machine.execTxnIdleAbort s
  | .denlysFrameRx frame rx => Sys2Proof.Machine.execDenlysFrameRx frame rx s
  | .denlysHello nonce ms => Sys2Proof.Machine.execDenlysHello nonce ms s
  | .denlysRead => Sys2Proof.Machine.execDenlysRead s
  | .denlysWrite => Sys2Proof.Machine.execDenlysWrite s
  | .denlysHeartbeat => Sys2Proof.Machine.execDenlysHeartbeat s
  | .denlysReadBlock => Sys2Proof.Machine.execDenlysReadBlock s
  | .denlysSubscribe => Sys2Proof.Machine.execDenlysSubscribe s
  | .denlysBegin => Sys2Proof.Machine.execDenlysBegin s
  | .denlysCommit => Sys2Proof.Machine.execDenlysCommit s
  | .denlysRollback => Sys2Proof.Machine.execDenlysRollback s
  | .denlysResponseTx tx => Sys2Proof.Machine.execDenlysResponseTx tx s
  | .denlysNotify session => Sys2Proof.Machine.execDenlysNotify session s
  | .denlysNotifyContinuation session => Sys2Proof.Machine.execDenlysNotifyContinuation session s
  | .denlysHeartbeatSend at_ => Sys2Proof.Machine.execDenlysHeartbeatSend at_ s
  | .denlysSessionTimeout at_ => Sys2Proof.Machine.execDenlysSessionTimeout at_ s
  | .keySlotWrite w => Sys2Proof.Machine.execKeySlotWrite w s
  | .keySave a => Sys2Proof.Machine.execKeySave a s
  | .frameReceive f => Sys2Proof.Machine.execFrameReceive f s
  | .pfcRefresh port cls => Sys2Proof.Machine.execPfcRefresh port cls s
  | .pauseApply port ns => Sys2Proof.Machine.execPauseApply port ns s
  | .pauseTimerExpire port cls ns => Sys2Proof.Machine.execPauseTimerExpire port cls ns s
  | .pauseWatchdog port cls ns => Sys2Proof.Machine.execPauseWatchdog port cls ns s
  | .pauseHoldoffEnd port cls ns => Sys2Proof.Machine.execPauseHoldoffEnd port cls ns s
  | .linkUp port => Sys2Proof.Machine.execLinkUp port s
  | .linkDown port => Sys2Proof.Machine.execLinkDown port s
  | .portFlushReturn => Sys2Proof.Machine.execPortFlushReturn s
  | .macTxStart port ps => Sys2Proof.Machine.execMacTxStart port ps s
  | .lpiEnter port => Sys2Proof.Machine.execLpiEnter port s
  | .lpiExit port => Sys2Proof.Machine.execLpiExit port s
  | .portWakePrepare port a => Sys2Proof.Machine.execPortWakePrepare port a s
  | .segChunkFetch data => Sys2Proof.Machine.execSegChunkFetch data s
  | .packetParse pipe => Sys2Proof.Machine.execPacketParse pipe s
  | .learnNoticeInstall pipe => Sys2Proof.Machine.execLearnNoticeInstall pipe s
  | .rollFetchIssue pipe => Sys2Proof.Machine.execRollFetchIssue pipe s
  | .rollFetchComplete pipe slot o => Sys2Proof.Machine.execRollFetchComplete pipe slot o s
  | .frPlacementRetry pipe => Sys2Proof.Machine.execFrPlacementRetry pipe s
  | .rollHoldRelease pipe => Sys2Proof.Machine.execRollHoldRelease pipe s
  | .frWbWriteDone slot o => Sys2Proof.Machine.execFrWbWriteDone slot o s
  | .rollProbe a => Sys2Proof.Machine.execRollProbe a s
  | .rollSeedSave a => Sys2Proof.Machine.execRollSeedSave a s
  | .ttSelect port cls => Sys2Proof.Machine.execTtSelect port cls s
  | .gateEntryChange port ns => Sys2Proof.Machine.execGateEntryChange port ns s
  | .gateOversizeDrop port cls ns => Sys2Proof.Machine.execGateOversizeDrop port cls ns s
  | .taskDispatch pipe => Sys2Proof.Machine.execTaskDispatch pipe s
  | .taskPreempt pipe => Sys2Proof.Machine.execTaskPreempt pipe s
  | .taskResume t => Sys2Proof.Machine.execTaskResume t s
  | .taskHeldRelease pipe => Sys2Proof.Machine.execTaskHeldRelease pipe s
  | .taskBudgetTrap t => Sys2Proof.Machine.execTaskBudgetTrap t s
  | .maskLimitTrap t => Sys2Proof.Machine.execMaskLimitTrap t s
  | .tutorHang t => Sys2Proof.Machine.execTutorHang t s
  | .memOpComplete t o => Sys2Proof.Machine.execMemOpComplete t o s
  | .seqNext t => Sys2Proof.Machine.execSeqNext t s
  | .seqJump t => Sys2Proof.Machine.execSeqJump t s
  | .seqCall t => Sys2Proof.Machine.execSeqCall t s
  | .seqReturn t => Sys2Proof.Machine.execSeqReturn t s
  | .seqDispatch t => Sys2Proof.Machine.execSeqDispatch t s
  | .seqWait t => Sys2Proof.Machine.execSeqWait t s
  | .seqEnd t => Sys2Proof.Machine.execSeqEnd t s
  | .aluNop t => Sys2Proof.Machine.execAluNop t s
  | .aluAdd t => Sys2Proof.Machine.execAluAdd t s
  | .aluSub t => Sys2Proof.Machine.execAluSub t s
  | .aluAnd t => Sys2Proof.Machine.execAluAnd t s
  | .aluOr t => Sys2Proof.Machine.execAluOr t s
  | .aluXor t => Sys2Proof.Machine.execAluXor t s
  | .aluShl t => Sys2Proof.Machine.execAluShl t s
  | .aluShr t => Sys2Proof.Machine.execAluShr t s
  | .aluSar t => Sys2Proof.Machine.execAluSar t s
  | .aluMov t => Sys2Proof.Machine.execAluMov t s
  | .aluExtract t => Sys2Proof.Machine.execAluExtract t s
  | .aluInsert t => Sys2Proof.Machine.execAluInsert t s
  | .aluCmp t => Sys2Proof.Machine.execAluCmp t s
  | .aluMinu t => Sys2Proof.Machine.execAluMinu t s
  | .aluMaxu t => Sys2Proof.Machine.execAluMaxu t s
  | .aluClz t => Sys2Proof.Machine.execAluClz t s
  | .aluMul t => Sys2Proof.Machine.execAluMul t s
  | .aluMulhu t => Sys2Proof.Machine.execAluMulhu t s
  | .aluCrc t => Sys2Proof.Machine.execAluCrc t s
  | .aluBswap t => Sys2Proof.Machine.execAluBswap t s
  | .aluPopcnt t => Sys2Proof.Machine.execAluPopcnt t s
  | .memLocalRead t => Sys2Proof.Machine.execMemLocalRead t s
  | .memLocalWrite t => Sys2Proof.Machine.execMemLocalWrite t s
  | .memHvRead t => Sys2Proof.Machine.execMemHvRead t s
  | .memRecRead t => Sys2Proof.Machine.execMemRecRead t s
  | .memRecWrite t => Sys2Proof.Machine.execMemRecWrite t s
  | .memEpRead t => Sys2Proof.Machine.execMemEpRead t s
  | .memEpWrite t => Sys2Proof.Machine.execMemEpWrite t s
  | .memTdRead t => Sys2Proof.Machine.execMemTdRead t s
  | .memTdWrite t => Sys2Proof.Machine.execMemTdWrite t s
  | .memTdAdd t => Sys2Proof.Machine.execMemTdAdd t s
  | .memPktRead t => Sys2Proof.Machine.execMemPktRead t s
  | .memPktWrite t => Sys2Proof.Machine.execMemPktWrite t s
  | .memTable t => Sys2Proof.Machine.execMemTable t s
  | .memDictRead t => Sys2Proof.Machine.execMemDictRead t s
  | .memDictWrite t => Sys2Proof.Machine.execMemDictWrite t s
  | .memPoolAlloc t => Sys2Proof.Machine.execMemPoolAlloc t s
  | .memPoolFree t => Sys2Proof.Machine.execMemPoolFree t s
  | .memRingWrite t => Sys2Proof.Machine.execMemRingWrite t s
  | .memSend t => Sys2Proof.Machine.execMemSend t s
  | .sysRelease t => Sys2Proof.Machine.execSysRelease t s
  | .sysCancel t => Sys2Proof.Machine.execSysCancel t s
  | .sysMakeReady t => Sys2Proof.Machine.execSysMakeReady t s
  | .sysTrapReturn t => Sys2Proof.Machine.execSysTrapReturn t s
  | .sysMask t => Sys2Proof.Machine.execSysMask t s
  | .sysUnmask t => Sys2Proof.Machine.execSysUnmask t s
  | .sysFault t => Sys2Proof.Machine.execSysFault t s
  | .sysEvent t => Sys2Proof.Machine.execSysEvent t s
  | .fragmentWaitTimeout pipe slot => Sys2Proof.Machine.execFragmentWaitTimeout pipe slot s
  | .fragmentEntryExpire pipe => Sys2Proof.Machine.execFragmentEntryExpire pipe s
  | .tutorImageLoad a => Sys2Proof.Machine.execTutorImageLoad a s
  | .tutorImageChecked => Sys2Proof.Machine.execTutorImageChecked s
  | .tutorEnable t a => Sys2Proof.Machine.execTutorEnable t a s
  | .poolHostAlloc a => Sys2Proof.Machine.execPoolHostAlloc a s
  | .poolHostFree a => Sys2Proof.Machine.execPoolHostFree a s
  | .poolBitmapRepair word => Sys2Proof.Machine.execPoolBitmapRepair word s
  | .memchIssue ch allowed ns => Sys2Proof.Machine.execMemchIssue ch allowed ns s
  | .memAccessComplete ch unit e ns => Sys2Proof.Machine.execMemAccessComplete ch unit e ns s
  | .memchCommandTimeout ch => Sys2Proof.Machine.execMemchCommandTimeout ch s
  | .memchRefresh ch bank atLimit => Sys2Proof.Machine.execMemchRefresh ch bank atLimit s
  | .memchSrEnter ch ns => Sys2Proof.Machine.execMemchSrEnter ch ns s
  | .zqCalibrationLatch ch => Sys2Proof.Machine.execZqCalibrationLatch ch s
  | .memchRetrain ch a => Sys2Proof.Machine.execMemchRetrain ch a s
  | .memchRetrainDone ch found => Sys2Proof.Machine.execMemchRetrainDone ch found s
  | .ringDoorbell ring offset data fetched => Sys2Proof.Machine.execRingDoorbell ring offset data fetched s
  | .ringPush ring j data single => Sys2Proof.Machine.execRingPush ring j data single s
  | .ringNop ring => Sys2Proof.Machine.execRingNop ring s
  | .txFrame ring data => Sys2Proof.Machine.execTxFrame ring data s
  | .txSeg ring hdr => Sys2Proof.Machine.execTxSeg ring hdr s
  | .ringTask ring => Sys2Proof.Machine.execRingTask ring s
  | .rxBuf ring => Sys2Proof.Machine.execRxBuf ring s
  | .ringCompletion ring => Sys2Proof.Machine.execRingCompletion ring s
  | .ringEnable ring a => Sys2Proof.Machine.execRingEnable ring a s
  | .ringDisable ring a => Sys2Proof.Machine.execRingDisable ring a s
  | .ringDisableComplete ring => Sys2Proof.Machine.execRingDisableComplete ring s
  | .ringDmaFault ring => Sys2Proof.Machine.execRingDmaFault ring s
  | .eventRecordWrite => Sys2Proof.Machine.execEventRecordWrite s
  | .ringIrq ring timer => Sys2Proof.Machine.execRingIrq ring timer s
  | .windowRead addr len o => Sys2Proof.Machine.execWindowRead addr len o s
  | .windowWrite addr data o => Sys2Proof.Machine.execWindowWrite addr data o s
  | .chkRun ctx a => Sys2Proof.Machine.execChkRun ctx a s
  | .chkContinue ctx a => Sys2Proof.Machine.execChkContinue ctx a s
  | .chkAbort ctx a => Sys2Proof.Machine.execChkAbort ctx a s
  | .chkJobComplete ctx stop => Sys2Proof.Machine.execChkJobComplete ctx stop s
  | .timeOffsetIn a => Sys2Proof.Machine.execTimeOffsetIn a s
  | .timeStep a => Sys2Proof.Machine.execTimeStep a s
  | .timeServoReset a => Sys2Proof.Machine.execTimeServoReset a s
  | .timeAnchorNs a => Sys2Proof.Machine.execTimeAnchorNs a s
  | .servoHoldover => Sys2Proof.Machine.execServoHoldover s
  | .ppsOutRise ns => Sys2Proof.Machine.execPpsOutRise ns s
  | .ppsOutFall ns => Sys2Proof.Machine.execPpsOutFall ns s
  | .ppsInEdge ns => Sys2Proof.Machine.execPpsInEdge ns s
  | .exportNs a => Sys2Proof.Machine.execExportNs a s
  | .exportTemplateSend => Sys2Proof.Machine.execExportTemplateSend s
  | .buddyHelloRx => Sys2Proof.Machine.execBuddyHelloRx s
  | .buddyPeriodRx => Sys2Proof.Machine.execBuddyPeriodRx s
  | .buddyFetchRx => Sys2Proof.Machine.execBuddyFetchRx s
  | .buddyReplyRx => Sys2Proof.Machine.execBuddyReplyRx s
  | .buddyRelayRx => Sys2Proof.Machine.execBuddyRelayRx s
  | .buddyHandbackRx => Sys2Proof.Machine.execBuddyHandbackRx s
  | .buddyCreateTimeout => Sys2Proof.Machine.execBuddyCreateTimeout s
  | .buddyHandback a => Sys2Proof.Machine.execBuddyHandback a s
  | .perfTagSeed pipe a => Sys2Proof.Machine.execPerfTagSeed pipe a s
  | .perfTagMode pipe a => Sys2Proof.Machine.execPerfTagMode pipe a s
  | .perfSnapEnable a => Sys2Proof.Machine.execPerfSnapEnable a s
  | .functionLevelReset => Sys2Proof.Machine.execFunctionLevelReset s
  | .pcieLinkUp width gen => Sys2Proof.Machine.execPcieLinkUp width gen s
  | .exportMessageSend => Sys2Proof.Machine.execExportMessageSend s
  | .poolHostAnswer => Sys2Proof.Machine.execPoolHostAnswer s
  | .tutorImageTaskStop => Sys2Proof.Machine.execTutorImageTaskStop s
  | .plcaBeacon => Sys2Proof.Machine.execPlcaBeacon s
  | .i2cStretchTimeout => Sys2Proof.Machine.execI2cStretchTimeout s

end Sys2Proof.Machine
end

