-- ==== Sys2Proof/Machine/Step.lean ====
section
/-!
DEFINITION. One step: the command at the front of the queue runs with the rest of the queue; with an empty queue the
block idles (log 4). The table gives no command a word, so no word spells one (log 5).
-/
namespace Sys2Proof.Machine

/-- Take the command at the front and run it on the state with the queue's rest. -/
def step (s : State) : Host.Outcome State Fault Refusal :=
  match s.pending with
  | [] => .next s
  | c :: rest => exec c { s with pending := rest }

/-- No word of the table spells a command: the state is unchanged (log 5). -/
def State.withFetchWord (s : State) (_ _ : Nat) : State := s

end Sys2Proof.Machine
end

