-- ==== Sys2Proof/WellFormed.lean ====
section
/-!
DEFINITION. Well-formed commands: every index lies in the range the spec gives its unit, every value in its width. The
machine runs any command; a sender that keeps to the spec sends well-formed ones.
-/
namespace Sys2Proof

open Sys2Proof.Machine (Bytes Principal)

/-- A principal's session is 1 to 8 (R182), and a tutor 0 to 63. -/
def Machine.Principal.wf (p : Principal) : Bool :=
  match p with
  | .k => true
  | .u => true
  | .d s => decide (1 ≤ s) && decide (s ≤ 8)
  | .t n => decide (n < 64)

/-- A member holds 64 bits, and a write covers up to 8 bytes (R116, R118). -/
def Acc.wf (a : Acc) : Bool := a.who.wf && decide (a.val < 2 ^ 64) && decide (a.width ≤ 8)

/-- BAR0, BAR2 and BAR4, within their sizes (R457); a write has bytes. -/
def PcieWrite.wf (w : PcieWrite) : Bool :=
  let size := if w.bar = 2 then 2 ^ 20 else 2 ^ 28
  [0, 2, 4].contains w.bar && !w.data.isEmpty && decide (w.addr + w.data.length ≤ size)

/-- Widths of the straps (R93). -/
def Straps.wf (s : Straps) : Bool := decide (s.nodeId < 256) && decide (s.bootSel < 4) && decide (s.buddyRole < 2)

/-- Lanes are 0 to 255. -/
def StepIn.wf (x : StepIn) : Bool := x.lanes.all (fun l => decide (l < 256)) && x.training.all (fun b => decide (b.length = 140))

/-- Training fills its block area or names a failing stage (R447). -/
def TrainIn.wf (x : TrainIn) : Bool := decide (x.results.length = 140) && decide (x.code < 65536)

/-- A received frame is at least an FCS long, and stamped with a counter value (R506). -/
def RxFrame.wf (f : RxFrame) : Bool := decide (f.port < 256) && decide (f.ns < 2 ^ 32) && decide (4 ≤ f.bytes.length)

/-- Wrong bits of a code word lie in its burst of 12 pins and 24 beats (R432, R436), in at most two symbols: of more the spec guarantees
nothing (R437, log 270). -/
def Machine.burstWf (bits : List (Nat × Nat)) : Bool :=
  bits.all (fun b => decide (b.1 < 12) && decide (b.2 < 24)) && decide (((Machine.rsErrors bits).filter (fun v => v != 0)).length ≤ 2)

/-- Both code words of a unit. -/
def EccIn.wf (e : EccIn) : Bool := Machine.burstWf e.word0 && Machine.burstWf e.word1

/-- Soft errors name what the device has. -/
def SoftError.wf (e : SoftError) : Bool :=
  match e with
  | .tcamCopy p i v m => decide (p < 16) && decide (i < 32768) && decide (v < 2 ^ 160) && decide (m < 2 ^ 160)
  | .tcamShadow i => decide (i < 524288)
  | .line s => decide (s < Machine.epSlotBase + 16777216)
  | .tagWord _ => true
  | .cell _ _ w _ => decide (w < 8)
  | .store c a => decide (c < 16) && decide (a < 32768)
  | .storeCorrected u => decide (u < 64)
  | .poolMeta p _ => decide (p ≤ 4)
  | .poolWord p _ => decide (1 ≤ p) && decide (p ≤ 4)
  | .poolCorrected p => decide (p ≤ 4)
  | .sram k => decide (1 ≤ k) && decide (k ≤ 3)
  | .packetBuffer k => decide (1 ≤ k) && decide (k ≤ 3)

/-- What a bell finds: 24 sensors (R85), at least 1,038 cycles (R32), each place in the order of work named once (R43). -/
def BellIn.wf (x : BellIn) : Bool :=
  decide (1038 ≤ x.cycles) && decide (x.cycles < 65536) && decide (x.work ≤ x.cycles) && decide (x.temps.length = 24) &&
  decide (x.held.map Prod.fst).Nodup && x.errors.all SoftError.wf &&
  x.drift.all (fun c => decide (c.1 < 16) && decide (c.2.1 < 2)) && x.dieTemp.all (fun c => decide (c.1 < 16)) && x.snr.all (fun l => decide (l.1 < 256)) &&
  x.fec.all (fun l => decide (l.1 < 256)) && x.fecBad.all (fun p => decide (p.1 < 256)) && x.fill.all (fun b => decide (b.1 < 32))

/-- The ranges of a command's operands. -/
def Instr.wf (i : Instr) : Bool :=
  match i with
  | .bell found => found.wf
  | .bellLoad a => a.wf
  | .buddyTakeover => true
  | .avsTransactionFail => true
  | .avsSettleEnd => true
  | .thermtrip _ => true
  | .thermtripRelease _ => true
  | .sagStepDown _ => true
  | .sagStepRecover uv => decide (uv < 2 ^ 32)
  | .throttleNFall => true
  | .throttleNRise => true
  | .throttlePauseRefresh => true
  | .vauxUp straps => straps.wf
  | .vauxLoss => true
  | .islandStart _ => true
  | .resetNPulse _ straps => straps.wf
  | .vcorePgRise => true
  | .mainSeqStepDone found => found.wf
  | .mainSeqStepTimeout => true
  | .startRelease a => a.wf
  | .startRetry a => a.wf
  | .vcorePgFall _ => true
  | .rollReady => true
  | .perstNAssert => true
  | .perstNDeassert => true
  | .lifeToggle => true
  | .lifeStop => true
  | .paletteSave a => a.wf
  | .datapathRestart a => a.wf
  | .restartComplete => true
  | .recessEnter a => a.wf
  | .recessDrainTimeout => true
  | .recessEntryComplete => true
  | .recessExit a => a.wf
  | .recessWakeComplete => true
  | .registerWrite w => w.wf
  | .stagedWrite w => w.wf
  | .rcClear w => w.wf
  | .tblNop iface cmd => decide (iface < 16) && decide (cmd < 2 ^ 64)
  | .tblRead iface cmd => decide (iface < 16) && decide (cmd < 2 ^ 64)
  | .tblWrite iface cmd => decide (iface < 16) && decide (cmd < 2 ^ 64)
  | .tblInsert iface cmd => decide (iface < 16) && decide (cmd < 2 ^ 64)
  | .tblCas iface cmd => decide (iface < 16) && decide (cmd < 2 ^ 64)
  | .tblDelete iface cmd => decide (iface < 16) && decide (cmd < 2 ^ 64)
  | .tblCasDelete iface cmd => decide (iface < 16) && decide (cmd < 2 ^ 64)
  | .tblNext iface cmd => decide (iface < 16) && decide (cmd < 2 ^ 64)
  | .tblSearch iface cmd => decide (iface < 16) && decide (cmd < 2 ^ 64)
  | .tblCommandComplete iface _ => decide (iface < 16)
  | .tblCommandTimeout iface => decide (iface < 16)
  | .txnBegin a => a.wf
  | .txnCommit a => a.wf
  | .txnRollback a => a.wf
  | .txnValidationDone => true
  | .txnIdleAbort => true
  | .denlysFrameRx _ _ => true
  | .denlysHello nonce _ => decide (nonce < 2 ^ 64)
  | .denlysRead => true
  | .denlysWrite => true
  | .denlysHeartbeat => true
  | .denlysReadBlock => true
  | .denlysSubscribe => true
  | .denlysBegin => true
  | .denlysCommit => true
  | .denlysRollback => true
  | .denlysResponseTx _ => true
  | .denlysNotify session => decide (1 ≤ session) && decide (session ≤ 8)
  | .denlysNotifyContinuation session => decide (1 ≤ session) && decide (session ≤ 8)
  | .denlysHeartbeatSend a => decide (1 ≤ a.session) && decide (a.session ≤ 8)
  | .denlysSessionTimeout a => decide (1 ≤ a.session) && decide (a.session ≤ 8)
  | .keySlotWrite w => w.wf
  | .keySave a => a.wf
  | .frameReceive f => f.wf
  | .pfcRefresh port cls => decide (port < 256) && decide (cls < 8)
  | .pauseApply port _ => decide (port < 256)
  | .pauseTimerExpire port cls _ => decide (port < 256) && decide (cls < 8)
  | .pauseWatchdog port cls _ => decide (port < 256) && decide (cls < 8)
  | .pauseHoldoffEnd port cls _ => decide (port < 256) && decide (cls < 8)
  | .linkUp port => decide (port < 256)
  | .linkDown port => decide (port < 256)
  | .portFlushReturn => true
  | .macTxStart port _ => decide (port < 256)
  | .lpiEnter port => decide (port < 256)
  | .lpiExit port => decide (port < 256)
  | .portWakePrepare port a => decide (port < 256) && a.wf
  | .segChunkFetch _ => true
  | .packetParse pipe => decide (pipe < 16)
  | .learnNoticeInstall pipe => decide (pipe < 16)
  | .rollFetchIssue pipe => decide (pipe < 16)
  | .rollFetchComplete pipe slot _ => decide (pipe < 16) && decide (slot < Machine.epSlotBase + 16777216)
  | .frPlacementRetry pipe => decide (pipe < 16)
  | .rollHoldRelease pipe => decide (pipe < 16)
  | .frWbWriteDone slot _ => decide (slot < Machine.epSlotBase + 16777216)
  | .rollProbe a => a.wf
  | .rollSeedSave a => a.wf
  | .ttSelect port cls => decide (port < 256) && decide (cls < 8)
  | .gateEntryChange port _ => decide (port < 256)
  | .gateOversizeDrop port cls _ => decide (port < 256) && decide (cls < 8)
  | .taskDispatch pipe => decide (pipe < 16)
  | .taskPreempt pipe => decide (pipe < 16)
  | .taskResume t => decide (t < 64)
  | .taskHeldRelease pipe => decide (pipe < 16)
  | .taskBudgetTrap t => decide (t < 64)
  | .maskLimitTrap t => decide (t < 64)
  | .tutorHang t => decide (t < 64)
  | .memOpComplete t _ => decide (t < 64)
  | .seqNext t => decide (t < 64)
  | .seqJump t => decide (t < 64)
  | .seqCall t => decide (t < 64)
  | .seqReturn t => decide (t < 64)
  | .seqDispatch t => decide (t < 64)
  | .seqWait t => decide (t < 64)
  | .seqEnd t => decide (t < 64)
  | .aluNop t => decide (t < 64)
  | .aluAdd t => decide (t < 64)
  | .aluSub t => decide (t < 64)
  | .aluAnd t => decide (t < 64)
  | .aluOr t => decide (t < 64)
  | .aluXor t => decide (t < 64)
  | .aluShl t => decide (t < 64)
  | .aluShr t => decide (t < 64)
  | .aluSar t => decide (t < 64)
  | .aluMov t => decide (t < 64)
  | .aluExtract t => decide (t < 64)
  | .aluInsert t => decide (t < 64)
  | .aluCmp t => decide (t < 64)
  | .aluMinu t => decide (t < 64)
  | .aluMaxu t => decide (t < 64)
  | .aluClz t => decide (t < 64)
  | .aluMul t => decide (t < 64)
  | .aluMulhu t => decide (t < 64)
  | .aluCrc t => decide (t < 64)
  | .aluBswap t => decide (t < 64)
  | .aluPopcnt t => decide (t < 64)
  | .memLocalRead t => decide (t < 64)
  | .memLocalWrite t => decide (t < 64)
  | .memHvRead t => decide (t < 64)
  | .memRecRead t => decide (t < 64)
  | .memRecWrite t => decide (t < 64)
  | .memEpRead t => decide (t < 64)
  | .memEpWrite t => decide (t < 64)
  | .memTdRead t => decide (t < 64)
  | .memTdWrite t => decide (t < 64)
  | .memTdAdd t => decide (t < 64)
  | .memPktRead t => decide (t < 64)
  | .memPktWrite t => decide (t < 64)
  | .memTable t => decide (t < 64)
  | .memDictRead t => decide (t < 64)
  | .memDictWrite t => decide (t < 64)
  | .memPoolAlloc t => decide (t < 64)
  | .memPoolFree t => decide (t < 64)
  | .memRingWrite t => decide (t < 64)
  | .memSend t => decide (t < 64)
  | .sysRelease t => decide (t < 64)
  | .sysCancel t => decide (t < 64)
  | .sysMakeReady t => decide (t < 64)
  | .sysTrapReturn t => decide (t < 64)
  | .sysMask t => decide (t < 64)
  | .sysUnmask t => decide (t < 64)
  | .sysFault t => decide (t < 64)
  | .sysEvent t => decide (t < 64)
  | .fragmentWaitTimeout pipe slot => decide (pipe < 16) && decide (slot < 8192)
  | .fragmentEntryExpire pipe => decide (pipe < 16)
  | .tutorImageLoad a => a.wf
  | .tutorImageChecked => true
  | .tutorEnable t a => decide (t < 64) && a.wf
  | .poolHostAlloc a => a.wf
  | .poolHostFree a => a.wf
  | .poolBitmapRepair _ => true
  | .memchIssue ch allowed _ => decide (ch < 16) && allowed.all (fun b => decide (b < 16))
  | .memAccessComplete ch unit e _ => decide (ch < 16) && decide (unit < 33554432) && e.wf
  | .memchCommandTimeout ch => decide (ch < 16)
  | .memchRefresh ch bank _ => decide (ch < 16) && decide (bank < 16)
  | .memchSrEnter ch _ => decide (ch < 16)
  | .zqCalibrationLatch ch => decide (ch < 16)
  | .memchRetrain ch a => decide (ch < 16) && a.wf
  | .memchRetrainDone ch found => decide (ch < 16) && found.wf
  | .ringDoorbell ring offset _ _ => decide (ring < 256) && decide (offset < 4096)
  | .ringPush ring j _ _ => decide (ring < 256) && decide (j < 32)
  | .ringNop ring => decide (ring < 256)
  | .txFrame ring _ => decide (ring < 256)
  | .txSeg ring _ => decide (ring < 256)
  | .ringTask ring => decide (ring < 256)
  | .rxBuf ring => decide (ring < 256)
  | .ringCompletion ring => decide (ring < 256)
  | .ringEnable ring a => decide (ring < 256) && a.wf
  | .ringDisable ring a => decide (ring < 256) && a.wf
  | .ringDisableComplete ring => decide (ring < 256)
  | .ringDmaFault ring => decide (ring < 256)
  | .eventRecordWrite => true
  | .ringIrq ring _ => decide (ring < 256)
  | .windowRead addr _ _ => decide (addr < 0x10000000) || addr / 2 ^ 32 == 2 || addr / 2 ^ 32 == 4
  | .windowWrite addr _ _ => decide (0x0C000000 ≤ addr) && decide (addr < 0x10000000)
  | .chkRun ctx a => decide (ctx < 8) && a.wf
  | .chkContinue ctx a => decide (ctx < 8) && a.wf
  | .chkAbort ctx a => decide (ctx < 8) && a.wf
  | .chkJobComplete ctx _ => decide (ctx < 8)
  | .timeOffsetIn a => a.wf
  | .timeStep a => a.wf
  | .timeServoReset a => a.wf
  | .timeAnchorNs a => a.wf
  | .servoHoldover => true
  | .ppsOutRise ns => decide (ns < 2 ^ 32)
  | .ppsOutFall ns => decide (ns < 2 ^ 32)
  | .ppsInEdge ns => decide (ns < 2 ^ 32)
  | .exportNs a => a.wf
  | .exportTemplateSend => true
  | .buddyHelloRx => true
  | .buddyPeriodRx => true
  | .buddyFetchRx => true
  | .buddyReplyRx => true
  | .buddyRelayRx => true
  | .buddyHandbackRx => true
  | .buddyCreateTimeout => true
  | .buddyHandback a => a.wf
  | .perfTagSeed pipe a => decide (pipe < 16) && a.wf
  | .perfTagMode pipe a => decide (pipe < 16) && a.wf
  | .perfSnapEnable a => a.wf
  | .functionLevelReset => true
  | .pcieLinkUp width gen => decide (width ≤ 16) && decide (gen ≤ 5)
  | .exportMessageSend => true
  | .poolHostAnswer => true
  | .tutorImageTaskStop => true
  | .plcaBeacon => true
  | .i2cStretchTimeout => true

end Sys2Proof
end

