-- ==== Sys2Proof/Safety.lean ====
section
/-!
DEFINITION. What statements speak of: a command that completes with a bell and a device, a write that reaches its member, and
the bell's own consistency.
-/
namespace Sys2Proof

open Sys2Proof.Machine

/-- The command completes, and leaves the bell `b` and the device `d`; the queue is untouched. -/
def Gives (c : Instr) (s : State) (b : BellSt) (d : Dev) : Prop := exec c s = .next { s with bell := b, dev := d }

/-- The command completes, changes nothing but the device, and leaves it with the property `p`. -/
def Reaches (c : Instr) (s : State) (p : Dev → Prop) : Prop := ∃ d, Gives c s s.bell d ∧ p d

/-- A write of a member passes every check that comes before its own chapter's (R120 to R123). -/
def Admits (d : Dev) (a : Acc) (id : Nat) : Prop :=
  d.gate (id / 2 ^ 24) = false ∧ (a.who = .k → d.start.pcieUp = true) ∧ d.writeStatus a id = St.OK

/-- A write of a member passes every check that comes before its own chapter's, and is no zero (R120 to R123). -/
def Passes (d : Dev) (a : Acc) (id : Nat) : Prop :=
  d.gate (id / 2 ^ 24) = false ∧ (a.who = .k → d.start.pcieUp = true) ∧ d.writeStatus a id = St.OK ∧ storedValue id a.val ≠ 0

/-- The commands that are events of the logic die. -/
def Instr.ofDie (c : Instr) : Bool :=
  match c with
  | .buddyTakeover | .sagStepDown _ | .sagStepRecover _ | .throttlePauseRefresh | .rollReady | .restartComplete
  | .recessDrainTimeout | .recessEntryComplete | .recessWakeComplete | .tblCommandComplete _ _ | .tblCommandTimeout _
  | .txnValidationDone | .txnIdleAbort | .frameReceive _ | .pfcRefresh _ _ | .pauseApply _ _ | .pauseTimerExpire _ _ _
  | .pauseWatchdog _ _ _ | .pauseHoldoffEnd _ _ _ | .linkUp _ | .linkDown _ | .portFlushReturn | .macTxStart _ _
  | .lpiEnter _ | .lpiExit _ | .segChunkFetch _ | .packetParse _ | .learnNoticeInstall _ | .rollFetchIssue _
  | .rollFetchComplete _ _ _ | .frPlacementRetry _ | .rollHoldRelease _ | .frWbWriteDone _ _ | .ttSelect _ _
  | .gateEntryChange _ _ | .gateOversizeDrop _ _ _ | .taskDispatch _ | .taskPreempt _ | .taskResume _ | .taskHeldRelease _
  | .taskBudgetTrap _ | .maskLimitTrap _ | .tutorHang _ | .memOpComplete _ _ | .seqNext _ | .seqJump _ | .seqCall _
  | .seqReturn _ | .seqDispatch _ | .seqWait _ | .seqEnd _ | .aluNop _ | .aluAdd _ | .aluSub _ | .aluAnd _ | .aluOr _
  | .aluXor _ | .aluShl _ | .aluShr _ | .aluSar _ | .aluMov _ | .aluExtract _ | .aluInsert _ | .aluCmp _ | .aluMinu _
  | .aluMaxu _ | .aluClz _ | .aluMul _ | .aluMulhu _ | .aluCrc _ | .aluBswap _ | .aluPopcnt _ | .memLocalRead _
  | .memLocalWrite _ | .memHvRead _ | .memRecRead _ | .memRecWrite _ | .memEpRead _ | .memEpWrite _ | .memTdRead _
  | .memTdWrite _ | .memTdAdd _ | .memPktRead _ | .memPktWrite _ | .memTable _ | .memDictRead _ | .memDictWrite _
  | .memPoolAlloc _ | .memPoolFree _ | .memRingWrite _ | .memSend _ | .sysRelease _ | .sysCancel _ | .sysMakeReady _
  | .sysTrapReturn _ | .sysMask _ | .sysUnmask _ | .sysFault _ | .sysEvent _ | .fragmentWaitTimeout _ _
  | .fragmentEntryExpire _ | .tutorImageChecked | .poolBitmapRepair _ | .memchIssue _ _ _ | .memAccessComplete _ _ _ _
  | .memchCommandTimeout _ | .memchRefresh _ _ _ | .memchSrEnter _ _ | .zqCalibrationLatch _ | .memchRetrainDone _ _
  | .ringDoorbell _ _ _ _ | .ringPush _ _ _ _ | .ringNop _ | .txFrame _ _ | .txSeg _ _ | .ringTask _ | .rxBuf _
  | .ringCompletion _ | .ringDisableComplete _ | .ringDmaFault _ | .eventRecordWrite | .ringIrq _ _ | .windowRead _ _ _
  | .windowWrite _ _ _ | .chkJobComplete _ _ | .servoHoldover | .ppsOutRise _ | .ppsOutFall _ | .ppsInEdge _
  | .exportTemplateSend | .buddyHelloRx | .buddyPeriodRx | .buddyFetchRx | .buddyReplyRx | .buddyRelayRx
  | .buddyHandbackRx | .buddyCreateTimeout | .functionLevelReset | .exportMessageSend | .poolHostAnswer
  | .tutorImageTaskStop => true
  | _ => false

/-- Tutor `u` of the running die, outside Recess, issues the word `w` of a loaded image, which is legal, neither stalls nor traps,
and is followed by `next` (R88, R355 to R358). -/
def Issues (d : Dev) (u w next : Nat) : Prop :=
  d.dieRuns = true ∧ d.asleep = false ∧ ∃ t im, d.running u = some t ∧ d.tutors.image = some im ∧ im.native = false ∧ (d.tutor u).issues = true ∧
    d.tutors.storeBad.contains (clusterOf u * 32768 + (d.tutor u).pc) = false ∧ d.storeWord (d.tutor u).pc = (true, w) ∧
    (d.tutor u).stalls w = false ∧ wordTrap d t im.minor true (d.tutor u) w = none ∧ nextAddr (d.tutor u) w = .inl next

/-- The fields of a word but one of its four operations are those of no operation. -/
def OnlyAlu (w : Nat) : Prop := wMem w = 0 ∧ wSys w = 0 ∧ wSeq w = 0
def OnlyMem (w : Nat) : Prop := wSys w = 0 ∧ wSeq w = 0
def OnlySys (w : Nat) : Prop := wAlu w = 0 ∧ wMem w = 0 ∧ wSeq w = 0
def OnlySeq (w : Nat) : Prop := wAlu w = 0 ∧ wMem w = 0 ∧ wSys w = 0

/-- The counts and times of the bell fit together (R29, R31, R34): LESSON_COUNT[21:0] is PERIOD_COUNT[31:10], the counter at
the last bell is a multiple of 1,024, and so is the counter where a bell is due at its present value. -/
def Machine.BellSt.Consistent (b : BellSt) : Prop :=
  b.lesson.toNat % 2 ^ 22 = b.period.toNat / 2 ^ 10 ∧ b.time.toNat % 1024 = 0 ∧ (b.due = true → b.ns.toNat % 1024 = 0)

end Sys2Proof
end

