-- ==== Sys2Proof/Certificates/Slice0/Obligations.lean ====
section
/-!
DEFINITION. The statements for the provers.
-/

open Sys2Proof Sys2Proof.Machine

/-- A step runs the command at the front of the queue. For every command and state, a step of the state with that command
at the front of its queue is the command's effect on the state with the rest of the queue; on an empty queue a step
leaves the state as it is (the model's choice, log entry 4). (95_what_each_step_holds) -/
def Obligations.StepRunsFrontCommand : Prop :=
  (∀ (c : Instr) (rest : List Instr) (s : State), step { s with pending := c :: rest } = exec c { s with pending := rest }) ∧
  ∀ s : State, s.pending = [] → step s = .next s

/-- Every command answers a next state and leaves the queue alone. Every command of the table, in every state, answers a
next state, and that state has the same commands waiting; a command that is an event of the logic die changes nothing
while the die does not run: without its rails, in reset, or with its clocks stopped. (95_what_each_step_holds, R16,
R70, R86, R96) -/
def Obligations.EveryCommandAnswersAndKeepsQueue : Prop :=
  (∀ (c : Instr) (s : State), ∃ t : State, exec c s = .next t ∧ t.pending = s.pending) ∧
  ∀ (c : Instr) (s : State), c.ofDie = true → s.dev.dieRuns = false → exec c s = .next s

/-- Only the bell, its load and the resets change the time base. Of all commands only BELL, BELL_LOAD (alone, as a
register write or as a Denlys write), the resets and rails, and the end of a main-sequence step can change the bell,
its counts and the nanosecond counter; every other command leaves them as they are. (R29, R31, R36, R106, R501) -/
def Obligations.OnlyTimeBaseCommandsMoveBell : Prop :=
  ∀ (c : Instr) (s t : State),
    (match c with
      | .bell _ | .bellLoad _ | .registerWrite _ | .stagedWrite _ | .rcClear _ | .denlysRead | .denlysWrite | .denlysHeartbeat | .denlysReadBlock
      | .denlysSubscribe | .denlysBegin | .denlysCommit | .denlysRollback | .vauxUp _ | .vauxLoss | .resetNPulse _ _ | .vcorePgRise
      | .mainSeqStepDone _ | .vcorePgFall _ => False
      | _ => True) →
    exec c s = .next t → t.bell = s.bell

/-- Every step keeps LESSON_COUNT[21:0] equal to PERIOD_COUNT[31:10] and the bell on multiples of 1,024. From every state
whose bell is consistent, any command at the front of the queue leaves a consistent bell: LESSON_COUNT[21:0] equals
PERIOD_COUNT[31:10], the counter at the last bell is a multiple of 1,024, and a bell that is due at the present value
of the counter is due at a multiple of 1,024. (R29, R31, R33, R34, R36, R501) -/
def Obligations.BellConsistencyKeptByEveryStep : Prop :=
  ∀ s t : State, s.bell.Consistent → step s = .next t → t.bell.Consistent

/-- The state after reset is consistent, with no command waiting and no bells. At reset the bell is consistent, OFF, with
both counts zero, no command waits, READY is low and the island is starting. (R36, R46, R106) -/
def Obligations.ResetBellConsistent : Prop :=
  State.reset.bell.Consistent ∧ State.reset.bell.state = .off ∧ State.reset.bell.period = 0 ∧ State.reset.bell.lesson = 0 ∧
  State.reset.pending = [] ∧ State.reset.dev.pins.ready = false ∧ State.reset.dev.start.island = .starting

/-- BELL increases PERIOD_COUNT by one and begins a lesson when its low ten bits become zero. In every state in which
bells ring (BELL_STATE not OFF, clocks running) and no preset is latched, BELL completes: PERIOD_COUNT increases by
one modulo 2^32, LESSON_COUNT increases by one exactly when PERIOD_COUNT[9:0] becomes zero, and the counter at the
bell is the next multiple of 1,024, or the value itself where a hard step ended on one. (R33) -/
def Obligations.BellAdvancesCounts : Prop :=
  ∀ (i : BellIn) (s : State), s.bell.state ≠ .off → s.dev.start.clocksStopped = false → s.bell.latch = none →
    ∃ b d, Gives (.bell i) s b d ∧ b.period = s.bell.period + 1 ∧
      b.lesson = (if (s.bell.period.toNat + 1) % 1024 = 0 then s.bell.lesson + 1 else s.bell.lesson) ∧
      b.time.toNat = (if s.bell.due then s.bell.ns.toNat / 1024 * 1024 else (s.bell.ns.toNat / 1024 + 1) * 1024 % 2 ^ 32) ∧
      b.readyRisen = (s.bell.readyRisen || (s.dev.start.readyDue && !s.dev.start.fallDue))

/-- A bell after BELL_LOAD sets the counts to the latched values. Where BELL_LOAD has latched a period count and the top
two bits of a lesson count, the next bell sets PERIOD_COUNT to the former and LESSON_COUNT to the latter above the
period's bits 31 to 10, and clears the latch; a bell with BELL_STATE OFF changes nothing. (R36, R34) -/
def Obligations.BellLoadsLatchedPresets : Prop :=
  (∀ (i : BellIn) (s : State) (p : BitVec 32) (top : BitVec 2), s.bell.state ≠ .off → s.dev.start.clocksStopped = false →
    s.bell.latch = some (p, top) →
    ∃ b d, Gives (.bell i) s b d ∧ b.period = p ∧ b.lesson.toNat = top.toNat * 2 ^ 22 + p.toNat / 1024 ∧ b.latch = none) ∧
  ∀ (i : BellIn) (s : State), s.bell.state = .off → exec (.bell i) s = .next s

/-- BELL_STATE enters RUN at the first bell after READY and PRESTART where READY falls. At a bell where a restart or
Recess entry lowers READY, BELL_STATE becomes PRESTART; otherwise a bell with READY already high moves PRESTART to
RUN; in every other case BELL_STATE stays. (R46, R62, R87) -/
def Obligations.BellStateFollowsReady : Prop :=
  ∀ (i : BellIn) (s : State), s.bell.state ≠ .off → s.dev.start.clocksStopped = false →
    ∃ b d, Gives (.bell i) s b d ∧
      b.state = (if s.dev.start.fallDue then .prestart else if s.bell.state = .prestart ∧ s.dev.pins.ready = true then .run else s.bell.state)

/-- Every slot of a period is counted once. Closing a period for a pipe adds to the front-starved and back-starved
counters exactly what it adds to PERF_SLOT_TOTAL less the passes that entered, whatever the cycles and waits of the
period were (counters wrap at 2^64). (R542, R543, R544) -/
def Obligations.SlotCountersAddUp : Prop :=
  ∀ (i : BellIn) (d : Dev) (p : Nat), p < 16 →
    let sum (x : Dev) : Nat := x.rd (M.PERF_SLOT_FRONT p) + x.rd (M.PERF_SLOT_BACK_STEAL p) + x.rd (M.PERF_SLOT_BACK_BUFFER p) +
      x.rd (M.PERF_SLOT_BACK_CORRIDOR p) + x.rd (M.PERF_SLOT_BACK_SAG p)
    (sum (slotCounts i d p) + (d.pipe p).entered + d.rd (M.PERF_SLOT_TOTAL p)) % 2 ^ 64 =
      (sum d + (slotCounts i d p).rd (M.PERF_SLOT_TOTAL p)) % 2 ^ 64

/-- BELL_LOAD checks the presets and latches them. BELL_LOAD that reaches its checks before READY has risen, with
LESSON_PRESET consistent with PERIOD_PRESET, latches both for the next bell and changes nothing else of the bell;
after READY has risen it latches nothing. (R36) -/
def Obligations.BellLoadLatchesPresets : Prop :=
  (∀ (a : Acc) (s : State), Passes s.dev a M.BELL_LOAD → s.bell.readyRisen = false →
    s.dev.rd M.LESSON_PRESET % 2 ^ 22 = s.dev.rd M.PERIOD_PRESET / 1024 → s.dev.rd M.LESSON_PRESET < 2 ^ 24 →
    ∃ d, Gives (.bellLoad a) s { s.bell with latch := some (BitVec.ofNat 32 (s.dev.rd M.PERIOD_PRESET), BitVec.ofNat 2 (s.dev.rd M.LESSON_PRESET / 2 ^ 22)) } d) ∧
  ∀ (a : Acc) (s : State), s.bell.readyRisen = true → ∃ d, Gives (.bellLoad a) s s.bell d

/-- The clock takes the slowest step called for and recovers one step at a time. SAG_STEP_DOWN moves CLOCK_STEP to the
slowest of the present step, the step that the lowest of the sensors' readings calls for and the step that THROTTLE_N
and an AVSBus fault call for, so that it is no faster than the step any one reading calls for, and raises SAG_PEAK to
the sag of the lowest reading; sag is measured against the lower of two targets while a change settles.
SAG_STEP_RECOVER below the step's threshold moves it one step faster where nothing else calls for the step. No member
but CLOCK_STEP, SAG_PEAK and CNT_SAG_STRETCH changes, and no pin. (R74, R75, R76, R77, R79, R80) -/
def Obligations.SagGovernorSetsClockStep : Prop :=
  (∀ (volts : List Nat) (s : State), s.dev.dieRuns = true → Reaches (.sagStepDown volts) s (fun d =>
    d.rd M.CLOCK_STEP = max (s.dev.rd M.CLOCK_STEP) (max (s.dev.sagStep (s.dev.lowest volts)) s.dev.stepFloor) ∧
    (∀ uv ∈ volts, s.dev.sagStep uv ≤ d.rd M.CLOCK_STEP) ∧
    d.rd M.SAG_PEAK = max (s.dev.rd M.SAG_PEAK) (s.dev.sagOf (s.dev.lowest volts)) ∧ d.pins = s.dev.pins ∧
    ∀ id, id ≠ M.CLOCK_STEP → id ≠ M.SAG_PEAK → id ≠ M.CNT_SAG_STRETCH → d.rd id = s.dev.rd id)) ∧
  (∀ (old uv : Nat) (s : State), s.dev.power.avsOld = some old → s.dev.sagTarget = min old (s.dev.rd M.VCORE_TARGET) ∧
    (s.dev.sagStep uv = 3 ↔ 7 * (s.dev.sagTarget * 1000) < (s.dev.sagTarget * 1000 - uv) * 100)) ∧
  ∀ (uv : Nat) (s : State), s.dev.dieRuns = true → s.dev.rd M.CLOCK_STEP ≠ 0 →
    (s.dev.sagTarget * 1000 - uv) * 100 < stepThreshold (s.dev.rd M.CLOCK_STEP) * (s.dev.sagTarget * 1000) →
    s.dev.stepFloor < s.dev.rd M.CLOCK_STEP →
    Reaches (.sagStepRecover uv) s (fun d => d.rd M.CLOCK_STEP = s.dev.rd M.CLOCK_STEP - 1 ∧ d.pins = s.dev.pins ∧
      ∀ id, id ≠ M.CLOCK_STEP → id ≠ M.CNT_SAG_STRETCH → d.rd id = s.dev.rd id)

/-- THROTTLE_N low forces its step, and its rise only releases the pin. While the main rails are up, a falling edge of
THROTTLE_N counts CNT_THROTTLE_PIN, sets ALERT_CAUSE.THROTTLE_PIN and moves the clock at least to THROTTLE_N_STEP;
without them it changes the pin alone, as a rise always does. A pause refresh while throttling, 16 periods or more
after the last pause frames, pauses every lossless class of every port whose link is up, and keeps those paused
before. (R70, R77, R79, R83, R84, R92) -/
def Obligations.ThrottlePinForcesStep : Prop :=
  (∀ s : State, s.dev.dieRuns = true → Reaches .throttleNFall s (fun d => d.pins = { s.dev.pins with throttleLow := true } ∧
    d.rd M.CNT_THROTTLE_PIN = (s.dev.rd M.CNT_THROTTLE_PIN + 1) % 2 ^ 64 ∧ d.rd M.ALERT_CAUSE = s.dev.rd M.ALERT_CAUSE ||| 4 ∧
    s.dev.rd M.THROTTLE_N_STEP ≤ d.rd M.CLOCK_STEP)) ∧
  (∀ s : State, Gives .throttleNRise s s.bell { s.dev with pins := { s.dev.pins with throttleLow := false } }) ∧
  (∀ s : State, s.dev.dieRuns = false → Gives .throttleNFall s s.bell { s.dev with pins := { s.dev.pins with throttleLow := true } }) ∧
  ∀ s : State, s.dev.dieRuns = true → s.dev.on M.THROTTLE_STATE = true →
    16 ≤ (s.bell.period.toNat + 2 ^ 32 - s.dev.power.pausedAt % 2 ^ 32) % 2 ^ 32 →
    Reaches .throttlePauseRefresh s (fun d => d.power.pausedAt = s.bell.period.toNat ∧ d.rd M.CLOCK_STEP = s.dev.rd M.CLOCK_STEP ∧
      ∀ k, k ∈ d.power.paused ↔ k ∈ s.dev.power.paused ∨ k ∈ s.dev.losslessClasses)

/-- Three failed AVSBus transactions hold the clock at step 1 or slower. Each failure counts and asks for a retry, of a
read or of a write as a free value tells (log entry 217); the third in a row sets ALERT_CAUSE.AVS_FAULT and holds the
clock at step 1 or slower; the end of settling leaves the new target alone as the reference for sag. (R74, R75, R80) -/
def Obligations.AvsFailureCounting : Prop :=
  (∀ s : State, s.dev.start.island.answers = true → s.dev.power.avsFails ≠ 2 → Reaches .avsTransactionFail s (fun d =>
    (∃ read : Bool, d.power = { s.dev.power with avsFails := s.dev.power.avsFails + 1, avsRetry := some read }) ∧ d.pins = s.dev.pins ∧
    d.rd M.CNT_AVS_FAULT = (s.dev.rd M.CNT_AVS_FAULT + 1) % 2 ^ 64 ∧ ∀ id, id ≠ M.CNT_AVS_FAULT → d.rd id = s.dev.rd id)) ∧
  (∀ s : State, s.dev.start.island.answers = true → s.dev.power.avsFails = 2 → Reaches .avsTransactionFail s (fun d => d.power.avsFault = true ∧
    d.power.avsRetry.isSome = true ∧ d.rd M.CNT_AVS_FAULT = (s.dev.rd M.CNT_AVS_FAULT + 1) % 2 ^ 64 ∧
    d.rd M.ALERT_CAUSE = s.dev.rd M.ALERT_CAUSE ||| 8 ∧ 1 ≤ d.rd M.CLOCK_STEP)) ∧
  (∀ s : State, s.dev.start.island.answers = false → exec .avsTransactionFail s = .next s) ∧
  ∀ s : State, Gives .avsSettleEnd s s.bell { s.dev with power := { s.dev.power with avsOld := none } }

/-- A sensor at 120 °C trips, and the trip is released with VCORE_PG low below 100 °C. THERMTRIP at 120,000 m°C or more
stops the clocks, idles every lane, drives THERMTRIP_N low and sets ALERT_CAUSE.THERMTRIP; it is released only with
VCORE_PG low and the hottest sensor below 100,000 m°C, and a release that does not meet this changes nothing. (R86,
R110) -/
def Obligations.ThermalTripAndRelease : Prop :=
  (∀ (temp : Int) (s : State), 120000 ≤ temp → Reaches (.thermtrip temp) s (fun d => d.pins.thermtrip = true ∧ d.start.clocksStopped = true ∧
    d.start.txIdle = true ∧ d.rd M.ALERT_CAUSE = s.dev.rd M.ALERT_CAUSE ||| 16)) ∧
  (∀ (temp : Int) (s : State), s.dev.pins.vcorePg = false → temp < 100000 →
    Gives (.thermtripRelease temp) s s.bell { s.dev with pins := { s.dev.pins with thermtrip := false } }) ∧
  ∀ (temp : Int) (s : State), (s.dev.pins.vcorePg = true ∨ 100000 ≤ temp) → exec (.thermtripRelease temp) s = .next s

/-- The island latches its straps, chooses its image, and VCORE_PG starts and ends the main sequence. VAUX_UP and a pin
reset of 10 µs latch the straps and stop the time base; VAUX_LOSS stops the island; ISLAND_START runs the primary
image where BOOTSEL[0] is 0 and it verifies; VCORE_PG_RISE starts the sequence at step 2; VCORE_PG_FALL of 200 ns or
more lowers READY, stops the bell, holds LIFE and ROLL_READY low and returns to MAIN_OFF. (R93, R94, R95, R96, R98,
R106, R109, R115, R551, R563) -/
def Obligations.IslandAndRailsStart : Prop :=
  (∀ (x : Straps) (s : State), s.dev.pins.vaux = false → ∃ d, Gives (.vauxUp x) s BellSt.init d ∧ d.start.island = .starting ∧
    d.pins.vaux = true ∧ d.rd M.STRAP_NODEID = x.nodeId % 256) ∧
  (∀ s : State, s.dev.pins.vaux = true → ∃ d, Gives .vauxLoss s BellSt.init d ∧ d.start.island = .off ∧ d.pins.vaux = false) ∧
  (∀ (ns : Nat) (x : Straps) (s : State), 10000 ≤ ns → s.dev.pins.vaux = true → ∃ d, Gives (.resetNPulse ns x) s { BellSt.init with readyRisen := s.bell.readyRisen } d ∧
    d.start.island = .starting ∧ d.rd M.STRAP_BOOTSEL = x.bootSel % 4 ∧ d.pins.thermtrip = s.dev.pins.thermtrip ∧ d.start.boot = s.dev.start.boot) ∧
  (∀ (im : IslandImages) (s : State), s.dev.start.island = .starting → s.dev.pins.vaux = true → s.dev.pins.vcorePg = false →
    s.dev.rd M.STRAP_BOOTSEL % 2 = 0 → im.primary = true →
    Gives (.islandStart im) s s.bell { s.dev.wr M.BOOT_IMAGE 0 with start := { s.dev.start with island := .running, state := .mainOff } }) ∧
  (∀ s : State, s.dev.start.island = .running → s.dev.start.state = .mainOff → ∃ d, Gives .vcorePgRise s { BellSt.init with readyRisen := s.bell.readyRisen } d ∧
    d.start.state = .starting ∧ d.rd M.START_STEP = 2 ∧ d.rd M.ROLL_READY = 0 ∧ d.pins.vcorePg = true) ∧
  ∀ (ns : Nat) (s : State), 200 ≤ ns → s.dev.start.island = .running → ∃ d, Gives (.vcorePgFall ns) s { s.bell with state := .off, latch := none, due := false } d ∧
    d.start.state = .mainOff ∧ d.pins.ready = false ∧ d.pins.vcorePg = false ∧ d.pins.life = false ∧ d.start.txIdle = true ∧ d.rd M.ROLL_READY = 0 ∧
    d.rd M.CNT_RAIL_LOSS = (s.dev.rd M.CNT_RAIL_LOSS + b2n s.dev.pins.ready) % 2 ^ 64

/-- The main sequence passes from step to step, holds, fails and is retried. A finished step 2 locks the PLLs and begins
step 3; a finished step 7 starts the time base in PRESTART at counter 0, keeping the presets a BELL_LOAD latched, and
begins step 9; a finished step 9 makes READY due; a step that exceeds its time leaves the device FAILED with the step
in START_FAIL_STEP; START_RELEASE in HOLD begins step 9 with READY due; START_RETRY after a failure begins again at
step 2; ROLL_READY rises once zeroing ends. (R36, R98, R99, R101, R105, R115) -/
def Obligations.MainSequenceSteps : Prop :=
  (∀ (i : StepIn) (s : State), s.dev.start.state = .starting → s.dev.rd M.START_STEP = 2 → s.dev.start.readyDue = false → i.fail = none →
    s.dev.start.elapsedMs + i.ms ≤ 5 → Reaches (.mainSeqStepDone i) s (fun d => d.rd M.START_STEP = 3 ∧ d.start.pllLocked = true ∧ d.start.state = .starting)) ∧
  (∀ (i : StepIn) (s : State), s.dev.start.state = .starting → s.dev.rd M.START_STEP = 7 → s.dev.start.readyDue = false → i.fail = none →
    s.dev.start.elapsedMs + i.ms ≤ 1450 → s.dev.on M.START_HOLD = false →
    ∃ d, Gives (.mainSeqStepDone i) s { BellSt.init with state := .prestart, latch := s.bell.latch } d ∧ d.rd M.START_STEP = 9 ∧ d.pins.lifeRuns = true) ∧
  (∀ (i : StepIn) (s : State), s.dev.start.state = .starting → s.dev.rd M.START_STEP = 9 → s.dev.start.readyDue = false →
    s.dev.start.elapsedMs + i.ms ≤ 1500 → Reaches (.mainSeqStepDone i) s (fun d => d.start.readyDue = true ∧ d.reg = s.dev.reg)) ∧
  (∀ s : State, s.dev.start.state = .starting → 2 ≤ s.dev.rd M.START_STEP → s.dev.rd M.START_STEP ≤ 9 → s.dev.rd M.START_STEP ≠ 8 →
    s.dev.start.readyDue = false →
    Reaches .mainSeqStepTimeout s (fun d => d.start.state = .failed ∧ d.rd M.START_FAIL_STEP = s.dev.rd M.START_STEP ∧ d.start.txIdle = true)) ∧
  (∀ (a : Acc) (s : State), Passes s.dev a M.START_RELEASE → s.dev.start.state = .hold →
    Gives (.startRelease a) s s.bell { s.dev.wr M.START_STEP 9 with start := { s.dev.start with readyDue := true } }) ∧
  (∀ (a : Acc) (s : State), Passes s.dev a M.START_RETRY → s.dev.start.state = .failed → s.dev.rd M.START_FAIL_STEP ≠ 0 → s.dev.pins.vcorePg = true →
    Reaches (.startRetry a) s (fun d => d.start.state = .starting ∧ d.rd M.START_STEP = 2 ∧ d.start.elapsedMs = 0)) ∧
  ∀ s : State, s.dev.dieRuns = true → s.dev.start.zeroing = true → s.dev.pins.ready = true →
    Reaches .rollReady s (fun d => d.rd M.ROLL_READY = 1 ∧ d.rd M.ROLL_ZERO_PROGRESS = 100 ∧ d.start.zeroing = false)

/-- PERST_N, Function Level Reset and LIFE do what their rules say. PERST_N low takes the link down and empties every ring
without a head record; PERST_N high permits training; a trained link sets PCIE_LINK; a Function Level Reset clears
class RING and leaves no segmentation request that makes more segments or that a ring knows; LIFE changes level while
it runs, and stops; a stretched board-bus clock ends with a stop condition. (R103, R106, R108, R112, R457, R556) -/
def Obligations.PcieAndLifePins : Prop :=
  (∀ s : State, Reaches .perstNAssert s (fun d => d.pins.perstHigh = false ∧ d.start.pcieUp = false ∧ d.rings.rings = [] ∧ d.out = s.dev.out ∧
    ∀ q ∈ d.segs, q.ring = 256 ∧ q.seq = q.count)) ∧
  (∀ s : State, Gives .perstNDeassert s s.bell { s.dev with pins := { s.dev.pins with perstHigh := true } }) ∧
  (∀ s : State, s.dev.dieRuns = true → Reaches .functionLevelReset s (fun d => d.rings.rings = [] ∧ (∀ q ∈ d.segs, q.ring = 256 ∧ q.seq = q.count) ∧
    d.start.pcieUp = s.dev.start.pcieUp ∧ d.rings.events = s.dev.rings.events)) ∧
  (∀ (w g : Nat) (s : State), s.dev.start.pllLocked = true → s.dev.pins.perstHigh = true → s.dev.dieRuns = true →
    Gives (.pcieLinkUp w g) s s.bell { s.dev.wr M.PCIE_LINK (w % 256 * 256 + g % 16) with start := { s.dev.start with pcieUp := true } }) ∧
  (∀ s : State, s.bell.state ≠ .off → s.dev.pins.lifeRuns = true → s.dev.dieRuns = true →
    Gives .lifeToggle s s.bell { s.dev with pins := { s.dev.pins with life := !s.dev.pins.life } }) ∧
  (∀ s : State, Gives .lifeStop s s.bell { s.dev with pins := { s.dev.pins with lifeRuns := false } }) ∧
  ∀ s : State, s.dev.start.island.answers = true → Gives .i2cStretchTimeout s s.bell (s.dev.emit .i2cStop)

/-- Saved values reach the boot store, and a restart latches palette and seeds and makes READY due to fall. Each of
PALETTE_SAVE, ROLL_SEED_SAVE, KEY_SAVE, DATAPATH_RESTART and RESTART_COMPLETE completes where it passes its checks.
The three saves put the present values into the boot store; PALETTE_SAVE sets RESTART_STATUS to ST_OK, but leaves the
ST_PENDING of a restart that runs (log entry 207). DATAPATH_RESTART in READY with a valid pair latches it with the
three seeds, ends an open transaction, sets RESTART_STATUS to ST_PENDING and makes READY due to fall; with an invalid
pair it sets ST_INCONSISTENT and nothing else of the restart. RESTART_COMPLETE makes READY due to rise. (R58, R59,
R60, R61, R62, R185, R273, R298) -/
def Obligations.SavesAndRestart : Prop :=
  (∀ (a : Acc) (s : State), Passes s.dev a M.PALETTE_SAVE → ∃ d, exec (.paletteSave a) s = .next { s with dev := d } ∧
    d.start = { s.dev.start with boot := { s.dev.start.boot with palette := some (s.dev.rd M.PALETTE_NEXT, s.dev.rd M.PIPE_GATE_NEXT) } } ∧
    d.rd M.RESTART_STATUS = (if s.dev.start.state = .restarting then s.dev.rd M.RESTART_STATUS else St.OK)) ∧
  (∀ (a : Acc) (s : State), Passes s.dev a M.ROLL_SEED_SAVE → exec (.rollSeedSave a) s = .next { s with dev := { s.dev with start := { s.dev.start with boot :=
    { s.dev.start.boot with seeds := some (s.dev.rd M.ROLL_SEED_1, s.dev.rd M.ROLL_SEED_2, s.dev.rd M.ROLL_SEED_3) } } } }) ∧
  (∀ (a : Acc) (s : State), Passes s.dev a M.KEY_SAVE → ∃ d, exec (.keySave a) s = .next { s with dev := d } ∧
    d.start.boot.keys = some ((List.range 3).map (fun k => SMap.get (fun _ => none) s.dev.denlys.keys k)) ∧ d.reg = s.dev.reg) ∧
  (∀ (a : Acc) (s : State), Passes s.dev a M.DATAPATH_RESTART → s.dev.start.state = .ready →
    gateRuleOk (s.dev.rd M.PALETTE_NEXT) (s.dev.rd M.PIPE_GATE_NEXT) = true → ∃ d, exec (.datapathRestart a) s = .next { s with dev := d } ∧
    d.start = { s.dev.start with
      state := .restarting, fallDue := true, latched := some (s.dev.rd M.PALETTE_NEXT, s.dev.rd M.PIPE_GATE_NEXT)
      seeds := (s.dev.rd M.ROLL_SEED_1, s.dev.rd M.ROLL_SEED_2, s.dev.rd M.ROLL_SEED_3) } ∧
    d.rd M.RESTART_STATUS = St.PENDING ∧ d.txn.state = .idle) ∧
  (∀ (a : Acc) (s : State), Passes s.dev a M.DATAPATH_RESTART → s.dev.start.state = .ready →
    gateRuleOk (s.dev.rd M.PALETTE_NEXT) (s.dev.rd M.PIPE_GATE_NEXT) = false → ∃ d, exec (.datapathRestart a) s = .next { s with dev := d } ∧
    d.start = s.dev.start ∧ d.rd M.RESTART_STATUS = St.INCONSISTENT ∧ d.txn = s.dev.txn) ∧
  ∀ s : State, s.dev.dieRuns = true → s.dev.start.state = .restarting → s.dev.start.fallDue = false → s.dev.start.readyDue = false →
    ∃ d, exec .restartComplete s = .next { s with dev := d } ∧ d.start = { s.dev.start with readyDue := true } ∧
      ∀ l, l < 256 → bitOf ((s.dev.start.latched.getD (1, 0)).2) (l / 16) = false → d.rd (M.LANE_CAL_STATUS l) = 1 ∨ d.rd (M.LANE_CAL_STATUS l) = 2

/-- Recess is entered where its checks pass, and left by a wake. Each of RECESS_ENTER, RECESS_DRAIN_TIMEOUT,
RECESS_ENTRY_COMPLETE, RECESS_EXIT and RECESS_WAKE_COMPLETE completes in the state it belongs to. RECESS_ENTER that
passes its checks begins entry and makes READY due to fall; the drain time-out empties the packet buffer; entry
completes in RECESS with ST_OK; RECESS_EXIT in Recess begins the wake with its cause, 3 from a Denlys session and 2
over PCIe; wake completes with READY high, AWAKE and the bell untouched. (R87, R88, R89, R90, R91) -/
def Obligations.RecessEntersAndWakes : Prop :=
  (∀ (a : Acc) (s : State), Passes s.dev a M.RECESS_ENTER → recessCheck s.dev = St.OK → ∃ d, exec (.recessEnter a) s = .next { s with dev := d } ∧
    d.start.recess = .entering ∧ d.start.fallDue = true ∧ d.start.state = .recess ∧ d.rd M.RECESS_STATUS = St.PENDING) ∧
  (∀ s : State, s.dev.dieRuns = true → s.dev.start.recess = .entering → s.dev.start.fallDue = false → s.dev.start.drained = false →
    ∃ d, exec .recessDrainTimeout s = .next { s with dev := d } ∧ d.switch.frames = [] ∧ d.descs = [] ∧ d.start.drained = true) ∧
  (∀ s : State, s.dev.dieRuns = true → s.dev.start.recess = .entering → s.dev.start.fallDue = false → s.dev.start.wakeLatch = none →
    ∃ d, exec .recessEntryComplete s = .next { s with dev := d } ∧ d.start.recess = .recess ∧ d.rd M.RECESS_STATUS = St.OK) ∧
  (∀ (a : Acc) (s : State), Passes s.dev a M.RECESS_EXIT → s.dev.start.recess = .recess → ∃ d, exec (.recessExit a) s = .next { s with dev := d } ∧
    d.start.recess = .waking ∧ d.rd M.RECESS_WAKE_CAUSE = (match a.who with | .d _ => 3 | _ => 2) ∧ d.rd M.RECESS_STATUS = St.PENDING) ∧
  ∀ s : State, s.dev.dieRuns = true → s.dev.start.recess = .waking → ∃ d, exec .recessWakeComplete s = .next { s with dev := d } ∧
    d.start.recess = .awake ∧ d.start.state = .ready ∧ d.pins.ready = true ∧ d.rd M.RECESS_STATUS = St.OK

/-- A table command that passes its checks runs, and one written to a busy interface is only counted. Each of the nine TBL
commands completes. Once BAR0 gives access to the pages, or through an interface of the island: a command of any
operation but NOP, written to an idle interface, with every check of its word passed, starts: the interface is busy
with it, its staging words, every other interface, every table and every member are as they were. NOP starts nothing
and leaves TBL_STATUS. A command written to a busy interface is discarded and counted in CNT_TBL_BUSY_WRITE. (R103,
R135, R136, R137, R141) -/
def Obligations.TableCommandsStart : Prop :=
  (∀ p ∈ [(1, Instr.tblRead), (2, Instr.tblWrite), (3, Instr.tblInsert), (4, Instr.tblCas), (5, Instr.tblDelete), (6, Instr.tblCasDelete),
      (7, Instr.tblNext), (8, Instr.tblSearch)], ∀ (iface cmd : Nat) (s : State),
    fld cmd 44 4 = p.1 → iface < 16 → (s.dev.iface iface).running = none →
    tblCheck s.dev (TblCmd.ofNat cmd) (ifaceOpen s.dev iface) false = St.OK →
    ∃ d, exec (p.2 iface cmd) s = .next { s with dev := d } ∧
      (d.iface iface).running = some (TblCmd.ofNat cmd) ∧ (d.iface iface).key = (s.dev.iface iface).key ∧
      (d.iface iface).data = (s.dev.iface iface).data ∧ d.tabs = s.dev.tabs ∧ d.reg = s.dev.reg ∧
      ∀ k, k ≠ iface → d.iface k = s.dev.iface k) ∧
  (∀ (iface cmd : Nat) (s : State), fld cmd 44 4 = 0 → iface < 16 → (12 ≤ iface ∨ s.dev.bar0Closed = false) → (s.dev.iface iface).running = none →
    ∃ d, exec (.tblNop iface cmd) s = .next { s with dev := d } ∧
      (d.iface iface).running = none ∧ (d.iface iface).status = (s.dev.iface iface).status ∧
      (d.iface iface).data = (s.dev.iface iface).data ∧ d.tabs = s.dev.tabs ∧ d.reg = s.dev.reg ∧ ∀ k, k ≠ iface → d.iface k = s.dev.iface k) ∧
  ∀ p ∈ [(0, Instr.tblNop), (1, Instr.tblRead), (2, Instr.tblWrite), (3, Instr.tblInsert), (4, Instr.tblCas), (5, Instr.tblDelete),
      (6, Instr.tblCasDelete), (7, Instr.tblNext), (8, Instr.tblSearch)], ∀ (iface cmd : Nat) (s : State),
    fld cmd 44 4 = p.1 → iface < 16 → (12 ≤ iface ∨ s.dev.bar0Closed = false) → (s.dev.iface iface).running.isSome = true →
    exec (p.2 iface cmd) s = .next { s with dev := s.dev.bump M.CNT_TBL_BUSY_WRITE }

/-- A running READ or DELETE of tables 6 to 9 ends with its entry, and a time-out has no effect. TBL_COMMAND_COMPLETE and
TBL_COMMAND_TIMEOUT complete. Within its 64 periods, a READ of a row of tables 6 to 9 returns the row's image and
changes no table and no member, and a DELETE of a valid row that no transaction touches clears its VALID; both clear
BUSY with ST_OK and RESULT_INDEX; one whose memory does not answer goes on. After 64 periods a command ends with
ST_UNAVAILABLE and changes no table, whether its memory then answers or not. (R137, R139, R140, R141) -/
def Obligations.TableCommandsEnd : Prop :=
  (∀ (iface : Nat) (c : TblCmd) (s : State), s.dev.dieRuns = true → (s.dev.iface iface).running = some c → (s.dev.iface iface).age < 64 →
    c.staged = false → c.op = 1 → 6 ≤ c.table → c.table ≤ 9 →
    ∃ d, exec (.tblCommandComplete iface .ok) s = .next { s with dev := d } ∧
      (d.iface iface).running = none ∧ d.tabs = s.dev.tabs ∧ d.reg = s.dev.reg ∧
      (d.iface iface).data = fit 128 (rowImage c.table (s.dev.rowSeen c.table c.index).2) ∧
      (d.iface iface).status = b2n (rowIsValid c.table (s.dev.rowSeen c.table c.index).2) * 2 ^ 49 + St.OK % 65536 * 2 ^ 32 + c.index % 2 ^ 32) ∧
  (∀ (iface : Nat) (c : TblCmd) (s : State), s.dev.dieRuns = true → (s.dev.iface iface).running = some c → (s.dev.iface iface).age < 64 →
    c.staged = false → c.op = 5 → 6 ≤ c.table → c.table ≤ 9 →
    rowIsValid c.table (s.dev.rowSeen c.table c.index).2 = true → s.dev.indexStaged c.table c.index = false →
    (s.dev.rowSeen c.table c.index).2.win.isStable = true → (c.table ≤ 7 ∨ (s.dev.rowAt c.table 1 c.index).valid = false) →
    ∃ d, exec (.tblCommandComplete iface .ok) s = .next { s with dev := d } ∧
      (d.iface iface).running = none ∧ d.reg = s.dev.reg ∧
      d.row (rowKey c.table 0 0 c.index) = some { (s.dev.rowSeen c.table c.index).2 with valid := false } ∧
      (∀ k, k ≠ rowKey c.table 0 0 c.index → d.row k = s.dev.row k) ∧ (d.iface iface).data = (s.dev.iface iface).data ∧
      (d.iface iface).status = St.OK % 65536 * 2 ^ 32 + c.index % 2 ^ 32) ∧
  (∀ (iface : Nat) (s : State), (s.dev.iface iface).running.isSome = true → (s.dev.iface iface).age < 64 →
    exec (.tblCommandComplete iface .unavailable) s = .next s) ∧
  ∀ (iface : Nat) (o : MemOutcome) (s : State), s.dev.dieRuns = true → (s.dev.iface iface).running.isSome = true → 64 ≤ (s.dev.iface iface).age →
    ∀ i ∈ [Instr.tblCommandComplete iface o, .tblCommandTimeout iface], ∃ d, exec i s = .next { s with dev := d } ∧
      (d.iface iface).running = none ∧ d.tabs = s.dev.tabs ∧ d.reg = s.dev.reg ∧
      (d.iface iface).status / 2 ^ 32 = St.UNAVAILABLE

/-- A PCIe write reaches its member, is staged, clears bits, or is rejected and recorded. REGISTER_WRITE, RC_CLEAR and
STAGED_WRITE complete on every write that passes its checks. A 4- or 8-byte PCIe write of a plain RW member that
passes every check stores the value and changes nothing else; one that fails changes no other member than the records
of the rejection; a write of an RC bit field clears exactly the bits written as 1; a write of an RWS member by the
owner is staged and leaves the value in force. (R118, R120, R122, R123, R124, R149) -/
def Obligations.HostRegisterWrites : Prop :=
  (∀ (w : PcieWrite) (id : Nat) (m : MemberRow) (s : State), w.bar = 0 → w.addr < 0x0A000000 → w.data ≠ [] → placeOf w.addr = .member id 0 →
    findMember id = some m → m.k = .rw → id ≠ M.BELL_LOAD → triggerOf s.bell .k id = none → writeOf id = none → s.dev.gate (id / 2 ^ 24) = false →
    s.dev.start.pcieUp = true → s.dev.writeStatus { who := .k, val := leVal w.data, width := w.data.length } id = St.OK →
    ownRule s.dev id (storedValue id (leVal w.data)) = St.OK → exec (.registerWrite w) s = .next { s with dev := s.dev.wr id (storedValue id (leVal w.data)) }) ∧
  (∀ (w : PcieWrite) (id st : Nat) (m : MemberRow) (s : State), w.bar = 0 → w.addr < 0x0A000000 → w.data ≠ [] → placeOf w.addr = .member id 0 →
    findMember id = some m → m.k = .rw → id ≠ M.BELL_LOAD → triggerOf s.bell .k id = none → writeOf id = none → s.dev.gate (id / 2 ^ 24) = false →
    s.dev.start.pcieUp = true → s.dev.writeStatus { who := .k, val := leVal w.data, width := w.data.length } id = st → st ≠ St.OK →
    ∃ d, exec (.registerWrite w) s = .next { s with dev := d } ∧
      d.rd M.LAST_WRITE_STATUS = st % 2 ^ 64 ∧ d.rd M.LAST_WRITE_ID = id % 2 ^ 64 ∧
      d.rd M.CNT_WRITE_REJECT = (s.dev.rd M.CNT_WRITE_REJECT + 1) % 2 ^ 64 ∧
      ∀ k, k ∉ [M.LAST_WRITE_STATUS, M.LAST_WRITE_ID, M.CNT_WRITE_REJECT, M.CNT_ACCESS_DENIED, M.CNT_NO_OBJECT] → d.rd k = s.dev.rd k) ∧
  (∀ (w : PcieWrite) (id : Nat) (m : MemberRow) (s : State), w.bar = 0 → w.addr < 0x0A000000 → w.data ≠ [] → placeOf w.addr = .member id 0 →
    findMember id = some m → m.k = .rc → (m.ty = .bits32 ∨ m.ty = .bits64) → id ≠ M.BELL_LOAD → triggerOf s.bell .k id = none → writeOf id = none →
    s.dev.gate (id / 2 ^ 24) = false → s.dev.start.pcieUp = true →
    s.dev.writeStatus { who := .k, val := leVal w.data, width := w.data.length } id = St.OK →
    ∃ d, exec (.rcClear w) s = .next { s with dev := d } ∧
      (∀ k, k ≠ id → d.rd k = s.dev.rd k) ∧
      ∀ j, j < 64 → bitOf (d.rd id) j = (bitOf (s.dev.rd id) j && !bitOf (storedValue id (leVal w.data)) j)) ∧
  (∀ (w : PcieWrite) (id : Nat) (m : MemberRow) (s : State), w.bar = 0 → w.addr < 0x0A000000 → w.data ≠ [] → placeOf w.addr = .member id 0 →
    findMember id = some m → m.k = .rws → id ≠ M.BELL_LOAD → id ≠ M.TXN_STAGED_OBJECTS → triggerOf s.bell .k id = none → writeOf id = none →
    s.dev.gate (id / 2 ^ 24) = false → s.dev.start.pcieUp = true → s.dev.txn.members.length < 4096 →
    s.dev.writeStatus { who := .k, val := leVal w.data, width := w.data.length } id = St.OK →
    memberDenied id (storedValue id (leVal w.data)) = false →
    ∃ d, exec (.stagedWrite w) s = .next { s with dev := d } ∧
      d.rd id = s.dev.rd id ∧ d.txn.member id = some (BitVec.ofNat 64 (storedValue id (leVal w.data))) ∧
      d.rd M.TXN_STAGED_OBJECTS = d.txn.members.length % 2 ^ 64 ∧ d.txn.state = s.dev.txn.state ∧
      (∀ k, k ≠ id → d.txn.member k = s.dev.txn.member k) ∧ ∀ k, k ≠ M.TXN_STAGED_OBJECTS → d.rd k = s.dev.rd k)

/-- Writing a key slot stores the key and ends every session of its role. KEY_SLOT_WRITE completes: a PCIe write of the 32
bytes of a key slot stores them, leaves the other two slots, and leaves no session of the slot's role open. (R185) -/
def Obligations.KeySlotHoldsItsKey : Prop :=
  ∀ (w : PcieWrite) (slot : Nat) (s : State), slot < 3 → w.bar = 0 → w.addr = 0x08B10000 + 32 * slot → w.data.length = 32 →
    s.dev.start.pcieUp = true → (∀ k, SMap.get (fun _ => none) s.dev.denlys.keys slot = some k → k.length = 32) →
    ∃ d, exec (.keySlotWrite w) s = .next { s with dev := d } ∧
      SMap.get (fun _ => none) d.denlys.keys slot = some w.data ∧
      (∀ j, j ≠ slot → SMap.get (fun _ => none) d.denlys.keys j = SMap.get (fun _ => none) s.dev.denlys.keys j) ∧
      ∀ k x, k < 9 → d.session k = some x → x.role ≠ slot

/-- A transaction opens, is validated, fails, is rolled back or aborted. Each of the five commands completes in the state
it belongs to. TXN_BEGIN with no transaction opens one for its principal; TXN_COMMIT by the owner in OPEN starts
validation with ST_PENDING; a failed validation discards the staged set, counts CNT_TXN_FAIL and leaves the failing
check's status; TXN_ROLLBACK of an open transaction and the idle abort discard the staged set, each with its own
status and counter. (R146, R147, R148, R153, R158, R159, R160) -/
def Obligations.TransactionLifeCycle : Prop :=
  (∀ (a : Acc) (s : State), Passes s.dev a M.TXN_BEGIN → s.dev.txn.state = .idle → ∃ d, exec (.txnBegin a) s = .next { s with dev := d } ∧
      d.txn = { s.dev.txn with state := .opened, idleLessons := 0 } ∧ d.rd M.TXN_OWNER = a.who.owner % 2 ^ 64 ∧ d.rd M.TXN_STATUS = St.OK ∧
    ∀ k, k ∉ [M.TXN_OWNER, M.TXN_STATUS, M.TXN_PREPARED_ENTRIES] → d.rd k = s.dev.rd k) ∧
  (∀ (a : Acc) (s : State), Passes s.dev a M.TXN_BEGIN → a.who = .k → s.dev.txn.state ≠ .idle → s.dev.rd M.TXN_OWNER ≠ 1 →
    ∃ d, exec (.txnBegin a) s = .next { s with dev := d } ∧
      d.txn = s.dev.txn ∧ d.rd M.LAST_WRITE_STATUS = St.TXN_HELD ∧ d.rd M.TXN_OWNER = s.dev.rd M.TXN_OWNER) ∧
  (∀ (a : Acc) (s : State), Passes s.dev a M.TXN_COMMIT → s.dev.txn.state = .opened → s.dev.rd M.TXN_OWNER = a.who.owner →
    ∃ d, exec (.txnCommit a) s = .next { s with dev := d } ∧
      d.txn = { s.dev.txn with state := .validating, passed := false, heldPools := d.txn.heldPools } ∧
      (∀ p, p ∈ d.txn.heldPools ↔ 1 ≤ p ∧ p ≤ 4 ∧ s.dev.granted p ≠ []) ∧ d.rd M.TXN_STATUS = St.PENDING ∧
      ∀ k, k ≠ M.TXN_STATUS → d.rd k = s.dev.rd k) ∧
  (∀ (e : Dev) (s : State), s.dev.dieRuns = true → s.dev.txn.state = .validating → s.dev.txn.passed = false → validate s.dev = .ok e →
    exec .txnValidationDone s = .next { s with dev := { e with txn := { e.txn with passed := true } } }) ∧
  (∀ (f : CheckFail) (s : State), s.dev.dieRuns = true → s.dev.txn.state = .validating → s.dev.txn.passed = false → validate s.dev = .error f →
    ∃ d, exec .txnValidationDone s = .next { s with dev := d } ∧
      d.txn.state = .idle ∧ d.txn.members = [] ∧ d.txn.areas = [] ∧ d.txn.ops = [] ∧
      d.rd M.TXN_STATUS = f.code % 2 ^ 64 ∧ d.rd M.TXN_OWNER = 0 ∧ d.rd M.CNT_TXN_FAIL = (s.dev.rd M.CNT_TXN_FAIL + 1) % 2 ^ 64 ∧ d.tabs = s.dev.tabs) ∧
  (∀ (a : Acc) (s : State), Passes s.dev a M.TXN_ROLLBACK → s.dev.txn.state = .opened → s.dev.rd M.TXN_OWNER = a.who.owner →
    ∃ d, exec (.txnRollback a) s = .next { s with dev := d } ∧
      d.txn.state = .idle ∧ d.txn.members = [] ∧ d.txn.areas = [] ∧ d.txn.ops = [] ∧
      d.rd M.TXN_STATUS = St.OK ∧ d.rd M.TXN_OWNER = 0 ∧ d.rd M.CNT_TXN_ROLLBACK = (s.dev.rd M.CNT_TXN_ROLLBACK + 1) % 2 ^ 64 ∧ d.tabs = s.dev.tabs) ∧
  ∀ s : State, s.dev.dieRuns = true → s.dev.txn.state = .opened → s.dev.rd M.TXN_IDLE_LIMIT ≠ 0 → s.dev.rd M.TXN_IDLE_LIMIT ≤ s.dev.txn.idleLessons →
    ∃ d, exec .txnIdleAbort s = .next { s with dev := d } ∧
      d.txn.state = .idle ∧ d.txn.members = [] ∧ d.txn.areas = [] ∧ d.txn.ops = [] ∧
      d.rd M.TXN_STATUS = St.TXN_ABORTED ∧ d.rd M.TXN_OWNER = 0 ∧ d.rd M.CNT_TXN_ABORT = (s.dev.rd M.CNT_TXN_ABORT + 1) % 2 ^ 64 ∧ d.tabs = s.dev.tabs

/-- Denlys frames are verified before they act, and HELLO opens a session under a fresh key. DENLYS_FRAME_RX and HELLO
complete where the island answers. A frame with a wrong FCS is counted; a session's frame whose TAG does not verify is
counted and does nothing more; a verified request newer than the last restarts its session's timer and waits for
execution. A HELLO that names an empty slot is answered without a session; a verified HELLO with a free session opens
one with the derived key and the agreed version, under a nonce that has not been given out. (R176, R178, R182, R183,
R186, R187) -/
def Obligations.DenlysFramesAndHello : Prop :=
  (∀ (f : Bytes) (rx : DenRx) (s : State), s.dev.start.island.answers = true → rx.fcsOk = false →
    exec (.denlysFrameRx f rx) s = .next { s with dev := s.dev.bump M.CNT_DENLYS_FCS }) ∧
  (∀ (f : Bytes) (rx : DenRx) (x : Session) (s : State), s.dev.start.island.answers = true → rx.fcsOk = true → beAt f 0 6 = Config.denlysMac % 2 ^ 48 →
    beAt f 12 2 = s.dev.rd M.DENLYS_ETHERTYPE → byteAt (f.drop 14) 1 ≠ 1 → s.dev.session (byteAt (f.drop 14) 2) = some x →
    tagOk x.key (f.drop 14) = false →
    exec (.denlysFrameRx f rx) s = .next { s with dev := (s.dev.bump M.CNT_DENLYS_RX).bump M.CNT_DENLYS_BAD_TAG }) ∧
  (∀ (f : Bytes) (rx : DenRx) (x : Session) (s : State), s.dev.start.island.answers = true → rx.fcsOk = true → beAt f 0 6 = Config.denlysMac % 2 ^ 48 →
    beAt f 12 2 = s.dev.rd M.DENLYS_ETHERTYPE → requestOps.contains (byteAt (f.drop 14) 1) = true →
    s.dev.session (byteAt (f.drop 14) 2) = some x → tagOk x.key (f.drop 14) = true → s.dev.denlys.requests = [] → x.seq = none →
    0 < beAt (f.drop 14) 4 4 → beAt (f.drop 14) 4 4 < 2 ^ 31 →
    ∃ d, exec (.denlysFrameRx f rx) s = .next { s with dev := d } ∧
      d.denlys.requests = [{ src := beAt f 6 6, ns := rx.ns, part := f.drop 14 }] ∧ d.denlys.ready = s.dev.denlys.ready ∧
      d.session (byteAt (f.drop 14) 2) = some { x with heard := rx.ns } ∧ (∀ k, k ≠ byteAt (f.drop 14) 2 → d.session k = s.dev.session k) ∧
      d.reg = (s.dev.bump M.CNT_DENLYS_RX).reg) ∧
  (∀ (nonce ms : Nat) (r : DenReq) (s : State), s.dev.denlys.requests = [r] → byteAt r.part 1 = 1 →
    byteAt (denlysPayload r.part) 2 < 3 → SMap.get (fun _ => none) s.dev.denlys.keys (byteAt (denlysPayload r.part) 2) = none →
    s.dev.denlys.refused = [] →
    ∃ d, exec (.denlysHello nonce ms) s = .next { s with dev := d } ∧ d.denlys.sessions = s.dev.denlys.sessions ∧ d.denlys.requests = [] ∧
      d.denlys.ready.length = s.dev.denlys.ready.length + 1 ∧ d.rd M.CNT_DENLYS_NO_KEY = (s.dev.rd M.CNT_DENLYS_NO_KEY + 1) % 2 ^ 64 ∧
      d.denlys.refused = [(r.src, ms)]) ∧
  (∀ (nonce ms : Nat) (r : DenReq) (k : Bytes) (s : State), s.dev.denlys.requests = [r] → byteAt r.part 1 = 1 →
    byteAt (denlysPayload r.part) 2 < 3 → SMap.get (fun _ => none) s.dev.denlys.keys (byteAt (denlysPayload r.part) 2) = some k →
    tagOk k r.part = true → max 1 (byteAt (denlysPayload r.part) 0) ≤ min (byteAt (denlysPayload r.part) 1) (s.dev.rd M.DENLYS_VERSION_MAX) →
    (∀ n, s.dev.session n = none) →
    ∃ d, exec (.denlysHello nonce ms) s = .next { s with dev := d } ∧ d.denlys.requests = [] ∧
      d.denlys.ready.length = s.dev.denlys.ready.length + 1 ∧ d.denlys.nonces = newNonce s.dev.denlys.nonces nonce :: s.dev.denlys.nonces ∧
      d.session 1 = some {
        version := min (byteAt (denlysPayload r.part) 1) (s.dev.rd M.DENLYS_VERSION_MAX), role := byteAt (denlysPayload r.part) 2, mac := r.src,
        key := sessionKey k (beAt (denlysPayload r.part) 4 8) (newNonce s.dev.denlys.nonces nonce) (s.dev.rd M.STRAP_NODEID), seq := none, devSeq := 2,
        heard := r.ns, beat := r.ns, kept := [], sub := none }) ∧
  ∀ (used : List Nat) (draw : Nat), used.length < 2 ^ 64 → newNonce used draw ∉ used

/-- Each Denlys request is executed once, answered with its status and kept for repetition. HEARTBEAT, READ, WRITE,
READ_BLOCK, SUBSCRIBE, BEGIN, COMMIT and ROLLBACK each complete for the oldest request, of a session whose version and
role have the operation: HEARTBEAT answers the state, ALERT_CAUSE and PERIOD_COUNT; READ of one member answers its
status and value; WRITE of one member does what that session's write does and answers its status; READ_BLOCK answers
the bytes of the area, and ST_NO_OBJECT where one of them is not mapped (log entry 268); SUBSCRIBE stores the
subscription; BEGIN, COMMIT and ROLLBACK do what the session's trigger does and answer its status. (R179, R180, R181,
R184, R186, R187) -/
def Obligations.DenlysRequestsAreServed : Prop :=
  (∀ (r : DenReq) (x : Session) (s : State), s.dev.denlys.requests = [r] → byteAt r.part 1 = 0x0A →
    s.dev.session (byteAt r.part 2) = some x → 1 ≤ x.version →
    exec .denlysHeartbeat s = .next { s with dev := (answerRequest { s.dev with denlys := { s.dev.denlys with requests := [] } } r St.OK
      (toBE 1 s.dev.start.state.code ++ toBE 3 0 ++ toBE 4 (s.dev.rd M.ALERT_CAUSE) ++ toBE 4 s.bell.period.toNat)) }) ∧
  (∀ (r : DenReq) (st v : Nat) (x : Session) (d : Dev) (s : State), s.dev.denlys.requests = [r] → byteAt r.part 1 = 2 →
    s.dev.session (byteAt r.part 2) = some x → 1 ≤ x.version → byteAt (denlysPayload r.part) 0 = 1 →
    readAs s.bell { s.dev with denlys := { s.dev.denlys with requests := [] } } (.d (byteAt r.part 2)) (beAt (denlysPayload r.part) 4 4) = (st, v, d) →
    exec .denlysRead s = .next { s with dev := answerRequest d r St.OK (toBE 2 st ++ toBE 2 0 ++ toBE 8 v) }) ∧
  (∀ (r : DenReq) (st : Nat) (x : Session) (b : BellSt) (d : Dev) (s : State), s.dev.denlys.requests = [r] → byteAt r.part 1 = 3 →
    s.dev.session (byteAt r.part 2) = some x → 1 ≤ x.version → 1 ≤ x.role → byteAt (denlysPayload r.part) 0 = 1 →
    writeMember s.bell { s.dev with denlys := { s.dev.denlys with requests := [] } }
      { who := .d (byteAt r.part 2), val := beAt (denlysPayload r.part) 8 8, width := 8 } (beAt (denlysPayload r.part) 4 4) = (st, b, d) →
    exec .denlysWrite s = .next { s with bell := b, dev := answerRequest d r St.OK (toBE 2 st) }) ∧
  (∀ (r : DenReq) (base size : Nat) (x : Session) (s : State), s.dev.denlys.requests = [r] → byteAt r.part 1 = 4 →
    s.dev.session (byteAt r.part 2) = some x → 2 ≤ x.version → 0 < beAt (denlysPayload r.part) 8 2 → beAt (denlysPayload r.part) 8 2 ≤ 1024 →
    s.dev.gate (byteAt (denlysPayload r.part) 0) = false →
    blockArea (byteAt (denlysPayload r.part) 0) (beAt (denlysPayload r.part) 2 2) = some (base, size) →
    beAt (denlysPayload r.part) 4 4 + beAt (denlysPayload r.part) 8 2 ≤ size →
    (∀ i, i < beAt (denlysPayload r.part) 8 2 → areaUse (base + beAt (denlysPayload r.part) 4 4 + i) ≠ none) →
    ∃ d, exec .denlysReadBlock s = .next { s with dev := d } ∧ d.denlys.requests = [] ∧ d.denlys.ready = s.dev.denlys.ready ++
      [((x.frame s.dev (byteAt r.part 2) r.src 4 St.OK ((List.range (beAt (denlysPayload r.part) 8 2)).map (fun i =>
        areaRead s.dev (base + beAt (denlysPayload r.part) 4 4 + i)))).1, r.ns)] ∧ d.reg = s.dev.reg ∧ d.area = s.dev.area) ∧
  (∀ (r : DenReq) (base size i : Nat) (x : Session) (s : State), s.dev.denlys.requests = [r] → byteAt r.part 1 = 4 →
    s.dev.session (byteAt r.part 2) = some x → 2 ≤ x.version → 0 < beAt (denlysPayload r.part) 8 2 → beAt (denlysPayload r.part) 8 2 ≤ 1024 →
    s.dev.gate (byteAt (denlysPayload r.part) 0) = false →
    blockArea (byteAt (denlysPayload r.part) 0) (beAt (denlysPayload r.part) 2 2) = some (base, size) →
    i < beAt (denlysPayload r.part) 8 2 → areaUse (base + beAt (denlysPayload r.part) 4 4 + i) = none →
    ∃ d, exec .denlysReadBlock s = .next { s with dev := d } ∧ d.denlys.ready = s.dev.denlys.ready ++
      [((x.frame s.dev (byteAt r.part 2) r.src 4 St.NO_OBJECT []).1, r.ns)] ∧
      d.rd M.CNT_NO_OBJECT = (s.dev.rd M.CNT_NO_OBJECT + 1) % 2 ^ 64) ∧
  (∀ (r : DenReq) (x : Session) (s : State), s.dev.denlys.requests = [r] → byteAt r.part 1 = 8 →
    s.dev.session (byteAt r.part 2) = some x → 2 ≤ x.version → byteAt (denlysPayload r.part) 3 = 0 → 0 < beAt (denlysPayload r.part) 0 2 →
    beAt (denlysPayload r.part) 0 2 ≤ 1024 →
    ∃ d, exec .denlysSubscribe s = .next { s with dev := d } ∧ ∃ y, d.session (byteAt r.part 2) = some y ∧ y.seq = some (beAt r.part 4 4) ∧ y.key = x.key ∧
      y.sub = some {
        interval := beAt (denlysPayload r.part) 0 2, events := bitOf (byteAt (denlysPayload r.part) 2) 0, ids := [],
        lessons := 0, checked := 0, last := [], pendingEvents := [], overflow := 0 }) ∧
  (∀ (r : DenReq) (st : Nat) (x : Session) (b : BellSt) (d : Dev) (s : State), s.dev.denlys.requests = [r] → byteAt r.part 1 = 5 →
    s.dev.session (byteAt r.part 2) = some x → 3 ≤ x.version → 2 ≤ x.role →
    writeMember s.bell { s.dev with denlys := { s.dev.denlys with requests := [] } } { who := .d (byteAt r.part 2), val := 1, width := 8 } M.TXN_BEGIN = (st, b, d) →
    exec .denlysBegin s = .next { s with bell := b, dev := answerRequest d r st [] }) ∧
  (∀ (r : DenReq) (st : Nat) (x : Session) (b : BellSt) (d : Dev) (s : State), s.dev.denlys.requests = [r] → byteAt r.part 1 = 6 →
    s.dev.session (byteAt r.part 2) = some x → 3 ≤ x.version → 2 ≤ x.role →
    writeMember s.bell { s.dev with denlys := { s.dev.denlys with requests := [] } } { who := .d (byteAt r.part 2), val := 1, width := 8 } M.TXN_COMMIT = (st, b, d) →
    exec .denlysCommit s = .next { s with bell := b, dev := answerRequest d r st [] }) ∧
  ∀ (r : DenReq) (st : Nat) (x : Session) (b : BellSt) (d : Dev) (s : State), s.dev.denlys.requests = [r] → byteAt r.part 1 = 7 →
    s.dev.session (byteAt r.part 2) = some x → 3 ≤ x.version → 2 ≤ x.role →
    writeMember s.bell { s.dev with denlys := { s.dev.denlys with requests := [] } } { who := .d (byteAt r.part 2), val := 1, width := 8 } M.TXN_ROLLBACK = (st, b, d) →
    exec .denlysRollback s = .next { s with bell := b, dev := answerRequest d r st [] }

/-- Responses, notifications, heartbeats and beacons leave, and a silent session ends. DENLYS_RESPONSE_TX, NOTIFY,
NOTIFY_CONTINUATION, DENLYS_HEARTBEAT_SEND, DENLYS_SESSION_TIMEOUT and PLCA_BEACON each complete where they are due. A
transmit opportunity sends the first waiting response, late past the bound of R188 unless NODEID is 255; a due check
with changed members sends one NOTIFY to the session's station; a second NOTIFY is sent for its session, and a
heartbeat once its interval has passed; a session without a verified frame for its time ends with the requests that
wait for it, and is counted; a heartbeat or an end that is not due does nothing (log entry 236); a coordinator sends a
BEACON. (R175, R181, R187, R188) -/
def Obligations.DenlysSendsAndTimeouts : Prop :=
  (∀ (tx : DenTx) (f : Bytes) (ended : Nat) (rest : List (Bytes × Nat)) (s : State), s.dev.denlys.ready = (f, ended) :: rest →
    ∃ d, exec (.denlysResponseTx tx) s = .next { s with dev := d } ∧ d.out = s.dev.out ++ [.denlys f] ∧
      d.denlys = { s.dev.denlys with ready := rest } ∧ d.rd M.CNT_DENLYS_TX = (s.dev.rd M.CNT_DENLYS_TX + 1) % 2 ^ 64 ∧
      d.rd M.CNT_DENLYS_LATE = (s.dev.rd M.CNT_DENLYS_LATE + b2n (s.dev.rd M.STRAP_NODEID != 255 &&
        decide (ended + 14000 + s.dev.rd M.PLCA_NODE_COUNT * s.dev.rd M.PLCA_TO_TIMER * 100 + tx.heldNs < tx.ns))) % 2 ^ 64) ∧
  (∀ (k : Nat) (x : Session) (b : Subscription) (s : State), s.dev.session k = some x → x.sub = some b → b.due = true →
    s.dev.start.island.answers = true → b.pendingEvents = [] → ∀ id v, b.ids = [id] → b.last = [v] → s.dev.gate (id / 2 ^ 24) = false → readMember s.bell s.dev id ≠ v →
    ∃ d, exec (.denlysNotify k) s = .next { s with dev := d } ∧ d.rd M.CNT_DENLYS_TX = (s.dev.rd M.CNT_DENLYS_TX + 1) % 2 ^ 64 ∧
      d.out = s.dev.out ++ [.denlys (x.frame s.dev k x.mac 9 St.OK (notifyPayload b.overflow [(id, readMember s.bell s.dev id)] [])).1]) ∧
  (∀ (k : Nat) (f : Bytes) (s : State), s.dev.denlys.second = [(k, f)] → ∃ d, exec (.denlysNotifyContinuation k) s = .next { s with dev := d } ∧
    d.out = s.dev.out ++ [.denlys f] ∧ d.denlys.second = [] ∧ d.rd M.CNT_DENLYS_TX = (s.dev.rd M.CNT_DENLYS_TX + 1) % 2 ^ 64) ∧
  (∀ (a : DenAt) (x : Session) (s : State), s.dev.session a.session = some x → x.beat + s.dev.rd M.HEARTBEAT_INTERVAL * 1000000 ≤ a.ns →
    ∃ d, exec (.denlysHeartbeatSend a) s = .next { s with dev := d } ∧
      d.out = s.dev.out ++ [.denlys (x.frame s.dev a.session x.mac 0x0A St.OK (heartbeatPayload s.bell s.dev)).1] ∧
      d.session a.session = some { x with devSeq := (x.devSeq + 1) % 2 ^ 32, beat := a.ns } ∧
      d.rd M.CNT_DENLYS_TX = (s.dev.rd M.CNT_DENLYS_TX + 1) % 2 ^ 64) ∧
  (∀ (a : DenAt) (x : Session) (s : State), s.dev.session a.session = some x → x.heard + s.dev.rd M.SESSION_TIMEOUT * 1000000 ≤ a.ns →
    ∃ d, exec (.denlysSessionTimeout a) s = .next { s with dev := d } ∧ d.session a.session = none ∧
      (∀ r ∈ d.denlys.requests, byteAt r.part 1 = 1 ∨ byteAt r.part 2 ≠ a.session) ∧ d.denlys.keys = s.dev.denlys.keys ∧
      d.rd M.CNT_DENLYS_SESSION_TIMEOUT = (s.dev.rd M.CNT_DENLYS_SESSION_TIMEOUT + 1) % 2 ^ 64) ∧
  (∀ (a : DenAt) (x : Session) (s : State), s.dev.session a.session = some x →
    (a.ns < x.beat + s.dev.rd M.HEARTBEAT_INTERVAL * 1000000 → exec (.denlysHeartbeatSend a) s = .next s) ∧
    (a.ns < x.heard + s.dev.rd M.SESSION_TIMEOUT * 1000000 → exec (.denlysSessionTimeout a) s = .next s)) ∧
  ∀ s : State, s.dev.start.island.answers = true → s.dev.rd M.STRAP_NODEID = 0 →
    exec .plcaBeacon s = .next { s with dev := s.dev.emit (.beacon (s.dev.rd M.PLCA_NODE_COUNT)) }

/-- A received frame is counted under the first cause of its drop, or is admitted. FRAME_RECEIVE completes on a port whose
link is up: a frame to which a cause of R200 applies is counted there and nothing else changes; a frame accepted while
the device is ready, on a port that carries no Walger and with no throttle, is counted and takes its cells and waits
for its pipe, or finds no room and is counted under the cause of R386. (R200, R202, R205, R386, R516, R565) -/
def Obligations.FramesAreReceived : Prop :=
  (∀ (f : RxFrame) (c : Nat) (s : State), s.dev.dieRuns = true → f.port < 256 → s.dev.on (M.PORT_LINK f.port) = true → macDrop s.dev f = some c →
    exec (.frameReceive f) s = .next { s with dev := s.dev.bump c }) ∧
  (∀ (f : RxFrame) (n w : Nat) (d : Dev) (s : State), s.dev.dieRuns = true → f.port < 256 → s.dev.on (M.PORT_LINK f.port) = true →
    macDrop s.dev f = none → s.dev.start.recess = .awake → s.dev.pins.ready = true → beAt f.bytes (typeOffset f.bytes) 2 ≠ 0x8808 →
    s.dev.buddyPort f.port = false → s.dev.on M.THROTTLE_STATE = false →
    takeCells s.bell ((s.dev.bump (M.CNT_RX_FRAMES f.port)).addTo (M.CNT_RX_BYTES f.port) f.bytes.length)
      { bytes := f.bytes.take (f.bytes.length - 4), port := f.port, cls := ingressClass s.dev f.port f.bytes, rxNs := rxStamp s.dev f.port f.ns,
        cells := cellsOf ((f.bytes.take (f.bytes.length - 4)).length + 4), limited := true,
        lossless := s.dev.losslessOn f.port (ingressClass s.dev f.port f.bytes), source := 0, held := [], bad := [] } = (some n, w, d) →
    exec (.frameReceive f) s = .next { s with dev := { d with ports := { d.ports with arrivals := d.ports.arrivals ++ [(pipeOf f.port, n)] } } }) ∧
  (∀ (f : RxFrame) (w : Nat) (d : Dev) (s : State), s.dev.dieRuns = true → f.port < 256 → s.dev.on (M.PORT_LINK f.port) = true →
    macDrop s.dev f = none → s.dev.start.recess = .awake → s.dev.pins.ready = true → beAt f.bytes (typeOffset f.bytes) 2 ≠ 0x8808 →
    s.dev.buddyPort f.port = false → s.dev.on M.THROTTLE_STATE = false →
    takeCells s.bell ((s.dev.bump (M.CNT_RX_FRAMES f.port)).addTo (M.CNT_RX_BYTES f.port) f.bytes.length)
      { bytes := f.bytes.take (f.bytes.length - 4), port := f.port, cls := ingressClass s.dev f.port f.bytes, rxNs := rxStamp s.dev f.port f.ns,
        cells := cellsOf ((f.bytes.take (f.bytes.length - 4)).length + 4), limited := true,
        lossless := s.dev.losslessOn f.port (ingressClass s.dev f.port f.bytes), source := 0, held := [], bad := [] } = (none, w, d) →
    exec (.frameReceive f) s = .next { s with
      dev := d.bump (if w = 1 then M.CNT_BUF_NO_CELL f.port else M.CNT_BUF_INGRESS_DROP f.port (ingressClass s.dev f.port f.bytes)) }) ∧
  ∀ (f : RxFrame) (s : State), s.dev.dieRuns = true → f.port < 256 → s.dev.on (M.PORT_LINK f.port) = true → macDrop s.dev f = none →
    s.dev.start.recess = .awake → beAt f.bytes (typeOffset f.bytes) 2 = 0x8808 → beAt f.bytes (typeOffset f.bytes + 2) 2 = 0x0101 →
    s.dev.rd (M.PORT_FC_MODE f.port) = 2 →
    ∃ d, exec (.frameReceive f) s = .next { s with dev := d } ∧
      d.ports.control = s.dev.ports.control ++ [(f.port, f.bytes)] ∧ d.switch = s.dev.switch ∧
      d.rd (M.CNT_RX_FRAMES f.port) = (s.dev.rd (M.CNT_RX_FRAMES f.port) + 1) % 2 ^ 64

/-- A PFC frame pauses its class until its timer ends or the watchdog's limit passes. An applied PFC frame that names one
class pauses it for its time from 40 ns before application, keeping an unbroken pause's start; the timer's end, with
no frame that reloads it waiting to be applied, and the watchdog after its limit, end the pause; the watchdog begins a
hold-off, which ends after its time; a class that stays XOFF on a port whose link is up is refreshed after 16 periods.
(R205, R206, R207, R208, R209, R389) -/
def Obligations.PauseTimersAndWatchdog : Prop :=
  (∀ (port t q quanta : Nat) (f : Bytes) (s : State), s.dev.dieRuns = true → port < 256 → q < 8 → s.dev.ports.control = [(port, f)] →
    pauseTimes f (beAt f (typeOffset f + 2) 2) = [(q, quanta)] → quanta ≠ 0 → s.dev.heldOff port q = false →
    Reaches (.pauseApply port t) s (fun d => d.ports.control = [] ∧ bitOf (d.rd (M.PORT_PAUSE_STATE port)) q = true ∧
      d.rd (M.CNT_PAUSE_RX port) = (s.dev.rd (M.CNT_PAUSE_RX port) + 1) % 2 ^ 64 ∧
      d.pauseOf port q = some { until_ := t - 40 + (quanta * 512 + s.dev.gbps port - 1) / s.dev.gbps port,
                                since := (match s.dev.pauseOf port q with | some p => p.since | none => t) })) ∧
  (∀ (port q t : Nat) (p : Pause) (s : State), s.dev.dieRuns = true → q < 8 → s.dev.pauseOf port q = some p → p.until_ ≤ t → s.dev.reloaded port q = false →
    Reaches (.pauseTimerExpire port q t) s (fun d => d.pauseOf port q = none ∧ bitOf (d.rd (M.PORT_PAUSE_STATE port)) q = false ∧
      (∀ k, k < 64 → k ≠ q → bitOf (d.rd (M.PORT_PAUSE_STATE port)) k = bitOf (s.dev.rd (M.PORT_PAUSE_STATE port)) k) ∧
      ∀ id, id ≠ M.PORT_PAUSE_STATE port → d.rd id = s.dev.rd id)) ∧
  (∀ (port q t : Nat) (p : Pause) (s : State), s.dev.dieRuns = true → port < 256 → q < 8 → s.dev.pauseOf port q = some p → s.dev.rd (M.PORT_PAUSE_WD_LIMIT port) ≠ 0 →
    p.since + s.dev.rd (M.PORT_PAUSE_WD_LIMIT port) * 1000 < t →
    Reaches (.pauseWatchdog port q t) s (fun d => d.pauseOf port q = none ∧ d.heldOff port q = true ∧
      bitOf (d.rd (M.PORT_PAUSE_STATE port)) q = false ∧ d.rd (M.CNT_PAUSE_WATCHDOG port) = (s.dev.rd (M.CNT_PAUSE_WATCHDOG port) + 1) % 2 ^ 64)) ∧
  (∀ (port q t e : Nat) (s : State), s.dev.dieRuns = true → SMap.get (fun _ => none) s.dev.ports.holdoff (port * 8 + q) = some e → e ≤ t →
    Reaches (.pauseHoldoffEnd port q t) s (fun d => d.heldOff port q = false ∧ d.reg = s.dev.reg ∧ d.ports.pause = s.dev.ports.pause)) ∧
  ∀ (port cls p : Nat) (s : State), s.dev.dieRuns = true → port < 256 → s.dev.on (M.PORT_LINK port) = true → s.dev.switch.xoff = [(port * 8 + cls, p)] → 16 ≤ (s.bell.period.toNat + 2 ^ 32 - p % 2 ^ 32) % 2 ^ 32 →
    Reaches (.pfcRefresh port cls) s (fun d => d.switch.xoff = [(port * 8 + cls, s.bell.period.toNat)] ∧ d.out.length = s.dev.out.length + 1 ∧
      d.rd (M.CNT_PFC_TX port) = (s.dev.rd (M.CNT_PFC_TX port) + 1) % 2 ^ 64)

/-- Links rise and fall, transmitters sleep and wake, and wake patterns are prepared. LINK_UP on a port that may come up
sets its link and the signal of each of its lanes; LINK_DOWN leaves no frame of the port in any queue; LPI_ENTER puts
a port to sleep whose transmit queues have been empty for PORT_LPI_IDLE, and LPI_EXIT wakes it and sets when its
partner will have woken (the instant within the period is a free value, log entry 1); PORT_WAKE_PREPARE writes the
check value of all 16 patterns and clears STALE; the return engine frees the cells of an unlinked frame. (R196, R197,
R210, R211, R216, R390) -/
def Obligations.LinksAndIdle : Prop :=
  (∀ (port : Nat) (s : State), s.dev.dieRuns = true → port < 256 → s.dev.on (M.PORT_LINK port) = false → s.dev.rd (M.PORT_MODE port) ≠ 0 → s.dev.on (M.PORT_ADMIN port) = true →
    s.dev.pins.ready = true → s.dev.gated (pipeOf port) = false → (s.dev.lanesOf port).all (fun l => !s.dev.ports.badLanes.contains l) = true →
    Reaches (.linkUp port) s (fun d => d.rd (M.PORT_LINK port) = 1 ∧ (∀ l ∈ s.dev.lanesOf port, d.rd (M.LANE_SIGNAL l) = 1) ∧
      d.switch = s.dev.switch ∧ d.ports = s.dev.ports ∧ ∀ p, p < 256 → p ≠ port → d.rd (M.PORT_LINK p) = s.dev.rd (M.PORT_LINK p))) ∧
  (∀ (port : Nat) (s : State), s.dev.dieRuns = true → s.dev.on (M.PORT_LINK port) = true →
    Reaches (.linkDown port) s (fun d => (∀ q, q < 8 → d.macq port q = []) ∧ ∀ q, ∀ c ∈ d.queue q, c.port ≠ port)) ∧
  (∀ (port : Nat) (s : State), s.dev.dieRuns = true → port < 256 → s.dev.on (M.PORT_LINK port) = true → s.dev.buddyPort port = false → s.dev.switch.queues = [] →
    (∀ q, q < 8 → s.dev.macq port q = []) →
    Reaches (.linkDown port) s (fun d => d.rd (M.PORT_LINK port) = 0 ∧ d.rd (M.CNT_LINK_DOWN port) = (s.dev.rd (M.CNT_LINK_DOWN port) + 1) % 2 ^ 64)) ∧
  (∀ (port : Nat) (s : State), s.dev.dieRuns = true → s.dev.on (M.PORT_LPI_ENABLE port) = true → [1, 2, 4].contains (s.dev.rd (M.PORT_MODE port)) = true →
    s.dev.on (M.PORT_LINK port) = true → s.dev.ports.lpi.contains port = false → (∀ q, q < 8 → s.dev.macq port q = []) →
    s.dev.rd (M.PORT_LPI_IDLE port) * 1000 ≤ ((Dev.stamp s.bell s.dev).1 + 2 ^ 32 - SMap.get zeroAt s.dev.ports.quiet port % 2 ^ 32) % 2 ^ 32 →
    Reaches (.lpiEnter port) s (fun d => d.ports = { s.dev.ports with lpi := port :: s.dev.ports.lpi } ∧
      d.rd (M.CNT_LPI_ENTRY port) = (s.dev.rd (M.CNT_LPI_ENTRY port) + 1) % 2 ^ 64 ∧ ∀ id, id ≠ M.CNT_LPI_ENTRY port → d.rd id = s.dev.rd id)) ∧
  (∀ (port q : Nat) (s : State), s.dev.dieRuns = true → q < 8 → s.dev.macq port q ≠ [] → s.dev.ports.lpi.contains port = true →
    Reaches (.lpiExit port) s (fun d => d.ports.lpi = s.dev.ports.lpi.filter (· != port) ∧ d.reg = s.dev.reg ∧ d.switch = s.dev.switch ∧
      SMap.get (fun _ => none) d.ports.waking port = some (((Dev.stamp s.bell s.dev).1 + s.dev.rd (M.PORT_LPI_TW_TX port) * 1000) % 2 ^ 32))) ∧
  (∀ (port : Nat) (a : Acc) (s : State), port < 256 → Passes s.dev a (M.PORT_WAKE_PREPARE port) →
    Reaches (.portWakePrepare port a) s (fun d => d.reg = s.dev.reg ∧ ∀ k, k < 16 → d.ab (patternAddr port k + 0x94) = 0 ∧
      d.ale (patternAddr port k + 0x92) 2 = crc16 ((maskedBytes s.dev (patternAddr port k)).map (fun i => s.dev.ab (patternAddr port k + i))) % 2 ^ 16)) ∧
  ∀ (port n : Nat) (f : Frame) (s : State), s.dev.dieRuns = true → s.dev.switch.flush = [(port, n, f.held)] → f.held.length ≤ 4096 → s.dev.frame n = some f →
    (∀ i ∈ f.held, (s.dev.buf 0 i).2 ≤ 1) → s.dev.segs = [] → Reaches .portFlushReturn s (fun d => d.switch.flush = [] ∧ d.frame n = none)

/-- The timetable selects a frame, the gate table is applied, and the MAC sends the frame with its FCS. With one queue to
choose, deficits that cover its head and no rate set, TT_SELECT moves the head to the class's MAC queue;
GATE_ENTRY_CHANGE sets TT_GATE_STATE to the gates the list applies; a frame held for a full cycle leaves its MAC queue
and the egress count; MAC_TX_START sends the head of the highest class that may start, and takes it off its queue.
(R204, R393, R410, R411, R417, R418, R419) -/
def Obligations.FramesAreScheduledAndSent : Prop :=
  (∀ (port cls q sub v : Nat) (c : Copy) (rest : List Copy) (s : State), s.dev.dieRuns = true → cls < 8 → sub < 2 ^ 32 → (s.dev.macq port cls).length < 2 → s.dev.rd (M.TT_PORT_RATE port) = 0 →
    s.dev.offers port cls = [(q, sub, v)] → svcRate (s.dev.service v) = 0 → fld (s.dev.subRow sub) 443 24 = 0 → fld (s.dev.subRow sub) 419 24 = 0 →
    s.dev.queue q = c :: rest → c.tag = none → SMap.get (fun _ => none) s.dev.switch.queueTurn (sub * 8 + cls) = some q →
    SMap.get (fun _ => none) s.dev.switch.subTurn (v * 2 + 1) = some sub → c.bytes.length + 4 ≤ fld (s.dev.queueRow q) 35 21 →
    c.bytes.length + 4 ≤ fld (s.dev.subRow sub) 256 32 →
    Reaches (.ttSelect port cls) s (fun d => d.macq port cls = s.dev.macq port cls ++ [c] ∧ d.queue q = rest ∧
      (∀ k, k ≠ q → d.queue k = s.dev.queue k) ∧ d.reg = s.dev.reg)) ∧
  (∀ (port t : Nat) (s : State), s.dev.dieRuns = true → Gives (.gateEntryChange port t) s s.bell (s.dev.wr (M.TT_GATE_STATE port)
    (if s.dev.on (M.TT_GATE_ENABLE port) = true then (gateAt (s.dev.gateList port) (s.dev.gateOffset port t)).1 else 255))) ∧
  (∀ (port cls t h : Nat) (c : Copy) (rest : List Copy) (s : State), s.dev.dieRuns = true → s.dev.macq port cls = c :: rest → c.heldAt = some h → s.dev.paused port cls = false →
    s.dev.gateFits port cls t (c.bytes.length + 4) = false → s.dev.gateCycle port ≤ nsBetween h (wideNs s.bell t) →
    Reaches (.gateOversizeDrop port cls t) s (fun d => d.macq port cls = rest ∧ d.egressHeld c.port c.cls = s.dev.egressHeld c.port c.cls - c.cells ∧
      d.switch.queues = s.dev.switch.queues)) ∧
  ∀ (port ps q : Nat) (c : Copy) (rest : List Copy) (f : Frame) (s : State), s.dev.dieRuns = true → s.dev.on (M.PORT_LINK port) = true → s.dev.ports.lpi.contains port = false →
    s.dev.stillWaking port (ps / 1000 % 2 ^ 32) = false → q < 8 → (∀ k, q < k → k < 8 → s.dev.macq port k = []) → s.dev.macq port q = c :: rest → s.dev.paused port q = false →
    s.dev.gateFits port q (ps / 1000 % 2 ^ 32) (c.bytes.length + 4) = true → s.dev.frame c.frame = some f → f.bad = [] → c.ring = none →
    ptpPlace c.bytes = none → s.dev.segs = [] →
    Reaches (.macTxStart port ps) s (fun d => d.macq port q = rest ∧ (∃ more, d.out = s.dev.out ++ .frame port (c.bytes ++ toLE 4 (crcEth c.bytes)) :: more) ∧
      d.egressHeld c.port c.cls = s.dev.egressHeld c.port c.cls - c.cells)

/-- A segmentation request fetches its payload in chunks of 16 KiB. A request whose payload is longer than its first
chunk, with a buffer left in the reserve, has fetched 16,384 bytes after SEG_CHUNK_FETCH and still stands, with as
many segments made as its fetched bytes hold and no more than it has. (R212, R213, R214, R401) -/
def Obligations.SegmentationFetchesChunks : Prop :=
  ∀ (data : Bytes) (r : SegReq) (b : Nat) (d0 : Dev) (s : State), s.dev.dieRuns = true → s.dev.segs = [r] → r.seq = 0 → r.done = 0 → r.chunks = [] → 0 < r.mss →
    16384 < r.payLen → segAlloc s.dev = some (b, d0) → d0.segs = s.dev.segs →
    Reaches (.segChunkFetch data) s (fun d => ∃ t, d.segs = [t] ∧ t.ring = r.ring ∧ t.index = r.index ∧ t.done = 16384 ∧ t.seq < t.count ∧
      t.seq * r.mss ≤ 16384 ∧ 16384 < (t.seq + 1) * r.mss)

/-- A malformed packet is counted and dropped, and a new station's notice is installed. With PARSER_MALFORMED_ACTION DROP,
a pipe that parses its oldest arrival counts it, counts a malformed one under CNT_MALFORMED and frees its cells. A
notice for a key that the pipe's table does not hold takes the place the part chooses (log 9) among the free ones of
the key's two buckets, and leaves every other row as it is; the entry's LAST_SEEN is the lesson in which the notice
was placed (log 239). (R223, R225, R226, R257) -/
def Obligations.PacketsAreParsedAndLearned : Prop :=
  (∀ (pipe n : Nat) (f : Frame) (s : State), s.dev.dieRuns = true → s.dev.pins.ready = true → pipe < 16 → s.dev.gated pipe = false →
    (∀ x ∈ s.dev.descs, x.wait ≠ .recirc) → s.dev.ports.arrivals = [(pipe, n)] → s.dev.frame n = some f → f.port < 256 →
    (parseFrame f.bytes f.port f.cls).malformed ≠ 0 → s.dev.rd M.PARSER_MALFORMED_ACTION = 0 →
    Reaches (.packetParse pipe) s (fun d => d.ports.arrivals = [] ∧ d.frame n = none ∧ d.descs = s.dev.descs ∧
      d.rd (M.CNT_PARSED pipe) = (s.dev.rd (M.CNT_PARSED pipe) + 1) % 2 ^ 64 ∧
      d.rd (M.CNT_MALFORMED pipe) = (s.dev.rd (M.CNT_MALFORMED pipe) + 1) % 2 ^ 64)) ∧
  ∀ (pipe v i : Nat) (rest : List Nat) (s : State), s.dev.dieRuns = true → s.dev.gated pipe = false → (s.dev.pipe pipe).learned = v :: rest → (Learn.ofNat v).kind ≠ 4 →
    l2Versions s.dev.tabs pipe (Learn.ofNat v).mac (Learn.ofNat v).vlan = [] →
    s.dev.l2Take pipe (Learn.ofNat v).mac (Learn.ofNat v).vlan = some i →
    Reaches (.learnNoticeInstall pipe) s (fun d => (d.pipe pipe).learned = rest ∧ (∀ k, k ≠ rowKey tL2 0 pipe i → d.row k = s.dev.row k) ∧
      ∃ r, d.row (rowKey tL2 0 pipe i) = some r ∧ r.valid = true ∧ r.win = Window.stable ∧
        r.data = { mac := (Learn.ofNat v).mac, vlan := (Learn.ofNat v).vlan, port := (Learn.ofNat v).port, static := false, router := false,
                   locked := false, lastSeen := (Learn.ofNat v).lesson, moves := 0, learned := (Learn.ofNat v).period % 65536 : L2Entry }.toBytes)

/-- A slot's current value is what was last written to it. After any write of a slot that takes a line, a fill of it
pending or not, the slot's current value is the value written, wherever the line was placed and whatever line gave
way, and a read that returns later changes it no more; an update that finds no line is the slot's value while it waits
for one; a slot without a line or a waiting update reads as its newest write-buffer entry, else as its copy in memory.
(R18, R278, R279, R280) -/
def Obligations.SlotHasOneCurrentValue : Prop :=
  (∀ (now : BellSt) (d e : Dev) (slot v : Nat), writeSlot now d slot v = some e → e.current slot = v % 2 ^ 512 ∧ e.lateData slot = none ∧
    installFill now e slot = some e) ∧
  (∀ (now : BellSt) (d : Dev) (slot v : Nat), (putSlot now d slot v).current slot = v % 2 ^ 512) ∧
  (∀ (d : Dev) (slot : Nat) (l : WbLine), d.findLine slot = none → d.lateData slot = none →
    (d.roll.wb.filter (fun x => x.slot == slot)).getLast? = some l → d.current slot = l.data.toNat) ∧
  ∀ (d : Dev) (slot : Nat), d.findLine slot = none → d.lateData slot = none → (∀ l ∈ d.roll.wb, l.slot ≠ slot) → d.current slot = d.stored slot

/-- Reads of the Roll issue and complete, writes reach memory, and ROLL_PROBE shows its hashes. With units left and a free
line, the oldest queued read issues and takes its line as pending; a read that completes, its request issued or ended
at the controller and every channel in service, gives a slot whose line still waits for it its value in memory; a
write that completes in the same way leaves the write buffer and stands in memory; ROLL_PROBE computes the three
hashes, both buckets and the tag of the key it is given. (R272, R276, R280, R282, R288, R295) -/
def Obligations.RollReadsAndWrites : Prop :=
  (∀ (pipe slot w : Nat) (rest : List Nat) (s : State), s.dev.dieRuns = true → (s.dev.pipe pipe).missQueue = slot :: rest → slot < askSlot 0 →
    s.dev.findLine slot = none → s.dev.buffered slot = false → s.dev.remoteRead pipe slot = false →
    (s.dev.pipe pipe).unitsUsed + s.dev.readUnits slot ≤ 150 → pipe < 16 → s.dev.readable slot = true →
    (∀ x ∈ s.dev.descs, x.hdr.port < 256) →
    (List.range 16).find? (fun w => (s.dev.line (s.dev.setOf slot * 16 + w)).isNone) = some w →
    Reaches (.rollFetchIssue pipe) s (fun d => d.pipe pipe = { s.dev.pipe pipe with
        missQueue := rest, reads := (s.dev.pipe pipe).reads ++ [slot], remote := (s.dev.pipe pipe).remote.filter (· != slot),
        unitsUsed := (s.dev.pipe pipe).unitsUsed + s.dev.readUnits slot } ∧
      (∃ l, d.findLine slot = some (s.dev.setOf slot * 16 + w, l) ∧ l.pending = true) ∧ d.roll.wb = s.dev.roll.wb ∧ d.memories.roll = s.dev.memories.roll)) ∧
  (∀ (pipe slot k : Nat) (l : Line) (s : State), s.dev.dieRuns = true → (s.dev.pipe pipe).reads.contains slot = true →
    s.dev.buddy.awaiting.any (fun a => a.2 == some slot) = false → s.dev.readable slot = true → s.dev.buffered slot = false →
    (∀ c, c < 16 → s.dev.chServes c = true) →
    ((s.dev.channel (s.dev.placeOf slot).1).oldest (s.dev.placeOf slot).2 = none ∧
       (s.dev.channel (s.dev.placeOf slot).1).badReads.contains (0, (s.dev.placeOf slot).2) = false ∨
     ∃ q, (s.dev.channel (s.dev.placeOf slot).1).oldest (s.dev.placeOf slot).2 = some q ∧ q.port = 0 ∧ q.write = false ∧ q.corrective = false ∧
       q.issued = true) →
    s.dev.findLine slot = some (k, l) → l.pending = true → recTwoSlots (s.dev.stored slot) = false → (∀ x ∈ s.dev.descs, x.wait ≠ .fetch slot) →
    Reaches (.rollFetchComplete pipe slot .ok) s (fun d => d.lineVal slot = some (s.dev.stored slot % 2 ^ 512) ∧
      (d.pipe pipe).reads = (s.dev.pipe pipe).reads.erase slot ∧ d.memories.roll = s.dev.memories.roll ∧
      d.memories.endpoints = s.dev.memories.endpoints ∧ d.rd M.CNT_FR_FILL = (s.dev.rd M.CNT_FR_FILL + 1) % 2 ^ 64)) ∧
  (∀ (slot : Nat) (l : WbLine) (rest : List WbLine) (s : State), s.dev.dieRuns = true → s.dev.roll.wb = l :: rest → l.slot = slot → l.issued = true →
    ((s.dev.channel (s.dev.placeOf slot).1).oldest (s.dev.placeOf slot).2 = none ∨
     ∃ q, (s.dev.channel (s.dev.placeOf slot).1).oldest (s.dev.placeOf slot).2 = some q ∧ q.port = 6 ∧ q.write = true ∧ q.corrective = false ∧
       q.issued = true) →
    Reaches (.frWbWriteDone slot .ok) s (fun d => d.roll.wb = rest ∧ d.stored slot = l.data.toNat ∧
      d.rd M.CNT_FR_WRITEBACK = (s.dev.rd M.CNT_FR_WRITEBACK + 1) % 2 ^ 64 ∧ d.roll.lines = s.dev.roll.lines ∧
      ∀ k, k ≠ slot → d.stored k = s.dev.stored k)) ∧
  ∀ (a : Acc) (s : State), Passes s.dev a M.ROLL_PROBE → Reaches (.rollProbe a) s (fun d => d.roll = s.dev.roll ∧
    d.rd M.ROLL_PROBE_H1 = seededHash s.dev.roll.seed1 (s.dev.aread 0x08210000 40) % 2 ^ 64 ∧
    d.rd M.ROLL_PROBE_H2 = seededHash s.dev.roll.seed2 (s.dev.aread 0x08210000 40) % 2 ^ 64 ∧
    d.rd M.ROLL_PROBE_H3 = seededHash s.dev.roll.seed3 (s.dev.aread 0x08210000 40) % 2 ^ 64 ∧
    d.rd M.ROLL_PROBE_HOME = (bucketsOf (rollBuckets s.dev.palette) (seededHash s.dev.roll.seed1 (s.dev.aread 0x08210000 40))
      (seededHash s.dev.roll.seed2 (s.dev.aread 0x08210000 40))).1 % 2 ^ 64 ∧
    d.rd M.ROLL_PROBE_SECOND = (bucketsOf (rollBuckets s.dev.palette) (seededHash s.dev.roll.seed1 (s.dev.aread 0x08210000 40))
      (seededHash s.dev.roll.seed2 (s.dev.aread 0x08210000 40))).2 % 2 ^ 64 ∧
    d.rd M.ROLL_PROBE_TAG = tagOf (seededHash s.dev.roll.seed3 (s.dev.aread 0x08210000 40)) % 2 ^ 64)

/-- A packet that waits for a line or behind another goes on where it stands once it may. With no update and no bucket
waiting for a line, FR_PLACEMENT_RETRY takes a pipe's oldest packet that waits for one out of its wait and lets it go
on where it stands; with no bucket and no packet of any pipe waiting, it tries the oldest update, which, where it
takes its line, waits no more; ROLL_HOLD_RELEASE does so with a held packet when no packet of its flow is ahead of it
and, before its lookup, its record is not PENDING, and lets no other go. (R279, R284, R287) -/
def Obligations.WaitingPacketsGoOn : Prop :=
  (∀ (pipe : Nat) (x : Desc) (s : State), s.dev.dieRuns = true → s.dev.roll.late = [] → s.dev.roll.rebuild = [] →
    s.dev.descs.find? (fun x => x.pipe == pipe && x.wait == .place) = some x →
    Gives (.frPlacementRetry pipe) s s.bell (resume s.bell { s.dev with descs := s.dev.descs.filter (fun y => y.id != x.id) } x)) ∧
  (∀ (pipe slot : Nat) (v : BitVec 512) (rest : List (Nat × BitVec 512)) (e : Dev) (s : State), s.dev.dieRuns = true →
    s.dev.roll.late = (slot, v) :: rest → s.dev.roll.rebuild = [] → (∀ x ∈ s.dev.descs, x.wait ≠ .place) → writeSlot s.bell s.dev slot v.toNat = some e →
    Gives (.frPlacementRetry pipe) s s.bell e) ∧
  (∀ (pipe : Nat) (x : Desc) (s : State), s.dev.dieRuns = true → s.dev.descs.find? (fun x => x.pipe == pipe && s.dev.mayRelease x) = some x →
    Gives (.rollHoldRelease pipe) s s.bell (resume s.bell { s.dev with descs := s.dev.descs.filter (fun y => y.id != x.id) } x)) ∧
  ∀ (pipe : Nat) (s : State), (∀ x ∈ s.dev.descs, x.pipe = pipe → (s.dev.ahead x).isSome = true ∨ x.stage = 7 ∧ s.dev.hitsPending x = true) →
    exec (.rollHoldRelease pipe) s = .next s

/-- A word with an ALU operation changes its destination and the flags, and goes on to the next word. For each ALU
operation, a word that issues it and nothing else leaves its tutor with the operation's result in DST, its flags and
the next address, and leaves every other tutor, every task and every descriptor alone; G0 stays zero, G31 and every
register but DST keep their values, and CMP and NOP write no register. (R354, R355, R357, R360) -/
def Obligations.AluWordsRun : Prop :=
  (∀ p ∈ [(0x00, Instr.aluNop), (0x01, Instr.aluAdd), (0x02, Instr.aluSub), (0x03, Instr.aluAnd), (0x04, Instr.aluOr), (0x05, Instr.aluXor),
      (0x06, Instr.aluShl), (0x07, Instr.aluShr), (0x08, Instr.aluSar), (0x09, Instr.aluMov), (0x0A, Instr.aluExtract), (0x0B, Instr.aluInsert),
      (0x0C, Instr.aluCmp), (0x0D, Instr.aluMinu), (0x0E, Instr.aluMaxu), (0x0F, Instr.aluClz), (0x10, Instr.aluMul), (0x11, Instr.aluMulhu),
      (0x12, Instr.aluCrc), (0x13, Instr.aluBswap), (0x14, Instr.aluPopcnt)], ∀ (u w next : Nat) (s : State),
    Issues s.dev u w next → OnlyAlu w → wAlu w = p.1 → Reaches (p.2 u) s (fun d =>
      d.tutor u = { aluApply (s.dev.tutor u) w with pc := (s.dev.tutor u).pc + 1 } ∧ (∀ v, v ≠ u → d.tutor v = s.dev.tutor v) ∧
      d.tutors.tasks = s.dev.tutors.tasks ∧ d.descs = s.dev.descs ∧ d.rd (M.CNT_TUTOR_WORDS u) = (s.dev.rd (M.CNT_TUTOR_WORDS u) + 1) % 2 ^ 64)) ∧
  ∀ (x : Tutor) (w : Nat), (aluApply x w).g 0 = 0 ∧ (aluApply x w).g 31 = x.g 31 ∧ (∀ i, i ≠ wDst w → (aluApply x w).g i = x.g i) ∧
    (wAlu w = 0x0C ∨ wAlu w = 0 → (aluApply x w).regs = x.regs) ∧
    (wDst w ≠ 0 → wDst w ≠ 31 → (aluRun x w).writes = true → (aluApply x w).g (wDst w) = (aluRun x w).res % 2 ^ 64)

/-- Every ALU operation computes what its name says on the low WIDTH bits. On operands of 8, 16, 32 or 64 bits: ADD, SUB
and CMP agree with bit-vector addition and subtraction, and their flags with unsigned carry and signed overflow; the
shifts, EXTRACT and INSERT move exactly the bits they name; MUL and MULHU are the halves of the product; CLZ bounds
its operand; BSWAP reverses the bytes; other operations clear C and V. (R360) -/
def Obligations.AluResultsAreExact : Prop :=
  (∀ (b a c x y o : Nat), b ∈ [8, 16, 32, 64] → a < 2 ^ b → c < 2 ^ b →
    aluResult 0x01 b a c x y o = (BitVec.ofNat b a + BitVec.ofNat b c).toNat ∧ aluResult 0x02 b a c x y o = (BitVec.ofNat b a - BitVec.ofNat b c).toNat ∧
    aluResult 0x0C b a c x y o = (BitVec.ofNat b a - BitVec.ofNat b c).toNat ∧ addCarry b a c = BitVec.uaddOverflow (BitVec.ofNat b a) (BitVec.ofNat b c) ∧
    addOverflow b a c = BitVec.saddOverflow (BitVec.ofNat b a) (BitVec.ofNat b c) ∧ subNotBorrow a c = !BitVec.usubOverflow (BitVec.ofNat b a) (BitVec.ofNat b c) ∧
    subOverflow b a c = BitVec.ssubOverflow (BitVec.ofNat b a) (BitVec.ofNat b c)) ∧
  (∀ (b a c x y o : Nat), b ∈ [8, 16, 32, 64] → a < 2 ^ b → c < 2 ^ b →
    aluResult 0x06 b a c x y o = (BitVec.ofNat b a <<< (c % 64)).toNat ∧ aluResult 0x07 b a c x y o = (BitVec.ofNat b a >>> (c % 64)).toNat ∧
    aluResult 0x08 b a c x y o = ((BitVec.ofNat b a).sshiftRight (c % 64)).toNat ∧
    toLE (b / 8) (aluResult 0x13 b a c x y o) = (toLE (b / 8) a).reverse ∧
    (a ≠ 0 → 2 ^ (b - 1 - aluResult 0x0F b a c x y o) ≤ a ∧ a < 2 ^ (b - aluResult 0x0F b a c x y o))) ∧
  (∀ (b a c x y o j : Nat), b ∈ [8, 16, 32, 64] → a < 2 ^ b → c < 2 ^ b → o < 2 ^ b → j < b →
    bitOf (aluResult 0x0A b a c x y o) j = (decide (j ≤ y) && bitOf a (x + j)) ∧
    bitOf (aluResult 0x0B b a c x y o) j = (if x ≤ j ∧ j ≤ x + y then bitOf c (j - x) else bitOf o j)) ∧
  (∀ (b a c x y o : Nat), a < 2 ^ 64 → c < 2 ^ 64 → aluResult 0x11 b a c x y o * 2 ^ 64 + aluResult 0x10 b a c x y o = a * c) ∧
  ∀ (x : Tutor) (w : Nat), wAlu w ∉ [0x00, 0x01, 0x02, 0x0C] → (aluRun x w).c = false ∧ (aluRun x w).v = false

/-- Each sequencer operation goes to the address its rule names. For a word that holds one sequencer operation and nothing
else: NEXT goes to the next word; JUMP and CALL to TARGET where COND holds and to the next word otherwise, and CALL
pushes; RETURN pops; DISPATCH adds the masked register to TARGET; WAIT goes on once no operation is outstanding; END
leaves the tutor without a task. (R358, R359, R367) -/
def Obligations.SequencerWordsRun : Prop :=
  (∀ (u w next : Nat) (s : State), Issues s.dev u w next → OnlySeq w → wSeq w = 0 →
    Reaches (.seqNext u) s (fun d => d.tutor u = { s.dev.tutor u with pc := (s.dev.tutor u).pc + 1 })) ∧
  (∀ (u w next : Nat) (s : State), Issues s.dev u w next → OnlySeq w → wSeq w = 1 → Reaches (.seqJump u) s (fun d =>
    d.tutor u = { s.dev.tutor u with pc := if condHolds (wCond w) (s.dev.tutor u) = true then wTarget w else (s.dev.tutor u).pc + 1 })) ∧
  (∀ (u w next : Nat) (s : State), Issues s.dev u w next → OnlySeq w → wSeq w = 2 → condHolds (wCond w) (s.dev.tutor u) = true →
    Reaches (.seqCall u) s (fun d => d.tutor u = { s.dev.tutor u with pc := wTarget w, stack := ((s.dev.tutor u).pc + 1) :: (s.dev.tutor u).stack })) ∧
  (∀ (u w next : Nat) (s : State), Issues s.dev u w next → OnlySeq w → wSeq w = 3 → ∀ p r, (s.dev.tutor u).stack = p :: r →
    Reaches (.seqReturn u) s (fun d => d.tutor u = { s.dev.tutor u with pc := p, stack := r })) ∧
  (∀ (u w next : Nat) (s : State), Issues s.dev u w next → OnlySeq w → wSeq w = 4 → Reaches (.seqDispatch u) s (fun d =>
    d.tutor u = { s.dev.tutor u with pc := wTarget w + (((s.dev.tutor u).g (wSrcA w) % 256) &&& (wImm w % 256)) })) ∧
  (∀ (u w next : Nat) (s : State), Issues s.dev u w next → OnlySeq w → wSeq w = 5 → Reaches (.seqWait u) s (fun d =>
    d.tutor u = if (s.dev.tutor u).ops = [] then { s.dev.tutor u with pc := (s.dev.tutor u).pc + 1 } else { s.dev.tutor u with waiting := true })) ∧
  ∀ (u w next : Nat) (t : TaskRec) (s : State), Issues s.dev u w next → OnlySeq w → wSeq w = 6 → (s.dev.tutor u).ops = [] → s.dev.running u = some t →
    t.recSlot = none → t.epIndex = none → t.desc = none → t.order = none → t.host = none → t.cancelled = false → s.dev.services.natRelease = [] →
    (∀ x ∈ s.dev.descs, x.wait ≠ .slot) → Reaches (.seqEnd u) s (fun d => (d.tutor u).task = none ∧ (d.tutor u).masked = false)

/-- A word with a memory operation leaves that operation outstanding with its address, width and value. For each memory
operation, a word that issues it, with or without an ALU operation, adds it to the tutor's outstanding operations with
the address and the value its registers give after the ALU has written, and goes on to the next word; no memory,
record, packet or table changes yet. (R355, R357, R361) -/
def Obligations.MemoryWordsIssue : Prop :=
  ∀ p ∈ [(0x01, Instr.memLocalRead), (0x02, Instr.memLocalWrite), (0x03, Instr.memHvRead), (0x04, Instr.memRecRead), (0x05, Instr.memRecWrite),
      (0x06, Instr.memEpRead), (0x07, Instr.memEpWrite), (0x08, Instr.memTdRead), (0x09, Instr.memTdWrite), (0x0A, Instr.memTdAdd),
      (0x0B, Instr.memPktRead), (0x0C, Instr.memPktWrite), (0x0D, Instr.memTable), (0x0E, Instr.memDictRead), (0x0F, Instr.memDictWrite),
      (0x10, Instr.memPoolAlloc), (0x11, Instr.memPoolFree), (0x12, Instr.memRingWrite), (0x13, Instr.memSend)], ∀ (u w next : Nat) (s : State),
    Issues s.dev u w next → OnlyMem w → wMem w = p.1 → Reaches (p.2 u) s (fun d =>
      d.tutor u = { aluApply (s.dev.tutor u) w with
        pc := (s.dev.tutor u).pc + 1, ops := (s.dev.tutor u).ops ++ [memOpOf (aluApply (s.dev.tutor u) w) w] } ∧
      d.tutors.data = s.dev.tutors.data ∧ d.memories.roll = s.dev.memories.roll ∧ d.memories.endpoints = s.dev.memories.endpoints ∧
      d.memories.host = s.dev.memories.host ∧ d.tutors.tasks = s.dev.tutors.tasks ∧ d.descs = s.dev.descs ∧ d.roll = s.dev.roll ∧ d.tabs = s.dev.tabs ∧
      d.pools = s.dev.pools ∧ d.services = s.dev.services)

/-- A completed operation reads or writes its space, and its status reaches G31. With one operation outstanding:
LOCAL_READ loads the bytes at its address; LOCAL_WRITE changes exactly the bytes it names; TD_WRITE, once its accesses
have ended, changes exactly the bytes it names, wherever they stand; TD_ADD, likewise, beyond the stores of R335
returns the old value and stores the sum; a read whose memory is not available leaves MEM_DATA; REC_WRITE changes the
task's copy, whose reserved bits stay 0, and not the record. Each writes its status to G31. (R361, R365) -/
def Obligations.MemoryOperationsComplete : Prop :=
  (∀ (u : Nat) (m : MemOp) (t : TaskRec) (s : State), s.dev.dieRuns = true → (s.dev.tutor u).ops = [m] → s.dev.running u = some t → (s.dev.tutor u).due = [] → (s.dev.tutor u).double = false →
    (s.dev.tutor u).preempt = none → (s.dev.tutor u).waiting = false → m.op = 0x01 → m.reg ≠ 0 → m.reg ≠ 31 →
    Reaches (.memOpComplete u .ok) s (fun d => (d.tutor u).ops = [] ∧ (d.tutor u).g 31 = St.OK ∧ (d.tutor u).localMem = (s.dev.tutor u).localMem ∧
      (d.tutor u).g m.reg = leVal (Memory.readBytes (s.dev.tutor u).localMem m.addr m.width) % 2 ^ 64 ∧
      ∀ i, i ≠ m.reg → i ≠ 31 → (d.tutor u).g i = (s.dev.tutor u).g i)) ∧
  (∀ (u : Nat) (m : MemOp) (t : TaskRec) (s : State), s.dev.dieRuns = true → (s.dev.tutor u).ops = [m] → s.dev.running u = some t → (s.dev.tutor u).due = [] → (s.dev.tutor u).double = false →
    (s.dev.tutor u).preempt = none → (s.dev.tutor u).waiting = false → m.op = 0x02 →
    Reaches (.memOpComplete u .ok) s (fun d => (d.tutor u).ops = [] ∧ (d.tutor u).g 31 = St.OK ∧ (d.tutor u).regs = (s.dev.tutor u).regs ∧
      Memory.readBytes (d.tutor u).localMem m.addr m.width = toLE m.width m.value ∧
      ∀ a, (a < m.addr ∨ m.addr + m.width ≤ a) → Memory.read (d.tutor u).localMem a = Memory.read (s.dev.tutor u).localMem a)) ∧
  (∀ (u : Nat) (m : MemOp) (t : TaskRec) (s : State), s.dev.dieRuns = true → (s.dev.tutor u).ops = [m] → s.dev.running u = some t → (s.dev.tutor u).due = [] → (s.dev.tutor u).double = false →
    (s.dev.tutor u).preempt = none → (s.dev.tutor u).waiting = false → m.op = 0x09 →
    (∃ e, tdEnd s.bell s.dev m .ok false = some (.ok, e)) →
    Reaches (.memOpComplete u .ok) s (fun d => (d.tutor u).g 31 = St.OK ∧ (d.tutor u).regs = (s.dev.tutor u).regs ∧
      (∀ i f, i < m.width → d.tdByte f (m.addr + i) = (toLE m.width m.value).getD i 0) ∧
      ∀ a f, (a < m.addr ∨ m.addr + m.width ≤ a) → d.tdByte f a = s.dev.tdByte f a)) ∧
  (∀ (u : Nat) (m : MemOp) (t : TaskRec) (s : State), s.dev.dieRuns = true → (s.dev.tutor u).ops = [m] → s.dev.running u = some t → (s.dev.tutor u).due = [] → (s.dev.tutor u).double = false →
    (s.dev.tutor u).preempt = none → (s.dev.tutor u).waiting = false → m.op = 0x0A → m.reg ≠ 0 → m.reg ≠ 31 → 168296448 ≤ m.addr →
    (∃ e, tdEnd s.bell s.dev m .ok false = some (.ok, e)) →
    Reaches (.memOpComplete u .ok) s (fun d => (d.tutor u).g 31 = St.OK ∧
      (d.tutor u).g m.reg = leVal (Memory.readBytes s.dev.tutors.data m.addr m.width) % 2 ^ 64 ∧
      Memory.readBytes d.tutors.data m.addr m.width =
        toLE m.width ((leVal (Memory.readBytes s.dev.tutors.data m.addr m.width) + m.value) % 256 ^ m.width) ∧
      ∀ a, (a < m.addr ∨ m.addr + m.width ≤ a) → Memory.read d.tutors.data a = Memory.read s.dev.tutors.data a)) ∧
  (∀ (u : Nat) (m : MemOp) (t : TaskRec) (s : State), s.dev.dieRuns = true → (s.dev.tutor u).ops = [m] → s.dev.running u = some t → (s.dev.tutor u).due = [] → (s.dev.tutor u).double = false →
    (s.dev.tutor u).preempt = none → (s.dev.tutor u).waiting = false → m.op = 0x08 →
    Reaches (.memOpComplete u .unavailable) s (fun d => (d.tutor u).g 31 = St.UNAVAILABLE ∧ (d.tutor u).regs = (s.dev.tutor u).regs)) ∧
  ∀ (u : Nat) (m : MemOp) (t : TaskRec) (s : State), s.dev.dieRuns = true → (s.dev.tutor u).ops = [m] → s.dev.running u = some t → (s.dev.tutor u).due = [] → (s.dev.tutor u).double = false →
    (s.dev.tutor u).preempt = none → (s.dev.tutor u).waiting = false → m.op = 0x05 →
    Reaches (.memOpComplete u .ok) s (fun d => (d.tutor u).g 31 = St.OK ∧ d.roll = s.dev.roll ∧
      d.running u = some { t with
        recCopy := recClean (setFld t.recCopy (8 * m.addr) (8 * m.width) m.value), recMask := t.recMask ||| ((256 ^ m.width - 1) * 256 ^ m.addr) })

/-- Each SYS operation has the effect its rule names. For a word that holds one SYS operation and nothing else, with no
memory operation outstanding: RELEASE ends the task; CANCEL of a task that is gone sets G31 to ST_TASK_GONE;
MAKE_READY adds a task to the pipe and returns its handle; TRAP_RETURN, with no further trap waiting, restores the
frame; MASK and UNMASK set the mask; FAULT enters word 6 with the tutor masked; EVENT raises EV_TUTOR_USER with the
register. (R362, R366, R367, R374) -/
def Obligations.SystemWordsRun : Prop :=
  (∀ (u w next : Nat) (t : TaskRec) (s : State), Issues s.dev u w next → OnlySys w → wSys w = 1 → (s.dev.tutor u).ops = [] → s.dev.running u = some t →
    t.recSlot = none → t.epIndex = none → t.desc = none → t.order = none → t.host = none → t.cancelled = false → s.dev.services.natRelease = [] →
    (∀ x ∈ s.dev.descs, x.wait ≠ .slot) → Reaches (.sysRelease u) s (fun d => (d.tutor u).task = none ∧ (d.tutor u).masked = false)) ∧
  (∀ (u w next : Nat) (s : State), Issues s.dev u w next → OnlySys w → wSys w = 2 → (s.dev.tutor u).ops = [] →
    s.dev.taskRec (fld ((s.dev.tutor u).g (wSysReg w)) 13 5) (fld ((s.dev.tutor u).g (wSysReg w)) 0 13) = none →
    Reaches (.sysCancel u) s (fun d => d.tutor u = { s.dev.tutor u with pc := (s.dev.tutor u).pc + 1, status := St.TASK_GONE } ∧
      d.tutors.tasks = s.dev.tutors.tasks)) ∧
  (∀ (u w next slot : Nat) (s : State), Issues s.dev u w next → OnlySys w → wSys w = 3 → (s.dev.tutor u).ops = [] → wSysReg w ≠ 0 → wSysReg w ≠ 31 →
    s.dev.freeSlot (clusterOf u) 10 = some slot →
    Reaches (.sysMakeReady u) s (fun d => (d.tutor u).g (wSysReg w) = (clusterOf u * 8192 + slot) % 2 ^ 64 ∧
      d.tutors.tasks.length = s.dev.tutors.tasks.length + 1 ∧ d.tutors.ready = s.dev.tutors.ready ++ [clusterOf u * 8192 + slot] ∧
      (d.tutor u).pc = (s.dev.tutor u).pc + 1)) ∧
  (∀ (u w next : Nat) (s : State), Issues s.dev u w next → OnlySys w → wSys w = 4 → (s.dev.tutor u).ops = [] → (s.dev.tutor u).due = [] →
    Reaches (.sysTrapReturn u) s (fun d => d.tutor u = trapReturn (s.dev.tutor u))) ∧
  (∀ (u w next : Nat) (s : State), Issues s.dev u w next → OnlySys w → wSys w = 5 →
    Reaches (.sysMask u) s (fun d => d.tutor u = { s.dev.tutor u with pc := (s.dev.tutor u).pc + 1, masked := true })) ∧
  (∀ (u w next : Nat) (s : State), Issues s.dev u w next → OnlySys w → wSys w = 6 →
    Reaches (.sysUnmask u) s (fun d => d.tutor u = { s.dev.tutor u with pc := (s.dev.tutor u).pc + 1, masked := false })) ∧
  (∀ (u w next : Nat) (s : State), Issues s.dev u w next → OnlySys w → wSys w = 7 → (s.dev.tutor u).ops = [] → (s.dev.tutor u).trapping = false →
    Reaches (.sysFault u) s (fun d => (d.tutor u).pc = 6 ∧ (d.tutor u).masked = true ∧ (d.tutor u).trapping = true ∧ (d.tutor u).regs = (s.dev.tutor u).regs ∧
      d.rd (M.TUTOR_LAST_TRAP u) = 6)) ∧
  ∀ (u w next : Nat) (s : State), Issues s.dev u w next → OnlySys w → wSys w = 8 → s.dev.rings.events = [] →
    Reaches (.sysEvent u) s (fun d => d.tutor u = { s.dev.tutor u with pc := (s.dev.tutor u).pc + 1 } ∧ ∃ e, d.rings.events = [e] ∧
      e.code = Ev.TUTOR_USER ∧ e.object = oid 0x40 u ∧ e.detail = (s.dev.tutor u).g (wSysReg w) ∧ e.period = s.bell.period.toNat)

/-- TRAP_RETURN restores what a trap saved. From the frame a trap wrote, TRAP_RETURN restores the address, the four flags,
the stack and every register, unmasks the tutor and ends the trap. (R366) -/
def Obligations.TrapFrameRestoresTutor : Prop :=
  ∀ (x : Tutor) (cause info pc : Nat), pc < 2 ^ 15 → x.stack.length ≤ 16 → (∀ p ∈ x.stack, p < 2 ^ 16) →
    let y := trapReturn { x with localMem := Memory.writeBytes x.localMem trapBase (trapFrame x cause info pc), masked := true, trapping := true }
    y.pc = pc ∧ y.z = x.z ∧ y.n = x.n ∧ y.c = x.c ∧ y.v = x.v ∧ y.stack = x.stack ∧ (∀ i, i < 32 → y.g i = x.g i) ∧ y.masked = false ∧ y.trapping = false

/-- Tasks are dispatched, pre-empted, resumed and released by the rules of their levels. TASK_DISPATCH starts the head of
the highest level on the idle tutor its rule names, with its handle in G1 at its kind's entry; TASK_PREEMPT saves a
running lower task in its level's frame and starts the head; TASK_RESUME restores a saved task; TASK_HELD_RELEASE
makes the oldest held release that nothing precedes, and frees its slot; a fragment entry expires, and a waiting
fragment goes to the host. (R367, R370, R372, R373) -/
def Obligations.TasksAreScheduled : Prop :=
  (∀ (pipe u : Nat) (t : TaskRec) (im : Image) (s : State), s.dev.dieRuns = true → s.dev.asleep = false → s.dev.dispatchStopped = false → s.dev.readyHead pipe = some t → s.dev.idleTutorFor t = some u →
    s.dev.tutors.image = some im → t.cancelled = false →
    Reaches (.taskDispatch pipe) s (fun d => (d.tutor u).task = some t.slot ∧ (d.tutor u).pc = im.entry.getD t.kind 0 ∧ (d.tutor u).stack = [] ∧
      (d.tutor u).g 1 = t.handle % 2 ^ 64 ∧ (d.tutor u).masked = false ∧ (∀ v, v ≠ u → d.tutor v = s.dev.tutor v) ∧
      d.tutors.ready = s.dev.tutors.ready.filter (fun h => h != t.handle))) ∧
  (∀ (pipe u : Nat) (t r : TaskRec) (s : State), s.dev.dieRuns = true → s.dev.asleep = false → s.dev.dispatchStopped = false → s.dev.readyHead pipe = some t → s.dev.idleTutorFor t = none →
    s.dev.victimTutor pipe t.prio = some u → s.dev.running u = some r →
    (s.dev.tutor u).ops = [] → (s.dev.tutor u).waiting = false →
    Reaches (.taskPreempt pipe) s (fun d => (d.tutor u).task = some t.slot ∧ ∃ f, SMap.get (fun _ => none) (d.tutor u).levels r.prio = some f ∧
      f.slot = r.slot ∧ f.pc = (s.dev.tutor u).pc ∧ f.regs = (s.dev.tutor u).regs ∧ f.stack = (s.dev.tutor u).stack)) ∧
  (∀ (u : Nat) (t : TaskRec) (f : Saved) (s : State), s.dev.dieRuns = true → s.dev.asleep = false → (s.dev.tutor u).task = none → s.dev.preemptedOn u = some t → s.dev.readyHead (clusterOf u) = none →
    SMap.get (fun _ => none) (s.dev.tutor u).levels t.prio = some f → t.cancelled = false → (f.due = [] ∨ f.trapping = true) → (s.dev.tutor u).double = false →
    (s.dev.tutor u).preempt = none → (s.dev.tutor u).waiting = false →
    Reaches (.taskResume u) s (fun d => (d.tutor u).task = some t.slot ∧ (d.tutor u).pc = f.pc ∧ (d.tutor u).regs = f.regs ∧ (d.tutor u).stack = f.stack)) ∧
  (∀ (pipe v : Nat) (t : TaskRec) (s : State), s.dev.dieRuns = true → pipe < 16 → s.dev.tutors.tasks = [t] → t.pipe = pipe → t.state = .held v → t.cancelled = false → t.desc = none → t.host = none →
    s.dev.services.natRelease = [] → s.dev.services.exportQueue = [] → (∀ x ∈ s.dev.descs, x.wait ≠ .slot) →
    Reaches (.taskHeldRelease pipe) s (fun d => d.tutors.tasks = [] ∧
      d.rd (M.CNT_TASK_RELEASE pipe) = (s.dev.rd (M.CNT_TASK_RELEASE pipe) + 1) % 2 ^ 64)) ∧
  (∀ (pipe : Nat) (g : Datagram) (s : State), s.dev.dieRuns = true → s.dev.tutors.datagrams = [g] → g.pipe = pipe → 64 ≤ lessonsSince s.bell.lesson.toNat g.lastLesson →
    Gives (.fragmentEntryExpire pipe) s s.bell { s.dev with tutors := { s.dev.tutors with datagrams := [] } }) ∧
  ∀ (pipe slot made u : Nat) (t : TaskRec) (x : Desc) (g : Datagram) (s : State), s.dev.dieRuns = true → s.dev.taskRec pipe slot = some t → s.dev.taskDesc t = some x →
    t.state = .running u → s.dev.tutors.datagrams = [g] → g.pipe = pipe → g.ports = none → g.waiting = [(slot, made)] →
    2 ≤ lessonsSince s.bell.lesson.toNat made →
    Gives (.fragmentWaitTimeout pipe slot) s s.bell (fragmentToHost s.bell (s.dev.setDatagram pipe x.hdr { g with waiting := [] }) t u)

/-- Limits raise their traps, and a hung tutor is reset and its task goes back. At a word boundary the cycle budget enters
word 8 and the mask limit word 7, each masked with its cause in TUTOR_LAST_TRAP; a task past its budget hangs its
tutor, which loses its task and counts the hang, and the task is ready again with its reissue counted. (R362, R366,
R371) -/
def Obligations.TutorsTrapAndHang : Prop :=
  (∀ (u : Nat) (s : State), s.dev.dieRuns = true → (s.dev.tutor u).task.isSome = true → (s.dev.tutor u).budget = false → (s.dev.tutor u).due = [] → (s.dev.tutor u).double = false → (s.dev.tutor u).ops = [] →
    (s.dev.tutor u).waiting = false → (s.dev.tutor u).trapping = false →
    Reaches (.taskBudgetTrap u) s (fun d => (d.tutor u).pc = 8 ∧ (d.tutor u).budget = true ∧ (d.tutor u).masked = true ∧ (d.tutor u).trapping = true ∧
      (d.tutor u).task = (s.dev.tutor u).task ∧ d.rd (M.TUTOR_LAST_TRAP u) = 8)) ∧
  (∀ (u : Nat) (s : State), s.dev.dieRuns = true → (s.dev.tutor u).task.isSome = true → (s.dev.tutor u).masked = true → (s.dev.tutor u).due = [] → (s.dev.tutor u).double = false → (s.dev.tutor u).ops = [] →
    (s.dev.tutor u).waiting = false → (s.dev.tutor u).trapping = false →
    Reaches (.maskLimitTrap u) s (fun d => (d.tutor u).pc = 7 ∧ (d.tutor u).trapping = true ∧ (d.tutor u).task = (s.dev.tutor u).task ∧
      d.rd (M.TUTOR_LAST_TRAP u) = 7)) ∧
  ∀ (u : Nat) (t : TaskRec) (s : State), s.dev.dieRuns = true → (s.dev.tutor u).task.isSome = true → (s.dev.tutor u).budget = true → s.dev.tutors.tasks = [t] →
    t.state = .running u → t.reissue = 0 →
    Reaches (.tutorHang u) s (fun d => (d.tutor u).task = none ∧ (d.tutor u).hangs = (s.dev.tutor u).hangs + 1 ∧ (d.tutor u).ops = [] ∧
      d.tutors.tasks = [{ t with state := .ready, reissue := 1, avoid := u :: t.avoid }] ∧ d.tutors.ready = t.handle :: s.dev.tutors.ready)

/-- An image is checked, dispatch stops, every task goes back, and tutors are enabled. TUTOR_IMAGE_LOAD starts the checks
with ST_PENDING; their end chooses between the load and its failure status; the stop leaves no task running or pre-
empted on any tutor; TUTOR_ENABLE written as 1 puts its tutor in service. (R371, R377, R378, R380) -/
def Obligations.TutorImagesLoad : Prop :=
  (∀ (a : Acc) (s : State), Passes s.dev a M.TUTOR_IMAGE_LOAD → s.dev.tutors.load = .idle → s.dev.start.state = .ready →
    Reaches (.tutorImageLoad a) s (fun d => d.tutors = { s.dev.tutors with load := .checking } ∧ d.rd M.TUTOR_IMAGE_STATUS = St.PENDING)) ∧
  (∀ s : State, s.dev.dieRuns = true → s.dev.tutors.load = .checking → imageStatus s.dev.imageBytes.2 = St.OK → Gives .tutorImageChecked s s.bell { s.dev with tutors :=
    { s.dev.tutors with load := .stopDue, loading := some (Image.ofBytes s.dev.imageBytes.1 s.dev.imageBytes.2) } }) ∧
  (∀ s : State, s.dev.dieRuns = true → s.dev.tutors.load = .checking → imageStatus s.dev.imageBytes.2 ≠ St.OK →
    Reaches .tutorImageChecked s (fun d => d.tutors = { s.dev.tutors with load := .idle } ∧
      d.rd M.TUTOR_IMAGE_STATUS = imageStatus s.dev.imageBytes.2 % 2 ^ 64)) ∧
  (∀ s : State, s.dev.dieRuns = true → s.dev.tutors.load = .stopping → Reaches .tutorImageTaskStop s (fun d => d.tutors.load = .resumeDue ∧
    d.tutors.image = s.dev.tutors.image ∧ ∀ t ∈ d.tutors.tasks, ∀ u, u < 64 → t.state ≠ .running u ∧ t.state ≠ .preempted u)) ∧
  ∀ (u : Nat) (a : Acc) (s : State), Passes s.dev a (M.TUTOR_ENABLE u) → storedValue (M.TUTOR_ENABLE u) a.val = 1 →
    Reaches (.tutorEnable u a) s (fun d => d.rd (M.TUTOR_ENABLE u) = 1 ∧ d.tutor u = { s.dev.tutor u with offline := false })

/-- A write to an RWS member by a principal with no open transaction ends with ST_NO_TXN. A write to an RWS member by a
principal that owns no open transaction, where no earlier check of the order of checks fails, ends with ST_NO_TXN and
is not applied; over PCIe it is recorded as a rejected write, and for any other principal it changes nothing at all.
(R125) -/
def Obligations.UnownedStagedWriteIsRefused : Prop :=
  (∀ (now : BellSt) (d : Dev) (a : Acc) (id : Nat) (m : MemberRow), findMember id = some m → m.right a.who = .rws → d.ownsOpen a.who = false →
    (∀ x, a.who = .d x → d.role x = 2) → (a.who = .k → d.start.pcieUp = true ∧ (a.width = 8 ∨ (a.width = 4 ∧ m.ty.wide = false))) →
    d.gate (id / 2 ^ 24) = false → id ≠ M.BELL_LOAD →
    writeMember now d a id = (St.NO_TXN, now, if a.who = .k ∨ a.who = .u then d.rejectPcie St.NO_TXN id else d)) ∧
  ∀ (w : PcieWrite) (id : Nat) (m : MemberRow) (s : State), w.bar = 0 → w.addr < 0x0A000000 → w.data ≠ [] → placeOf w.addr = .member id 0 →
    findMember id = some m → m.k = .rws → s.dev.ownsOpen .k = false → (w.data.length = 8 ∨ (w.data.length = 4 ∧ m.ty.wide = false)) →
    s.dev.gate (id / 2 ^ 24) = false → s.dev.start.pcieUp = true → id ≠ M.BELL_LOAD →
    Reaches (.stagedWrite w) s (fun d => d.txn = s.dev.txn ∧ d.rd M.LAST_WRITE_STATUS = St.NO_TXN ∧ d.rd M.LAST_WRITE_ID = id % 2 ^ 64 ∧
      d.rd M.CNT_WRITE_REJECT = (s.dev.rd M.CNT_WRITE_REJECT + 1) % 2 ^ 64 ∧
      ∀ k, k ∉ [M.LAST_WRITE_STATUS, M.LAST_WRITE_ID, M.CNT_WRITE_REJECT] → d.rd k = s.dev.rd k)

/-- The host's pool triggers are answered with the lowest free buffer, or with the first failing check of a free. A pool
trigger waits for its answer, and a second one meanwhile is refused; an allocation is answered with the lowest-
numbered free buffer of the pool that serves the size, owned by the host with count 1, or with ST_RANGE; a free of a
valid pointer ends by the first check of R399 that applies; a bitmap repair removes one bad word and nothing else.
(R394, R395, R396, R397, R398, R399, R402, R403) -/
def Obligations.PoolsGrantAndFree : Prop :=
  (∀ (a : Acc) (s : State), Passes s.dev a M.POOL_HOST_ALLOC → s.dev.pools.hostAlloc = none →
    Gives (.poolHostAlloc a) s s.bell { s.dev.wr M.POOL_HOST_RESULT (St.PENDING * 2 ^ 40) with
      pools := { s.dev.pools with hostAlloc := some (storedValue M.POOL_HOST_ALLOC a.val) } }) ∧
  (∀ (a : Acc) (s : State), Passes s.dev a M.POOL_HOST_FREE → s.dev.pools.hostFree = none →
    Gives (.poolHostFree a) s s.bell { s.dev.wr M.POOL_HOST_FREE_STATUS St.PENDING with
      pools := { s.dev.pools with hostFree := some (storedValue M.POOL_HOST_FREE a.val) } }) ∧
  (∀ (a : Acc) (s : State), Passes s.dev a M.POOL_HOST_ALLOC → s.dev.pools.hostAlloc.isSome = true →
    Gives (.poolHostAlloc a) s s.bell (Dev.answer a.who M.POOL_HOST_ALLOC (St.BUSY, s.dev))) ∧
  (∀ (size i : Nat) (s : State), s.dev.dieRuns = true → s.dev.pools.hostAlloc = some size → s.dev.pools.hostFree = none → 1 ≤ size → size ≤ 65536 →
    s.dev.pools.resizing.contains (poolFor size) = false →
    s.dev.findFree (poolFor size) (if poolFor size = 3 then 16 else 0) (s.dev.poolCount (poolFor size)) = some i →
    Reaches .poolHostAnswer s (fun d => d.rd M.POOL_HOST_RESULT = (poolFor size * 2 ^ 61 + i * poolBytes (poolFor size)) % 2 ^ 64 ∧
      d.buf (poolFor size) i = (0x20, 1) ∧ d.pools.hostAlloc = none ∧ size ≤ poolBytes (poolFor size) ∧
      d.rd (M.CNT_POOL_ALLOC (poolFor size)) = (s.dev.rd (M.CNT_POOL_ALLOC (poolFor size)) + 1) % 2 ^ 64)) ∧
  (∀ (size : Nat) (s : State), s.dev.dieRuns = true → s.dev.pools.hostAlloc = some size → s.dev.pools.hostFree = none → (size = 0 ∨ 65536 < size) →
    Gives .poolHostAnswer s s.bell { s.dev.wr M.POOL_HOST_RESULT (St.RANGE * 2 ^ 40) with pools := { s.dev.pools with hostAlloc := none } }) ∧
  (∀ (d : Dev) (p lo hi i : Nat), d.findFree p lo hi = some i → lo ≤ i ∧ i < hi ∧ i ∉ d.granted p ∧
    ∀ j, lo ≤ j → j < i → j ∈ d.granted p ∨ bufKey p j ∈ d.pools.quarantined) ∧
  (∀ (p i owner n : Nat) (s : State), s.dev.dieRuns = true → s.dev.pools.hostAlloc = none → s.dev.pools.hostFree = some (p * 2 ^ 61 + i * poolBytes p) → 1 ≤ p → p ≤ 4 →
    i < s.dev.poolCount p → i * poolBytes p < 2 ^ 40 → s.dev.pools.quarantined.contains (bufKey p i) = false → s.dev.buf p i = (owner, n) →
    Reaches .poolHostAnswer s (fun d => d.pools.hostFree = none ∧
      d.rd M.POOL_HOST_FREE_STATUS = (if n = 0 then St.POOL_DOUBLE_FREE else if owner ≠ 0x20 then St.POOL_FOREIGN_FREE else St.OK) ∧
      d.buf p i = (if owner ≠ 0x20 ∨ n = 0 then (owner, n) else if n = 1 then (0xFF, 0) else (owner, n - 1)))) ∧
  ∀ (word : Nat) (s : State), s.dev.dieRuns = true → Reaches (.poolBitmapRepair word) s (fun d =>
    d = { s.dev with pools := { s.dev.pools with badWords := d.pools.badWords } } ∧
    ∀ w, w ∈ d.pools.badWords ↔ w ∈ s.dev.pools.badWords ∧ w ≠ word)

/-- A channel issues the request of the highest shade, and a completion counts what the decoder found. Of the requests
whose banks may issue, a channel issues one of the highest shade; the issue marks it and wakes a channel from self-
refresh. A completion ends the oldest request to its unit, raises the longest age and counts 64 bytes; a unit of which
one code word is corrected is counted and asks for its corrective write where no later write has overtaken the read;
one of which a code word is uncorrectable is counted, and failures past the limit take the channel out of service. So
does a command that 64 periods pass without completing, and none else. (A unit for which a judgement of the roll call
waits, and fetches of a channel out of service, are other statements' matter.) (R437, R438, R441, R442, R443, R446,
R449) -/
def Obligations.MemoryRequestsIssueAndComplete : Prop :=
  (∀ (d : Dev) (c : Channel) (allowed : List Nat) (t : Nat) (q : MemReq), pickRoll d c allowed t = some q →
    q ∈ c.reqs ∧ q.issued = false ∧ unitBank q.unit ∈ allowed ∧ ∀ x ∈ bankHeads c allowed, d.shade t x ≤ d.shade t q) ∧
  (∀ (d : Dev) (c : Channel) (allowed : List Nat) (t : Nat) (q : MemReq), pickBulk d c allowed t = some q →
    q ∈ c.reqs.take 256 ∧ q.issued = false ∧ unitBank q.unit ∈ allowed ∧ c.reqs.find? (fun x => !x.issued && x.unit == q.unit) = some q ∧
    ∀ x ∈ c.reqs.take 256, x.issued = false → unitBank x.unit ∈ allowed → c.reqs.find? (fun y => !y.issued && y.unit == x.unit) = some x →
      d.shade t x ≤ d.shade t q) ∧
  (∀ (ch t : Nat) (allowed : List Nat) (q : MemReq) (s : State), s.dev.dieRuns = true → ch < 16 → s.dev.chServes ch = true →
    (if s.dev.on (M.MEMCH_CLASS ch) then pickBulk s.dev (s.dev.channel ch) allowed t else pickRoll s.dev (s.dev.channel ch) allowed t) = some q →
    Reaches (.memchIssue ch allowed t) s (fun d => (d.channel ch).reqs = markIssued (s.dev.channel ch).reqs q t ∧
      (d.channel ch).lastBank = unitBank q.unit ∧ d.rd (M.MEMCH_STATE ch) = 2)) ∧
  (∀ (ch unit t : Nat) (e : EccIn) (q : MemReq) (s : State), s.dev.dieRuns = true → ch < 16 → (s.dev.channel ch).oldest unit = some q → q.issued = true →
    (q.port ≠ 3 ∨ s.dev.roll.reads.all (fun r => decide (s.dev.slotPlace r.slot ≠ (ch, unit))) = true) → (∀ p, p < 16 → (s.dev.pipe p).reads = []) →
    (q.write = true ∨ q.found e = (.clean, .clean)) →
    Reaches (.memAccessComplete ch unit e t) s (fun d => (d.channel ch).reqs = (s.dev.channel ch).reqs.erase q ∧
      d.rd (M.MEMCH_LATENCY_MAX ch) = max (s.dev.rd (M.MEMCH_LATENCY_MAX ch)) ((t + 2 ^ 32 - q.since % 2 ^ 32) % 2 ^ 32) ∧
      d.rd (if q.write then M.CNT_MEMCH_WRITE_BYTES ch else M.CNT_MEMCH_READ_BYTES ch) =
        (s.dev.rd (if q.write then M.CNT_MEMCH_WRITE_BYTES ch else M.CNT_MEMCH_READ_BYTES ch) + 64) % 2 ^ 64)) ∧
  (∀ (ch unit t k v : Nat) (e : EccIn) (q : MemReq) (s : State), s.dev.dieRuns = true → ch < 16 → (s.dev.channel ch).oldest unit = some q → q.issued = true →
    (q.port ≠ 3 ∨ s.dev.roll.reads.all (fun r => decide (s.dev.slotPlace r.slot ≠ (ch, unit))) = true) → (∀ p, p < 16 → (s.dev.pipe p).reads = []) →
    q.write = false → q.found e = (.symbol k v, .clean) → k < 32 → s.dev.chServes ch = true → Reaches (.memAccessComplete ch unit e t) s (fun d =>
      d.rd (M.CNT_MEM_CORRECTED ch) = (s.dev.rd (M.CNT_MEM_CORRECTED ch) + 1) % 2 ^ 64 ∧
      d.rd (M.CNT_MEM_UNCORRECTABLE ch) = s.dev.rd (M.CNT_MEM_UNCORRECTABLE ch) ∧
      (q.overtaken = true → (d.channel ch).reqs = (s.dev.channel ch).reqs.erase q) ∧
      (q.overtaken = false → ∃ x ∈ (d.channel ch).reqs, x.unit = unit ∧ x.write = true ∧ x.corrective = true ∧ x.port = 6))) ∧
  (∀ (ch unit t : Nat) (e : EccIn) (q : MemReq) (s : State), s.dev.dieRuns = true → ch < 16 → (s.dev.channel ch).oldest unit = some q → q.issued = true →
    (q.port ≠ 3 ∨ s.dev.roll.reads.all (fun r => decide (s.dev.slotPlace r.slot ≠ (ch, unit))) = true) → (∀ p, p < 16 → (s.dev.pipe p).reads = []) →
    q.write = false → q.found e = (.uncorrectable, .clean) → s.dev.chServes ch = true → Reaches (.memAccessComplete ch unit e t) s (fun d =>
      d.rd (M.CNT_MEM_UNCORRECTABLE ch) = (s.dev.rd (M.CNT_MEM_UNCORRECTABLE ch) + 1) % 2 ^ 64 ∧
      (s.dev.rd (M.MEMCH_FAIL_LIMIT ch) < (s.dev.channel ch).failures + 1 → d.rd (M.MEMCH_STATE ch) = 4 ∧ (d.channel ch).reqs = []) ∧
      ((s.dev.channel ch).failures + 1 ≤ s.dev.rd (M.MEMCH_FAIL_LIMIT ch) → d.rd (M.MEMCH_STATE ch) = s.dev.rd (M.MEMCH_STATE ch)))) ∧
  (∀ (ch : Nat) (q : MemReq) (s : State), s.dev.dieRuns = true → ch < 16 → s.dev.chServes ch = true → (∀ p, p < 16 → (s.dev.pipe p).reads = []) →
    q ∈ (s.dev.channel ch).reqs → q.issued = true → 65536 ≤ (s.bell.time.toNat + 1024 + 2 ^ 32 - q.issuedAt % 2 ^ 32) % 2 ^ 32 →
    Reaches (.memchCommandTimeout ch) s (fun d => d.rd (M.MEMCH_STATE ch) = 4 ∧ (d.channel ch).reqs = [])) ∧
  ∀ (ch : Nat) (s : State), (∀ p, p < 16 → (s.dev.pipe p).reads = []) →
    (∀ q ∈ (s.dev.channel ch).reqs, q.issued = true → (s.bell.time.toNat + 1024 + 2 ^ 32 - q.issuedAt % 2 ^ 32) % 2 ^ 32 < 65536) →
    exec (.memchCommandTimeout ch) s = .next s

/-- Refreshes are placed, postponed or forced; a channel enters self-refresh, is trained again and returns. A refresh of a
bank with no request is placed and clears what was postponed, one of a busy bank is postponed, and at the limit it is
forced and counted, and write delays whose move waited for it are moved; a bulk channel idle for MEMCH_SR_IDLE enters
self-refresh; MEMCH_RETRAIN starts training of a channel out of service and is refused elsewhere; training that ends
well returns it to service with its delays as trained; 64 lessons after the last a ZQ result is latched, its value
open, and not before. (R445, R446, R447, R448, R449) -/
def Obligations.MemoryChannelsChangeState : Prop :=
  (∀ (ch bank : Nat) (late : Bool) (s : State), s.dev.dieRuns = true → ch < 16 → (s.dev.channel ch).reqs.any (fun q => unitBank q.unit == bank) = false →
    Gives (.memchRefresh ch bank late) s s.bell (s.dev.setChannel ch { s.dev.channel ch with
      postponed := SMap.set zeroAt (s.dev.channel ch).postponed bank 0 })) ∧
  (∀ (ch bank : Nat) (late : Bool) (s : State), s.dev.dieRuns = true → ch < 16 → (s.dev.channel ch).reqs.any (fun q => unitBank q.unit == bank) = true →
    Reaches (.memchRefresh ch bank late) s (fun d => (d.channel ch).reqs = (s.dev.channel ch).reqs ∧
      SMap.get zeroAt (d.channel ch).postponed bank = (if late then 0 else SMap.get zeroAt (s.dev.channel ch).postponed bank + 1) ∧
      (late = true → ∀ i x, i < 2 → SMap.get (fun _ => none) (s.dev.channel ch).due i = some x →
        SMap.get (fun _ => (0 : Int)) (d.channel ch).adjusted i = x ∧ SMap.get (fun _ => none) (d.channel ch).due i = none) ∧
      (∀ b, b ≠ bank → SMap.get zeroAt (d.channel ch).postponed b = SMap.get zeroAt (s.dev.channel ch).postponed b) ∧
      d.rd (M.CNT_MEMCH_REFRESH_FORCED ch) = (s.dev.rd (M.CNT_MEMCH_REFRESH_FORCED ch) + b2n late) % 2 ^ 64)) ∧
  (∀ (ch t : Nat) (s : State), s.dev.dieRuns = true → ch < 16 → s.dev.on (M.MEMCH_CLASS ch) = true → s.dev.rd (M.MEMCH_STATE ch) = 2 → (s.dev.channel ch).idle = true →
    s.dev.start.zeroing = false → s.dev.rd (M.MEMCH_SR_IDLE ch) ≤ (t + 2 ^ 32 - (s.dev.channel ch).lastReq % 2 ^ 32) % 2 ^ 32 →
    Reaches (.memchSrEnter ch t) s (fun d => d.rd (M.MEMCH_STATE ch) = 3 ∧ (d.channel ch).reqs = [] ∧
      d.rd (M.CNT_MEMCH_SR_ENTRY ch) = (s.dev.rd (M.CNT_MEMCH_SR_ENTRY ch) + 1) % 2 ^ 64)) ∧
  (∀ (ch t : Nat) (s : State), (s.dev.on (M.MEMCH_CLASS ch) = false ∨ s.dev.rd (M.MEMCH_STATE ch) ≠ 2 ∨ (s.dev.channel ch).idle = false ∨ s.dev.start.zeroing = true) →
    exec (.memchSrEnter ch t) s = .next s) ∧
  (∀ (ch : Nat) (s : State), s.dev.dieRuns = true → (∀ l, (s.dev.channel ch).zqLesson = some l → 64 ≤ (s.bell.lesson.toNat + 2 ^ 24 - l % 2 ^ 24) % 2 ^ 24) →
    Gives (.zqCalibrationLatch ch) s s.bell ({ s.dev with free := s.dev.free + 1 }.setChannel ch { s.dev.channel ch with
      zq := Config.freeValue s.dev.free, zqLesson := some s.bell.lesson.toNat })) ∧
  (∀ (ch l : Nat) (s : State), (s.dev.channel ch).zqLesson = some l → (s.bell.lesson.toNat + 2 ^ 24 - l % 2 ^ 24) % 2 ^ 24 < 64 →
    exec (.zqCalibrationLatch ch) s = .next s) ∧
  (∀ (ch : Nat) (a : Acc) (s : State), ch < 16 → Passes s.dev a (M.MEMCH_RETRAIN ch) → s.dev.rd (M.MEMCH_STATE ch) = 4 →
    Gives (.memchRetrain ch a) s s.bell (s.dev.wr (M.MEMCH_STATE ch) 1)) ∧
  (∀ (ch : Nat) (a : Acc) (s : State), ch < 16 → Passes s.dev a (M.MEMCH_RETRAIN ch) → s.dev.rd (M.MEMCH_STATE ch) ≠ 4 →
    Gives (.memchRetrain ch a) s s.bell (Dev.answer a.who (M.MEMCH_RETRAIN ch) (St.NOT_ALLOWED, s.dev))) ∧
  (∀ (ch : Nat) (i : TrainIn) (s : State), s.dev.dieRuns = true → ch < 16 → s.dev.rd (M.MEMCH_STATE ch) = 1 → i.code = 0 →
    Reaches (.memchRetrainDone ch i) s (fun d => d.rd (M.MEMCH_STATE ch) = 2 ∧ d.rd (M.MEMCH_TRAIN_STATUS ch) = St.OK ∧
      (d.channel ch).failures = 0 ∧ (d.channel ch).adjusted = [] ∧ (s.dev.buddy.mode = .paired → ch < s.dev.rollChannels → d.buddy.sweep = s.dev.buddy.sweep ++ [(ch, 0)]))) ∧
  ∀ (ch : Nat) (i : TrainIn) (s : State), s.dev.dieRuns = true → ch < 16 → s.dev.rd (M.MEMCH_STATE ch) = 1 → i.code ≠ 0 →
    Reaches (.memchRetrainDone ch i) s (fun d => d.rd (M.MEMCH_STATE ch) = 4 ∧ d.rd (M.MEMCH_TRAIN_STATUS ch) = i.code % 2 ^ 64)

/-- A doorbell takes whole descriptors up to the positions it covers, and a push is held or discarded. A doorbell of a
ring that is not enabled, at another offset or of another width does nothing; on an event ring it moves RING_CONS; on
any other ring it appends whole descriptors that together fill no more positions than it covers, ends those that break
the descriptor rules at once, moves on by their positions, and discards every held push, unless the ring stalls on a
task, where the doorbell waits; a push of one aligned 64-byte write is held up to eight, and any other is discarded
and counted. (R464, R465, R466, R468, R473) -/
def Obligations.RingDoorbellsAndPushes : Prop :=
  (∀ (r offset : Nat) (data mem : Bytes) (s : State), (s.dev.rd (M.RING_STATE r) ≠ 1 ∨ 256 ≤ r ∨ offset ≠ 0 ∨ data.length ≠ 4) →
    exec (.ringDoorbell r offset data mem) s = .next s) ∧
  (∀ (r : Nat) (data mem : Bytes) (s : State), s.dev.dieRuns = true → 240 ≤ r → r < 256 → s.dev.rd (M.RING_STATE r) = 1 → data.length = 4 →
    Gives (.ringDoorbell r 0 data mem) s s.bell (s.dev.wr (M.RING_CONS r) (leVal data % 65536))) ∧
  (∀ (r : Nat) (data mem : Bytes) (s : State), s.dev.dieRuns = true → r < 240 → s.dev.rd (M.RING_STATE r) = 1 → data.length = 4 → (s.dev.ring r).fetch < 65536 →
    let d0 := if s.dev.rd (M.RING_OWNERSHIP r) = 1 then s.dev.wr (M.RING_PROD r) (leVal data % 65536) else s.dev
    Reaches (.ringDoorbell r 0 data mem) s (fun d => ∃ es : List REntry, (d.ring r).entries = (s.dev.ring r).entries ++ es ∧
      (d.ring r).fetch = ((s.dev.ring r).fetch + (es.map (fun e => e.positions)).sum) % 65536 ∧
      (es.map (fun e => e.positions)).sum ≤ d0.covered r (leVal data % 65536) ∧
      (∀ e ∈ es, e.started = !descOk r (s.dev.rd (M.RING_FORMAT r)) e.bytes) ∧
      (d0.taskStalled r = false → (d.ring r).pushes = []) ∧ (d0.taskStalled r = true → es = [] ∧ (d.ring r).pushes = (s.dev.ring r).pushes ∧
        (d.ring r).waiting = some (leVal data % 65536, mem)))) ∧
  (∀ (r j : Nat) (data : Bytes) (s : State), s.dev.dieRuns = true → r < 240 → s.dev.rd (M.RING_STATE r) = 1 → data.length = 64 → (s.dev.ring r).pushes.length < 8 →
    Gives (.ringPush r j data true) s s.bell (s.dev.setRing r { s.dev.ring r with pushes := (s.dev.ring r).pushes ++ [(j % 32, data)] })) ∧
  ∀ (r j : Nat) (data : Bytes) (single : Bool) (s : State), s.dev.dieRuns = true → r < 240 → s.dev.rd (M.RING_STATE r) = 1 →
    (single = false ∨ data.length ≠ 64 ∨ 8 ≤ (s.dev.ring r).pushes.length) →
    Gives (.ringPush r j data single) s s.bell (s.dev.bump (M.CNT_RING_PUSH_DISCARD r))

/-- Each descriptor acts when it is the next of its ring to start. A ring whose next entry has another operation, or that
is not enabled, starts nothing; NOP ends with ST_OK, RX_BUF is posted, TX_FRAME enters an egress queue or ends by its
length or a drop, TX_SEG becomes a segmentation request or ends by its header or size and is counted as one, TASK
makes a task ready or is refused on a gated pipe; a completed position 0 has DONE and STATUS set and its operation and
address kept. (R212, R467, R468, R469, R470, R471, R472, R473) -/
def Obligations.RingEntriesStart : Prop :=
  (∀ (pos : Bytes) (st : Nat), st < 65536 → (donePos pos st).length = 16 ∧ fld (leVal (donePos pos st)) 17 1 = 1 ∧
    fld (leVal (donePos pos st)) 48 16 = st ∧ fld (leVal (donePos pos st)) 24 8 = fld (leVal (fit 16 pos)) 24 8 ∧
    fld (leVal (donePos pos st)) 64 64 = fld (leVal (fit 16 pos)) 64 64) ∧
  (∀ (r : Nat) (data : Bytes) (s : State), 
    (s.dev.nextEntry r 0 = none → exec (.ringNop r) s = .next s) ∧ (s.dev.nextEntry r 0x10 = none → exec (.rxBuf r) s = .next s) ∧
    (s.dev.nextEntry r 1 = none → exec (.txFrame r data) s = .next s) ∧ (s.dev.nextEntry r 2 = none → exec (.txSeg r data) s = .next s) ∧
    (s.dev.nextEntry r 3 = none → exec (.ringTask r) s = .next s)) ∧
  (∀ (r : Nat) (e : REntry) (s : State), s.dev.dieRuns = true → s.dev.nextEntry r 0 = some e → Reaches (.ringNop r) s (fun d => d.reg = s.dev.reg ∧
    (d.ring r).entries.map (fun x => (x.index, x.bytes)) = (s.dev.ring r).entries.map (fun x => (x.index, x.bytes)) ∧
    ∀ x ∈ (d.ring r).entries, if x.index = e.index then x.started = true ∧ x.fin = some (St.OK, donePos x.bytes St.OK) else x ∈ (s.dev.ring r).entries)) ∧
  (∀ (r : Nat) (e : REntry) (s : State), s.dev.dieRuns = true → s.dev.nextEntry r 0x10 = some e → Reaches (.rxBuf r) s (fun d => d.reg = s.dev.reg ∧
    (d.ring r).entries.map (fun x => (x.index, x.bytes, x.fin)) = (s.dev.ring r).entries.map (fun x => (x.index, x.bytes, x.fin)) ∧
    ∀ x ∈ (d.ring r).entries, if x.index = e.index then x.started = true else x ∈ (s.dev.ring r).entries)) ∧
  (∀ (r : Nat) (data : Bytes) (e : REntry) (s : State), s.dev.dieRuns = true → s.dev.nextEntry r 1 = some e → s.dev.pins.ready = true → s.dev.segBusy r = false →
    (txLength e.bytes < 60 ∨ s.dev.rd (M.PORT_MAX_FRAME (fld (posAt e.bytes 1) 16 8)) < txLength e.bytes + 4) →
    Gives (.txFrame r data) s s.bell (finishEntry s.dev r e.index St.RANGE)) ∧
  (∀ (r n b : Nat) (data : Bytes) (e : REntry) (d1 d2 : Dev) (s : State), s.dev.dieRuns = true → s.dev.nextEntry r 1 = some e → s.dev.pins.ready = true →
    s.dev.segBusy r = false → bitOf (posAt e.bytes 1) 12 = false → 60 ≤ txLength e.bytes →
    txLength e.bytes + 4 ≤ s.dev.rd (M.PORT_MAX_FRAME (fld (posAt e.bytes 1) 16 8)) →
    let bytes := if bitOf (posAt e.bytes 1) 11 then slice e.bytes 32 (txLength e.bytes) else fit (txLength e.bytes) data
    let port := fld (posAt e.bytes 1) 16 8
    let cls := fld (posAt e.bytes 1) 13 3
    let f : Frame := { bytes, port, cls, rxNs := 0, cells := cellsOf (bytes.length + 4), limited := false, lossless := false, source := 1, held := [], bad := [] }
    ptpPlace bytes = none → takeCells s.bell s.dev f = (some n, b, d1) →
    enqueue s.bell d1 f (copyOf n f bytes port cls false none) none false = (.queued, d2) →
    Gives (.txFrame r data) s s.bell (finishEntry d2 r e.index St.OK)) ∧
  (∀ (r : Nat) (hdr : Bytes) (e : REntry) (s : State), s.dev.dieRuns = true → s.dev.nextEntry r 2 = some e → s.dev.pins.ready = true →
    let n := pos0BufLen e.bytes
    let v := posAt e.bytes 1
    1 ≤ n → n ≤ 256 → segHeaderOk (fit n hdr) = true → fld v 48 16 ≠ 0 → n + fld v 48 16 + 4 ≤ s.dev.rd (M.PORT_MAX_FRAME (fld v 16 8)) →
    Reaches (.txSeg r hdr) s (fun d => d.segs = s.dev.segs ++ [{
        ring := r, index := e.index, port := fld v 16 8, cls := fld v 13 3, mss := fld v 48 16,
        hdr := fit n hdr, payAddr := pos0Addr e.bytes, payLen := fld v 28 19, done := 0, seq := 0, dropped := false, chunks := [] }] ∧
      ∀ x ∈ (d.ring r).entries, x.index = e.index → x.started = true)) ∧
  (∀ (r : Nat) (hdr : Bytes) (e : REntry) (s : State), s.dev.dieRuns = true → s.dev.nextEntry r 2 = some e → s.dev.pins.ready = true →
    (pos0BufLen e.bytes = 0 ∨ 256 < pos0BufLen e.bytes ∨ segHeaderOk (fit (pos0BufLen e.bytes) hdr) = false) →
    Gives (.txSeg r hdr) s s.bell ((finishEntry s.dev r e.index St.PORT_SEG_HEADER).bump (M.CNT_SEG_REQUEST (fld (posAt e.bytes 1) 16 8)))) ∧
  (∀ (r : Nat) (hdr : Bytes) (e : REntry) (s : State), s.dev.dieRuns = true → s.dev.nextEntry r 2 = some e → s.dev.pins.ready = true →
    let n := pos0BufLen e.bytes
    let v := posAt e.bytes 1
    1 ≤ n → n ≤ 256 → segHeaderOk (fit n hdr) = true → (fld v 48 16 = 0 ∨ s.dev.rd (M.PORT_MAX_FRAME (fld v 16 8)) < n + fld v 48 16 + 4) →
    Gives (.txSeg r hdr) s s.bell ((finishEntry s.dev r e.index St.PORT_SEG_SIZE).bump (M.CNT_SEG_REQUEST (fld v 16 8)))) ∧
  (∀ (r n : Nat) (e : REntry) (d1 : Dev) (s : State), s.dev.dieRuns = true → s.dev.nextEntry r 3 = some e → s.dev.gated (pos0Addr e.bytes % 16) = false →
    makeReady s.bell s.dev { TaskRec.new (pos0Addr e.bytes % 16) 9 (fld (pos0Addr e.bytes) 8 3) with
      word := slice e.bytes 16 32, host := some (r, e.index) } = (some n, d1) →
    Gives (.ringTask r) s s.bell (fetchWaiting (d1.started r e.index) r)) ∧
  ∀ (r : Nat) (e : REntry) (s : State), s.dev.dieRuns = true → s.dev.nextEntry r 3 = some e → s.dev.gated (pos0Addr e.bytes % 16) = true →
    Gives (.ringTask r) s s.bell (finishEntry s.dev r e.index St.NOT_ALLOWED)

/-- Entries complete from the head of the ring, records are written where there is room, and vectors signal. Only the
entry at the head of a ring completes, once it is finished: its bytes leave by DMA at its position and RING_CONS moves
past it; an event record is written on the lowest enabled event ring that takes events, where it has room; an
interrupt is due by an event, by the count or by the timer, of the settings that stood at the last completion or
record, and its message leaves, or waits for its ring where its vector is masked. (R462, R473, R474, R477, R479, R480,
R481) -/
def Obligations.RingEntriesCompleteInOrder : Prop :=
  (∀ (r st : Nat) (bs : Bytes) (e : REntry) (rest : List REntry) (s : State), s.dev.dieRuns = true → r < 256 → (s.dev.ring r).entries = e :: rest → e.fin = some (st, bs) →
    Reaches (.ringCompletion r) s (fun d => d.out = s.dev.out ++ [.dma (s.dev.ringAddr r e.index) bs false] ∧ (d.ring r).entries = rest ∧
      (d.ring r).irqCount = (s.dev.ring r).irqCount + 1 ∧ (d.ring r).irqLimit = s.dev.rd (M.RING_IRQ_COUNT r) ∧
      (d.ring r).vector = s.dev.rd (M.RING_VECTOR r) ∧ d.rd (M.RING_CONS r) = (e.index + e.positions) % 65536 ∧
      d.rd (M.CNT_RING_DONE r) = (s.dev.rd (M.CNT_RING_DONE r) + 1) % 2 ^ 64)) ∧
  (∀ (r : Nat) (s : State), ((s.dev.ring r).entries.head?.bind (fun e => e.fin)) = none → exec (.ringCompletion r) s = .next s) ∧
  (∀ (r : Nat) (e : EvRec) (rest : List EvRec) (s : State), s.dev.dieRuns = true → s.dev.rings.events = e :: rest → s.dev.eventRing 0 = some r →
    2 + b2n (s.dev.rd (M.RING_PROD r) % s.dev.ringSize r + 2 > s.dev.ringSize r) ≤ s.dev.eventRoom r →
    Reaches .eventRecordWrite s (fun d => d.rings.events = rest ∧ 240 ≤ r ∧ r < 256 ∧ (d.ring r).irqNow = true ∧ (d.ring r).overflow = 0 ∧
      d.rd (M.CNT_RING_DONE r) = (s.dev.rd (M.CNT_RING_DONE r) + 1) % 2 ^ 64 ∧
      d.rd (M.RING_PROD r) = (if s.dev.rd (M.RING_PROD r) % s.dev.ringSize r + 2 > s.dev.ringSize r
        then (s.dev.rd (M.RING_PROD r) + 1) % 65536 + 2 else s.dev.rd (M.RING_PROD r) + 2) % 65536)) ∧
  (∀ s : State, (s.dev.rings.events = [] ∨ s.dev.eventRing 0 = none) → exec .eventRecordWrite s = .next s) ∧
  (∀ (r : Nat) (timer : Bool) (s : State), s.dev.dieRuns = true → r < 256 → (s.dev.ring r).irqLimit ≠ 0 →
    ((s.dev.ring r).irqNow = true ∨ ((s.dev.ring r).irqCount ≠ 0 ∧ (s.dev.ring r).irqLimit ≤ (s.dev.ring r).irqCount) ∨
      (timer = true ∧ (s.dev.ring r).irqTimer = true)) →
    Reaches (.ringIrq r timer) s (fun d => (d.ring r).irqCount = 0 ∧ (d.ring r).irqNow = false ∧ (d.ring r).irqTimer = false ∧
      ((s.dev.ring r).vector ∈ s.dev.rings.unmasked → ∃ o, d.out = s.dev.out ++ o ++ [.msix (s.dev.ring r).vector] ∧
        d.rd (M.CNT_RING_IRQ r) = (s.dev.rd (M.CNT_RING_IRQ r) + 1) % 2 ^ 64) ∧
      ((s.dev.ring r).vector ∉ s.dev.rings.unmasked → (∃ p ∈ d.rings.pendingVec, p.1 = (s.dev.ring r).vector) ∧ d.reg = s.dev.reg ∧
        ((∀ p ∈ s.dev.rings.pendingVec, p.1 ≠ (s.dev.ring r).vector) → ((s.dev.ring r).vector, r) ∈ d.rings.pendingVec)))) ∧
  ∀ (r : Nat) (timer : Bool) (s : State), ((s.dev.ring r).irqLimit = 0 ∨
    ((s.dev.ring r).irqNow = false ∧ (s.dev.ring r).irqCount = 0 ∧ (timer = false ∨ (s.dev.ring r).irqTimer = false))) →
    exec (.ringIrq r timer) s = .next s

/-- A ring is enabled by its checks, drained by a disable and stopped by a failed access. A write of 1 to RING_ENABLE
enables a ring that passes every check, empty and at RING_CONS, and otherwise only records the first failing check; a
write of 0 discards what has not started, and everything behind it, and drains, or leaves FAULT; a failed access
discards likewise and drains; the drained ring becomes disabled, or FAULT with ST_RING_DMA after a failed access.
(R474, R475, R476) -/
def Obligations.RingsEnableDisableFault : Prop :=
  (∀ (r : Nat) (a : Acc) (s : State), r < 256 → Admits s.dev a (M.RING_ENABLE r) → storedValue (M.RING_ENABLE r) a.val = 1 →
    s.dev.ringEnableStatus r = St.OK → Reaches (.ringEnable r a) s (fun d => d.rd (M.RING_STATE r) = 1 ∧ d.rd (M.RING_STATUS r) = St.OK ∧
      d.rd (M.RING_ENABLE r) = 1 ∧ (d.ring r).entries = [] ∧ (d.ring r).pushes = [] ∧ (d.ring r).fetch = s.dev.rd (M.RING_CONS r))) ∧
  (∀ (r : Nat) (a : Acc) (s : State), r < 256 → Admits s.dev a (M.RING_ENABLE r) → storedValue (M.RING_ENABLE r) a.val = 1 →
    s.dev.ringEnableStatus r ≠ St.OK → Gives (.ringEnable r a) s s.bell (s.dev.wr (M.RING_STATUS r) (s.dev.ringEnableStatus r))) ∧
  (∀ (d : Dev) (r : Nat), d.ringEnableStatus r = St.OK → d.rd (M.RING_STATE r) = 0 ∧ 64 ≤ d.rd (M.RING_SIZE r) ∧ d.rd (M.RING_SIZE r) ≤ 32768 ∧
    (∃ n, d.rd (M.RING_SIZE r) = 2 ^ n) ∧ d.rd (M.RING_BASE r) % 4096 = 0 ∧ d.rd (M.RING_HEAD_ADDR r) % 8 = 0) ∧
  (∀ (r : Nat) (a : Acc) (s : State), r < 256 → Admits s.dev a (M.RING_ENABLE r) → storedValue (M.RING_ENABLE r) a.val = 0 →
    s.dev.rd (M.RING_STATE r) = 1 → Reaches (.ringDisable r a) s (fun d => d.rd (M.RING_STATE r) = 2 ∧ d.rd (M.RING_ENABLE r) = 0 ∧
      (d.ring r).pushes = [] ∧ ∃ gone, d.rd (M.CNT_RING_DISCARDED r) = (s.dev.rd (M.CNT_RING_DISCARDED r) + gone) % 2 ^ 64 ∧
      gone + (d.ring r).entries.length = (s.dev.ring r).entries.length + (s.dev.ring r).pushes.length ∧
      (∃ rest, (s.dev.ring r).entries = (d.ring r).entries ++ rest) ∧ ∀ e ∈ (d.ring r).entries, (e.fin.isSome = true ∨ (e.started = true ∧ 120 ≤ r)))) ∧
  (∀ (r : Nat) (a : Acc) (s : State), r < 256 → Admits s.dev a (M.RING_ENABLE r) → storedValue (M.RING_ENABLE r) a.val = 0 →
    s.dev.rd (M.RING_STATE r) = 3 → Reaches (.ringDisable r a) s (fun d => d.rd (M.RING_STATE r) = 0 ∧ d.rd (M.RING_ENABLE r) = 0)) ∧
  (∀ (r : Nat) (s : State), s.dev.dieRuns = true → r < 256 → s.dev.rd (M.RING_STATE r) = 2 → (s.dev.ring r).entries = [] →
    Reaches (.ringDisableComplete r) s (fun d =>
      if (s.dev.ring r).faulting then d.rd (M.RING_STATE r) = 3 ∧ d.rd (M.RING_STATUS r) = St.RING_DMA ∧ (d.ring r).faulting = false
      else d.rd (M.RING_STATE r) = 0 ∧ d.rd (M.RING_STATUS r) = s.dev.rd (M.RING_STATUS r))) ∧
  (∀ (r : Nat) (s : State), (s.dev.rd (M.RING_STATE r) ≠ 2 ∨ (s.dev.ring r).entries ≠ []) → exec (.ringDisableComplete r) s = .next s) ∧
  (∀ (r : Nat) (s : State), s.dev.dieRuns = true → r < 256 → (s.dev.rd (M.RING_STATE r) = 1 ∨ s.dev.rd (M.RING_STATE r) = 2) → Reaches (.ringDmaFault r) s (fun d => d.rd (M.RING_STATE r) = 2 ∧
    (d.ring r).faulting = true ∧ (d.ring r).pushes = [] ∧ ∃ rest, (s.dev.ring r).entries = (d.ring r).entries ++ rest)) ∧
  ∀ (r : Nat) (s : State), s.dev.rd (M.RING_STATE r) ≠ 1 → s.dev.rd (M.RING_STATE r) ≠ 2 → exec (.ringDmaFault r) s = .next s

/-- A window reads and writes the bytes of its region, and refuses a write outside it; the object window reads members. A
read through a window, none of whose units is unavailable, returns each byte of its region, 0 outside, and all ones
for a unit whose memory is uncorrectable, which it counts; a write that lies within one window and its region stores
every byte of every unit that takes it where a read of the same addresses finds it, leaves every other byte, and is
recorded as rejected by the first unit that does not take its bytes: one that is unavailable, or covered in part and
uncorrectable; one outside ends with ST_RANGE and changes no byte. Every write asks the channels that serve its units,
at port 4. Before READY the windows read as 0 and discard writes. An address whose upper half is 4 reads BAR4 (log
190), and one whose upper half is 2 a doorbell page, which is zero. An 8-byte read at the address of a member that
principal K may read returns its value, little-endian, and changes no member (the table has no row for such a read:
log 190). (R116, R117, R120, R460, R461, R465) -/
def Obligations.WindowsReadAndWriteRegions : Prop :=
  (∀ (addr n : Nat) (os : List MemOutcome) (s : State), s.dev.dieRuns = true → 0x0C000000 ≤ addr → addr / 2 ^ 32 ≠ 4 → addr / 2 ^ 32 ≠ 2 →
    s.dev.start.pcieUp = true → s.dev.bar0Closed = false →
    let us := s.dev.winUnits addr n
    (∀ p ∈ us, s.dev.unitOutcome us os p ≠ .unavailable) →
    Reaches (.windowRead addr n os) s (fun d => d.out = s.dev.out ++ [.readData ((List.range n).map (fun i =>
        if (s.dev.winPlace (addr + i)).map (s.dev.unitOutcome us os) = some .uncorrectable then 0xFF else s.dev.winRead (addr + i)))] ∧
      d.rd M.CNT_WIN_UNCORRECTABLE = (s.dev.rd M.CNT_WIN_UNCORRECTABLE + (us.filter (fun p => decide (s.dev.unitOutcome us os p = .uncorrectable))).length) % 2 ^ 64 ∧
      (∀ id, id ≠ M.CNT_WIN_UNCORRECTABLE → d.rd id = s.dev.rd id) ∧ d.memories.host = s.dev.memories.host ∧ d.pools = s.dev.pools)) ∧
  (∀ (addr n : Nat) (os : List MemOutcome) (s : State), s.dev.dieRuns = true → 0x0C000000 ≤ addr → addr / 2 ^ 32 ≠ 4 → s.dev.start.pcieUp = true →
    (s.dev.bar0Closed = true ∨ addr / 2 ^ 32 = 2) → Gives (.windowRead addr n os) s s.bell (s.dev.emit (.readData (List.replicate n 0)))) ∧
  (∀ (addr n : Nat) (os : List MemOutcome) (s : State), s.dev.dieRuns = true → addr / 2 ^ 32 = 4 → s.dev.start.pcieUp = true →
    Gives (.windowRead addr n os) s s.bell (s.dev.emit (.readData (bar4Read s.bell s.dev (addr % 2 ^ 32) n)))) ∧
  (∀ (addr n : Nat) (bs : Bytes) (os : List MemOutcome) (s : State), s.dev.start.pcieUp = false →
    exec (.windowRead addr n os) s = .next s ∧ exec (.windowWrite addr bs os) s = .next s) ∧
  (∀ (addr : Nat) (bs : Bytes) (os : List MemOutcome) (s : State), s.dev.bar0Closed = true → exec (.windowWrite addr bs os) s = .next s) ∧
  (∀ (addr id : Nat) (m : MemberRow) (os : List MemOutcome) (s : State), s.dev.dieRuns = true → addr < 0x0A000000 → s.dev.start.pcieUp = true →
    placeOf addr = .member id 0 → findMember id = some m → (m.k = .r ∨ m.k = .rw ∨ m.k = .rws ∨ m.k = .rc) → s.dev.gate (id / 2 ^ 24) = false →
    Reaches (.windowRead addr 8 os) s (fun d => d.out = s.dev.out ++ [.readData (toLE 8 (readMember s.bell s.dev id))] ∧ d.reg = s.dev.reg)) ∧
  (∀ (addr : Nat) (bs : Bytes) (os : List MemOutcome) (s : State), s.dev.dieRuns = true → s.dev.start.pcieUp = true → s.dev.bar0Closed = false →
    s.dev.winInside addr bs.length = true → addr / 2 ^ 24 = (addr + bs.length - 1) / 2 ^ 24 →
    let us := s.dev.winUnits addr bs.length
    let ends (p : Nat × Nat) : MemOutcome :=
      if s.dev.chServes p.1 = true ∧ s.dev.winPart addr bs.length p = false ∧ s.dev.unitOutcome us os p = .uncorrectable then .ok else s.dev.unitOutcome us os p
    Reaches (.windowWrite addr bs os) s (fun d => d.out = s.dev.out ∧
      (∀ i p, i < bs.length → s.dev.winPlace (addr + i) = some p →
        d.winRead (addr + i) = if ends p = .ok then bs.getD i 0 else s.dev.winRead (addr + i)) ∧
      (∀ x, (∀ i, i < bs.length → s.dev.winByte (addr + i) ≠ s.dev.winByte x) → d.winRead x = s.dev.winRead x) ∧
      ((∀ p ∈ us, ends p = .ok) → d.reg = s.dev.reg) ∧
      ∀ p rest, us.filter (fun p => decide (ends p ≠ .ok)) = p :: rest →
        d.rd M.LAST_WRITE_STATUS = (if ends p = .uncorrectable then St.UNCORRECTABLE else St.UNAVAILABLE) ∧
        d.rd M.CNT_WRITE_REJECT = (s.dev.rd M.CNT_WRITE_REJECT + 1) % 2 ^ 64)) ∧
  (∀ (addr : Nat) (bs : Bytes) (os : List MemOutcome) (s : State), s.dev.dieRuns = true → s.dev.start.pcieUp = true → s.dev.bar0Closed = false →
    s.dev.winInside addr bs.length = false → Gives (.windowWrite addr bs os) s s.bell (s.dev.rejectPcie St.RANGE 0)) ∧
  ∀ (now : BellSt) (d : Dev) (us : List ((Nat × Nat) × MemOutcome)) (p : Nat × Nat) (o : MemOutcome), (p, o) ∈ us → d.chServes p.1 = true →
    (winRequest now d true us).reg = d.reg ∧ ∃ q ∈ ((winRequest now d true us).channel p.1).reqs, q.write = true ∧ q.port = 4 ∧ q.unit = p.2

/-- A check job loads REG, feeds its range, and ends with its result and status. CHK_RUN loads REG from CHK_INIT and
CHK_CONTINUE keeps its W bits; bad settings or a range outside the space end the job with ST_RANGE, and a running
context answers ST_BUSY; a completed job has fed every byte of its range, gives the result of REG and compares it; one
that stops has fed whole 64-byte units only. (R485, R486, R487, R489, R491, R492, R493, R494) -/
def Obligations.CheckJobsRunToTheirResult : Prop :=
  (∀ (c : Nat) (a : Acc) (s : State), c < 8 → Passes s.dev a (M.CHK_RUN c) → s.dev.chkState c = 0 → chkSettingsOk s.dev c = true →
    s.dev.rd (M.CHK_START_ADDR c) + s.dev.rd (M.CHK_LENGTH c) ≤ chkSpaceSize s.dev c → s.dev.rd (M.CHK_LENGTH c) ≠ 0 →
    Reaches (.chkRun c a) s (fun d => d.chkState c = 1 ∧ d.rd (M.CHK_RUNNING c) = s.dev.rd (M.CHK_INIT c) ∧ d.rd (M.CHK_DONE_BYTES c) = 0 ∧
      d.rd (M.CHK_STATUS c) = St.PENDING)) ∧
  (∀ (c : Nat) (a : Acc) (s : State), c < 8 → Passes s.dev a (M.CHK_CONTINUE c) → s.dev.chkState c = 0 → chkSettingsOk s.dev c = true →
    s.dev.rd (M.CHK_START_ADDR c) + s.dev.rd (M.CHK_LENGTH c) ≤ chkSpaceSize s.dev c → s.dev.rd (M.CHK_LENGTH c) ≠ 0 →
    Reaches (.chkContinue c a) s (fun d => d.chkState c = 1 ∧ d.rd (M.CHK_RUNNING c) = s.dev.rd (M.CHK_RUNNING c) % 2 ^ s.dev.rd (M.CHK_WIDTH c) ∧
      d.rd (M.CHK_DONE_BYTES c) = 0 ∧ d.rd (M.CHK_STATUS c) = St.PENDING)) ∧
  (∀ (c : Nat) (a : Acc) (s : State), c < 8 → Passes s.dev a (M.CHK_RUN c) → s.dev.chkState c = 0 →
    (chkSettingsOk s.dev c = false ∨ chkSpaceSize s.dev c < s.dev.rd (M.CHK_START_ADDR c) + s.dev.rd (M.CHK_LENGTH c)) →
    Reaches (.chkRun c a) s (fun d => d.chkState c = 0 ∧ d.rd (M.CHK_STATUS c) = St.RANGE ∧
      d.rd (M.CNT_CHK_JOBS c) = (s.dev.rd (M.CNT_CHK_JOBS c) + 1) % 2 ^ 64 ∧ d.rd (M.CHK_RUNNING c) = s.dev.rd (M.CHK_RUNNING c))) ∧
  (∀ (c : Nat) (a : Acc) (s : State), Passes s.dev a (M.CHK_RUN c) → s.dev.chkState c ≠ 0 →
    Gives (.chkRun c a) s s.bell (Dev.answer a.who (M.CHK_RUN c) (St.BUSY, s.dev))) ∧
  (∀ (c : Nat) (a : Acc) (s : State), Passes s.dev a (M.CHK_ABORT c) →
    Gives (.chkAbort c a) s s.bell (if s.dev.chkState c = 1 then s.dev.setChk c 2 else s.dev)) ∧
  (∀ (c : Nat) (s : State), s.dev.dieRuns = true → c < 8 → s.dev.chkState c = 1 →
    let reg := chkFeed s.dev c (s.dev.rd (M.CHK_RUNNING c)) ((List.range (s.dev.rd (M.CHK_LENGTH c))).map (fun i =>
      chkByte s.dev c (s.dev.rd (M.CHK_START_ADDR c) + i))) % 2 ^ 64
    Reaches (.chkJobComplete c .done) s (fun d => d.chkState c = 0 ∧ d.rd (M.CHK_RUNNING c) = reg ∧
      d.rd (M.CHK_RESULT c) = chkOut s.dev c reg % 2 ^ 64 ∧ d.rd (M.CHK_DONE_BYTES c) = s.dev.rd (M.CHK_LENGTH c) ∧
      d.rd (M.CHK_STATUS c) = (if s.dev.on (M.CHK_COMPARE c) = true ∧ chkOut s.dev c reg ≠ s.dev.rd (M.CHK_EXPECT c) then St.CHK_MISMATCH else St.OK))) ∧
  (∀ (c n : Nat) (s : State), s.dev.dieRuns = true → c < 8 → s.dev.chkState c = 2 → Reaches (.chkJobComplete c (.aborted n)) s (fun d => d.chkState c = 0 ∧
    d.rd (M.CHK_STATUS c) = St.CHK_ABORTED ∧ d.rd (M.CHK_DONE_BYTES c) = chkFed s.dev c n)) ∧
  (∀ (c n : Nat) (s : State), s.dev.dieRuns = true → c < 8 → s.dev.chkState c ≠ 0 → Reaches (.chkJobComplete c (.uncorrectable n)) s (fun d => d.chkState c = 0 ∧
    d.rd (M.CHK_STATUS c) = St.UNCORRECTABLE ∧ d.rd (M.CHK_DONE_BYTES c) = chkFed s.dev c n)) ∧
  ∀ (d : Dev) (c n : Nat), chkFed d c n ≤ d.rd (M.CHK_LENGTH c) ∧ (chkFed d c n < d.rd (M.CHK_LENGTH c) → chkFed d c n ≠ 0 →
    (d.rd (M.CHK_START_ADDR c) + chkFed d c n) % 64 = 0)

/-- Offsets, steps and anchors reach the time base, and the PPS pins and stamps follow the count. TIME_OFFSET_IN keeps the
latest value and counts one that replaces an unused value; TIME_STEP waits for item 3; TIME_SERVO_RESET clears the
drift and what is owed; the anchor is taken with the seconds then held; holdover keeps the drift alone; PPS_OUT rises
at a whole second unless the anchor is stale and falls at the end of its width; PPS_IN stamps each edge and counts it.
(R498, R500, R501, R502, R503, R504, R505) -/
def Obligations.TimeInputsAndPps : Prop :=
  (∀ (a : Acc) (s : State), Admits s.dev a M.TIME_OFFSET_IN → Reaches (.timeOffsetIn a) s (fun d =>
    d.rd M.TIME_OFFSET_IN = storedValue M.TIME_OFFSET_IN a.val % 2 ^ 64 ∧ d.time.fresh = true ∧
    d.rd M.CNT_TIME_OFFSET_OVERWRITTEN = (s.dev.rd M.CNT_TIME_OFFSET_OVERWRITTEN + b2n s.dev.time.fresh) % 2 ^ 64)) ∧
  (∀ (a : Acc) (s : State), Passes s.dev a M.TIME_STEP → Gives (.timeStep a) s s.bell
    { s.dev with time := { s.dev.time with steps := s.dev.time.steps ++ [sgn 64 (storedValue M.TIME_STEP a.val)] } }) ∧
  (∀ (a : Acc) (s : State), Passes s.dev a M.TIME_SERVO_RESET → Reaches (.timeServoReset a) s (fun d => d.rd M.TIME_DRIFT = 0 ∧
    d.rd M.TIME_SERVO_STATE = 0 ∧ d.time.servo = 0 ∧ d.time.slew = 0)) ∧
  (∀ (a : Acc) (s : State), Admits s.dev a M.TIME_ANCHOR_NS → Reaches (.timeAnchorNs a) s (fun d => d.time.anchorSec = s.dev.rd M.TIME_ANCHOR_SEC ∧
    d.time.anchorNs = storedValue M.TIME_ANCHOR_NS a.val)) ∧
  (∀ s : State, s.dev.dieRuns = true → (s.dev.rd M.TIME_SERVO_STATE = 1 ∨ s.dev.rd M.TIME_SERVO_STATE = 2) →
    s.dev.rd M.TIME_HOLDOVER_LESSONS ≤ (s.bell.lesson.toNat + 2 ^ 24 - s.dev.time.lastStep % 2 ^ 24) % 2 ^ 24 →
    (s.bell.lesson.toNat + 2 ^ 24 - s.dev.time.lastStep % 2 ^ 24) % 2 ^ 24 < 2 ^ 23 →
    Reaches .servoHoldover s (fun d => d.rd M.TIME_SERVO_STATE = 3 ∧ d.time.servo = s.dev.rdS 32 M.TIME_DRIFT)) ∧
  (∀ s : State, s.dev.rd M.TIME_SERVO_STATE ≠ 1 → s.dev.rd M.TIME_SERVO_STATE ≠ 2 → exec .servoHoldover s = .next s) ∧
  (∀ (t : Nat) (s : State), s.dev.dieRuns = true → s.dev.on M.TIME_PPS_OUT_ENABLE = true →
    ((s.dev.ptpNs t : Int) - s.dev.rdS 32 M.TIME_PPS_OUT_OFFSET) % 10 ^ 9 = 0 →
    Gives (.ppsOutRise t) s s.bell (if s.dev.anchorStale t then s.dev.bump M.CNT_TIME_ANCHOR_STALE
      else { s.dev with pins := { s.dev.pins with ppsOut := true }, time := { s.dev.time with ppsRise := t } })) ∧
  (∀ (t : Nat) (s : State), s.dev.dieRuns = true → (t + 2 ^ 32 - s.dev.time.ppsRise % 2 ^ 32) % 2 ^ 32 = s.dev.rd M.TIME_PPS_OUT_WIDTH →
    Gives (.ppsOutFall t) s s.bell { s.dev with pins := { s.dev.pins with ppsOut := false } }) ∧
  ∀ (t : Nat) (s : State), s.dev.dieRuns = true → t < 2 ^ 32 → Reaches (.ppsInEdge t) s (fun d => d.rd M.TIME_PPS_IN_STAMP = t ∧
    d.rd M.CNT_PPS_IN = (s.dev.rd M.CNT_PPS_IN + 1) % 2 ^ 64 ∧ d.time = s.dev.time ∧
    ∀ k, k ≠ M.TIME_PPS_IN_STAMP → k ≠ M.CNT_PPS_IN → d.rd k = s.dev.rd k)

/-- Tag seeds and modes, snapshots and the export clock take their values, and export messages leave in order. A seed
loads its pipe's LFSR alone, 0 loading 1, and the LFSR never reaches 0; a tag mode restarts its pipe's index; enabling
snapshots restarts SEQ; EXPORT_NS sets the remainder; template sets join a ring with room for them as messages of the
lengths their headers state, none above EXPORT_MSG_BYTES; the oldest message leaves for the host ring in mode 2, and
none leaves before READY or with export off. (R345, R346, R540, R541, R545, R548) -/
def Obligations.TagsSnapshotsAndExport : Prop :=
  (∀ n : Nat, 0 < n → n < 2 ^ 32 → 0 < lfsrStep n ∧ lfsrStep n < 2 ^ 32) ∧
  (∀ (p : Nat) (a : Acc) (s : State), p < 16 → Admits s.dev a (M.PERF_TAG_SEED p) →
    let v := storedValue (M.PERF_TAG_SEED p) a.val
    Reaches (.perfTagSeed p a) s (fun d => d.lfsr p = (if v = 0 then 1 else v) ∧ (∀ q, q ≠ p → d.lfsr q = s.dev.lfsr q) ∧
      d.rd (M.PERF_TAG_SEED p) = v % 2 ^ 64)) ∧
  (∀ (p : Nat) (a : Acc) (s : State), p < 16 → Admits s.dev a (M.PERF_TAG_MODE p) → Reaches (.perfTagMode p a) s (fun d =>
    d.rd (M.PERF_TAG_WRITE_INDEX p) = 0 ∧ d.rd (M.PERF_TAG_MODE p) = storedValue (M.PERF_TAG_MODE p) a.val % 2 ^ 64 ∧ d.perf = s.dev.perf)) ∧
  (∀ (a : Acc) (s : State), Admits s.dev a M.PERF_SNAP_ENABLE → Reaches (.perfSnapEnable a) s (fun d =>
    d.rd M.PERF_SNAP_ENABLE = storedValue M.PERF_SNAP_ENABLE a.val % 2 ^ 64 ∧ d.perf.banks = s.dev.perf.banks ∧
    d.perf.snapSeq = (if storedValue M.PERF_SNAP_ENABLE a.val = 1 then 0 else s.dev.perf.snapSeq))) ∧
  (∀ (a : Acc) (s : State), Admits s.dev a M.EXPORT_NS → Gives (.exportNs a) s s.bell
    { s.dev with services := { s.dev.services with exportRem := storedValue M.EXPORT_NS a.val } }) ∧
  (∀ s : State, s.dev.dieRuns = true → s.dev.pins.ready = true → s.dev.rd M.EXPORT_TEMPLATE_INTERVAL ≤ lessonsSince s.bell.lesson.toNat s.dev.services.templateLesson →
    s.dev.rd M.EXPORT_MODE ≠ 0 → 512 ≤ s.dev.rd M.EXPORT_MSG_BYTES → s.dev.exportRingUsed + 1024 ≤ exportRingBytes s.dev.palette →
    Reaches .exportTemplateSend s (fun d => ∃ ms : List Bytes, ms ≠ [] ∧
      d.services.exportPending = s.dev.services.exportPending ++ ms.map (fun m => (0, m)) ∧
      (∀ m ∈ ms, m.length = beAt m 2 2 ∧ m.length ≤ s.dev.rd M.EXPORT_MSG_BYTES ∧ beAt m 0 2 = 10 ∧ beAt m 8 4 = s.dev.services.exportSeq % 2 ^ 32) ∧
      d.services.exportSeq = s.dev.services.exportSeq % 2 ^ 32 ∧ d.services.templateLesson = s.bell.lesson.toNat)) ∧
  (∀ s : State, (s.dev.pins.ready = false ∨ s.dev.rd M.EXPORT_TEMPLATE_INTERVAL > lessonsSince s.bell.lesson.toNat s.dev.services.templateLesson ∨
    s.dev.rd M.EXPORT_MODE = 0 ∨ exportRingBytes s.dev.palette < s.dev.exportRingUsed) → exec .exportTemplateSend s = .next s) ∧
  (∀ s : State, (s.dev.services.exportPending = [] ∨ s.dev.rd M.EXPORT_MODE = 0 ∨ s.dev.pins.ready = false) → exec .exportMessageSend s = .next s) ∧
  ∀ (n : Nat) (m : Bytes) (rest : List (Nat × Bytes)) (s : State), s.dev.dieRuns = true → s.dev.services.exportPending = (n, m) :: rest → beAt m 2 2 ≤ m.length →
    s.dev.pins.ready = true → s.dev.rd M.EXPORT_MODE = 2 → s.dev.services.exportQueue = [] →
    s.dev.rd (M.RING_STATE (s.dev.rd M.EXPORT_HOST_RING)) ≠ 1 → s.dev.rd M.EXPORT_HOST_RING < 256 →
    Reaches .exportMessageSend s (fun d => d.services.exportPending = rest ∧
      d.rd M.CNT_EXPORT_MESSAGES = (s.dev.rd M.CNT_EXPORT_MESSAGES + 1) % 2 ^ 64 ∧ d.rd M.CNT_EXPORT_RECORDS = (s.dev.rd M.CNT_EXPORT_RECORDS + n) % 2 ^ 64 ∧
      d.rd (M.CNT_RING_RX_DROP (s.dev.rd M.EXPORT_HOST_RING)) = (s.dev.rd (M.CNT_RING_RX_DROP (s.dev.rd M.EXPORT_HOST_RING)) + 1) % 2 ^ 64)

/-- A HELLO is judged by its checks, silence makes a device take over, and a hand-back is asked for while SYNCING. A HELLO
that fails a check leaves its reason, in the order of the checks, and one that passes makes joining due at the next
bell with the higher common version; a joined device ignores it; a takeover that is due, with nothing waiting on the
peer, leaves the device in ALONE with the period recorded; BUDDY_HANDBACK is taken only in SYNCING; a HANDBACK frame
sets the bell of the hand-back on the returning device. (R517, R518, R529, R530, R531, R532, R533) -/
def Obligations.BuddiesJoinTakeOverAndHandBack : Prop :=
  (∀ (f : Bytes) (d0 : Dev) (s : State), s.dev.dieRuns = true → takeWalger s.dev 1 = some (f, d0) → (d0.buddy.mode = .joining ∨ d0.buddy.mode = .alone) →
    let p := walgerPayload f
    Reaches .buddyHelloRx s (fun d => d.rd M.BUDDY_PEER_PERIOD = beAt p 16 4 ∧
      (helloCheck s.bell d0 p ≠ St.OK → d.rd M.BUDDY_REFUSE_REASON = helloCheck s.bell d0 p ∧ d.buddy = d0.buddy) ∧
      (helloCheck s.bell d0 p = St.OK → d.rd M.BUDDY_VERSION = min 2 (byteAt p 1) ∧ d.buddy.mode = d0.buddy.mode ∧ d.buddy.joinDue.isSome = true))) ∧
  (∀ (f : Bytes) (d0 : Dev) (s : State), s.dev.dieRuns = true → takeWalger s.dev 1 = some (f, d0) → d0.buddy.mode ≠ .joining → d0.buddy.mode ≠ .alone →
    Gives .buddyHelloRx s s.bell d0) ∧
  (∀ s : State, takeWalger s.dev 1 = none → exec .buddyHelloRx s = .next s) ∧
  (∀ s : State, s.dev.dieRuns = true → s.dev.buddy.takeoverDue = true → s.dev.buddy.relayPart = none → s.dev.buddy.awaiting = [] → s.dev.descs = [] →
    Reaches .buddyTakeover s (fun d => d.buddy.mode = .alone ∧ d.buddy.takeoverDue = false ∧ d.buddy.sent = [] ∧ d.buddy.mirror = [] ∧
      d.buddy.rx = s.dev.buddy.rx ∧ d.rd M.BUDDY_TAKEOVER_PERIOD = s.bell.period.toNat ∧
      d.rd M.CNT_BUDDY_TAKEOVER = (s.dev.rd M.CNT_BUDDY_TAKEOVER + 1) % 2 ^ 64)) ∧
  (∀ s : State, s.dev.buddy.takeoverDue = false → exec .buddyTakeover s = .next s) ∧
  (∀ (a : Acc) (s : State), Passes s.dev a M.BUDDY_HANDBACK → s.dev.buddy.mode = .syncing →
    Gives (.buddyHandback a) s s.bell { s.dev with buddy := { s.dev.buddy with wantHandback := true } }) ∧
  (∀ (a : Acc) (s : State), Passes s.dev a M.BUDDY_HANDBACK → s.dev.buddy.mode ≠ .syncing →
    Gives (.buddyHandback a) s s.bell (Dev.answer a.who M.BUDDY_HANDBACK (St.NOT_ALLOWED, s.dev))) ∧
  (∀ (p f : Bytes) (d0 : Dev) (s : State), s.dev.dieRuns = true → takePart s.bell s.dev 6 = (some (p, f), d0) → d0.buddy.mode = .syncing → d0.buddy.returning = true →
    Gives .buddyHandbackRx s s.bell { d0 with buddy := { d0.buddy with handback := some (beAt p 0 4) } }) ∧
  ∀ (d0 : Dev) (s : State), s.dev.dieRuns = true → takePart s.bell s.dev 6 = (none, d0) → Gives .buddyHandbackRx s s.bell d0

/-- Batches are noted once and in order, requests are answered from the Roll, and relayed frames are joined. A PERIOD
frame is heard, and its ACK forgets the batches it covers; a part of a batch that came before, or of a batch at or
before the last one applied, is not taken again; a request is answered with the record of its key or with MISSING; an
answer ends what was awaited; a first RELAY part waits for its second; entries read back as they were written; a
relayed creation that waits too long is refused. (R519, R522, R524, R525, R526, R529) -/
def Obligations.BuddiesExchangeBatches : Prop :=
  (∀ (es : List WEntry), (∀ e ∈ es, e.kind < 256 ∧ e.flags < 256 ∧ e.slot < 2 ^ 32 ∧ e.body.length < 65536) →
    readEntries es.length (es.flatMap WEntry.bytes) = es) ∧
  (∀ (f : Bytes) (d0 : Dev) (s : State), s.dev.dieRuns = true → takeWalger s.dev 2 = some (f, d0) → d0.joined = true → d0.descs = [] → beAt f 12 2 = 0 →
    (∀ b ∈ d0.buddy.early, b.parts.any (fun p => p.1 == byteAt f 3) = true) → (∃ b ∈ d0.buddy.early, b.period = beAt f 4 4) →
    Reaches .buddyPeriodRx s (fun d => d.buddy.heard = true ∧ d.rd M.BUDDY_PEER_PERIOD = beAt f 4 4 ∧ d.buddy.early = d0.buddy.early ∧
      ∀ b ∈ d.buddy.sent, b ∈ d0.buddy.sent ∧ periodAfter b.1 (beAt f 8 4) = true)) ∧
  (∀ s : State, takeWalger s.dev 2 = none → exec .buddyPeriodRx s = .next s) ∧
  (∀ (d : Dev) (f : Bytes) (es : List WEntry) (r : Nat), d.buddy.received = some r → periodAfter (beAt f 4 4) r = false →
    notePart d f es = (false, d)) ∧
  (∀ (p f : Bytes) (d0 : Dev) (s : State), s.dev.dieRuns = true → takePart s.bell s.dev 3 = (some (p, f), d0) → Reaches .buddyFetchRx s (fun d =>
    ∃ answers : List WEntry, d.buddy = { d0.buddy with replyOut := d0.buddy.replyOut ++ answers } ∧ d.reg = d0.reg ∧ d.roll = d0.roll ∧
      answers.length = ((readEntries (beAt f 12 2) p).filter (fun e => e.kind == 8)).length ∧ ∀ x ∈ answers, x.kind = 9 ∨ x.kind = 10)) ∧
  (∀ (p f : Bytes) (e : WEntry) (d0 : Dev) (s : State), s.dev.dieRuns = true → takePart s.bell s.dev 4 = (some (p, f), d0) → readEntries (beAt f 12 2) p = [e] →
    e.kind = 10 → d0.buddy.awaiting = [(e.body, none)] → d0.descs = [] →
    Gives .buddyReplyRx s s.bell { d0 with buddy := { d0.buddy with awaiting := [] } }) ∧
  (∀ (p f : Bytes) (d0 : Dev) (s : State), s.dev.dieRuns = true → takePart s.bell s.dev 5 = (some (p, f), d0) → bitOf (byteAt f 2) 2 = true →
    Gives .buddyRelayRx s s.bell { d0 with buddy := { d0.buddy with relayPart := some (beAt f 4 4, beAt p 0 2, p.drop 4) } }) ∧
  (∀ (p f lead : Bytes) (d0 : Dev) (s : State), s.dev.dieRuns = true → takePart s.bell s.dev 5 = (some (p, f), d0) → bitOf (byteAt f 2) 2 = false →
    d0.buddy.relayPart = some (beAt f 4 4, beAt p 0 2, lead) → Gives .buddyRelayRx s s.bell
      (relayedFrame s.bell { d0 with buddy := { d0.buddy with relayPart := none } } (beAt p 0 2) (lead ++ p.drop 4))) ∧
  (∀ (x : Desc) (p : Nat) (s : State), s.dev.dieRuns = true → s.dev.descs = [x] → x.wait = .relay p →
    s.dev.rd M.BUDDY_CREATE_WAIT ≤ periodsSince s.bell.period.toNat p → Gives .buddyCreateTimeout s s.bell
      (refuseAll s.bell ((s.dev.unpark x.id).bump M.CNT_BUDDY_CREATE_TIMEOUT) x 10)) ∧
  ∀ s : State, s.dev.descs = [] → exec .buddyCreateTimeout s = .next s
end

