-- ==== Sys2Proof/Decode.lean ====
section
/-!
DEFINITION. Decoding of table words. The table of operations and events gives its rows no bits: the commands are
operations and events, and no word spells one (log 5).
-/
namespace Sys2Proof

/-- No row of the table has bits, so no word decodes to a command. -/
def decodeTableWord (_ _ : Nat) : Option Instr := none

end Sys2Proof
end

