-- ==== Sys2Proof/Laws/SMap.lean ====
section
/-!
SUPPORT. Sparse maps: what a key reads after a write, and that every operation keeps the canonical form.
-/
namespace Sys2Proof.Machine

variable {α : Type}

/-! ## Reading after writing -/

theorem SMap.find_put_same (m : SMap α) (k : Nat) (v : α) : SMap.find (SMap.put m k v) k = some v := by
  induction m with
  | nil => simp [SMap.put, SMap.find]
  | cons e r ih =>
    obtain ⟨j, w⟩ := e
    unfold SMap.put
    split
    · rename_i h; simp only [SMap.find, Nat.ne_of_lt h, if_false]; exact ih
    · split <;> simp [SMap.find]

theorem SMap.find_put_other (m : SMap α) (k j : Nat) (v : α) (h : j ≠ k) : SMap.find (SMap.put m k v) j = SMap.find m j := by
  induction m with
  | nil => simp [SMap.put, SMap.find, Ne.symm h]
  | cons e r ih =>
    obtain ⟨i, w⟩ := e
    unfold SMap.put
    split
    · simp only [SMap.find, ih]
    · split
      · rename_i hk; subst hk; simp [SMap.find, Ne.symm h]
      · simp [SMap.find, Ne.symm h]

theorem SMap.find_erase_same (m : SMap α) (k : Nat) : SMap.find (SMap.erase m k) k = none := by
  induction m with
  | nil => rfl
  | cons e r ih =>
    obtain ⟨j, w⟩ := e
    simp only [SMap.erase, List.filter_cons] at *
    by_cases h : j = k
    · simpa [h] using ih
    · simpa [h, SMap.find] using ih

theorem SMap.find_erase_other (m : SMap α) (k j : Nat) (h : j ≠ k) : SMap.find (SMap.erase m k) j = SMap.find m j := by
  induction m with
  | nil => rfl
  | cons e r ih =>
    obtain ⟨i, w⟩ := e
    simp only [SMap.erase, List.filter_cons] at *
    by_cases hi : i = k
    · subst hi; simpa [SMap.find, Ne.symm h] using ih
    · simp [hi, SMap.find, ih]

/-- A key reads what was written to it. -/
@[simp] theorem SMap.get_set_same [DecidableEq α] (d : Nat → α) (m : SMap α) (k : Nat) (v : α) : SMap.get d (SMap.set d m k v) k = v := by
  unfold SMap.get SMap.set
  split
  · rename_i h; simp [SMap.find_erase_same, h]
  · simp [SMap.find_put_same]

/-- A write leaves every other key alone. -/
theorem SMap.get_set_other [DecidableEq α] (d : Nat → α) (m : SMap α) (k j : Nat) (v : α) (h : j ≠ k) :
    SMap.get d (SMap.set d m k v) j = SMap.get d m j := by
  unfold SMap.get SMap.set
  split
  · rw [SMap.find_erase_other _ _ _ h]
  · rw [SMap.find_put_other _ _ _ _ h]

/-! ## The canonical form -/

theorem SMap.rising_tail {e : Nat × α} {m : SMap α} (h : SMap.rising (e :: m) = true) : SMap.rising m = true := by
  obtain ⟨j, v⟩ := e
  simp only [SMap.rising, Bool.and_eq_true] at h
  exact h.2

theorem SMap.rising_head_lt {j : Nat} {v : α} {m : SMap α} (h : SMap.rising ((j, v) :: m) = true) : ∀ e ∈ m, j < e.1 := by
  induction m generalizing j v with
  | nil => simp
  | cons e r ih =>
    obtain ⟨k, w⟩ := e
    have hk : j < k := by simp only [SMap.rising, Bool.and_eq_true, decide_eq_true_eq] at h; exact h.1
    intro x hx
    rcases List.mem_cons.mp hx with rfl | hx
    · exact hk
    · exact Nat.lt_trans hk (ih (SMap.rising_tail h) x hx)

theorem SMap.rising_cons {j : Nat} {v : α} {m : SMap α} (hm : SMap.rising m = true) (hj : ∀ e ∈ m, j < e.1) :
    SMap.rising ((j, v) :: m) = true := by
  cases m with
  | nil => simp [SMap.rising]
  | cons e r =>
    obtain ⟨k, w⟩ := e
    have hk : j < k := hj (k, w) (by simp)
    unfold SMap.rising
    simp [hk, hm]

theorem SMap.rising_filter (m : SMap α) (p : Nat × α → Bool) (h : SMap.rising m = true) : SMap.rising (m.filter p) = true := by
  induction m with
  | nil => rfl
  | cons e r ih =>
    obtain ⟨j, v⟩ := e
    simp only [List.filter]
    split
    · exact SMap.rising_cons (ih (SMap.rising_tail h)) fun x hx => SMap.rising_head_lt h x (List.mem_filter.mp hx).1
    · exact ih (SMap.rising_tail h)

theorem SMap.mem_put {m : SMap α} {k : Nat} {v : α} {e : Nat × α} (h : e ∈ SMap.put m k v) : e = (k, v) ∨ e ∈ m := by
  induction m with
  | nil => simpa [SMap.put] using h
  | cons x r ih =>
    obtain ⟨j, w⟩ := x
    unfold SMap.put at h
    split at h
    · rcases List.mem_cons.mp h with rfl | h
      · exact .inr (by simp)
      · rcases ih h with rfl | h
        · exact .inl rfl
        · exact .inr (List.mem_cons_of_mem _ h)
    · split at h
      · rcases List.mem_cons.mp h with rfl | h
        · exact .inl rfl
        · exact .inr (List.mem_cons_of_mem _ h)
      · rcases List.mem_cons.mp h with rfl | h
        · exact .inl rfl
        · exact .inr h

theorem SMap.rising_put (m : SMap α) (k : Nat) (v : α) (h : SMap.rising m = true) : SMap.rising (SMap.put m k v) = true := by
  induction m with
  | nil => simp [SMap.put, SMap.rising]
  | cons e r ih =>
    obtain ⟨j, w⟩ := e
    unfold SMap.put
    split
    · rename_i hlt
      refine SMap.rising_cons (ih (SMap.rising_tail h)) fun x hx => ?_
      rcases SMap.mem_put hx with rfl | hx
      · exact hlt
      · exact SMap.rising_head_lt h x hx
    · split
      · rename_i hk; subst hk
        exact SMap.rising_cons (SMap.rising_tail h) (SMap.rising_head_lt h)
      · rename_i h1 h2
        have hkj : k < j := by omega
        refine SMap.rising_cons h fun x hx => ?_
        rcases List.mem_cons.mp hx with rfl | hx
        · exact hkj
        · exact Nat.lt_trans hkj (SMap.rising_head_lt h x hx)

theorem SMap.wf_iff [DecidableEq α] (d : Nat → α) (m : SMap α) :
    SMap.wf d m = true ↔ SMap.rising m = true ∧ ∀ e ∈ m, e.2 ≠ d e.1 := by
  simp [SMap.wf]

theorem SMap.wf_filter [DecidableEq α] (d : Nat → α) (m : SMap α) (p : Nat × α → Bool) (h : SMap.wf d m = true) : SMap.wf d (m.filter p) = true := by
  rw [SMap.wf_iff] at *
  exact ⟨SMap.rising_filter m p h.1, fun e he => h.2 e (List.mem_filter.mp he).1⟩

/-- A write keeps the canonical form. -/
theorem SMap.wf_set [DecidableEq α] (d : Nat → α) (m : SMap α) (k : Nat) (v : α) (h : SMap.wf d m = true) : SMap.wf d (SMap.set d m k v) = true := by
  unfold SMap.set
  split
  · exact SMap.wf_filter d m _ h
  · rename_i hv
    rw [SMap.wf_iff] at *
    refine ⟨SMap.rising_put m k v h.1, fun e he => ?_⟩
    rcases SMap.mem_put he with rfl | he
    · exact hv
    · exact h.2 e he

/-- Clearing keys keeps the canonical form. -/
theorem SMap.wf_clear [DecidableEq α] (d : Nat → α) (m : SMap α) (p : Nat → Bool) (h : SMap.wf d m = true) : SMap.wf d (SMap.clear m p) = true :=
  SMap.wf_filter d m _ h

/-! ## Byte memories -/

@[simp] theorem Memory.read_write_same (m : List Host.Cell) (a : Nat) (b : Byte) : Memory.read (Memory.write m a b) a = b :=
  SMap.get_set_same zeroByte m a b

theorem Memory.read_write_other (m : List Host.Cell) (a x : Nat) (b : Byte) (h : x ≠ a) : Memory.read (Memory.write m a b) x = Memory.read m x :=
  SMap.get_set_other zeroByte m a x b h

theorem Memory.wf_write (m : List Host.Cell) (a : Nat) (b : Byte) (h : Memory.wf m = true) : Memory.wf (Memory.write m a b) = true :=
  SMap.wf_set zeroByte m a b h

theorem Memory.wf_writeBytes (m : List Host.Cell) (a : Nat) (bs : Bytes) (h : Memory.wf m = true) : Memory.wf (Memory.writeBytes m a bs) = true := by
  induction bs generalizing m a with
  | nil => exact h
  | cons b r ih => exact ih _ _ (Memory.wf_write m a b h)

theorem Memory.wf_clear (m : List Host.Cell) (lo hi : Nat) (h : Memory.wf m = true) : Memory.wf (Memory.clear m lo hi) = true :=
  SMap.wf_clear zeroByte m _ h

theorem Memory.read_writeBytes_outside (m : List Host.Cell) (a x : Nat) (bs : Bytes) (h : x < a ∨ a + bs.length ≤ x) :
    Memory.read (Memory.writeBytes m a bs) x = Memory.read m x := by
  induction bs generalizing m a with
  | nil => rfl
  | cons b r ih =>
    have hx : x ≠ a := by simp only [List.length_cons] at h; omega
    have := ih (Memory.write m a b) (a + 1) (by simp only [List.length_cons] at h; omega)
    rw [Memory.writeBytes, this, Memory.read_write_other m a x b hx]

theorem Memory.read_writeBytes_inside (m : List Host.Cell) (a i : Nat) (bs : Bytes) (h : i < bs.length) :
    Memory.read (Memory.writeBytes m a bs) (a + i) = bs.getD i 0 := by
  induction bs generalizing m a i with
  | nil => simp at h
  | cons b r ih =>
    cases i with
    | zero =>
      have := Memory.read_writeBytes_outside (Memory.write m a b) (a + 1) a r (.inl (by omega))
      simp [Memory.writeBytes, this]
    | succ i =>
      have := ih (Memory.write m a b) (a + 1) i (by simpa using h)
      rw [Memory.writeBytes, show a + (i + 1) = a + 1 + i by omega, this]
      simp

end Sys2Proof.Machine
end

