-- ==== Sys2Proof/Laws/State.lean ====
section
/-!
SUPPORT. What each named update of the device leaves alone: one lemma per field and update, so that no proof unfolds a
record update; and what a command of one device, or of bell and device, answers.
-/
namespace Sys2Proof.Machine

variable (d : Dev)

@[simp] theorem Dev.wr_area (id v : Nat) : (d.wr id v).area = d.area := rfl
@[simp] theorem Dev.wr_tabs (id v : Nat) : (d.wr id v).tabs = d.tabs := rfl
@[simp] theorem Dev.wr_tcamCopies (id v : Nat) : (d.wr id v).tcamCopies = d.tcamCopies := rfl
@[simp] theorem Dev.wr_tcamBad (id v : Nat) : (d.wr id v).tcamBad = d.tcamBad := rfl
@[simp] theorem Dev.wr_pins (id v : Nat) : (d.wr id v).pins = d.pins := rfl
@[simp] theorem Dev.wr_start (id v : Nat) : (d.wr id v).start = d.start := rfl
@[simp] theorem Dev.wr_power (id v : Nat) : (d.wr id v).power = d.power := rfl
@[simp] theorem Dev.wr_txn (id v : Nat) : (d.wr id v).txn = d.txn := rfl
@[simp] theorem Dev.wr_tif (id v : Nat) : (d.wr id v).tif = d.tif := rfl
@[simp] theorem Dev.wr_roll (id v : Nat) : (d.wr id v).roll = d.roll := rfl
@[simp] theorem Dev.wr_switch (id v : Nat) : (d.wr id v).switch = d.switch := rfl
@[simp] theorem Dev.wr_ports (id v : Nat) : (d.wr id v).ports = d.ports := rfl
@[simp] theorem Dev.wr_segs (id v : Nat) : (d.wr id v).segs = d.segs := rfl
@[simp] theorem Dev.wr_pipes (id v : Nat) : (d.wr id v).pipes = d.pipes := rfl
@[simp] theorem Dev.wr_descs (id v : Nat) : (d.wr id v).descs = d.descs := rfl
@[simp] theorem Dev.wr_nextDesc (id v : Nat) : (d.wr id v).nextDesc = d.nextDesc := rfl
@[simp] theorem Dev.wr_services (id v : Nat) : (d.wr id v).services = d.services := rfl
@[simp] theorem Dev.wr_tutors (id v : Nat) : (d.wr id v).tutors = d.tutors := rfl
@[simp] theorem Dev.wr_pools (id v : Nat) : (d.wr id v).pools = d.pools := rfl
@[simp] theorem Dev.wr_memories (id v : Nat) : (d.wr id v).memories = d.memories := rfl
@[simp] theorem Dev.wr_rings (id v : Nat) : (d.wr id v).rings = d.rings := rfl
@[simp] theorem Dev.wr_time (id v : Nat) : (d.wr id v).time = d.time := rfl
@[simp] theorem Dev.wr_buddy (id v : Nat) : (d.wr id v).buddy = d.buddy := rfl
@[simp] theorem Dev.wr_denlys (id v : Nat) : (d.wr id v).denlys = d.denlys := rfl
@[simp] theorem Dev.wr_perf (id v : Nat) : (d.wr id v).perf = d.perf := rfl
@[simp] theorem Dev.wr_work (id v : Nat) : (d.wr id v).work = d.work := rfl
@[simp] theorem Dev.wr_chk (id v : Nat) : (d.wr id v).chk = d.chk := rfl
@[simp] theorem Dev.wr_out (id v : Nat) : (d.wr id v).out = d.out := rfl
@[simp] theorem Dev.wr_free (id v : Nat) : (d.wr id v).free = d.free := rfl

@[simp] theorem Dev.addTo_area (id n : Nat) : (d.addTo id n).area = d.area := rfl
@[simp] theorem Dev.addTo_tabs (id n : Nat) : (d.addTo id n).tabs = d.tabs := rfl
@[simp] theorem Dev.addTo_tcamCopies (id n : Nat) : (d.addTo id n).tcamCopies = d.tcamCopies := rfl
@[simp] theorem Dev.addTo_tcamBad (id n : Nat) : (d.addTo id n).tcamBad = d.tcamBad := rfl
@[simp] theorem Dev.addTo_pins (id n : Nat) : (d.addTo id n).pins = d.pins := rfl
@[simp] theorem Dev.addTo_start (id n : Nat) : (d.addTo id n).start = d.start := rfl
@[simp] theorem Dev.addTo_power (id n : Nat) : (d.addTo id n).power = d.power := rfl
@[simp] theorem Dev.addTo_txn (id n : Nat) : (d.addTo id n).txn = d.txn := rfl
@[simp] theorem Dev.addTo_tif (id n : Nat) : (d.addTo id n).tif = d.tif := rfl
@[simp] theorem Dev.addTo_roll (id n : Nat) : (d.addTo id n).roll = d.roll := rfl
@[simp] theorem Dev.addTo_switch (id n : Nat) : (d.addTo id n).switch = d.switch := rfl
@[simp] theorem Dev.addTo_ports (id n : Nat) : (d.addTo id n).ports = d.ports := rfl
@[simp] theorem Dev.addTo_segs (id n : Nat) : (d.addTo id n).segs = d.segs := rfl
@[simp] theorem Dev.addTo_pipes (id n : Nat) : (d.addTo id n).pipes = d.pipes := rfl
@[simp] theorem Dev.addTo_descs (id n : Nat) : (d.addTo id n).descs = d.descs := rfl
@[simp] theorem Dev.addTo_nextDesc (id n : Nat) : (d.addTo id n).nextDesc = d.nextDesc := rfl
@[simp] theorem Dev.addTo_services (id n : Nat) : (d.addTo id n).services = d.services := rfl
@[simp] theorem Dev.addTo_tutors (id n : Nat) : (d.addTo id n).tutors = d.tutors := rfl
@[simp] theorem Dev.addTo_pools (id n : Nat) : (d.addTo id n).pools = d.pools := rfl
@[simp] theorem Dev.addTo_memories (id n : Nat) : (d.addTo id n).memories = d.memories := rfl
@[simp] theorem Dev.addTo_rings (id n : Nat) : (d.addTo id n).rings = d.rings := rfl
@[simp] theorem Dev.addTo_time (id n : Nat) : (d.addTo id n).time = d.time := rfl
@[simp] theorem Dev.addTo_buddy (id n : Nat) : (d.addTo id n).buddy = d.buddy := rfl
@[simp] theorem Dev.addTo_denlys (id n : Nat) : (d.addTo id n).denlys = d.denlys := rfl
@[simp] theorem Dev.addTo_perf (id n : Nat) : (d.addTo id n).perf = d.perf := rfl
@[simp] theorem Dev.addTo_work (id n : Nat) : (d.addTo id n).work = d.work := rfl
@[simp] theorem Dev.addTo_chk (id n : Nat) : (d.addTo id n).chk = d.chk := rfl
@[simp] theorem Dev.addTo_out (id n : Nat) : (d.addTo id n).out = d.out := rfl
@[simp] theorem Dev.addTo_free (id n : Nat) : (d.addTo id n).free = d.free := rfl

@[simp] theorem Dev.bump_area (id : Nat) : (d.bump id).area = d.area := rfl
@[simp] theorem Dev.bump_tabs (id : Nat) : (d.bump id).tabs = d.tabs := rfl
@[simp] theorem Dev.bump_tcamCopies (id : Nat) : (d.bump id).tcamCopies = d.tcamCopies := rfl
@[simp] theorem Dev.bump_tcamBad (id : Nat) : (d.bump id).tcamBad = d.tcamBad := rfl
@[simp] theorem Dev.bump_pins (id : Nat) : (d.bump id).pins = d.pins := rfl
@[simp] theorem Dev.bump_start (id : Nat) : (d.bump id).start = d.start := rfl
@[simp] theorem Dev.bump_power (id : Nat) : (d.bump id).power = d.power := rfl
@[simp] theorem Dev.bump_txn (id : Nat) : (d.bump id).txn = d.txn := rfl
@[simp] theorem Dev.bump_tif (id : Nat) : (d.bump id).tif = d.tif := rfl
@[simp] theorem Dev.bump_roll (id : Nat) : (d.bump id).roll = d.roll := rfl
@[simp] theorem Dev.bump_switch (id : Nat) : (d.bump id).switch = d.switch := rfl
@[simp] theorem Dev.bump_ports (id : Nat) : (d.bump id).ports = d.ports := rfl
@[simp] theorem Dev.bump_segs (id : Nat) : (d.bump id).segs = d.segs := rfl
@[simp] theorem Dev.bump_pipes (id : Nat) : (d.bump id).pipes = d.pipes := rfl
@[simp] theorem Dev.bump_descs (id : Nat) : (d.bump id).descs = d.descs := rfl
@[simp] theorem Dev.bump_nextDesc (id : Nat) : (d.bump id).nextDesc = d.nextDesc := rfl
@[simp] theorem Dev.bump_services (id : Nat) : (d.bump id).services = d.services := rfl
@[simp] theorem Dev.bump_tutors (id : Nat) : (d.bump id).tutors = d.tutors := rfl
@[simp] theorem Dev.bump_pools (id : Nat) : (d.bump id).pools = d.pools := rfl
@[simp] theorem Dev.bump_memories (id : Nat) : (d.bump id).memories = d.memories := rfl
@[simp] theorem Dev.bump_rings (id : Nat) : (d.bump id).rings = d.rings := rfl
@[simp] theorem Dev.bump_time (id : Nat) : (d.bump id).time = d.time := rfl
@[simp] theorem Dev.bump_buddy (id : Nat) : (d.bump id).buddy = d.buddy := rfl
@[simp] theorem Dev.bump_denlys (id : Nat) : (d.bump id).denlys = d.denlys := rfl
@[simp] theorem Dev.bump_perf (id : Nat) : (d.bump id).perf = d.perf := rfl
@[simp] theorem Dev.bump_work (id : Nat) : (d.bump id).work = d.work := rfl
@[simp] theorem Dev.bump_chk (id : Nat) : (d.bump id).chk = d.chk := rfl
@[simp] theorem Dev.bump_out (id : Nat) : (d.bump id).out = d.out := rfl
@[simp] theorem Dev.bump_free (id : Nat) : (d.bump id).free = d.free := rfl

@[simp] theorem Dev.emit_reg (o : Out) : (d.emit o).reg = d.reg := rfl
@[simp] theorem Dev.emit_area (o : Out) : (d.emit o).area = d.area := rfl
@[simp] theorem Dev.emit_tabs (o : Out) : (d.emit o).tabs = d.tabs := rfl
@[simp] theorem Dev.emit_tcamCopies (o : Out) : (d.emit o).tcamCopies = d.tcamCopies := rfl
@[simp] theorem Dev.emit_tcamBad (o : Out) : (d.emit o).tcamBad = d.tcamBad := rfl
@[simp] theorem Dev.emit_pins (o : Out) : (d.emit o).pins = d.pins := rfl
@[simp] theorem Dev.emit_start (o : Out) : (d.emit o).start = d.start := rfl
@[simp] theorem Dev.emit_power (o : Out) : (d.emit o).power = d.power := rfl
@[simp] theorem Dev.emit_txn (o : Out) : (d.emit o).txn = d.txn := rfl
@[simp] theorem Dev.emit_tif (o : Out) : (d.emit o).tif = d.tif := rfl
@[simp] theorem Dev.emit_roll (o : Out) : (d.emit o).roll = d.roll := rfl
@[simp] theorem Dev.emit_switch (o : Out) : (d.emit o).switch = d.switch := rfl
@[simp] theorem Dev.emit_ports (o : Out) : (d.emit o).ports = d.ports := rfl
@[simp] theorem Dev.emit_segs (o : Out) : (d.emit o).segs = d.segs := rfl
@[simp] theorem Dev.emit_pipes (o : Out) : (d.emit o).pipes = d.pipes := rfl
@[simp] theorem Dev.emit_descs (o : Out) : (d.emit o).descs = d.descs := rfl
@[simp] theorem Dev.emit_nextDesc (o : Out) : (d.emit o).nextDesc = d.nextDesc := rfl
@[simp] theorem Dev.emit_services (o : Out) : (d.emit o).services = d.services := rfl
@[simp] theorem Dev.emit_tutors (o : Out) : (d.emit o).tutors = d.tutors := rfl
@[simp] theorem Dev.emit_pools (o : Out) : (d.emit o).pools = d.pools := rfl
@[simp] theorem Dev.emit_memories (o : Out) : (d.emit o).memories = d.memories := rfl
@[simp] theorem Dev.emit_rings (o : Out) : (d.emit o).rings = d.rings := rfl
@[simp] theorem Dev.emit_time (o : Out) : (d.emit o).time = d.time := rfl
@[simp] theorem Dev.emit_buddy (o : Out) : (d.emit o).buddy = d.buddy := rfl
@[simp] theorem Dev.emit_denlys (o : Out) : (d.emit o).denlys = d.denlys := rfl
@[simp] theorem Dev.emit_perf (o : Out) : (d.emit o).perf = d.perf := rfl
@[simp] theorem Dev.emit_work (o : Out) : (d.emit o).work = d.work := rfl
@[simp] theorem Dev.emit_chk (o : Out) : (d.emit o).chk = d.chk := rfl
@[simp] theorem Dev.emit_free (o : Out) : (d.emit o).free = d.free := rfl

@[simp] theorem Dev.awr_reg (a : Nat) (bs : Bytes) : (d.awr a bs).reg = d.reg := rfl
@[simp] theorem Dev.awr_tabs (a : Nat) (bs : Bytes) : (d.awr a bs).tabs = d.tabs := rfl
@[simp] theorem Dev.awr_tcamCopies (a : Nat) (bs : Bytes) : (d.awr a bs).tcamCopies = d.tcamCopies := rfl
@[simp] theorem Dev.awr_tcamBad (a : Nat) (bs : Bytes) : (d.awr a bs).tcamBad = d.tcamBad := rfl
@[simp] theorem Dev.awr_pins (a : Nat) (bs : Bytes) : (d.awr a bs).pins = d.pins := rfl
@[simp] theorem Dev.awr_start (a : Nat) (bs : Bytes) : (d.awr a bs).start = d.start := rfl
@[simp] theorem Dev.awr_power (a : Nat) (bs : Bytes) : (d.awr a bs).power = d.power := rfl
@[simp] theorem Dev.awr_txn (a : Nat) (bs : Bytes) : (d.awr a bs).txn = d.txn := rfl
@[simp] theorem Dev.awr_tif (a : Nat) (bs : Bytes) : (d.awr a bs).tif = d.tif := rfl
@[simp] theorem Dev.awr_roll (a : Nat) (bs : Bytes) : (d.awr a bs).roll = d.roll := rfl
@[simp] theorem Dev.awr_switch (a : Nat) (bs : Bytes) : (d.awr a bs).switch = d.switch := rfl
@[simp] theorem Dev.awr_ports (a : Nat) (bs : Bytes) : (d.awr a bs).ports = d.ports := rfl
@[simp] theorem Dev.awr_segs (a : Nat) (bs : Bytes) : (d.awr a bs).segs = d.segs := rfl
@[simp] theorem Dev.awr_pipes (a : Nat) (bs : Bytes) : (d.awr a bs).pipes = d.pipes := rfl
@[simp] theorem Dev.awr_descs (a : Nat) (bs : Bytes) : (d.awr a bs).descs = d.descs := rfl
@[simp] theorem Dev.awr_nextDesc (a : Nat) (bs : Bytes) : (d.awr a bs).nextDesc = d.nextDesc := rfl
@[simp] theorem Dev.awr_services (a : Nat) (bs : Bytes) : (d.awr a bs).services = d.services := rfl
@[simp] theorem Dev.awr_tutors (a : Nat) (bs : Bytes) : (d.awr a bs).tutors = d.tutors := rfl
@[simp] theorem Dev.awr_pools (a : Nat) (bs : Bytes) : (d.awr a bs).pools = d.pools := rfl
@[simp] theorem Dev.awr_memories (a : Nat) (bs : Bytes) : (d.awr a bs).memories = d.memories := rfl
@[simp] theorem Dev.awr_rings (a : Nat) (bs : Bytes) : (d.awr a bs).rings = d.rings := rfl
@[simp] theorem Dev.awr_time (a : Nat) (bs : Bytes) : (d.awr a bs).time = d.time := rfl
@[simp] theorem Dev.awr_buddy (a : Nat) (bs : Bytes) : (d.awr a bs).buddy = d.buddy := rfl
@[simp] theorem Dev.awr_denlys (a : Nat) (bs : Bytes) : (d.awr a bs).denlys = d.denlys := rfl
@[simp] theorem Dev.awr_perf (a : Nat) (bs : Bytes) : (d.awr a bs).perf = d.perf := rfl
@[simp] theorem Dev.awr_work (a : Nat) (bs : Bytes) : (d.awr a bs).work = d.work := rfl
@[simp] theorem Dev.awr_chk (a : Nat) (bs : Bytes) : (d.awr a bs).chk = d.chk := rfl
@[simp] theorem Dev.awr_out (a : Nat) (bs : Bytes) : (d.awr a bs).out = d.out := rfl
@[simp] theorem Dev.awr_free (a : Nat) (bs : Bytes) : (d.awr a bs).free = d.free := rfl

@[simp] theorem Dev.setRow_reg (k : Nat) (r : Option Row) : (d.setRow k r).reg = d.reg := rfl
@[simp] theorem Dev.setRow_area (k : Nat) (r : Option Row) : (d.setRow k r).area = d.area := rfl
@[simp] theorem Dev.setRow_tcamCopies (k : Nat) (r : Option Row) : (d.setRow k r).tcamCopies = d.tcamCopies := rfl
@[simp] theorem Dev.setRow_tcamBad (k : Nat) (r : Option Row) : (d.setRow k r).tcamBad = d.tcamBad := rfl
@[simp] theorem Dev.setRow_pins (k : Nat) (r : Option Row) : (d.setRow k r).pins = d.pins := rfl
@[simp] theorem Dev.setRow_start (k : Nat) (r : Option Row) : (d.setRow k r).start = d.start := rfl
@[simp] theorem Dev.setRow_power (k : Nat) (r : Option Row) : (d.setRow k r).power = d.power := rfl
@[simp] theorem Dev.setRow_txn (k : Nat) (r : Option Row) : (d.setRow k r).txn = d.txn := rfl
@[simp] theorem Dev.setRow_tif (k : Nat) (r : Option Row) : (d.setRow k r).tif = d.tif := rfl
@[simp] theorem Dev.setRow_roll (k : Nat) (r : Option Row) : (d.setRow k r).roll = d.roll := rfl
@[simp] theorem Dev.setRow_switch (k : Nat) (r : Option Row) : (d.setRow k r).switch = d.switch := rfl
@[simp] theorem Dev.setRow_ports (k : Nat) (r : Option Row) : (d.setRow k r).ports = d.ports := rfl
@[simp] theorem Dev.setRow_segs (k : Nat) (r : Option Row) : (d.setRow k r).segs = d.segs := rfl
@[simp] theorem Dev.setRow_pipes (k : Nat) (r : Option Row) : (d.setRow k r).pipes = d.pipes := rfl
@[simp] theorem Dev.setRow_descs (k : Nat) (r : Option Row) : (d.setRow k r).descs = d.descs := rfl
@[simp] theorem Dev.setRow_nextDesc (k : Nat) (r : Option Row) : (d.setRow k r).nextDesc = d.nextDesc := rfl
@[simp] theorem Dev.setRow_services (k : Nat) (r : Option Row) : (d.setRow k r).services = d.services := rfl
@[simp] theorem Dev.setRow_pools (k : Nat) (r : Option Row) : (d.setRow k r).pools = d.pools := rfl
@[simp] theorem Dev.setRow_memories (k : Nat) (r : Option Row) : (d.setRow k r).memories = d.memories := rfl
@[simp] theorem Dev.setRow_rings (k : Nat) (r : Option Row) : (d.setRow k r).rings = d.rings := rfl
@[simp] theorem Dev.setRow_time (k : Nat) (r : Option Row) : (d.setRow k r).time = d.time := rfl
@[simp] theorem Dev.setRow_buddy (k : Nat) (r : Option Row) : (d.setRow k r).buddy = d.buddy := rfl
@[simp] theorem Dev.setRow_denlys (k : Nat) (r : Option Row) : (d.setRow k r).denlys = d.denlys := rfl
@[simp] theorem Dev.setRow_perf (k : Nat) (r : Option Row) : (d.setRow k r).perf = d.perf := rfl
@[simp] theorem Dev.setRow_work (k : Nat) (r : Option Row) : (d.setRow k r).work = d.work := rfl
@[simp] theorem Dev.setRow_chk (k : Nat) (r : Option Row) : (d.setRow k r).chk = d.chk := rfl
@[simp] theorem Dev.setRow_out (k : Nat) (r : Option Row) : (d.setRow k r).out = d.out := rfl
@[simp] theorem Dev.setRow_free (k : Nat) (r : Option Row) : (d.setRow k r).free = d.free := rfl

@[simp] theorem Dev.setRing_reg (r : Nat) (x : Ring) : (d.setRing r x).reg = d.reg := rfl
@[simp] theorem Dev.setRing_area (r : Nat) (x : Ring) : (d.setRing r x).area = d.area := rfl
@[simp] theorem Dev.setRing_tabs (r : Nat) (x : Ring) : (d.setRing r x).tabs = d.tabs := rfl
@[simp] theorem Dev.setRing_tcamCopies (r : Nat) (x : Ring) : (d.setRing r x).tcamCopies = d.tcamCopies := rfl
@[simp] theorem Dev.setRing_tcamBad (r : Nat) (x : Ring) : (d.setRing r x).tcamBad = d.tcamBad := rfl
@[simp] theorem Dev.setRing_pins (r : Nat) (x : Ring) : (d.setRing r x).pins = d.pins := rfl
@[simp] theorem Dev.setRing_start (r : Nat) (x : Ring) : (d.setRing r x).start = d.start := rfl
@[simp] theorem Dev.setRing_power (r : Nat) (x : Ring) : (d.setRing r x).power = d.power := rfl
@[simp] theorem Dev.setRing_txn (r : Nat) (x : Ring) : (d.setRing r x).txn = d.txn := rfl
@[simp] theorem Dev.setRing_tif (r : Nat) (x : Ring) : (d.setRing r x).tif = d.tif := rfl
@[simp] theorem Dev.setRing_roll (r : Nat) (x : Ring) : (d.setRing r x).roll = d.roll := rfl
@[simp] theorem Dev.setRing_switch (r : Nat) (x : Ring) : (d.setRing r x).switch = d.switch := rfl
@[simp] theorem Dev.setRing_ports (r : Nat) (x : Ring) : (d.setRing r x).ports = d.ports := rfl
@[simp] theorem Dev.setRing_segs (r : Nat) (x : Ring) : (d.setRing r x).segs = d.segs := rfl
@[simp] theorem Dev.setRing_pipes (r : Nat) (x : Ring) : (d.setRing r x).pipes = d.pipes := rfl
@[simp] theorem Dev.setRing_descs (r : Nat) (x : Ring) : (d.setRing r x).descs = d.descs := rfl
@[simp] theorem Dev.setRing_nextDesc (r : Nat) (x : Ring) : (d.setRing r x).nextDesc = d.nextDesc := rfl
@[simp] theorem Dev.setRing_services (r : Nat) (x : Ring) : (d.setRing r x).services = d.services := rfl
@[simp] theorem Dev.setRing_tutors (r : Nat) (x : Ring) : (d.setRing r x).tutors = d.tutors := rfl
@[simp] theorem Dev.setRing_pools (r : Nat) (x : Ring) : (d.setRing r x).pools = d.pools := rfl
@[simp] theorem Dev.setRing_memories (r : Nat) (x : Ring) : (d.setRing r x).memories = d.memories := rfl
@[simp] theorem Dev.setRing_time (r : Nat) (x : Ring) : (d.setRing r x).time = d.time := rfl
@[simp] theorem Dev.setRing_buddy (r : Nat) (x : Ring) : (d.setRing r x).buddy = d.buddy := rfl
@[simp] theorem Dev.setRing_denlys (r : Nat) (x : Ring) : (d.setRing r x).denlys = d.denlys := rfl
@[simp] theorem Dev.setRing_perf (r : Nat) (x : Ring) : (d.setRing r x).perf = d.perf := rfl
@[simp] theorem Dev.setRing_work (r : Nat) (x : Ring) : (d.setRing r x).work = d.work := rfl
@[simp] theorem Dev.setRing_chk (r : Nat) (x : Ring) : (d.setRing r x).chk = d.chk := rfl
@[simp] theorem Dev.setRing_out (r : Nat) (x : Ring) : (d.setRing r x).out = d.out := rfl
@[simp] theorem Dev.setRing_free (r : Nat) (x : Ring) : (d.setRing r x).free = d.free := rfl

@[simp] theorem Dev.setChannel_reg (c : Nat) (x : Channel) : (d.setChannel c x).reg = d.reg := rfl
@[simp] theorem Dev.setChannel_area (c : Nat) (x : Channel) : (d.setChannel c x).area = d.area := rfl
@[simp] theorem Dev.setChannel_tabs (c : Nat) (x : Channel) : (d.setChannel c x).tabs = d.tabs := rfl
@[simp] theorem Dev.setChannel_tcamCopies (c : Nat) (x : Channel) : (d.setChannel c x).tcamCopies = d.tcamCopies := rfl
@[simp] theorem Dev.setChannel_tcamBad (c : Nat) (x : Channel) : (d.setChannel c x).tcamBad = d.tcamBad := rfl
@[simp] theorem Dev.setChannel_pins (c : Nat) (x : Channel) : (d.setChannel c x).pins = d.pins := rfl
@[simp] theorem Dev.setChannel_start (c : Nat) (x : Channel) : (d.setChannel c x).start = d.start := rfl
@[simp] theorem Dev.setChannel_power (c : Nat) (x : Channel) : (d.setChannel c x).power = d.power := rfl
@[simp] theorem Dev.setChannel_txn (c : Nat) (x : Channel) : (d.setChannel c x).txn = d.txn := rfl
@[simp] theorem Dev.setChannel_tif (c : Nat) (x : Channel) : (d.setChannel c x).tif = d.tif := rfl
@[simp] theorem Dev.setChannel_roll (c : Nat) (x : Channel) : (d.setChannel c x).roll = d.roll := rfl
@[simp] theorem Dev.setChannel_switch (c : Nat) (x : Channel) : (d.setChannel c x).switch = d.switch := rfl
@[simp] theorem Dev.setChannel_ports (c : Nat) (x : Channel) : (d.setChannel c x).ports = d.ports := rfl
@[simp] theorem Dev.setChannel_segs (c : Nat) (x : Channel) : (d.setChannel c x).segs = d.segs := rfl
@[simp] theorem Dev.setChannel_pipes (c : Nat) (x : Channel) : (d.setChannel c x).pipes = d.pipes := rfl
@[simp] theorem Dev.setChannel_descs (c : Nat) (x : Channel) : (d.setChannel c x).descs = d.descs := rfl
@[simp] theorem Dev.setChannel_nextDesc (c : Nat) (x : Channel) : (d.setChannel c x).nextDesc = d.nextDesc := rfl
@[simp] theorem Dev.setChannel_services (c : Nat) (x : Channel) : (d.setChannel c x).services = d.services := rfl
@[simp] theorem Dev.setChannel_tutors (c : Nat) (x : Channel) : (d.setChannel c x).tutors = d.tutors := rfl
@[simp] theorem Dev.setChannel_pools (c : Nat) (x : Channel) : (d.setChannel c x).pools = d.pools := rfl
@[simp] theorem Dev.setChannel_rings (c : Nat) (x : Channel) : (d.setChannel c x).rings = d.rings := rfl
@[simp] theorem Dev.setChannel_time (c : Nat) (x : Channel) : (d.setChannel c x).time = d.time := rfl
@[simp] theorem Dev.setChannel_buddy (c : Nat) (x : Channel) : (d.setChannel c x).buddy = d.buddy := rfl
@[simp] theorem Dev.setChannel_denlys (c : Nat) (x : Channel) : (d.setChannel c x).denlys = d.denlys := rfl
@[simp] theorem Dev.setChannel_perf (c : Nat) (x : Channel) : (d.setChannel c x).perf = d.perf := rfl
@[simp] theorem Dev.setChannel_work (c : Nat) (x : Channel) : (d.setChannel c x).work = d.work := rfl
@[simp] theorem Dev.setChannel_chk (c : Nat) (x : Channel) : (d.setChannel c x).chk = d.chk := rfl
@[simp] theorem Dev.setChannel_out (c : Nat) (x : Channel) : (d.setChannel c x).out = d.out := rfl
@[simp] theorem Dev.setChannel_free (c : Nat) (x : Channel) : (d.setChannel c x).free = d.free := rfl

@[simp] theorem Dev.setPipe_reg (p : Nat) (x : Pipe) : (d.setPipe p x).reg = d.reg := rfl
@[simp] theorem Dev.setPipe_area (p : Nat) (x : Pipe) : (d.setPipe p x).area = d.area := rfl
@[simp] theorem Dev.setPipe_tabs (p : Nat) (x : Pipe) : (d.setPipe p x).tabs = d.tabs := rfl
@[simp] theorem Dev.setPipe_tcamCopies (p : Nat) (x : Pipe) : (d.setPipe p x).tcamCopies = d.tcamCopies := rfl
@[simp] theorem Dev.setPipe_tcamBad (p : Nat) (x : Pipe) : (d.setPipe p x).tcamBad = d.tcamBad := rfl
@[simp] theorem Dev.setPipe_pins (p : Nat) (x : Pipe) : (d.setPipe p x).pins = d.pins := rfl
@[simp] theorem Dev.setPipe_start (p : Nat) (x : Pipe) : (d.setPipe p x).start = d.start := rfl
@[simp] theorem Dev.setPipe_power (p : Nat) (x : Pipe) : (d.setPipe p x).power = d.power := rfl
@[simp] theorem Dev.setPipe_txn (p : Nat) (x : Pipe) : (d.setPipe p x).txn = d.txn := rfl
@[simp] theorem Dev.setPipe_tif (p : Nat) (x : Pipe) : (d.setPipe p x).tif = d.tif := rfl
@[simp] theorem Dev.setPipe_roll (p : Nat) (x : Pipe) : (d.setPipe p x).roll = d.roll := rfl
@[simp] theorem Dev.setPipe_switch (p : Nat) (x : Pipe) : (d.setPipe p x).switch = d.switch := rfl
@[simp] theorem Dev.setPipe_ports (p : Nat) (x : Pipe) : (d.setPipe p x).ports = d.ports := rfl
@[simp] theorem Dev.setPipe_segs (p : Nat) (x : Pipe) : (d.setPipe p x).segs = d.segs := rfl
@[simp] theorem Dev.setPipe_descs (p : Nat) (x : Pipe) : (d.setPipe p x).descs = d.descs := rfl
@[simp] theorem Dev.setPipe_nextDesc (p : Nat) (x : Pipe) : (d.setPipe p x).nextDesc = d.nextDesc := rfl
@[simp] theorem Dev.setPipe_services (p : Nat) (x : Pipe) : (d.setPipe p x).services = d.services := rfl
@[simp] theorem Dev.setPipe_tutors (p : Nat) (x : Pipe) : (d.setPipe p x).tutors = d.tutors := rfl
@[simp] theorem Dev.setPipe_pools (p : Nat) (x : Pipe) : (d.setPipe p x).pools = d.pools := rfl
@[simp] theorem Dev.setPipe_memories (p : Nat) (x : Pipe) : (d.setPipe p x).memories = d.memories := rfl
@[simp] theorem Dev.setPipe_rings (p : Nat) (x : Pipe) : (d.setPipe p x).rings = d.rings := rfl
@[simp] theorem Dev.setPipe_time (p : Nat) (x : Pipe) : (d.setPipe p x).time = d.time := rfl
@[simp] theorem Dev.setPipe_buddy (p : Nat) (x : Pipe) : (d.setPipe p x).buddy = d.buddy := rfl
@[simp] theorem Dev.setPipe_denlys (p : Nat) (x : Pipe) : (d.setPipe p x).denlys = d.denlys := rfl
@[simp] theorem Dev.setPipe_perf (p : Nat) (x : Pipe) : (d.setPipe p x).perf = d.perf := rfl
@[simp] theorem Dev.setPipe_work (p : Nat) (x : Pipe) : (d.setPipe p x).work = d.work := rfl
@[simp] theorem Dev.setPipe_chk (p : Nat) (x : Pipe) : (d.setPipe p x).chk = d.chk := rfl
@[simp] theorem Dev.setPipe_out (p : Nat) (x : Pipe) : (d.setPipe p x).out = d.out := rfl
@[simp] theorem Dev.setPipe_free (p : Nat) (x : Pipe) : (d.setPipe p x).free = d.free := rfl

@[simp] theorem Dev.setTutor_reg (t : Nat) (x : Tutor) : (d.setTutor t x).reg = d.reg := rfl
@[simp] theorem Dev.setTutor_area (t : Nat) (x : Tutor) : (d.setTutor t x).area = d.area := rfl
@[simp] theorem Dev.setTutor_tabs (t : Nat) (x : Tutor) : (d.setTutor t x).tabs = d.tabs := rfl
@[simp] theorem Dev.setTutor_tcamCopies (t : Nat) (x : Tutor) : (d.setTutor t x).tcamCopies = d.tcamCopies := rfl
@[simp] theorem Dev.setTutor_tcamBad (t : Nat) (x : Tutor) : (d.setTutor t x).tcamBad = d.tcamBad := rfl
@[simp] theorem Dev.setTutor_pins (t : Nat) (x : Tutor) : (d.setTutor t x).pins = d.pins := rfl
@[simp] theorem Dev.setTutor_start (t : Nat) (x : Tutor) : (d.setTutor t x).start = d.start := rfl
@[simp] theorem Dev.setTutor_power (t : Nat) (x : Tutor) : (d.setTutor t x).power = d.power := rfl
@[simp] theorem Dev.setTutor_txn (t : Nat) (x : Tutor) : (d.setTutor t x).txn = d.txn := rfl
@[simp] theorem Dev.setTutor_tif (t : Nat) (x : Tutor) : (d.setTutor t x).tif = d.tif := rfl
@[simp] theorem Dev.setTutor_roll (t : Nat) (x : Tutor) : (d.setTutor t x).roll = d.roll := rfl
@[simp] theorem Dev.setTutor_switch (t : Nat) (x : Tutor) : (d.setTutor t x).switch = d.switch := rfl
@[simp] theorem Dev.setTutor_ports (t : Nat) (x : Tutor) : (d.setTutor t x).ports = d.ports := rfl
@[simp] theorem Dev.setTutor_segs (t : Nat) (x : Tutor) : (d.setTutor t x).segs = d.segs := rfl
@[simp] theorem Dev.setTutor_pipes (t : Nat) (x : Tutor) : (d.setTutor t x).pipes = d.pipes := rfl
@[simp] theorem Dev.setTutor_descs (t : Nat) (x : Tutor) : (d.setTutor t x).descs = d.descs := rfl
@[simp] theorem Dev.setTutor_nextDesc (t : Nat) (x : Tutor) : (d.setTutor t x).nextDesc = d.nextDesc := rfl
@[simp] theorem Dev.setTutor_services (t : Nat) (x : Tutor) : (d.setTutor t x).services = d.services := rfl
@[simp] theorem Dev.setTutor_pools (t : Nat) (x : Tutor) : (d.setTutor t x).pools = d.pools := rfl
@[simp] theorem Dev.setTutor_memories (t : Nat) (x : Tutor) : (d.setTutor t x).memories = d.memories := rfl
@[simp] theorem Dev.setTutor_rings (t : Nat) (x : Tutor) : (d.setTutor t x).rings = d.rings := rfl
@[simp] theorem Dev.setTutor_time (t : Nat) (x : Tutor) : (d.setTutor t x).time = d.time := rfl
@[simp] theorem Dev.setTutor_buddy (t : Nat) (x : Tutor) : (d.setTutor t x).buddy = d.buddy := rfl
@[simp] theorem Dev.setTutor_denlys (t : Nat) (x : Tutor) : (d.setTutor t x).denlys = d.denlys := rfl
@[simp] theorem Dev.setTutor_perf (t : Nat) (x : Tutor) : (d.setTutor t x).perf = d.perf := rfl
@[simp] theorem Dev.setTutor_work (t : Nat) (x : Tutor) : (d.setTutor t x).work = d.work := rfl
@[simp] theorem Dev.setTutor_chk (t : Nat) (x : Tutor) : (d.setTutor t x).chk = d.chk := rfl
@[simp] theorem Dev.setTutor_out (t : Nat) (x : Tutor) : (d.setTutor t x).out = d.out := rfl
@[simp] theorem Dev.setTutor_free (t : Nat) (x : Tutor) : (d.setTutor t x).free = d.free := rfl

@[simp] theorem Dev.setSession_reg (k : Nat) (x : Option Session) : (d.setSession k x).reg = d.reg := rfl
@[simp] theorem Dev.setSession_area (k : Nat) (x : Option Session) : (d.setSession k x).area = d.area := rfl
@[simp] theorem Dev.setSession_tabs (k : Nat) (x : Option Session) : (d.setSession k x).tabs = d.tabs := rfl
@[simp] theorem Dev.setSession_tcamCopies (k : Nat) (x : Option Session) : (d.setSession k x).tcamCopies = d.tcamCopies := rfl
@[simp] theorem Dev.setSession_tcamBad (k : Nat) (x : Option Session) : (d.setSession k x).tcamBad = d.tcamBad := rfl
@[simp] theorem Dev.setSession_pins (k : Nat) (x : Option Session) : (d.setSession k x).pins = d.pins := rfl
@[simp] theorem Dev.setSession_start (k : Nat) (x : Option Session) : (d.setSession k x).start = d.start := rfl
@[simp] theorem Dev.setSession_power (k : Nat) (x : Option Session) : (d.setSession k x).power = d.power := rfl
@[simp] theorem Dev.setSession_txn (k : Nat) (x : Option Session) : (d.setSession k x).txn = d.txn := rfl
@[simp] theorem Dev.setSession_tif (k : Nat) (x : Option Session) : (d.setSession k x).tif = d.tif := rfl
@[simp] theorem Dev.setSession_roll (k : Nat) (x : Option Session) : (d.setSession k x).roll = d.roll := rfl
@[simp] theorem Dev.setSession_switch (k : Nat) (x : Option Session) : (d.setSession k x).switch = d.switch := rfl
@[simp] theorem Dev.setSession_ports (k : Nat) (x : Option Session) : (d.setSession k x).ports = d.ports := rfl
@[simp] theorem Dev.setSession_segs (k : Nat) (x : Option Session) : (d.setSession k x).segs = d.segs := rfl
@[simp] theorem Dev.setSession_pipes (k : Nat) (x : Option Session) : (d.setSession k x).pipes = d.pipes := rfl
@[simp] theorem Dev.setSession_descs (k : Nat) (x : Option Session) : (d.setSession k x).descs = d.descs := rfl
@[simp] theorem Dev.setSession_nextDesc (k : Nat) (x : Option Session) : (d.setSession k x).nextDesc = d.nextDesc := rfl
@[simp] theorem Dev.setSession_services (k : Nat) (x : Option Session) : (d.setSession k x).services = d.services := rfl
@[simp] theorem Dev.setSession_tutors (k : Nat) (x : Option Session) : (d.setSession k x).tutors = d.tutors := rfl
@[simp] theorem Dev.setSession_pools (k : Nat) (x : Option Session) : (d.setSession k x).pools = d.pools := rfl
@[simp] theorem Dev.setSession_memories (k : Nat) (x : Option Session) : (d.setSession k x).memories = d.memories := rfl
@[simp] theorem Dev.setSession_rings (k : Nat) (x : Option Session) : (d.setSession k x).rings = d.rings := rfl
@[simp] theorem Dev.setSession_time (k : Nat) (x : Option Session) : (d.setSession k x).time = d.time := rfl
@[simp] theorem Dev.setSession_buddy (k : Nat) (x : Option Session) : (d.setSession k x).buddy = d.buddy := rfl
@[simp] theorem Dev.setSession_perf (k : Nat) (x : Option Session) : (d.setSession k x).perf = d.perf := rfl
@[simp] theorem Dev.setSession_work (k : Nat) (x : Option Session) : (d.setSession k x).work = d.work := rfl
@[simp] theorem Dev.setSession_chk (k : Nat) (x : Option Session) : (d.setSession k x).chk = d.chk := rfl
@[simp] theorem Dev.setSession_out (k : Nat) (x : Option Session) : (d.setSession k x).out = d.out := rfl
@[simp] theorem Dev.setSession_free (k : Nat) (x : Option Session) : (d.setSession k x).free = d.free := rfl

@[simp] theorem Dev.setBuf_reg (p i : Nat) (x : Nat × Nat) : (d.setBuf p i x).reg = d.reg := rfl
@[simp] theorem Dev.setBuf_area (p i : Nat) (x : Nat × Nat) : (d.setBuf p i x).area = d.area := rfl
@[simp] theorem Dev.setBuf_tabs (p i : Nat) (x : Nat × Nat) : (d.setBuf p i x).tabs = d.tabs := rfl
@[simp] theorem Dev.setBuf_tcamCopies (p i : Nat) (x : Nat × Nat) : (d.setBuf p i x).tcamCopies = d.tcamCopies := rfl
@[simp] theorem Dev.setBuf_tcamBad (p i : Nat) (x : Nat × Nat) : (d.setBuf p i x).tcamBad = d.tcamBad := rfl
@[simp] theorem Dev.setBuf_pins (p i : Nat) (x : Nat × Nat) : (d.setBuf p i x).pins = d.pins := rfl
@[simp] theorem Dev.setBuf_start (p i : Nat) (x : Nat × Nat) : (d.setBuf p i x).start = d.start := rfl
@[simp] theorem Dev.setBuf_power (p i : Nat) (x : Nat × Nat) : (d.setBuf p i x).power = d.power := rfl
@[simp] theorem Dev.setBuf_txn (p i : Nat) (x : Nat × Nat) : (d.setBuf p i x).txn = d.txn := rfl
@[simp] theorem Dev.setBuf_tif (p i : Nat) (x : Nat × Nat) : (d.setBuf p i x).tif = d.tif := rfl
@[simp] theorem Dev.setBuf_roll (p i : Nat) (x : Nat × Nat) : (d.setBuf p i x).roll = d.roll := rfl
@[simp] theorem Dev.setBuf_switch (p i : Nat) (x : Nat × Nat) : (d.setBuf p i x).switch = d.switch := rfl
@[simp] theorem Dev.setBuf_ports (p i : Nat) (x : Nat × Nat) : (d.setBuf p i x).ports = d.ports := rfl
@[simp] theorem Dev.setBuf_segs (p i : Nat) (x : Nat × Nat) : (d.setBuf p i x).segs = d.segs := rfl
@[simp] theorem Dev.setBuf_pipes (p i : Nat) (x : Nat × Nat) : (d.setBuf p i x).pipes = d.pipes := rfl
@[simp] theorem Dev.setBuf_descs (p i : Nat) (x : Nat × Nat) : (d.setBuf p i x).descs = d.descs := rfl
@[simp] theorem Dev.setBuf_nextDesc (p i : Nat) (x : Nat × Nat) : (d.setBuf p i x).nextDesc = d.nextDesc := rfl
@[simp] theorem Dev.setBuf_services (p i : Nat) (x : Nat × Nat) : (d.setBuf p i x).services = d.services := rfl
@[simp] theorem Dev.setBuf_tutors (p i : Nat) (x : Nat × Nat) : (d.setBuf p i x).tutors = d.tutors := rfl
@[simp] theorem Dev.setBuf_memories (p i : Nat) (x : Nat × Nat) : (d.setBuf p i x).memories = d.memories := rfl
@[simp] theorem Dev.setBuf_rings (p i : Nat) (x : Nat × Nat) : (d.setBuf p i x).rings = d.rings := rfl
@[simp] theorem Dev.setBuf_time (p i : Nat) (x : Nat × Nat) : (d.setBuf p i x).time = d.time := rfl
@[simp] theorem Dev.setBuf_buddy (p i : Nat) (x : Nat × Nat) : (d.setBuf p i x).buddy = d.buddy := rfl
@[simp] theorem Dev.setBuf_denlys (p i : Nat) (x : Nat × Nat) : (d.setBuf p i x).denlys = d.denlys := rfl
@[simp] theorem Dev.setBuf_perf (p i : Nat) (x : Nat × Nat) : (d.setBuf p i x).perf = d.perf := rfl
@[simp] theorem Dev.setBuf_work (p i : Nat) (x : Nat × Nat) : (d.setBuf p i x).work = d.work := rfl
@[simp] theorem Dev.setBuf_chk (p i : Nat) (x : Nat × Nat) : (d.setBuf p i x).chk = d.chk := rfl
@[simp] theorem Dev.setBuf_out (p i : Nat) (x : Nat × Nat) : (d.setBuf p i x).out = d.out := rfl
@[simp] theorem Dev.setBuf_free (p i : Nat) (x : Nat × Nat) : (d.setBuf p i x).free = d.free := rfl

@[simp] theorem Dev.setFrame_reg (f : Nat) (x : Option Frame) : (d.setFrame f x).reg = d.reg := rfl
@[simp] theorem Dev.setFrame_area (f : Nat) (x : Option Frame) : (d.setFrame f x).area = d.area := rfl
@[simp] theorem Dev.setFrame_tabs (f : Nat) (x : Option Frame) : (d.setFrame f x).tabs = d.tabs := rfl
@[simp] theorem Dev.setFrame_tcamCopies (f : Nat) (x : Option Frame) : (d.setFrame f x).tcamCopies = d.tcamCopies := rfl
@[simp] theorem Dev.setFrame_tcamBad (f : Nat) (x : Option Frame) : (d.setFrame f x).tcamBad = d.tcamBad := rfl
@[simp] theorem Dev.setFrame_pins (f : Nat) (x : Option Frame) : (d.setFrame f x).pins = d.pins := rfl
@[simp] theorem Dev.setFrame_start (f : Nat) (x : Option Frame) : (d.setFrame f x).start = d.start := rfl
@[simp] theorem Dev.setFrame_power (f : Nat) (x : Option Frame) : (d.setFrame f x).power = d.power := rfl
@[simp] theorem Dev.setFrame_txn (f : Nat) (x : Option Frame) : (d.setFrame f x).txn = d.txn := rfl
@[simp] theorem Dev.setFrame_tif (f : Nat) (x : Option Frame) : (d.setFrame f x).tif = d.tif := rfl
@[simp] theorem Dev.setFrame_roll (f : Nat) (x : Option Frame) : (d.setFrame f x).roll = d.roll := rfl
@[simp] theorem Dev.setFrame_ports (f : Nat) (x : Option Frame) : (d.setFrame f x).ports = d.ports := rfl
@[simp] theorem Dev.setFrame_segs (f : Nat) (x : Option Frame) : (d.setFrame f x).segs = d.segs := rfl
@[simp] theorem Dev.setFrame_pipes (f : Nat) (x : Option Frame) : (d.setFrame f x).pipes = d.pipes := rfl
@[simp] theorem Dev.setFrame_descs (f : Nat) (x : Option Frame) : (d.setFrame f x).descs = d.descs := rfl
@[simp] theorem Dev.setFrame_nextDesc (f : Nat) (x : Option Frame) : (d.setFrame f x).nextDesc = d.nextDesc := rfl
@[simp] theorem Dev.setFrame_services (f : Nat) (x : Option Frame) : (d.setFrame f x).services = d.services := rfl
@[simp] theorem Dev.setFrame_tutors (f : Nat) (x : Option Frame) : (d.setFrame f x).tutors = d.tutors := rfl
@[simp] theorem Dev.setFrame_pools (f : Nat) (x : Option Frame) : (d.setFrame f x).pools = d.pools := rfl
@[simp] theorem Dev.setFrame_memories (f : Nat) (x : Option Frame) : (d.setFrame f x).memories = d.memories := rfl
@[simp] theorem Dev.setFrame_rings (f : Nat) (x : Option Frame) : (d.setFrame f x).rings = d.rings := rfl
@[simp] theorem Dev.setFrame_time (f : Nat) (x : Option Frame) : (d.setFrame f x).time = d.time := rfl
@[simp] theorem Dev.setFrame_buddy (f : Nat) (x : Option Frame) : (d.setFrame f x).buddy = d.buddy := rfl
@[simp] theorem Dev.setFrame_denlys (f : Nat) (x : Option Frame) : (d.setFrame f x).denlys = d.denlys := rfl
@[simp] theorem Dev.setFrame_perf (f : Nat) (x : Option Frame) : (d.setFrame f x).perf = d.perf := rfl
@[simp] theorem Dev.setFrame_work (f : Nat) (x : Option Frame) : (d.setFrame f x).work = d.work := rfl
@[simp] theorem Dev.setFrame_chk (f : Nat) (x : Option Frame) : (d.setFrame f x).chk = d.chk := rfl
@[simp] theorem Dev.setFrame_out (f : Nat) (x : Option Frame) : (d.setFrame f x).out = d.out := rfl
@[simp] theorem Dev.setFrame_free (f : Nat) (x : Option Frame) : (d.setFrame f x).free = d.free := rfl

@[simp] theorem Dev.setIface_reg (i : Nat) (x : TblIf) : (d.setIface i x).reg = d.reg := rfl
@[simp] theorem Dev.setIface_area (i : Nat) (x : TblIf) : (d.setIface i x).area = d.area := rfl
@[simp] theorem Dev.setIface_tabs (i : Nat) (x : TblIf) : (d.setIface i x).tabs = d.tabs := rfl
@[simp] theorem Dev.setIface_tcamCopies (i : Nat) (x : TblIf) : (d.setIface i x).tcamCopies = d.tcamCopies := rfl
@[simp] theorem Dev.setIface_tcamBad (i : Nat) (x : TblIf) : (d.setIface i x).tcamBad = d.tcamBad := rfl
@[simp] theorem Dev.setIface_pins (i : Nat) (x : TblIf) : (d.setIface i x).pins = d.pins := rfl
@[simp] theorem Dev.setIface_start (i : Nat) (x : TblIf) : (d.setIface i x).start = d.start := rfl
@[simp] theorem Dev.setIface_power (i : Nat) (x : TblIf) : (d.setIface i x).power = d.power := rfl
@[simp] theorem Dev.setIface_txn (i : Nat) (x : TblIf) : (d.setIface i x).txn = d.txn := rfl
@[simp] theorem Dev.setIface_roll (i : Nat) (x : TblIf) : (d.setIface i x).roll = d.roll := rfl
@[simp] theorem Dev.setIface_switch (i : Nat) (x : TblIf) : (d.setIface i x).switch = d.switch := rfl
@[simp] theorem Dev.setIface_ports (i : Nat) (x : TblIf) : (d.setIface i x).ports = d.ports := rfl
@[simp] theorem Dev.setIface_segs (i : Nat) (x : TblIf) : (d.setIface i x).segs = d.segs := rfl
@[simp] theorem Dev.setIface_pipes (i : Nat) (x : TblIf) : (d.setIface i x).pipes = d.pipes := rfl
@[simp] theorem Dev.setIface_descs (i : Nat) (x : TblIf) : (d.setIface i x).descs = d.descs := rfl
@[simp] theorem Dev.setIface_nextDesc (i : Nat) (x : TblIf) : (d.setIface i x).nextDesc = d.nextDesc := rfl
@[simp] theorem Dev.setIface_services (i : Nat) (x : TblIf) : (d.setIface i x).services = d.services := rfl
@[simp] theorem Dev.setIface_tutors (i : Nat) (x : TblIf) : (d.setIface i x).tutors = d.tutors := rfl
@[simp] theorem Dev.setIface_pools (i : Nat) (x : TblIf) : (d.setIface i x).pools = d.pools := rfl
@[simp] theorem Dev.setIface_memories (i : Nat) (x : TblIf) : (d.setIface i x).memories = d.memories := rfl
@[simp] theorem Dev.setIface_rings (i : Nat) (x : TblIf) : (d.setIface i x).rings = d.rings := rfl
@[simp] theorem Dev.setIface_time (i : Nat) (x : TblIf) : (d.setIface i x).time = d.time := rfl
@[simp] theorem Dev.setIface_buddy (i : Nat) (x : TblIf) : (d.setIface i x).buddy = d.buddy := rfl
@[simp] theorem Dev.setIface_denlys (i : Nat) (x : TblIf) : (d.setIface i x).denlys = d.denlys := rfl
@[simp] theorem Dev.setIface_perf (i : Nat) (x : TblIf) : (d.setIface i x).perf = d.perf := rfl
@[simp] theorem Dev.setIface_work (i : Nat) (x : TblIf) : (d.setIface i x).work = d.work := rfl
@[simp] theorem Dev.setIface_chk (i : Nat) (x : TblIf) : (d.setIface i x).chk = d.chk := rfl
@[simp] theorem Dev.setIface_out (i : Nat) (x : TblIf) : (d.setIface i x).out = d.out := rfl
@[simp] theorem Dev.setIface_free (i : Nat) (x : TblIf) : (d.setIface i x).free = d.free := rfl

@[simp] theorem Dev.setLine_reg (k : Nat) (l : Option Line) : (d.setLine k l).reg = d.reg := rfl
@[simp] theorem Dev.setLine_area (k : Nat) (l : Option Line) : (d.setLine k l).area = d.area := rfl
@[simp] theorem Dev.setLine_tabs (k : Nat) (l : Option Line) : (d.setLine k l).tabs = d.tabs := rfl
@[simp] theorem Dev.setLine_tcamCopies (k : Nat) (l : Option Line) : (d.setLine k l).tcamCopies = d.tcamCopies := rfl
@[simp] theorem Dev.setLine_tcamBad (k : Nat) (l : Option Line) : (d.setLine k l).tcamBad = d.tcamBad := rfl
@[simp] theorem Dev.setLine_pins (k : Nat) (l : Option Line) : (d.setLine k l).pins = d.pins := rfl
@[simp] theorem Dev.setLine_start (k : Nat) (l : Option Line) : (d.setLine k l).start = d.start := rfl
@[simp] theorem Dev.setLine_power (k : Nat) (l : Option Line) : (d.setLine k l).power = d.power := rfl
@[simp] theorem Dev.setLine_txn (k : Nat) (l : Option Line) : (d.setLine k l).txn = d.txn := rfl
@[simp] theorem Dev.setLine_tif (k : Nat) (l : Option Line) : (d.setLine k l).tif = d.tif := rfl
@[simp] theorem Dev.setLine_switch (k : Nat) (l : Option Line) : (d.setLine k l).switch = d.switch := rfl
@[simp] theorem Dev.setLine_ports (k : Nat) (l : Option Line) : (d.setLine k l).ports = d.ports := rfl
@[simp] theorem Dev.setLine_segs (k : Nat) (l : Option Line) : (d.setLine k l).segs = d.segs := rfl
@[simp] theorem Dev.setLine_pipes (k : Nat) (l : Option Line) : (d.setLine k l).pipes = d.pipes := rfl
@[simp] theorem Dev.setLine_descs (k : Nat) (l : Option Line) : (d.setLine k l).descs = d.descs := rfl
@[simp] theorem Dev.setLine_nextDesc (k : Nat) (l : Option Line) : (d.setLine k l).nextDesc = d.nextDesc := rfl
@[simp] theorem Dev.setLine_services (k : Nat) (l : Option Line) : (d.setLine k l).services = d.services := rfl
@[simp] theorem Dev.setLine_tutors (k : Nat) (l : Option Line) : (d.setLine k l).tutors = d.tutors := rfl
@[simp] theorem Dev.setLine_pools (k : Nat) (l : Option Line) : (d.setLine k l).pools = d.pools := rfl
@[simp] theorem Dev.setLine_memories (k : Nat) (l : Option Line) : (d.setLine k l).memories = d.memories := rfl
@[simp] theorem Dev.setLine_rings (k : Nat) (l : Option Line) : (d.setLine k l).rings = d.rings := rfl
@[simp] theorem Dev.setLine_time (k : Nat) (l : Option Line) : (d.setLine k l).time = d.time := rfl
@[simp] theorem Dev.setLine_buddy (k : Nat) (l : Option Line) : (d.setLine k l).buddy = d.buddy := rfl
@[simp] theorem Dev.setLine_denlys (k : Nat) (l : Option Line) : (d.setLine k l).denlys = d.denlys := rfl
@[simp] theorem Dev.setLine_perf (k : Nat) (l : Option Line) : (d.setLine k l).perf = d.perf := rfl
@[simp] theorem Dev.setLine_work (k : Nat) (l : Option Line) : (d.setLine k l).work = d.work := rfl
@[simp] theorem Dev.setLine_chk (k : Nat) (l : Option Line) : (d.setLine k l).chk = d.chk := rfl
@[simp] theorem Dev.setLine_out (k : Nat) (l : Option Line) : (d.setLine k l).out = d.out := rfl
@[simp] theorem Dev.setLine_free (k : Nat) (l : Option Line) : (d.setLine k l).free = d.free := rfl

@[simp] theorem Dev.setChk_reg (c n : Nat) : (d.setChk c n).reg = d.reg := rfl
@[simp] theorem Dev.setChk_area (c n : Nat) : (d.setChk c n).area = d.area := rfl
@[simp] theorem Dev.setChk_tabs (c n : Nat) : (d.setChk c n).tabs = d.tabs := rfl
@[simp] theorem Dev.setChk_tcamCopies (c n : Nat) : (d.setChk c n).tcamCopies = d.tcamCopies := rfl
@[simp] theorem Dev.setChk_tcamBad (c n : Nat) : (d.setChk c n).tcamBad = d.tcamBad := rfl
@[simp] theorem Dev.setChk_pins (c n : Nat) : (d.setChk c n).pins = d.pins := rfl
@[simp] theorem Dev.setChk_start (c n : Nat) : (d.setChk c n).start = d.start := rfl
@[simp] theorem Dev.setChk_power (c n : Nat) : (d.setChk c n).power = d.power := rfl
@[simp] theorem Dev.setChk_txn (c n : Nat) : (d.setChk c n).txn = d.txn := rfl
@[simp] theorem Dev.setChk_tif (c n : Nat) : (d.setChk c n).tif = d.tif := rfl
@[simp] theorem Dev.setChk_roll (c n : Nat) : (d.setChk c n).roll = d.roll := rfl
@[simp] theorem Dev.setChk_switch (c n : Nat) : (d.setChk c n).switch = d.switch := rfl
@[simp] theorem Dev.setChk_ports (c n : Nat) : (d.setChk c n).ports = d.ports := rfl
@[simp] theorem Dev.setChk_segs (c n : Nat) : (d.setChk c n).segs = d.segs := rfl
@[simp] theorem Dev.setChk_pipes (c n : Nat) : (d.setChk c n).pipes = d.pipes := rfl
@[simp] theorem Dev.setChk_descs (c n : Nat) : (d.setChk c n).descs = d.descs := rfl
@[simp] theorem Dev.setChk_nextDesc (c n : Nat) : (d.setChk c n).nextDesc = d.nextDesc := rfl
@[simp] theorem Dev.setChk_services (c n : Nat) : (d.setChk c n).services = d.services := rfl
@[simp] theorem Dev.setChk_tutors (c n : Nat) : (d.setChk c n).tutors = d.tutors := rfl
@[simp] theorem Dev.setChk_pools (c n : Nat) : (d.setChk c n).pools = d.pools := rfl
@[simp] theorem Dev.setChk_memories (c n : Nat) : (d.setChk c n).memories = d.memories := rfl
@[simp] theorem Dev.setChk_rings (c n : Nat) : (d.setChk c n).rings = d.rings := rfl
@[simp] theorem Dev.setChk_time (c n : Nat) : (d.setChk c n).time = d.time := rfl
@[simp] theorem Dev.setChk_buddy (c n : Nat) : (d.setChk c n).buddy = d.buddy := rfl
@[simp] theorem Dev.setChk_denlys (c n : Nat) : (d.setChk c n).denlys = d.denlys := rfl
@[simp] theorem Dev.setChk_perf (c n : Nat) : (d.setChk c n).perf = d.perf := rfl
@[simp] theorem Dev.setChk_work (c n : Nat) : (d.setChk c n).work = d.work := rfl
@[simp] theorem Dev.setChk_out (c n : Nat) : (d.setChk c n).out = d.out := rfl
@[simp] theorem Dev.setChk_free (c n : Nat) : (d.setChk c n).free = d.free := rfl

@[simp] theorem Dev.setLfsr_reg (p v : Nat) : (d.setLfsr p v).reg = d.reg := rfl
@[simp] theorem Dev.setLfsr_area (p v : Nat) : (d.setLfsr p v).area = d.area := rfl
@[simp] theorem Dev.setLfsr_tabs (p v : Nat) : (d.setLfsr p v).tabs = d.tabs := rfl
@[simp] theorem Dev.setLfsr_tcamCopies (p v : Nat) : (d.setLfsr p v).tcamCopies = d.tcamCopies := rfl
@[simp] theorem Dev.setLfsr_tcamBad (p v : Nat) : (d.setLfsr p v).tcamBad = d.tcamBad := rfl
@[simp] theorem Dev.setLfsr_pins (p v : Nat) : (d.setLfsr p v).pins = d.pins := rfl
@[simp] theorem Dev.setLfsr_start (p v : Nat) : (d.setLfsr p v).start = d.start := rfl
@[simp] theorem Dev.setLfsr_power (p v : Nat) : (d.setLfsr p v).power = d.power := rfl
@[simp] theorem Dev.setLfsr_txn (p v : Nat) : (d.setLfsr p v).txn = d.txn := rfl
@[simp] theorem Dev.setLfsr_tif (p v : Nat) : (d.setLfsr p v).tif = d.tif := rfl
@[simp] theorem Dev.setLfsr_roll (p v : Nat) : (d.setLfsr p v).roll = d.roll := rfl
@[simp] theorem Dev.setLfsr_switch (p v : Nat) : (d.setLfsr p v).switch = d.switch := rfl
@[simp] theorem Dev.setLfsr_ports (p v : Nat) : (d.setLfsr p v).ports = d.ports := rfl
@[simp] theorem Dev.setLfsr_segs (p v : Nat) : (d.setLfsr p v).segs = d.segs := rfl
@[simp] theorem Dev.setLfsr_pipes (p v : Nat) : (d.setLfsr p v).pipes = d.pipes := rfl
@[simp] theorem Dev.setLfsr_descs (p v : Nat) : (d.setLfsr p v).descs = d.descs := rfl
@[simp] theorem Dev.setLfsr_nextDesc (p v : Nat) : (d.setLfsr p v).nextDesc = d.nextDesc := rfl
@[simp] theorem Dev.setLfsr_services (p v : Nat) : (d.setLfsr p v).services = d.services := rfl
@[simp] theorem Dev.setLfsr_tutors (p v : Nat) : (d.setLfsr p v).tutors = d.tutors := rfl
@[simp] theorem Dev.setLfsr_pools (p v : Nat) : (d.setLfsr p v).pools = d.pools := rfl
@[simp] theorem Dev.setLfsr_memories (p v : Nat) : (d.setLfsr p v).memories = d.memories := rfl
@[simp] theorem Dev.setLfsr_rings (p v : Nat) : (d.setLfsr p v).rings = d.rings := rfl
@[simp] theorem Dev.setLfsr_time (p v : Nat) : (d.setLfsr p v).time = d.time := rfl
@[simp] theorem Dev.setLfsr_buddy (p v : Nat) : (d.setLfsr p v).buddy = d.buddy := rfl
@[simp] theorem Dev.setLfsr_denlys (p v : Nat) : (d.setLfsr p v).denlys = d.denlys := rfl
@[simp] theorem Dev.setLfsr_work (p v : Nat) : (d.setLfsr p v).work = d.work := rfl
@[simp] theorem Dev.setLfsr_chk (p v : Nat) : (d.setLfsr p v).chk = d.chk := rfl
@[simp] theorem Dev.setLfsr_out (p v : Nat) : (d.setLfsr p v).out = d.out := rfl
@[simp] theorem Dev.setLfsr_free (p v : Nat) : (d.setLfsr p v).free = d.free := rfl

theorem Dev.setRow_tutors (k : Nat) (r : Option Row) :
    (d.setRow k r).tutors = if k / 2 ^ 37 = 9 then { d.tutors with tdKnown := [] } else d.tutors := rfl

theorem Dev.wr_reg (id v : Nat) : (d.wr id v).reg = SMap.set memberDefault d.reg id (BitVec.ofNat 64 v) := rfl

theorem Dev.addTo_eq (id n : Nat) : d.addTo id n = d.wr id (d.rd id + n) := rfl

theorem Dev.bump_eq (id : Nat) : d.bump id = d.wr id (d.rd id + 1) := rfl

@[simp] theorem Dev.emit_out (o : Out) : (d.emit o).out = d.out ++ [o] := rfl

@[simp] theorem Dev.bumpIf_true (id : Nat) : d.bumpIf true id = d.bump id := rfl

@[simp] theorem Dev.bumpIf_false (id : Nat) : d.bumpIf false id = d := rfl

@[simp] theorem Dev.raiseIf_false (now : BellSt) (code object detail : Nat) : d.raiseIf false now code object detail = d := rfl

theorem Dev.fresh_eq : d.fresh = (Config.freeValue d.free, { d with free := d.free + 1 }) := rfl

/-! ## Commands and steps -/

@[simp] theorem State.onDev_eq (s : State) (f : BellSt → Dev → Dev) : s.onDev f = .next { s with dev := f s.bell s.dev } := rfl

@[simp] theorem State.onBoth_eq (s : State) (f : BellSt → Dev → BellSt × Dev) :
    s.onBoth f = .next { s with bell := (f s.bell s.dev).1, dev := (f s.bell s.dev).2 } := rfl

end Sys2Proof.Machine
end

