-- ==== Sys2Proof/Laws/Ops.lean ====
section
/-!
SUPPORT. What the shared operations can do: members after a write or a count, events, and a write or trigger that passes
its checks.
-/
namespace Sys2Proof.Machine

/-! ## Members (R116, R537) -/

@[simp] theorem Dev.rd_wr_same (d : Dev) (id v : Nat) : (d.wr id v).rd id = v % 2 ^ 64 := by simp [Dev.rd, Dev.wr]

theorem Dev.rd_wr_other (d : Dev) (id k v : Nat) (h : k ≠ id) : (d.wr id v).rd k = d.rd k := by
  simp [Dev.rd, Dev.wr, SMap.get_set_other _ _ _ _ _ h]

@[simp] theorem Dev.rd_addTo_same (d : Dev) (id n : Nat) : (d.addTo id n).rd id = (d.rd id + n) % 2 ^ 64 := Dev.rd_wr_same d id _

theorem Dev.rd_addTo_other (d : Dev) (id k n : Nat) (h : k ≠ id) : (d.addTo id n).rd k = d.rd k := Dev.rd_wr_other d id k _ h

@[simp] theorem Dev.rd_bump_same (d : Dev) (id : Nat) : (d.bump id).rd id = (d.rd id + 1) % 2 ^ 64 := Dev.rd_wr_same d id _

theorem Dev.rd_bump_other (d : Dev) (id k : Nat) (h : k ≠ id) : (d.bump id).rd k = d.rd k := Dev.rd_wr_other d id k _ h

theorem Dev.rd_lt (d : Dev) (id : Nat) : d.rd id < 2 ^ 64 := (SMap.get memberDefault d.reg id).isLt

theorem Dev.rd_of_reg {d e : Dev} (h : e.reg = d.reg) (id : Nat) : e.rd id = d.rd id := by simp [Dev.rd, h]

/-- Writing a member changes the dictionary alone. -/
theorem Dev.wr_frame (d : Dev) (id v : Nat) : d.wr id v = { d with reg := (d.wr id v).reg } := rfl

/-! ## Rings -/

@[simp] theorem Dev.ring_setRing_same (d : Dev) (r : Nat) (x : Ring) : (d.setRing r x).ring r = x := by simp [Dev.ring, Dev.setRing]

theorem Dev.ring_setRing_other (d : Dev) (r k : Nat) (x : Ring) (h : k ≠ r) : (d.setRing r x).ring k = d.ring k := by
  simp [Dev.ring, Dev.setRing, SMap.get_set_other _ _ _ _ _ h]

theorem Dev.rd_setRing (d : Dev) (r : Nat) (x : Ring) (k : Nat) : (d.setRing r x).rd k = d.rd k := rfl

/-! ## Channels -/

@[simp] theorem Dev.channel_setChannel_same (d : Dev) (c : Nat) (x : Channel) : (d.setChannel c x).channel c = x := by
  simp [Dev.channel, Dev.setChannel]

theorem Dev.channel_setChannel_other (d : Dev) (c k : Nat) (x : Channel) (h : k ≠ c) : (d.setChannel c x).channel k = d.channel k := by
  simp [Dev.channel, Dev.setChannel, SMap.get_set_other _ _ _ _ _ h]

theorem Dev.rd_setChannel (d : Dev) (c : Nat) (x : Channel) (k : Nat) : (d.setChannel c x).rd k = d.rd k := rfl

/-! ## Events (R477, R480) -/

theorem mergeEvent_length (q : List EvRec) (code : Nat) : (mergeEvent q code).length = q.length := by
  induction q with
  | nil => rfl
  | cons e r ih => unfold mergeEvent; split <;> simp [ih]

/-- An event that joins the queue changes no member but the count of merged events. -/
theorem Dev.queueEvent_rd (d : Dev) (e : EvRec) (k : Nat) (h : k ≠ M.CNT_EVENT_MERGED) : (d.queueEvent e).rd k = d.rd k := by
  unfold Dev.queueEvent
  dsimp only
  split
  · exact Dev.rd_bump_other _ _ _ h
  · rfl

/-- Raising an event changes no member but the count of merged events. -/
theorem Dev.raise_rd (d : Dev) (now : BellSt) (code object detail k : Nat) (h : k ≠ M.CNT_EVENT_MERGED) :
    (d.raise now code object detail).rd k = d.rd k := Dev.queueEvent_rd _ _ _ h

/-- Raising an event changes the dictionary, the event queue, the sessions that subscribe to events, and the model's own
counter, and nothing else. -/
theorem Dev.raise_frame (d : Dev) (now : BellSt) (code object detail : Nat) :
    d.raise now code object detail = { d with
      reg := (d.raise now code object detail).reg
      rings := { d.rings with events := (d.raise now code object detail).rings.events }
      denlys := { d.denlys with sessions := (d.raise now code object detail).denlys.sessions }
      free := d.free + 1 } := by
  unfold Dev.raise Dev.queueEvent
  dsimp only
  split <;> rfl

/-! ## Writes and triggers (R120 to R123) -/

/-- A write that passes every earlier check is judged by the member's own chapter. -/
theorem Dev.accept_admits {d : Dev} {a : Acc} {id : Nat} (f : Nat → Dev → Nat × Dev) (h : Admits d a id) :
    d.accept a id f = ((f (storedValue id a.val) d).1, Dev.answer a.who id (f (storedValue id a.val) d)) := by
  obtain ⟨hg, hk, hs⟩ := h
  have hn : ¬ (a.who = .k ∧ (d.start.pcieUp = false ∨ d.gate (id / 2 ^ 24) = true)) := by
    rintro ⟨h1, h2 | h2⟩
    · simp [hk h1] at h2
    · rw [hg] at h2; exact absurd h2 (by decide)
  have hn' : ¬ (d.gate (id / 2 ^ 24) = true) := by rw [hg]; decide
  unfold Dev.accept
  rw [if_neg hn, if_neg hn', hs]
  simp

theorem passes_admits {d : Dev} {a : Acc} {id : Nat} (h : Passes d a id) : Admits d a id := ⟨h.1, h.2.1, h.2.2.1⟩

/-- A trigger that passes every earlier check acts as its chapter says. -/
theorem Dev.trigger_passes {d : Dev} {a : Acc} {id : Nat} (f : Nat → Dev → Nat × Dev) (h : Passes d a id) :
    d.trigger a id f = ((f (storedValue id a.val) d).1, Dev.answer a.who id (f (storedValue id a.val) d)) := by
  unfold Dev.trigger
  rw [Dev.accept_admits _ (passes_admits h)]
  simp [h.2.2.2]

/-- A write answered ST_OK leaves what the member's own chapter left. -/
@[simp] theorem Dev.answer_ok (who : Principal) (id : Nat) (d : Dev) : Dev.answer who id (St.OK, d) = d := by
  cases who <;> simp [Dev.answer]

end Sys2Proof.Machine
end

