-- ==== Sys2Proof/Tests/Slice0.lean ====
section
/-!
SUPPORT. Tests: well-formedness, the spec's published check values and its worked examples.
-/
namespace Sys2Proof.Test

open Sys2Proof Sys2Proof.Machine

set_option maxRecDepth 100000
set_option Elab.async false

/-! ## Well-formedness -/

def acc : Acc := { who := .k, val := 1, width := 8 }
def hostWrite : PcieWrite := { bar := 0, addr := 0, data := [1, 0, 0, 0] }
def straps0 : Straps := { nodeId := 255, bootSel := 3, buddyRole := 1 }
def step0 : StepIn := { ms := 0, lanes := [255], fail := none, training := [List.replicate 140 0] }
def train0 : TrainIn := { code := 0, results := List.replicate 140 0 }
def frame0 : RxFrame := { port := 255, bytes := [0, 0, 0, 0], symbolError := false, alignError := false, ns := 0 }
def bell0 : BellIn :=
  { cycles := 1280, work := 995, temps := List.replicate 24 60000, vcore := none, avsAck := true, power := 900, waiting := [], slots := [], idle := [],
    fullSlots := [], wbFull := 0, held := [(10, 0)], errors := [.tcamCopy 15 32767 0 0], drift := [(15, 1, 4)], dieTemp := [(15, 0)], islandNs := 0, snr := [(255, 0)], signal := [],
    fec := [(255, 1)], fecBad := [(255, 1)], fill := [(31, 0, 0)] }
def badAcc : Acc := { acc with val := 2 ^ 64 }
def badWrite : PcieWrite := { hostWrite with data := [] }
def badStraps : Straps := { straps0 with bootSel := 4 }
def badStep : StepIn := { step0 with lanes := [256] }
def badTrain : TrainIn := { train0 with results := [] }
def badFrame : RxFrame := { frame0 with bytes := [0, 0, 0] }
def badBell : BellIn := { bell0 with cycles := 1037 }

/-- Every check of an operand's own form refuses something, and the good one passes. -/
theorem test_operand_checks :
    (acc.wf && hostWrite.wf && straps0.wf && step0.wf && train0.wf && frame0.wf && bell0.wf) = true ∧
    [{ acc with who := .d 0 }, { acc with who := .d 9 }, { acc with who := .t 64 }, { acc with val := 2 ^ 64 }, { acc with width := 9 }].all (fun x => !x.wf) = true ∧
    [{ hostWrite with bar := 1 }, { hostWrite with data := [] }, { hostWrite with addr := 2 ^ 28 - 3 }, { hostWrite with bar := 2, addr := 2 ^ 20 }].all
      (fun x => !x.wf) = true ∧
    [{ straps0 with nodeId := 256 }, { straps0 with bootSel := 4 }, { straps0 with buddyRole := 2 }].all (fun x => !x.wf) = true ∧
    [{ step0 with lanes := [256] }, { step0 with training := [[]] }].all (fun x => !x.wf) = true ∧
    [{ train0 with results := [] }, { train0 with code := 65536 }].all (fun x => !x.wf) = true ∧
    [{ frame0 with port := 256 }, { frame0 with ns := 2 ^ 32 }, { frame0 with bytes := [] }].all (fun x => !x.wf) = true ∧
    cleanUnit.wf = true ∧ [EccIn.mk [(12, 0)] [], ⟨[], [(0, 24)]⟩, ⟨[], [(0, 0), (1, 0), (2, 0)]⟩].all (fun x => !x.wf) = true ∧
    [SoftError.tcamCopy 16 0 0 0, .tcamCopy 0 32768 0 0, .tcamCopy 0 0 (2 ^ 160) 0, .tcamCopy 0 0 0 (2 ^ 160), .tcamShadow 524288, .line (2 ^ 40),
      .cell 0 0 8 false, .store 16 0, .store 0 32768, .storeCorrected 64, .poolMeta 5 0, .poolWord 0 0, .poolWord 5 0, .poolCorrected 5, .sram 4, .packetBuffer 0].all
      (fun x => !x.wf) = true ∧
    [{ bell0 with cycles := 1037 }, { bell0 with cycles := 65536 }, { bell0 with work := 1281 }, { bell0 with temps := [] }, { bell0 with held := [(9, 0), (9, 1)] },
      { bell0 with errors := [.sram 0] }, { bell0 with drift := [(16, 0, 0)] }, { bell0 with drift := [(0, 2, 0)] }, { bell0 with dieTemp := [(16, 0)] }, { bell0 with snr := [(256, 0)] },
      { bell0 with fec := [(256, 0)] }, { bell0 with fecBad := [(256, 0)] }, { bell0 with fill := [(32, 0, 0)] }].all (fun x => !x.wf) = true := by decide

/-- A command of each row with operands in range is well-formed. -/
theorem test_well_formed_1 : ([
    .bell bell0,
    .bellLoad acc,
    .buddyTakeover,
    .avsTransactionFail,
    .avsSettleEnd,
    .thermtrip 0,
    .thermtripRelease 0,
    .sagStepDown [],
    .sagStepRecover 0,
    .throttleNFall,
    .throttleNRise,
    .throttlePauseRefresh,
    .vauxUp straps0,
    .vauxLoss,
    .islandStart ⟨true, true⟩,
    .resetNPulse 0 straps0,
    .vcorePgRise,
    .mainSeqStepDone step0,
    .mainSeqStepTimeout,
    .startRelease acc,
    .startRetry acc,
    .vcorePgFall 0,
    .rollReady,
    .perstNAssert,
    .perstNDeassert,
    .lifeToggle,
    .lifeStop,
    .paletteSave acc,
    .datapathRestart acc,
    .restartComplete,
    .recessEnter acc,
    .recessDrainTimeout,
    .recessEntryComplete,
    .recessExit acc,
    .recessWakeComplete,
    .registerWrite hostWrite,
    .stagedWrite hostWrite,
    .rcClear hostWrite,
    .tblNop 0 0,
    .tblRead 0 0] : List Instr).all (fun c => c.wf == true) = true := by decide

/-- A command of each row with operands in range is well-formed. -/
theorem test_well_formed_2 : ([
    .tblWrite 0 0,
    .tblInsert 0 0,
    .tblCas 0 0,
    .tblDelete 0 0,
    .tblCasDelete 0 0,
    .tblNext 0 0,
    .tblSearch 0 0,
    .tblCommandComplete 0 .ok,
    .tblCommandTimeout 0,
    .txnBegin acc,
    .txnCommit acc,
    .txnRollback acc,
    .txnValidationDone,
    .txnIdleAbort,
    .denlysFrameRx [] ⟨true, 0⟩,
    .denlysHello 0 0,
    .denlysRead,
    .denlysWrite,
    .denlysHeartbeat,
    .denlysReadBlock,
    .denlysSubscribe,
    .denlysBegin,
    .denlysCommit,
    .denlysRollback,
    .denlysResponseTx ⟨0, 0⟩,
    .denlysNotify 1,
    .denlysNotifyContinuation 1,
    .denlysHeartbeatSend ⟨8, 0⟩,
    .denlysSessionTimeout ⟨8, 0⟩,
    .keySlotWrite hostWrite,
    .keySave acc,
    .frameReceive frame0,
    .pfcRefresh 0 0,
    .pauseApply 0 0,
    .pauseTimerExpire 0 0 0,
    .pauseWatchdog 0 0 0,
    .pauseHoldoffEnd 0 0 0,
    .linkUp 0,
    .linkDown 0,
    .portFlushReturn] : List Instr).all (fun c => c.wf == true) = true := by decide

/-- A command of each row with operands in range is well-formed. -/
theorem test_well_formed_3 : ([
    .macTxStart 0 0,
    .lpiEnter 0,
    .lpiExit 0,
    .portWakePrepare 0 acc,
    .segChunkFetch [],
    .packetParse 0,
    .learnNoticeInstall 0,
    .rollFetchIssue 0,
    .rollFetchComplete 0 0 .ok,
    .frPlacementRetry 0,
    .rollHoldRelease 0,
    .frWbWriteDone 0 .ok,
    .rollProbe acc,
    .rollSeedSave acc,
    .ttSelect 0 0,
    .gateEntryChange 0 0,
    .gateOversizeDrop 0 0 0,
    .taskDispatch 0,
    .taskPreempt 0,
    .taskResume 0,
    .taskHeldRelease 0,
    .taskBudgetTrap 0,
    .maskLimitTrap 0,
    .tutorHang 0,
    .memOpComplete 0 .ok,
    .seqNext 0,
    .seqJump 0,
    .seqCall 0,
    .seqReturn 0,
    .seqDispatch 0,
    .seqWait 0,
    .seqEnd 0,
    .aluNop 0,
    .aluAdd 0,
    .aluSub 0,
    .aluAnd 0,
    .aluOr 0,
    .aluXor 0,
    .aluShl 0,
    .aluShr 0] : List Instr).all (fun c => c.wf == true) = true := by decide

/-- A command of each row with operands in range is well-formed. -/
theorem test_well_formed_4 : ([
    .aluSar 0,
    .aluMov 0,
    .aluExtract 0,
    .aluInsert 0,
    .aluCmp 0,
    .aluMinu 0,
    .aluMaxu 0,
    .aluClz 0,
    .aluMul 0,
    .aluMulhu 0,
    .aluCrc 0,
    .aluBswap 0,
    .aluPopcnt 0,
    .memLocalRead 0,
    .memLocalWrite 0,
    .memHvRead 0,
    .memRecRead 0,
    .memRecWrite 0,
    .memEpRead 0,
    .memEpWrite 0,
    .memTdRead 0,
    .memTdWrite 0,
    .memTdAdd 0,
    .memPktRead 0,
    .memPktWrite 0,
    .memTable 0,
    .memDictRead 0,
    .memDictWrite 0,
    .memPoolAlloc 0,
    .memPoolFree 0,
    .memRingWrite 0,
    .memSend 0,
    .sysRelease 0,
    .sysCancel 0,
    .sysMakeReady 0,
    .sysTrapReturn 0,
    .sysMask 0,
    .sysUnmask 0,
    .sysFault 0,
    .sysEvent 0] : List Instr).all (fun c => c.wf == true) = true := by decide

/-- A command of each row with operands in range is well-formed. -/
theorem test_well_formed_5 : ([
    .fragmentWaitTimeout 0 0,
    .fragmentEntryExpire 0,
    .tutorImageLoad acc,
    .tutorImageChecked,
    .tutorEnable 0 acc,
    .poolHostAlloc acc,
    .poolHostFree acc,
    .poolBitmapRepair 0,
    .memchIssue 0 [] 0,
    .memAccessComplete 0 0 cleanUnit 0,
    .memchCommandTimeout 0,
    .memchRefresh 0 0 false,
    .memchSrEnter 0 0,
    .zqCalibrationLatch 0,
    .memchRetrain 0 acc,
    .memchRetrainDone 0 train0,
    .ringDoorbell 0 0 [] [],
    .ringPush 0 0 [] false,
    .ringNop 0,
    .txFrame 0 [],
    .txSeg 0 [],
    .ringTask 0,
    .rxBuf 0,
    .ringCompletion 0,
    .ringEnable 0 acc,
    .ringDisable 0 acc,
    .ringDisableComplete 0,
    .ringDmaFault 0,
    .eventRecordWrite,
    .ringIrq 0 false,
    .windowRead 0x0C000000 0 [.ok],
    .windowWrite 0x0C000000 [] [.ok],
    .chkRun 0 acc,
    .chkContinue 0 acc,
    .chkAbort 0 acc,
    .chkJobComplete 0 .done,
    .timeOffsetIn acc,
    .timeStep acc,
    .timeServoReset acc,
    .timeAnchorNs acc] : List Instr).all (fun c => c.wf == true) = true := by decide

/-- A command of each row with operands in range is well-formed. -/
theorem test_well_formed_6 : ([
    .servoHoldover,
    .ppsOutRise 0,
    .ppsOutFall 0,
    .ppsInEdge 0,
    .exportNs acc,
    .exportTemplateSend,
    .buddyHelloRx,
    .buddyPeriodRx,
    .buddyFetchRx,
    .buddyReplyRx,
    .buddyRelayRx,
    .buddyHandbackRx,
    .buddyCreateTimeout,
    .buddyHandback acc,
    .perfTagSeed 0 acc,
    .perfTagMode 0 acc,
    .perfSnapEnable acc,
    .functionLevelReset,
    .pcieLinkUp 16 5,
    .exportMessageSend,
    .poolHostAnswer,
    .tutorImageTaskStop,
    .plcaBeacon,
    .i2cStretchTimeout] : List Instr).all (fun c => c.wf == true) = true := by decide

/-- A command with one operand outside its range is refused. -/
theorem test_ill_formed_1 : ([
    .bell badBell,
    .bellLoad badAcc,
    .sagStepRecover (2 ^ 32),
    .vauxUp badStraps,
    .resetNPulse 0 badStraps,
    .mainSeqStepDone badStep,
    .startRelease badAcc,
    .startRetry badAcc,
    .paletteSave badAcc,
    .datapathRestart badAcc,
    .recessEnter badAcc,
    .recessExit badAcc,
    .registerWrite badWrite,
    .stagedWrite badWrite,
    .rcClear badWrite,
    .tblNop (16) 0,
    .tblNop 0 (2 ^ 64),
    .tblRead (16) 0,
    .tblRead 0 (2 ^ 64),
    .tblWrite (16) 0,
    .tblWrite 0 (2 ^ 64),
    .tblInsert (16) 0,
    .tblInsert 0 (2 ^ 64),
    .tblCas (16) 0,
    .tblCas 0 (2 ^ 64),
    .tblDelete (16) 0,
    .tblDelete 0 (2 ^ 64),
    .tblCasDelete (16) 0,
    .tblCasDelete 0 (2 ^ 64),
    .tblNext (16) 0,
    .tblNext 0 (2 ^ 64),
    .tblSearch (16) 0,
    .tblSearch 0 (2 ^ 64),
    .tblCommandComplete (16) .ok,
    .tblCommandTimeout (16),
    .txnBegin badAcc,
    .txnCommit badAcc,
    .txnRollback badAcc,
    .denlysHello (2 ^ 64) 0,
    .denlysNotify (8 + 1)] : List Instr).all (fun c => c.wf == false) = true := by decide

/-- A command with one operand outside its range is refused. -/
theorem test_ill_formed_2 : ([
    .denlysNotify (1 - 1),
    .denlysNotifyContinuation (8 + 1),
    .denlysNotifyContinuation (1 - 1),
    .denlysHeartbeatSend ⟨0, 0⟩,
    .denlysHeartbeatSend ⟨9, 0⟩,
    .denlysSessionTimeout ⟨0, 0⟩,
    .denlysSessionTimeout ⟨9, 0⟩,
    .keySlotWrite badWrite,
    .keySave badAcc,
    .frameReceive badFrame,
    .pfcRefresh (256) 0,
    .pfcRefresh 0 (8),
    .pauseApply (256) 0,
    .pauseTimerExpire (256) 0 0,
    .pauseTimerExpire 0 (8) 0,
    .pauseWatchdog (256) 0 0,
    .pauseWatchdog 0 (8) 0,
    .pauseHoldoffEnd (256) 0 0,
    .pauseHoldoffEnd 0 (8) 0,
    .linkUp (256),
    .linkDown (256),
    .macTxStart (256) 0,
    .lpiEnter (256),
    .lpiExit (256),
    .portWakePrepare (256) acc,
    .portWakePrepare 0 badAcc,
    .packetParse (16),
    .learnNoticeInstall (16),
    .rollFetchIssue (16),
    .rollFetchComplete (16) 0 .ok,
    .rollFetchComplete 0 (Machine.epSlotBase + 16777216) .ok,
    .frPlacementRetry (16),
    .rollHoldRelease (16),
    .frWbWriteDone (Machine.epSlotBase + 16777216) .ok,
    .rollProbe badAcc,
    .rollSeedSave badAcc,
    .ttSelect (256) 0,
    .ttSelect 0 (8),
    .gateEntryChange (256) 0,
    .gateOversizeDrop (256) 0 0] : List Instr).all (fun c => c.wf == false) = true := by decide

/-- A command with one operand outside its range is refused. -/
theorem test_ill_formed_3 : ([
    .gateOversizeDrop 0 (8) 0,
    .taskDispatch (16),
    .taskPreempt (16),
    .taskResume (64),
    .taskHeldRelease (16),
    .taskBudgetTrap (64),
    .maskLimitTrap (64),
    .tutorHang (64),
    .memOpComplete (64) .ok,
    .seqNext (64),
    .seqJump (64),
    .seqCall (64),
    .seqReturn (64),
    .seqDispatch (64),
    .seqWait (64),
    .seqEnd (64),
    .aluNop (64),
    .aluAdd (64),
    .aluSub (64),
    .aluAnd (64),
    .aluOr (64),
    .aluXor (64),
    .aluShl (64),
    .aluShr (64),
    .aluSar (64),
    .aluMov (64),
    .aluExtract (64),
    .aluInsert (64),
    .aluCmp (64),
    .aluMinu (64),
    .aluMaxu (64),
    .aluClz (64),
    .aluMul (64),
    .aluMulhu (64),
    .aluCrc (64),
    .aluBswap (64),
    .aluPopcnt (64),
    .memLocalRead (64),
    .memLocalWrite (64),
    .memHvRead (64)] : List Instr).all (fun c => c.wf == false) = true := by decide

/-- A command with one operand outside its range is refused. -/
theorem test_ill_formed_4 : ([
    .memRecRead (64),
    .memRecWrite (64),
    .memEpRead (64),
    .memEpWrite (64),
    .memTdRead (64),
    .memTdWrite (64),
    .memTdAdd (64),
    .memPktRead (64),
    .memPktWrite (64),
    .memTable (64),
    .memDictRead (64),
    .memDictWrite (64),
    .memPoolAlloc (64),
    .memPoolFree (64),
    .memRingWrite (64),
    .memSend (64),
    .sysRelease (64),
    .sysCancel (64),
    .sysMakeReady (64),
    .sysTrapReturn (64),
    .sysMask (64),
    .sysUnmask (64),
    .sysFault (64),
    .sysEvent (64),
    .fragmentWaitTimeout (16) 0,
    .fragmentWaitTimeout 0 (8192),
    .fragmentEntryExpire (16),
    .tutorImageLoad badAcc,
    .tutorEnable (64) acc,
    .tutorEnable 0 badAcc,
    .poolHostAlloc badAcc,
    .poolHostFree badAcc,
    .memchIssue (16) [] 0,
    .memchIssue 0 [16] 0,
    .memAccessComplete (16) 0 cleanUnit 0,
    .memAccessComplete 0 (33554432) cleanUnit 0,
    .memAccessComplete 0 0 ⟨[(12, 0)], []⟩ 0,
    .memchCommandTimeout (16),
    .memchRefresh (16) 0 false,
    .memchRefresh 0 (16) false] : List Instr).all (fun c => c.wf == false) = true := by decide

/-- A command with one operand outside its range is refused. -/
theorem test_ill_formed_5 : ([
    .memchSrEnter (16) 0,
    .zqCalibrationLatch (16),
    .memchRetrain (16) acc,
    .memchRetrain 0 badAcc,
    .memchRetrainDone (16) train0,
    .memchRetrainDone 0 badTrain,
    .ringDoorbell (256) 0 [] [],
    .ringDoorbell 0 (4096) [] [],
    .ringPush (256) 0 [] false,
    .ringPush 0 (32) [] false,
    .ringNop (256),
    .txFrame (256) [],
    .txSeg (256) [],
    .ringTask (256),
    .rxBuf (256),
    .ringCompletion (256),
    .ringEnable (256) acc,
    .ringEnable 0 badAcc,
    .ringDisable (256) acc,
    .ringDisable 0 badAcc,
    .ringDisableComplete (256),
    .ringDmaFault (256),
    .ringIrq (256) false,
    .windowRead (0x10000000) 0 [.ok],
    .windowWrite (0x10000000) [] [.ok],
    .windowWrite (0x0C000000 - 1) [] [.ok],
    .chkRun (8) acc,
    .chkRun 0 badAcc,
    .chkContinue (8) acc,
    .chkContinue 0 badAcc,
    .chkAbort (8) acc,
    .chkAbort 0 badAcc,
    .chkJobComplete (8) .done,
    .timeOffsetIn badAcc,
    .timeStep badAcc,
    .timeServoReset badAcc,
    .timeAnchorNs badAcc,
    .ppsOutRise (2 ^ 32),
    .ppsOutFall (2 ^ 32),
    .ppsInEdge (2 ^ 32)] : List Instr).all (fun c => c.wf == false) = true := by decide

/-- A command with one operand outside its range is refused. -/
theorem test_ill_formed_6 : ([
    .exportNs badAcc,
    .buddyHandback badAcc,
    .perfTagSeed (16) acc,
    .perfTagSeed 0 badAcc,
    .perfTagMode (16) acc,
    .perfTagMode 0 badAcc,
    .perfSnapEnable badAcc,
    .pcieLinkUp (16 + 1) 5,
    .pcieLinkUp 16 (5 + 1)] : List Instr).all (fun c => c.wf == false) = true := by decide

/-! ## Published check values -/

/-- The ASCII bytes of "123456789". -/
def nine : Bytes := [0x31, 0x32, 0x33, 0x34, 0x35, 0x36, 0x37, 0x38, 0x39]

/-- R488: CRC-32C of "123456789". -/
theorem test_crc32c : crc32c nine = 0xE3069283 := by decide

/-- R488: the wake-pattern settings of R216 over the same bytes. -/
theorem test_crc16 : crc16 nine = 0x29B1 := by decide

/-- FIPS 180-4: SHA-256 of "abc" begins with ba7816bf. -/
theorem test_sha256 : (sha256 [0x61, 0x62, 0x63]).take 4 = [0xBA, 0x78, 0x16, 0xBF] := by decide

/-- R434: a word of zeros and its check symbols have no error, and one symbol in error is corrected. -/
theorem test_rs_code : rsCheck (List.replicate 32 0) = [0, 0, 0, 0] ∧
    (List.range 4).all (fun j => rsSyndrome (List.range 32 ++ rsCheck (List.range 32)) j == 0) = true := by decide

/-! ## Worked examples -/

/-- A device in service. -/
def base : Dev :=
  let d := Dev.init BootStore.init
  { d with start := { d.start with island := .running, state := .ready, pcieUp := true, pllLocked := true },
           pins := { d.pins with ready := true, vcorePg := true, perstHigh := true, lifeRuns := true } }

/-- A state with a device. -/
def at_ (d : Dev) : State := { State.reset with dev := d }

/-- The device a command leaves. -/
def after (c : Instr) (s : State) : Option State := match exec c s with | .next t => some t | _ => none

/-- The bell that opens a lesson: PERIOD_COUNT 0x001233FF, LESSON_COUNT 0x048C. -/
theorem test_bell_opens_lesson :
    let b := ring { BellSt.init with state := .run, period := 0x001233FF, lesson := 0x00048C, time := 0x8A5EFC00, ns := 0x8A5EFC00 } true false false
    (b.period, b.lesson, b.time) = (0x00123400, 0x00048D, 0x8A5F0000) := by decide

/-- A function-class address: 20:000C:05 at 0x08006028, and member 5 of ENDPOINT at 0x08240028. -/
theorem test_function_class_address : placeOf 0x08006028 = .member 0x20000C05 0 ∧ placeOf 0x08240028 = .member 0x32000005 0 := by decide

/-- The table commands of the endpoint example: READ and CAS of endpoint 1,000,000. -/
theorem test_table_command_fields :
    ((TblCmd.ofNat 0x00021000000F4240).table, (TblCmd.ofNat 0x00021000000F4240).op, (TblCmd.ofNat 0x00021000000F4240).index) = (2, 1, 1000000) ∧
    (TblCmd.ofNat 0x00024000000F4240).op = 4 := by decide

/-- From key to slot: buckets, tag, placement and set of the Teal example. -/
theorem test_key_to_slot :
    bucketsOf (rollBuckets 1) 0x7A3C5E91 0x1D04B26F = (3956369, 17085039) ∧ tagOf 0xE5A10C33 = 136 ∧
    (base.wr M.PALETTE_ACTIVE 1).slotPlace 15825478 = (1, 0x03C5E900 / 64 + 2) ∧ (base.wr M.PALETTE_ACTIVE 1).slotPlace 68340156 = (15, 0x104B2600 / 64) ∧
    (base.wr M.PALETTE_ACTIVE 1).setOf 15825478 = 96838 := by decide

/-- A request of the Roll-channel example. -/
def ask (port bank since : Nat) (roll : Bool) : MemReq :=
  { port, unit := 4 * bank, write := false, roll, corrective := false, since, issued := false, issuedAt := 0, overtaken := false, known := none }

/-- One cycle of a Roll channel at time 18,000: the four heads issue in the order E, C, B, H. -/
theorem test_roll_channel_order :
    let e := ask 5 2 0 false; let c := ask 3 9 15000 true; let b := ask 0 5 17790 true; let h := ask 4 11 14000 false
    let s (qs : List MemReq) := pickRoll base { Channel.init with reqs := qs } [2, 5, 9, 11] 18000
    [e, c, b, h].map (base.shade 18000) = [7, 6, 4, 4] ∧ s [h, b, c, e] = some e ∧ s [h, b, c] = some c ∧ s [h, b] = some b := by decide

/-- The gate example: frame A does not fit in the 1,100 ns left at 3,900 ns, fits at the opening at 32,768 ns, and frame B fits in no window. -/
theorem test_gate_windows :
    let es := [(0x80, 5000), (0x7F, 27768)]
    let fits (t len : Nat) : Bool := bitOf (gateAt es (t % 32768)).1 7 && decide ((len + 20) * 8 ≤ windowLeft es 32768 7 5 (t % 32768) 0 * 10)
    fits 3900 1518 = false ∧ fits 32768 1518 = true ∧ fits 34000 10240 = false ∧ fits 65536 10240 = false ∧ (gateAt es 5000).1 = 0x7F := by decide

/-- R383: a 64-byte frame takes 1 cell, a 10,240-byte frame 41, and the flood example's 1,500 bytes 6. -/
theorem test_cells : cellsOf 64 = 1 ∧ cellsOf 10240 = 41 ∧ cellsOf 1500 = 6 := by decide

/-- The PFC example: 1,000 quanta at 400 Gbit/s from 50 ns end at 1,330 ns; applied at 90 ns. -/
theorem test_pause_ends : (90 - 40) + (1000 * 512 + 400 - 1) / 400 = 1330 := by decide

/-- The correction after READY: the first period of slew runs at 1,000 ppm, is limited, and slews 988 ppm. -/
theorem test_slew_after_ready :
    let d := { base with time := { base.time with servo := 786432, slew := 3000 * 64000000 } }
    let e := slewUpdate d
    e.rdS 32 M.TIME_FREQ_OUT = 65536000 ∧ e.rd M.CNT_TIME_SLEW_LIMITED = 1 ∧ e.time.slew = 3000 * 64000000 - 988 * 65536 := by decide

/-- One period at the 87.5 % step: the slots of pipe 6. -/
theorem test_slots_at_step_two :
    let d := { base with pipes := [(6, { Pipe.init with entered := 2208, stolen := 32 })] }
    let e := slotCounts { bell0 with cycles := 1120, waiting := [6], slots := [(6, 0, 0)] } d 6
    e.rd (M.PERF_SLOT_TOTAL 6) = 2560 ∧ e.rd (M.PERF_SLOT_BACK_SAG 6) = 320 ∧ e.rd (M.PERF_SLOT_BACK_STEAL 6) = 32 ∧ e.rd (M.PERF_SLOT_FRONT 6) = 0 := by decide

/-- A split job: CHK_CONTINUE over "56789" after CHK_RUN over "1234" gives the whole value. -/
theorem test_split_check_job : crcOut 32 true true (crcFeed 32 0x1EDC6F41 true (crcFeed 32 0x1EDC6F41 true 0xFFFFFFFF (nine.take 4)) (nine.drop 4)) = 0xE3069283 := by decide

/-- Wrapping an index-mode ring: 54 of 64 positions in use, the producer at position 62, and both phases of R463. -/
theorem test_ring_wrap :
    let d := (((base.wr (M.RING_SIZE 130) 64).wr (M.RING_PROD 130) 0xFFFE).wr (M.RING_CONS 130) 0xFFC8).wr (M.RING_BASE 130) 0x10000
    d.eventRoom 130 = 64 - 54 ∧ d.ringAddr 130 0xFFFE = 0x10000 + 16 * 62 ∧ d.ringPhase 130 63 = 1 ∧ d.ringPhase 130 64 = 0 := by decide

/-- The droop example at 0.76 V: 6 % calls for step 2 and 7.5 % for step 3, and a sag of 2 % recovers a step. -/
theorem test_sag_steps :
    let d := base.wr M.VCORE_TARGET 760
    d.sagStep 714400 = 2 ∧ d.sagStep 703000 = 3 ∧ d.sagOf 703000 = 750 ∧ d.sagStep 737200 = 0 ∧
    (sagStepRecover 744800 (d.wr M.CLOCK_STEP 3)).rd M.CLOCK_STEP = 2 := by decide

/-- R545: the advance of the LFSR at its edges. -/
theorem test_lfsr : lfsrStep 1 = 2 ∧ lfsrStep 0x80000000 = 0x00400007 := by decide

/-! ## The interface of words -/

/-- No row of the table has bits. -/
theorem test_no_word : decodeTableWord 32 0 = none ∧ State.reset.withFetchWord 32 0 = State.reset := by decide

/-- An empty queue idles. -/
theorem test_idle : step State.reset = .next State.reset := rfl

/-- The command at the front runs, and the others wait. -/
theorem test_front : (match step { at_ base with pending := [.ppsInEdge 5, .ppsInEdge 6] } with
      | .next t => t.pending == [.ppsInEdge 6] && t.dev.rd M.TIME_PPS_IN_STAMP == 5
      | _ => false) = true := by decide

end Sys2Proof.Test
end

