-- ==== Sys2Proof/Tests/Witness.lean ====
section
/-!
SUPPORT. Tests: for each statement, a state and operands that meet the hypotheses of each of its clauses.
-/
namespace Sys2Proof.Test

open Sys2Proof Sys2Proof.Machine

set_option maxRecDepth 100000
set_option Elab.async false

/-- The host writes 1, 0 or another value in 8 bytes. -/
def host (v : Nat) : Acc := { who := .k, val := v, width := 8 }

/-- A state with a bell and a device. -/
def with_ (b : BellSt) (d : Dev) : State := { pending := [], bell := b, dev := d }

/-- A bell that rings in RUN. -/
def running : BellSt := { BellSt.init with state := .run, period := 0xFFFFFFFF, lesson := 0xFFFFFF }

/-! ## The queue and the bell -/

/-- The reset state's logic die does not run, and that of a device in service does. -/
theorem test_meets_EveryCommandAnswersAndKeepsQueue :
    (Instr.ppsInEdge 5).ofDie = true ∧ State.reset.dev.dieRuns = false ∧ base.dieRuns = true := by decide

/-- A command other than those that move the bell completes. -/
theorem test_meets_OnlyTimeBaseCommandsMoveBell : ∃ t, exec (.ppsInEdge 5) State.reset = .next t := ⟨_, rfl⟩

theorem test_meets_BellConsistencyKeptByEveryStep :
    State.reset.bell.Consistent ∧ ∃ t, step { State.reset with pending := [.ppsInEdge 5] } = .next t :=
  ⟨by unfold BellSt.Consistent; decide, _, rfl⟩

theorem test_meets_BellAdvancesCounts :
    (with_ running base).bell.state ≠ .off ∧ base.start.clocksStopped = false ∧ running.latch = none := by decide

theorem test_meets_BellLoadsLatchedPresets :
    ({ running with latch := some (0xFFFFFFFF, 3) }.state ≠ .off ∧ base.start.clocksStopped = false ∧
      { running with latch := some (0xFFFFFFFF, 3) }.latch = some (0xFFFFFFFF, 3)) ∧ State.reset.bell.state = .off := by decide

theorem test_meets_BellStateFollowsReady : running.state ≠ .off ∧ base.start.clocksStopped = false := by decide

theorem test_meets_BellLoadLatchesPresets :
    let d := (base.wr M.LESSON_PRESET 0xFFFFFF).wr M.PERIOD_PRESET 0xFFFFFFFF
    (Passes d (host 1) M.BELL_LOAD ∧ BellSt.init.readyRisen = false ∧ d.rd M.LESSON_PRESET % 2 ^ 22 = d.rd M.PERIOD_PRESET / 1024 ∧
      d.rd M.LESSON_PRESET < 2 ^ 24) ∧ { running with readyRisen := true }.readyRisen = true := by
  unfold Passes; decide

/-! ## Power, start-up and absence -/

theorem test_meets_SagGovernorSetsClockStep :
    let d := (base.wr M.CLOCK_STEP 3).wr M.VCORE_TARGET 760
    base.dieRuns = true ∧ { base.power with avsOld := some 750 }.avsOld = some 750 ∧
    (d.dieRuns = true ∧ d.rd M.CLOCK_STEP ≠ 0 ∧ (d.sagTarget * 1000 - 709000) * 100 < stepThreshold (d.rd M.CLOCK_STEP) * (d.sagTarget * 1000) ∧
      d.stepFloor < d.rd M.CLOCK_STEP) := by decide

theorem test_meets_ThrottlePinForcesStep :
    base.dieRuns = true ∧ State.reset.dev.dieRuns = false ∧
    (let s := with_ running (base.wr M.THROTTLE_STATE 1)
     s.dev.dieRuns = true ∧ s.dev.on M.THROTTLE_STATE = true ∧ 16 ≤ (s.bell.period.toNat + 2 ^ 32 - s.dev.power.pausedAt % 2 ^ 32) % 2 ^ 32) := by decide

theorem test_meets_AvsFailureCounting :
    base.start.island.answers = true ∧ base.power.avsFails ≠ 2 ∧ { base.power with avsFails := 2 }.avsFails = 2 ∧
    State.reset.dev.start.island.answers = false := by decide

theorem test_meets_ThermalTripAndRelease :
    (120000 : Int) ≤ 120000 ∧ (State.reset.dev.pins.vcorePg = false ∧ (99999 : Int) < 100000) ∧ (base.pins.vcorePg = true ∨ (100000 : Int) ≤ 100000) := by decide

/-- The device before VAUX. -/
def dark : Dev := { Dev.init BootStore.init with pins := { Pins.init with vaux := false } }

/-- The island runs, with the main rails off. -/
def mainOff : Dev := { Dev.init BootStore.init with start := { (Start.init BootStore.init) with island := .running } }

/-- A step of the main sequence. -/
def startStep (k : Nat) : Dev := { mainOff with start := { mainOff.start with state := .starting } }.wr M.START_STEP k

theorem test_meets_IslandAndRailsStart :
    dark.pins.vaux = false ∧ mainOff.pins.vaux = true ∧ 10000 ≤ 10000 ∧
    (State.reset.dev.start.island = .starting ∧ State.reset.dev.pins.vaux = true ∧ State.reset.dev.pins.vcorePg = false ∧
      State.reset.dev.rd M.STRAP_BOOTSEL % 2 = 0 ∧ (IslandImages.mk true false).primary = true) ∧
    (mainOff.start.island = .running ∧ mainOff.start.state = .mainOff) ∧ (200 ≤ 200 ∧ base.start.island = .running) := by decide

theorem test_meets_MainSequenceSteps :
    ((startStep 2).start.state = .starting ∧ (startStep 2).rd M.START_STEP = 2 ∧ (startStep 2).start.readyDue = false ∧ step0.fail = none ∧
      (startStep 2).start.elapsedMs + { step0 with ms := 5 }.ms ≤ 5) ∧
    ((startStep 7).start.state = .starting ∧ (startStep 7).rd M.START_STEP = 7 ∧ (startStep 7).start.readyDue = false ∧
      (startStep 7).start.elapsedMs + { step0 with ms := 1450 }.ms ≤ 1450 ∧ (startStep 7).on M.START_HOLD = false) ∧
    ((startStep 9).start.state = .starting ∧ (startStep 9).rd M.START_STEP = 9 ∧ (startStep 9).start.readyDue = false ∧
      (startStep 9).start.elapsedMs + { step0 with ms := 1500 }.ms ≤ 1500) ∧
    ([2, 7, 9].all (fun k => (startStep k).start.state == .starting && decide (2 ≤ (startStep k).rd M.START_STEP) &&
      decide ((startStep k).rd M.START_STEP ≤ 9) && decide ((startStep k).rd M.START_STEP ≠ 8) && !(startStep k).start.readyDue) = true) ∧
    (let d := { base with start := { base.start with state := .hold } }; Passes d (host 1) M.START_RELEASE ∧ d.start.state = .hold) ∧
    (let d := { base with start := { base.start with state := .failed } }.wr M.START_FAIL_STEP 5
     Passes d (host 1) M.START_RETRY ∧ d.start.state = .failed ∧ d.rd M.START_FAIL_STEP ≠ 0 ∧ d.pins.vcorePg = true) ∧
    (base.dieRuns = true ∧ { base.start with zeroing := true }.zeroing = true ∧ base.pins.ready = true) := by
  unfold Passes; decide

theorem test_meets_PcieAndLifePins :
    (base.start.pllLocked = true ∧ base.pins.perstHigh = true ∧ base.dieRuns = true) ∧ (running.state ≠ .off ∧ base.pins.lifeRuns = true) ∧
    base.start.island.answers = true := by decide

theorem test_meets_SavesAndRestart :
    Passes base (host 1) M.PALETTE_SAVE ∧ Passes base (host 1) M.ROLL_SEED_SAVE ∧ Passes base (host 1) M.KEY_SAVE ∧
    (let d := (base.wr M.PALETTE_NEXT 3).wr M.PIPE_GATE_NEXT 0xFFF0
     Passes d (host 1) M.DATAPATH_RESTART ∧ d.start.state = .ready ∧ gateRuleOk (d.rd M.PALETTE_NEXT) (d.rd M.PIPE_GATE_NEXT) = true) ∧
    (let d := (base.wr M.PALETTE_NEXT 3).wr M.PIPE_GATE_NEXT 0xFFF8
     Passes d (host 1) M.DATAPATH_RESTART ∧ d.start.state = .ready ∧ gateRuleOk (d.rd M.PALETTE_NEXT) (d.rd M.PIPE_GATE_NEXT) = false) ∧
    (let d := { base with start := { base.start with state := .restarting } }
     d.dieRuns = true ∧ d.start.state = .restarting ∧ d.start.fallDue = false ∧ d.start.readyDue = false) := by
  unfold Passes; decide

/-- A device in Slate. -/
def slate : Dev := base.wr M.PALETTE_ACTIVE 3

/-- In a Recess state. -/
def inRecess (r : RecessState) : Dev := { slate with start := { slate.start with state := .recess, recess := r } }

/-- Recess is entered where the part has the feature: FEATURES is fused, and its value open. -/
theorem test_meets_RecessEntersAndWakes :
    Passes slate (host 1) M.RECESS_ENTER ∧ (bitOf Config.features 7 = true → recessCheck slate = St.OK) ∧
    ((inRecess .entering).dieRuns = true ∧ (inRecess .entering).start.recess = .entering ∧ (inRecess .entering).start.fallDue = false ∧ (inRecess .entering).start.drained = false ∧
      (inRecess .entering).start.wakeLatch = none) ∧
    (Passes (inRecess .recess) (host 1) M.RECESS_EXIT ∧ (inRecess .recess).start.recess = .recess) ∧
    ((inRecess .waking).dieRuns = true ∧ (inRecess .waking).start.recess = .waking) := by
  refine ⟨by unfold Passes; decide, fun h => ?_, by decide, ⟨by unfold Passes; decide, by decide⟩, by decide⟩
  unfold recessCheck
  rw [if_neg (by simp [h]), if_neg (by decide), if_neg (by decide), if_neg (by decide)]

/-! ## A transaction that passes validation -/

/-- A device that validates a transaction of nothing, with no subscriber. -/
def vacant : Dev :=
  { base with txn := { base.txn with state := .validating }, tabs := (List.range 256).map (fun i => (rowKey 6 0 0 i, none)) }

/-- Zero bytes are the number zero. -/
theorem leVal_zeros (l : List Nat) (f : Nat → Byte) (h : ∀ j ∈ l, f j = 0) : leVal (l.map f) = 0 := by
  induction l with
  | nil => rfl
  | cons a r ih =>
    have h1 := h a (by simp)
    have h2 := ih (fun j hj => h j (by simp [hj]))
    unfold leVal at h2 ⊢
    simp [h1, h2]

/-- An area that was never written reads its default. -/
theorem ale_zero (a k : Nat) (h : ∀ j, j < k → areaDefault (a + j) = 0) : vacant.withStaged.ale a k = 0 :=
  leVal_zeros _ _ (fun j hj => h j (by simpa using hj))

/-- No NAT address is valid. -/
theorem nat_zero (i : Nat) (h : i < 4096) : vacant.withStaged.natAddr i = 0 :=
  ale_zero _ _ (fun j hj => by unfold areaDefault; rw [if_neg (by omega), if_neg (by omega), if_neg (by omega), if_neg (by omega), if_neg (by omega)])

/-- No NAT pool is valid. -/
theorem pool_zero (i : Nat) (h : i < 256) : vacant.withStaged.natPool i = 0 :=
  ale_zero _ _ (fun j hj => by unfold areaDefault; rw [if_neg (by omega), if_neg (by omega), if_neg (by omega), if_neg (by omega), if_neg (by omega)])

/-- No service above 255 is valid. -/
theorem svc_zero (i : Nat) (h : i < 4096) (g : 256 ≤ i) : vacant.withStaged.service i = 0 :=
  ale_zero _ _ (fun j hj => by unfold areaDefault; rw [if_neg (by omega), if_neg (by omega), if_neg (by omega), if_neg (by omega), if_neg (by omega)])

/-- The NAT tables of `vacant` are in order. -/
theorem nat_ok : natTablesOk vacant.withStaged = true := by
  have h1 : ((List.range 4096).map vacant.withStaged.natAddr).filter (fun v => bitOf v 63) = [] := by
    rw [List.filter_eq_nil_iff]
    intro v hv
    obtain ⟨i, hi, rfl⟩ := List.mem_map.1 hv
    rw [nat_zero i (List.mem_range.1 hi)]
    decide
  have h2 : (List.range 256).filter (fun p => bitOf (vacant.withStaged.natPool p) 127) = [] := by
    rw [List.filter_eq_nil_iff]
    intro v hv
    rw [pool_zero v (List.mem_range.1 hv)]
    decide
  unfold natTablesOk
  simp only [h1, h2]
  decide

/-- The first 256 services of `vacant` are in order. -/
theorem low_svc : (List.range 256).all (fun i => !(let v := vacant.withStaged.service i; svcValid v && svcRate v != 0 && decide (svcBurst v < 160))) = true := by
  decide +kernel

/-- The timetable of `vacant` is in order. -/
theorem time_ok : timetableRule vacant vacant.withStaged = none := by
  have h0 : vacant.newSubs = [] := by decide +kernel
  have h1 : firstBad (fun i => let v := vacant.withStaged.service i; svcValid v && svcRate v != 0 && decide (svcBurst v < 160)) (fun _ => failOpen St.INCONSISTENT) (List.range 4096) = none := by
    unfold firstBad
    rw [List.find?_eq_none.2]
    · rfl
    · intro i hi
      by_cases g : i < 256
      · have := List.all_eq_true.1 low_svc i (List.mem_range.2 g)
        rw [Bool.not_eq_true'] at this
        rw [this]; decide
      · rw [svc_zero i (List.mem_range.1 hi) (by omega)]
        decide
  unfold timetableRule
  simp only [h0]
  rw [h1]
  rfl

/-- A transaction whose checks find nothing is valid. -/
theorem validate_ok (d : Dev) (h1 : checkLessons d.withStaged = none) (h2 : checkPorts d.withStaged = none) (h3 : checkLimits d.withStaged = none)
    (h4 : checkPool3 d.withStaged = none) (h5 : checkGates d.withStaged = none) (h6 : checkJoin d d.withStaged = none)
    (h7 : checkReferences d d.withStaged = none) (h8 : d.txn.ops = []) (h9 : checkRules d d.withStaged = none) : validate d = .ok d := by
  have e : (checkLessons d.withStaged).orElse (fun _ => (checkPorts d.withStaged).orElse (fun _ => (checkLimits d.withStaged).orElse
      (fun _ => (checkPool3 d.withStaged).orElse (fun _ => (checkGates d.withStaged).orElse (fun _ => (checkJoin d d.withStaged).orElse
      (fun _ => checkReferences d d.withStaged)))))) = none := by
    rw [h1, Option.orElse_none, h2, Option.orElse_none, h3, Option.orElse_none, h4, Option.orElse_none, h5, Option.orElse_none, h6, Option.orElse_none, h7]
  have r : reserveAll d d.txn.ops = .ok d := by rw [h8]; rfl
  unfold validate
  dsimp only
  rw [e]
  dsimp only
  rw [r]
  dsimp only
  rw [h9]

/-- A new edition that breaks none of the rules passes check 9. -/
theorem rules_ok (d n : Dev) (h1 : (List.range 256).findSome? (portRule n) = none) (h2 : endpointRangesOk n = true) (h3 : natTablesOk n = true)
    (h4 : poolRule d n = none) (h5 : timetableRule d n = none) (h6 : subRangesOk n = true) (h7 : lbFamilyRule d = none)
    (h8 : (firstBad (fun b => n.rd (M.TCAM_BANK_PROFILE b) != d.rd (M.TCAM_BANK_PROFILE b) &&
 !(rowsIn d.tabs tTcam 0 0 (b * 4096) (b * 4096 + 4096)).isEmpty) (fun b => failAt St.INCONSISTENT (M.TCAM_BANK_PROFILE b)) (List.range 8)) = none)
    (h9 : n.rd M.EXPORT_MSG_BYTES + 50 ≤ n.rd (M.PORT_MAX_FRAME (n.rd M.EXPORT_PORT))) (h10 : n.on M.BUDDY_ENABLE = false) : checkRules d n = none := by
  have v : ¬ n.rd (M.PORT_MAX_FRAME (n.rd M.EXPORT_PORT)) < n.rd M.EXPORT_MSG_BYTES + 46 + (if beAt (n.aread 0x08370000 16) 12 2 % 4096 = 0 then 0 else 4) := by
    split <;> omega
  unfold checkRules
  dsimp only
  rw [h1, h2, h3, h4, h5, h6, h7, h8, if_neg v, h10]
  rfl

theorem vacant_check_1 : checkLessons vacant.withStaged = none := by decide +kernel

theorem vacant_check_2 : checkPorts vacant.withStaged = none := by decide +kernel

theorem vacant_check_3 : checkLimits vacant.withStaged = none := by decide +kernel

theorem vacant_check_4 : checkPool3 vacant.withStaged = none := by decide +kernel

theorem vacant_check_5 : checkGates vacant.withStaged = none := by decide +kernel

theorem vacant_check_6 : checkJoin vacant vacant.withStaged = none := by decide +kernel

theorem vacant_check_7 : checkReferences vacant vacant.withStaged = none := by decide +kernel

theorem vacant_rule_1 : (List.range 256).findSome? (portRule vacant.withStaged) = none := by decide +kernel

theorem vacant_rule_2 : endpointRangesOk vacant.withStaged = true := by decide +kernel

theorem vacant_rule_4 : poolRule vacant vacant.withStaged = none := by decide +kernel

theorem vacant_rule_6 : subRangesOk vacant.withStaged = true := by decide +kernel

theorem vacant_rule_7 : lbFamilyRule vacant = none := by decide +kernel

theorem vacant_rule_8 : (firstBad (fun b => vacant.withStaged.rd (M.TCAM_BANK_PROFILE b) != vacant.rd (M.TCAM_BANK_PROFILE b) &&
   !(rowsIn vacant.tabs tTcam 0 0 (b * 4096) (b * 4096 + 4096)).isEmpty) (fun b => failAt St.INCONSISTENT (M.TCAM_BANK_PROFILE b)) (List.range 8)) = none := by decide +kernel

theorem vacant_rule_9 : vacant.withStaged.rd M.EXPORT_MSG_BYTES + 50 ≤ vacant.withStaged.rd (M.PORT_MAX_FRAME (vacant.withStaged.rd M.EXPORT_PORT)) := by decide +kernel

theorem vacant_rule_10 : vacant.withStaged.on M.BUDDY_ENABLE = false := by decide +kernel

theorem vacant_check_9 : checkRules vacant vacant.withStaged = none := rules_ok _ _ vacant_rule_1 vacant_rule_2 nat_ok vacant_rule_4 time_ok vacant_rule_6 vacant_rule_7 vacant_rule_8 vacant_rule_9 vacant_rule_10

theorem vacant_ops : vacant.txn.ops = [] := by decide +kernel

/-- The transaction of nothing passes. -/
theorem validates : validate vacant = .ok vacant := validate_ok _ vacant_check_1 vacant_check_2 vacant_check_3 vacant_check_4 vacant_check_5 vacant_check_6 vacant_check_7 vacant_ops vacant_check_9

/-- A lesson count out of its range fails the first check. -/
theorem validate_lessons (d : Dev) (f : CheckFail) (h : checkLessons d.withStaged = some f) : validate d = .error f := by
  unfold validate
  dsimp only
  rw [h]
  rfl

/-! ## The dictionary, tables and transactions -/

/-- A READ or DELETE of a row of table 6. -/
def rowCmd (op : Nat) : TblCmd := TblCmd.ofNat (6 * 2 ^ 48 + op * 2 ^ 44)

/-- A device with interface 0 busy. -/
def busyWith (c : TblCmd) (age : Nat) : Dev := base.setIface 0 { TblIf.init with running := some c, age }

theorem test_meets_TableCommandsStart :
    ([(1, 6 * 2 ^ 48), (2, 6 * 2 ^ 48), (3, 1 * 2 ^ 48 + 2 ^ 41), (4, 2 * 2 ^ 48), (5, 8 * 2 ^ 48), (6, 1 * 2 ^ 48), (7, 6 * 2 ^ 48), (8, 3 * 2 ^ 48)].all
      (fun (x : Nat × Nat) => let d := base.wr M.ROLL_READY 1; let cmd := x.2 + x.1 * 2 ^ 44
        fld cmd 44 4 == x.1 && (d.iface 15).running.isNone && tblCheck d (TblCmd.ofNat cmd) (ifaceOpen d 15) false == St.OK)) = true ∧
    (fld 0 44 4 = 0 ∧ base.bar0Closed = false ∧ (base.iface 0).running = none) ∧
    ((List.range 9).all (fun op => fld (op * 2 ^ 44) 44 4 == op) && ((busyWith (rowCmd 1) 0).iface 0).running.isSome && !(busyWith (rowCmd 1) 0).bar0Closed) = true := by decide

theorem test_meets_TableCommandsEnd :
    ((busyWith (rowCmd 1) 0).dieRuns = true ∧ ((busyWith (rowCmd 1) 0).iface 0).running = some (rowCmd 1) ∧ (rowCmd 1).staged = false ∧ (rowCmd 1).op = 1 ∧ 6 ≤ (rowCmd 1).table ∧ (rowCmd 1).table ≤ 9) ∧
    (let c := rowCmd 5; let d := busyWith c 0
     d.dieRuns = true ∧ (d.iface 0).running = some c ∧ c.staged = false ∧ c.op = 5 ∧ 6 ≤ c.table ∧ c.table ≤ 9 ∧ rowIsValid c.table (d.rowSeen c.table c.index).2 = true ∧
     d.indexStaged c.table c.index = false ∧ (d.rowSeen c.table c.index).2.win.isStable = true ∧ (c.table ≤ 7 ∨ (d.rowAt c.table 1 c.index).valid = false)) ∧
    ((busyWith (rowCmd 1) 64).dieRuns = true ∧ ((busyWith (rowCmd 1) 64).iface 0).running.isSome = true ∧ 64 ≤ ((busyWith (rowCmd 1) 64).iface 0).age) := by decide +kernel

/-- A PCIe write of one byte of a member, in 4 bytes. -/
def write4 (addr v : Nat) : PcieWrite := { bar := 0, addr, data := toLE 4 v }

/-- Principal K owns the open transaction. -/
def opened : Dev := { base with txn := { base.txn with state := .opened } }.wr M.TXN_OWNER 1

theorem test_meets_HostRegisterWrites :
    (let w := write4 0x00400030 0xFFFFFFFF; let id := M.PERIOD_PRESET; let a : Acc := { who := .k, val := leVal w.data, width := w.data.length }
     w.addr < 0x0A000000 ∧ w.data ≠ [] ∧ placeOf w.addr = .member id 0 ∧ (findMember id).map (·.k) = some .rw ∧ id ≠ M.BELL_LOAD ∧
     (triggerOf running .k id).isNone = true ∧ (writeOf id).isNone = true ∧ base.gate (id / 2 ^ 24) = false ∧ base.start.pcieUp = true ∧
     base.writeStatus a id = St.OK ∧ ownRule base id (storedValue id a.val) = St.OK) ∧
    (let w : PcieWrite := { write4 0x00400030 1 with data := [1, 0] }; let id := M.PERIOD_PRESET
     placeOf w.addr = .member id 0 ∧ base.writeStatus { who := .k, val := leVal w.data, width := w.data.length } id = St.TYPE ∧ St.TYPE ≠ St.OK) ∧
    (let w := write4 0x00400050 3; let id := M.OVERRUN_ITEMS
     placeOf w.addr = .member id 0 ∧ (findMember id).map (fun m => (m.k, m.ty)) = some (.rc, .bits32) ∧ id ≠ M.BELL_LOAD ∧
     (triggerOf running .k id).isNone = true ∧ (writeOf id).isNone = true ∧
     base.writeStatus { who := .k, val := leVal w.data, width := w.data.length } id = St.OK) ∧
    (let w := write4 0x02000000 11; let id := M.PORT_MODE 0
     placeOf w.addr = .member id 0 ∧ (findMember id).map (·.k) = some .rws ∧ id ≠ M.BELL_LOAD ∧ id ≠ M.TXN_STAGED_OBJECTS ∧
     (triggerOf running .k id).isNone = true ∧ (writeOf id).isNone = true ∧ opened.gate (id / 2 ^ 24) = false ∧ opened.txn.members.length < 4096 ∧
     opened.writeStatus { who := .k, val := leVal w.data, width := w.data.length } id = St.OK ∧ memberDenied id (storedValue id (leVal w.data)) = false) := by
  decide

theorem test_meets_UnownedStagedWriteIsRefused :
    ((findMember (M.PORT_MODE 255)).map (fun m => m.right .k) = some .rws ∧ base.ownsOpen .k = false ∧ base.start.pcieUp = true ∧
      base.gate (M.PORT_MODE 255 / 2 ^ 24) = false ∧ M.PORT_MODE 255 ≠ M.BELL_LOAD) ∧
    (let d := base.setSession 1 (some { version := 3, role := 2, mac := 0, key := [], seq := none, devSeq := 0, heard := 0, beat := 0, kept := [], sub := none })
     (findMember (M.PORT_MODE 0)).map (fun m => m.right (.d 1)) = some .rws ∧ d.ownsOpen (.d 1) = false ∧ d.role 1 = 2) ∧
    (let w := write4 0x02000000 11
     placeOf w.addr = .member (M.PORT_MODE 0) 0 ∧ w.addr < 0x0A000000 ∧ w.data ≠ [] ∧ w.data.length = 4 ∧
     (findMember (M.PORT_MODE 0)).map (fun m => m.ty.wide) = some false) := by decide

theorem test_meets_KeySlotHoldsItsKey :
    (let w : PcieWrite := { bar := 0, addr := 0x08B10000 + 32 * 2, data := List.replicate 32 7 }; w.data.length = 32) ∧
    base.start.pcieUp = true ∧ (∀ k, SMap.get (fun _ => none) base.denlys.keys 2 = some k → k.length = 32) :=
  ⟨by decide, by decide, fun _ h => by cases h⟩

theorem test_meets_TransactionLifeCycle :
    (Passes base (host 1) M.TXN_BEGIN ∧ base.txn.state = .idle) ∧
    (let d := opened.wr M.TXN_OWNER 0x8001; Passes d (host 1) M.TXN_BEGIN ∧ d.txn.state ≠ .idle ∧ d.rd M.TXN_OWNER ≠ 1) ∧
    (Passes opened (host 1) M.TXN_COMMIT ∧ opened.txn.state = .opened ∧ opened.rd M.TXN_OWNER = (host 1).who.owner) ∧
    Passes opened (host 1) M.TXN_ROLLBACK ∧
    (let d := { opened with txn := { opened.txn with idleLessons := 65535 } }.wr M.TXN_IDLE_LIMIT 65535
     d.dieRuns = true ∧ d.txn.state = .opened ∧ d.rd M.TXN_IDLE_LIMIT ≠ 0 ∧ d.rd M.TXN_IDLE_LIMIT ≤ d.txn.idleLessons) := by
  unfold Passes; decide

/-- A transaction of a lesson count out of its range. -/
def tooOld : Dev := { opened with txn := { opened.txn with state := .validating, members := [(M.L2_AGE_LESSONS, some 8388608)] } }

/-- A transaction being validated passes with nothing staged, and fails with a lesson count out of its range. -/
theorem test_meets_TransactionValidation :
    (vacant.dieRuns = true ∧ vacant.txn.state = .validating ∧ vacant.txn.passed = false ∧ ∃ e, validate vacant = .ok e) ∧
    (tooOld.dieRuns = true ∧ tooOld.txn.state = .validating ∧ tooOld.txn.passed = false ∧ ∃ f, validate tooOld = .error f) :=
  ⟨⟨by decide, rfl, rfl, _, validates⟩, by decide, rfl, rfl, ⟨St.RANGE, M.L2_AGE_LESSONS, 1⟩, validate_lessons _ _ (by decide +kernel)⟩

/-! ## Denlys -/

/-- A key of the tests. -/
def key0 : Bytes := List.replicate 32 9

/-- A Denlys part without its TAG. -/
def partHead (op session seq : Nat) (payload : Bytes) : Bytes :=
  [1, toByte op, toByte session, 0] ++ toBE 4 seq ++ [0, 0] ++ toBE 2 payload.length ++ payload

/-- A Denlys part with its TAG under `key0`. -/
def partTagged (op session seq : Nat) (payload : Bytes) : Bytes :=
  partHead op session seq payload ++ (hmac key0 (partHead op session seq payload)).take 16

/-- A frame to the device from station 7. -/
def toDevice (part : Bytes) : Bytes := toBE 6 Config.denlysMac ++ (toBE 6 7 ++ toBE 2 0x88B5 ++ part)

/-- Six bytes of a number hold it modulo 2^48. -/
theorem beAt_toBE (n : Nat) (r : Bytes) : beAt (toBE 6 n ++ r) 0 6 = n % 2 ^ 48 := by
  show ((((((0 * 256 + (n / 256 ^ 5 % 2 ^ 8)) * 256 + (n / 256 ^ 4 % 2 ^ 8)) * 256 + (n / 256 ^ 3 % 2 ^ 8)) * 256 + (n / 256 ^ 2 % 2 ^ 8)) * 256 +
    (n / 256 ^ 1 % 2 ^ 8)) * 256 + (n / 256 ^ 0 % 2 ^ 8)) = n % 2 ^ 48
  omega

/-- A session of the role of engineering, version 3. -/
def session0 : Session := { version := 3, role := 2, mac := 7, key := key0, seq := none, devSeq := 2, heard := 5, beat := 5, kept := [], sub := none }

/-- A request of station 7, ended at 9 ns of the island's time. -/
def asked (part : Bytes) : DenReq := { src := 7, ns := 9, part }

/-- A device with session 1, and the requests that wait. -/
def talking (rs : List DenReq) : Dev :=
  let d := base.setSession 1 (some session0)
  { d with denlys := { d.denlys with requests := rs } }

theorem test_meets_DenlysFramesAndHello :
    (talking []).start.island.answers = true ∧
    (beAt (toDevice (partHead 2 1 1 [1, 0, 0, 0])) 0 6 = Config.denlysMac % 2 ^ 48 ∧
      beAt (toDevice (partHead 2 1 1 [1, 0, 0, 0])) 12 2 = (talking []).rd M.DENLYS_ETHERTYPE ∧
      byteAt ((toDevice (partHead 2 1 1 [1, 0, 0, 0])).drop 14) 1 ≠ 1 ∧
      (talking []).session (byteAt ((toDevice (partHead 2 1 1 [1, 0, 0, 0])).drop 14) 2) = some session0 ∧
      tagOk session0.key ((toDevice (partHead 2 1 1 [1, 0, 0, 0])).drop 14) = false) ∧
    (beAt (toDevice (partTagged 2 1 1 [1, 0, 0, 0])) 0 6 = Config.denlysMac % 2 ^ 48 ∧
      beAt (toDevice (partTagged 2 1 1 [1, 0, 0, 0])) 12 2 = (talking []).rd M.DENLYS_ETHERTYPE ∧
      requestOps.contains (byteAt ((toDevice (partTagged 2 1 1 [1, 0, 0, 0])).drop 14) 1) = true ∧
      (talking []).session (byteAt ((toDevice (partTagged 2 1 1 [1, 0, 0, 0])).drop 14) 2) = some session0 ∧
      tagOk session0.key ((toDevice (partTagged 2 1 1 [1, 0, 0, 0])).drop 14) = true ∧ (talking []).denlys.requests = [] ∧ session0.seq = none ∧
      0 < beAt ((toDevice (partTagged 2 1 1 [1, 0, 0, 0])).drop 14) 4 4 ∧ beAt ((toDevice (partTagged 2 1 1 [1, 0, 0, 0])).drop 14) 4 4 < 2 ^ 31) ∧
    (let part := partHead 1 0 1 [1, 1, 2, 0]
     (talking [asked part]).denlys.requests = [asked part] ∧ byteAt part 1 = 1 ∧ byteAt (denlysPayload part) 2 < 3 ∧
     SMap.get (fun _ => none) (talking [asked part]).denlys.keys (byteAt (denlysPayload part) 2) = none ∧ (talking [asked part]).denlys.refused = []) ∧
    (let part := partTagged 1 0 1 [1, 3, 2, 0, 0, 0, 0, 0, 0, 0, 0, 9]
     let d := { base with denlys := { base.denlys with requests := [asked part], keys := [(2, some key0)] } }
     d.denlys.requests = [asked part] ∧ byteAt part 1 = 1 ∧ byteAt (denlysPayload part) 2 < 3 ∧
     SMap.get (fun _ => none) d.denlys.keys (byteAt (denlysPayload part) 2) = some key0 ∧ tagOk key0 part = true ∧
     max 1 (byteAt (denlysPayload part) 0) ≤ min (byteAt (denlysPayload part) 1) (d.rd M.DENLYS_VERSION_MAX) ∧ ∀ n, d.session n = none) ∧
    [2 ^ 64 - 1, 0].length < 2 ^ 64 :=
  ⟨rfl, ⟨beAt_toBE _ _, rfl, by decide +kernel, rfl, by decide +kernel⟩,
    ⟨beAt_toBE _ _, rfl, by decide +kernel, rfl, by decide +kernel, rfl, rfl, by decide +kernel, by decide +kernel⟩, by decide +kernel,
    ⟨rfl, by decide +kernel, by decide +kernel, by decide +kernel, by decide +kernel, by decide +kernel, fun _ => rfl⟩, by decide⟩

theorem test_meets_DenlysRequestsAreServed :
    (let part := partHead 0x0A 1 1 []; let d := talking [asked part]
     d.denlys.requests = [asked part] ∧ byteAt part 1 = 0x0A ∧ d.session (byteAt part 2) = some session0 ∧ 1 ≤ session0.version) ∧
    (let part := partHead 2 1 1 ([1, 0, 0, 0] ++ toBE 4 M.ALERT_CAUSE); let d := talking [asked part]
     d.denlys.requests = [asked part] ∧ byteAt part 1 = 2 ∧ d.session (byteAt part 2) = some session0 ∧ 1 ≤ session0.version ∧
     byteAt (denlysPayload part) 0 = 1 ∧
     (readAs BellSt.init { d with denlys := { d.denlys with requests := [] } } (.d (byteAt part 2)) (beAt (denlysPayload part) 4 4)).1 = St.OK) ∧
    (let part := partHead 3 1 1 ([1, 0, 0, 0] ++ toBE 4 M.PALETTE_NEXT ++ toBE 8 2); let d := talking [asked part]
     d.denlys.requests = [asked part] ∧ byteAt part 1 = 3 ∧ d.session (byteAt part 2) = some session0 ∧ 1 ≤ session0.version ∧ 1 ≤ session0.role ∧
     byteAt (denlysPayload part) 0 = 1 ∧
     (writeMember BellSt.init { d with denlys := { d.denlys with requests := [] } }
       { who := .d (byteAt part 2), val := beAt (denlysPayload part) 8 8, width := 8 } (beAt (denlysPayload part) 4 4)).1 = St.OK) ∧
    (let part := partHead 4 1 1 ([0x78, 0, 0, 0] ++ toBE 4 0 ++ toBE 2 96 ++ [0, 0]); let d := talking [asked part]
     d.denlys.requests = [asked part] ∧ byteAt part 1 = 4 ∧ d.session (byteAt part 2) = some session0 ∧ 2 ≤ session0.version ∧
     0 < beAt (denlysPayload part) 8 2 ∧ beAt (denlysPayload part) 8 2 ≤ 1024 ∧ d.gate (byteAt (denlysPayload part) 0) = false ∧
     blockArea (byteAt (denlysPayload part) 0) (beAt (denlysPayload part) 2 2) = some (0x08B10000, 0x10000) ∧
     beAt (denlysPayload part) 4 4 + beAt (denlysPayload part) 8 2 ≤ 0x10000 ∧
     ∀ i, i < 96 → areaUse (0x08B10000 + beAt (denlysPayload part) 4 4 + i) ≠ none) ∧
    (let part := partHead 4 1 1 ([8, 0, 0, 0] ++ toBE 4 0 ++ toBE 2 1024 ++ [0, 0]); let d := talking [asked part]
     d.denlys.requests = [asked part] ∧ byteAt part 1 = 4 ∧ d.session (byteAt part 2) = some session0 ∧ 2 ≤ session0.version ∧
     0 < beAt (denlysPayload part) 8 2 ∧ beAt (denlysPayload part) 8 2 ≤ 1024 ∧ d.gate (byteAt (denlysPayload part) 0) = false ∧
     blockArea (byteAt (denlysPayload part) 0) (beAt (denlysPayload part) 2 2) = some (0x800800, 0xFF800) ∧
     areaUse (0x800800 + beAt (denlysPayload part) 4 4 + 1023) = none) ∧
    (let part := partHead 8 1 1 (toBE 2 1024 ++ [1, 0]); let d := talking [asked part]
     d.denlys.requests = [asked part] ∧ byteAt part 1 = 8 ∧ d.session (byteAt part 2) = some session0 ∧ 2 ≤ session0.version ∧
     byteAt (denlysPayload part) 3 = 0 ∧ 0 < beAt (denlysPayload part) 0 2 ∧ beAt (denlysPayload part) 0 2 ≤ 1024) ∧
    ([(5, M.TXN_BEGIN), (6, M.TXN_COMMIT), (7, M.TXN_ROLLBACK)].all (fun (p : Nat × Nat) =>
      let part := partHead p.1 1 1 []; let d := talking [asked part]
      d.denlys.requests == [asked part] && byteAt part 1 == p.1 && d.session (byteAt part 2) == some session0 && decide (3 ≤ session0.version) &&
        decide (2 ≤ session0.role) && (writeMember BellSt.init { d with denlys := { d.denlys with requests := [] } } { who := .d 1, val := 1, width := 8 } p.2).1 ==
        (if p.1 = 5 then St.OK else St.NO_TXN)) = true) := by decide +kernel

/-- A subscription to ALERT_CAUSE that is due. -/
def due0 : Subscription := { interval := 1, events := false, ids := [M.ALERT_CAUSE], lessons := 1, checked := 0, last := [1], pendingEvents := [], overflow := 0 }

theorem test_meets_DenlysSendsAndTimeouts :
    (let d := { base with denlys := { base.denlys with ready := [([1], 9)] } }; d.denlys.ready = ([1], 9) :: []) ∧
    (let x := { session0 with sub := some due0 }; let d := base.setSession 8 (some x)
     d.session 8 = some x ∧ x.sub = some due0 ∧ due0.due = true ∧ d.start.island.answers = true ∧ due0.pendingEvents = [] ∧
     due0.ids = [M.ALERT_CAUSE] ∧ due0.last = [1] ∧ d.gate (M.ALERT_CAUSE / 2 ^ 24) = false ∧ readMember running d M.ALERT_CAUSE ≠ 1) ∧
    (let d := { base with denlys := { base.denlys with second := [(8, [1])] } }; d.denlys.second = [(8, [1])]) ∧
    (let d := (talking []).wr M.SESSION_TIMEOUT 1000; let h := d.rd M.HEARTBEAT_INTERVAL * 1000000; let t := 1000 * 1000000
     d.session 1 = some session0 ∧ session0.beat + d.rd M.HEARTBEAT_INTERVAL * 1000000 ≤ 5 + h ∧ session0.heard + d.rd M.SESSION_TIMEOUT * 1000000 ≤ 5 + t ∧
     4 < session0.beat + d.rd M.HEARTBEAT_INTERVAL * 1000000 ∧ 4 < session0.heard + d.rd M.SESSION_TIMEOUT * 1000000) ∧
    (let d := base.wr M.STRAP_NODEID 0
     d.start.island.answers = true ∧ d.rd M.STRAP_NODEID = 0) := by decide +kernel

/-! ## Ports and the switch -/

/-- A frame with its FCS. -/
def withFcs (body : Bytes) : Bytes := body ++ toLE 4 (crcEth body)

/-- A 64-byte frame of an EtherType. -/
def plain (ty : Nat) (rest : Bytes) : Bytes := withFcs (fit 60 (toBE 6 1 ++ toBE 6 2 ++ toBE 2 ty ++ rest))

/-- A frame received on port 255. -/
def rx (bytes : Bytes) : RxFrame := { frame0 with bytes }

/-- The device with port 255 up at 10 Gbit/s. -/
def linked : Dev := ((base.wr (M.PORT_LINK 255) 1).wr (M.PORT_MODE 255) 4).wr (M.PORT_ADMIN 255) 1

theorem test_meets_FramesAreReceived :
    (linked.dieRuns = true ∧ 255 < 256 ∧ linked.on (M.PORT_LINK 255) = true ∧ linked.pins.vcorePg = true ∧
      macDrop linked { rx (plain 0x1234 []) with symbolError := true } = some (M.CNT_SYMBOL_ERROR 255)) ∧
    (let f := rx (plain 0x1234 []); let s := with_ running linked
     s.dev.dieRuns = true ∧ macDrop s.dev f = none ∧ s.dev.start.recess = .awake ∧ s.dev.pins.ready = true ∧ beAt f.bytes (typeOffset f.bytes) 2 ≠ 0x8808 ∧
     s.dev.buddyPort f.port = false ∧ s.dev.on M.THROTTLE_STATE = false ∧
     (takeCells s.bell ((s.dev.bump (M.CNT_RX_FRAMES f.port)).addTo (M.CNT_RX_BYTES f.port) f.bytes.length)
      { bytes := f.bytes.take (f.bytes.length - 4), port := f.port, cls := ingressClass s.dev f.port f.bytes, rxNs := rxStamp s.dev f.port f.ns,
        cells := cellsOf ((f.bytes.take (f.bytes.length - 4)).length + 4), limited := true,
        lossless := s.dev.losslessOn f.port (ingressClass s.dev f.port f.bytes), source := 0, held := [], bad := [] }).1 = some 0) ∧
    (let f := rx (plain 0x1234 []); let s := with_ running (linked.wr (M.BUF_INGRESS_LIMIT 255 0) 0)
     s.dev.dieRuns = true ∧ s.dev.on (M.PORT_LINK 255) = true ∧ macDrop s.dev f = none ∧ s.dev.start.recess = .awake ∧ s.dev.pins.ready = true ∧
     s.dev.buddyPort f.port = false ∧ s.dev.on M.THROTTLE_STATE = false ∧ ingressClass s.dev f.port f.bytes = 0 ∧
     (let t := (takeCells s.bell ((s.dev.bump (M.CNT_RX_FRAMES f.port)).addTo (M.CNT_RX_BYTES f.port) f.bytes.length)
      { bytes := f.bytes.take (f.bytes.length - 4), port := f.port, cls := ingressClass s.dev f.port f.bytes, rxNs := rxStamp s.dev f.port f.ns,
        cells := cellsOf ((f.bytes.take (f.bytes.length - 4)).length + 4), limited := true,
        lossless := s.dev.losslessOn f.port (ingressClass s.dev f.port f.bytes), source := 0, held := [], bad := [] });
      (t.1, t.2.1) = (none, 2))) ∧
    (let f := rx (plain 0x8808 (toBE 2 0x0101)); let d := linked.wr (M.PORT_FC_MODE 255) 2
     d.dieRuns = true ∧ d.on (M.PORT_LINK 255) = true ∧ macDrop d f = none ∧ d.start.recess = .awake ∧ beAt f.bytes (typeOffset f.bytes) 2 = 0x8808 ∧
     beAt f.bytes (typeOffset f.bytes + 2) 2 = 0x0101 ∧ d.rd (M.PORT_FC_MODE f.port) = 2) := by decide +kernel

/-- A PFC frame for class 7, 65,535 quanta. -/
def pfc7 : Bytes := plain 0x8808 (toBE 2 0x0101 ++ toBE 2 0x80 ++ List.replicate 14 0 ++ toBE 2 65535)

/-- Class 7 of port 255 is paused. -/
def paused7 : Dev := setPause linked 255 7 (some { until_ := 1000, since := 10 })

theorem test_meets_PauseTimersAndWatchdog :
    (let d := { linked.wr (M.PORT_FC_MODE 255) 2 with ports := { linked.ports with control := [(255, pfc7)] } }
     d.dieRuns = true ∧ d.ports.control = [(255, pfc7)] ∧ pauseTimes pfc7 (beAt pfc7 (typeOffset pfc7 + 2) 2) = [(7, 65535)] ∧ d.heldOff 255 7 = false) ∧
    (paused7.dieRuns = true ∧ paused7.pauseOf 255 7 = some { until_ := 1000, since := 10 } ∧ paused7.reloaded 255 7 = false) ∧
    (let d := paused7.wr (M.PORT_PAUSE_WD_LIMIT 255) 1
     d.dieRuns = true ∧ d.pauseOf 255 7 = some { until_ := 1000, since := 10 } ∧ d.rd (M.PORT_PAUSE_WD_LIMIT 255) ≠ 0 ∧ 10 + d.rd (M.PORT_PAUSE_WD_LIMIT 255) * 1000 < 1011) ∧
    SMap.get (fun _ => none) [(255 * 8 + 7, some 5)] (255 * 8 + 7) = some 5 ∧
    (let d := { linked with switch := { linked.switch with xoff := [(255 * 8 + 7, running.period.toNat - 16)] } }
     d.dieRuns = true ∧ d.on (M.PORT_LINK 255) = true ∧ d.switch.xoff = [(255 * 8 + 7, running.period.toNat - 16)] ∧
     16 ≤ (running.period.toNat + 2 ^ 32 - (running.period.toNat - 16) % 2 ^ 32) % 2 ^ 32) := by decide +kernel

/-- A frame in the buffer, and a copy of it. -/
def stored0 : Frame :=
  { bytes := fit 60 [], port := 255, cls := 0, rxNs := 0, cells := 1, limited := true, lossless := false, source := 0, held := [7], bad := [] }
def copy0 : Copy :=
  { frame := 0, bytes := fit 60 [], port := 255, cls := 7, cells := 1, yellow := false, enqueued := 0, heldAt := none, ring := none, tag := none }

theorem test_meets_LinksAndIdle :
    (let d := linked.wr (M.PORT_LINK 255) 0
     d.dieRuns = true ∧ d.on (M.PORT_LINK 255) = false ∧ d.rd (M.PORT_MODE 255) ≠ 0 ∧ d.on (M.PORT_ADMIN 255) = true ∧ d.pins.ready = true ∧
     d.gated (pipeOf 255) = false ∧ (d.lanesOf 255).all (fun l => !d.ports.badLanes.contains l) = true) ∧
    (linked.dieRuns = true ∧ linked.on (M.PORT_LINK 255) = true ∧ linked.buddyPort 255 = false ∧ linked.switch.queues = [] ∧ ∀ q, q < 8 → linked.macq 255 q = []) ∧
    (let d := linked.wr (M.PORT_LPI_ENABLE 255) 1
     d.dieRuns = true ∧ d.on (M.PORT_LPI_ENABLE 255) = true ∧ [1, 2, 4].contains (d.rd (M.PORT_MODE 255)) = true ∧ d.on (M.PORT_LINK 255) = true ∧
     d.ports.lpi.contains 255 = false ∧ (∀ q, q < 8 → d.macq 255 q = []) ∧
     d.rd (M.PORT_LPI_IDLE 255) * 1000 < 2 ^ 32) ∧
    (∀ v k : Nat, k < 2 ^ 32 → ∃ t, k ≤ (v + 2 ^ 32 - SMap.get zeroAt [(255, t)] 255 % 2 ^ 32) % 2 ^ 32) ∧
    (let d := { linked.setMacq 255 7 [copy0] with ports := { (linked.setMacq 255 7 [copy0]).ports with lpi := [255] } }
     d.dieRuns = true ∧ d.macq 255 7 ≠ [] ∧ d.ports.lpi.contains 255 = true) ∧ Passes linked (host 1) (M.PORT_WAKE_PREPARE 255) ∧
    (let d := { linked.setFrame 0 (some stored0) with switch := { (linked.setFrame 0 (some stored0)).switch with flush := [(255, 0, [7])] } }
     d.dieRuns = true ∧ d.switch.flush = [(255, 0, stored0.held)] ∧ stored0.held.length ≤ 4096 ∧ d.frame 0 = some stored0 ∧
     (∀ i ∈ stored0.held, (d.buf 0 i).2 ≤ 1) ∧ d.segs = []) := by
  unfold Passes
  refine ⟨by decide +kernel, by decide +kernel, by decide +kernel, fun v k h => ⟨v + 2 ^ 32 - k, ?_⟩, by decide +kernel⟩
  show k ≤ (v + 2 ^ 32 - (v + 2 ^ 32 - k) % 2 ^ 32) % 2 ^ 32
  omega

/-- Queue 2047 of port 255 holds one copy, and its turns have been taken with the given deficits. -/
def queued : Dev :=
  let d := { linked with switch := { linked.switch with
    queues := [(2047, [copy0])], queueTurn := [(255 * 8 + 7, some 2047)], subTurn := [(255 * 2 + 1, some 255)] } }
  let q := (d.row (queueKey 2047)).getD ⟨[], Window.stable, true⟩
  let b := (d.row (subKey 255)).getD ⟨[], Window.stable, true⟩
  (d.setRow (queueKey 2047) (some (q.withNat 16 (setFld q.nat 35 21 64)))).setRow (subKey 255) (some (b.withNat 64 (setFld b.nat 256 32 64)))

theorem test_meets_FramesAreScheduledAndSent :
    (queued.dieRuns = true ∧ (queued.macq 255 7).length < 2 ∧ queued.rd (M.TT_PORT_RATE 255) = 0 ∧ queued.offers 255 7 = [(2047, 255, 255)] ∧ svcRate (queued.service 255) = 0 ∧
      fld (queued.subRow 255) 443 24 = 0 ∧ fld (queued.subRow 255) 419 24 = 0 ∧ queued.queue 2047 = [copy0] ∧ copy0.tag = none ∧
      SMap.get (fun _ => none) queued.switch.queueTurn (255 * 8 + 7) = some 2047 ∧ SMap.get (fun _ => none) queued.switch.subTurn (255 * 2 + 1) = some 255 ∧
      copy0.bytes.length + 4 ≤ fld (queued.queueRow 2047) 35 21 ∧ copy0.bytes.length + 4 ≤ fld (queued.subRow 255) 256 32) ∧
    (let c := { copy0 with heldAt := some 0 }; let d := ((linked.setMacq 255 7 [c]).wr (M.TT_GATE_ENABLE 255) 1).wr (M.TT_GATE_COUNT 255) 1
     d.dieRuns = true ∧ d.macq 255 7 = [c] ∧ c.heldAt = some 0 ∧ d.paused 255 7 = false ∧ d.gateFits 255 7 0 (c.bytes.length + 4) = false ∧
     d.gateCycle 255 ≤ nsBetween 0 (wideNs running 0)) ∧
    (let d := (linked.setMacq 255 6 [copy0]).setFrame 0 (some stored0)
     d.dieRuns = true ∧ d.on (M.PORT_LINK 255) = true ∧ d.ports.lpi.contains 255 = false ∧ d.stillWaking 255 (5000 / 1000 % 2 ^ 32) = false ∧ (∀ k, 6 < k → k < 8 → d.macq 255 k = []) ∧ d.macq 255 6 = [copy0] ∧
     d.paused 255 6 = false ∧ d.gateFits 255 6 (5000 / 1000 % 2 ^ 32) (copy0.bytes.length + 4) = true ∧ d.frame copy0.frame = some stored0 ∧
     stored0.bad = [] ∧ copy0.ring = none ∧ ptpPlace copy0.bytes = none ∧ d.segs = []) := by
  refine ⟨by decide +kernel, by decide +kernel, by decide +kernel, by decide +kernel, by decide +kernel, by decide +kernel, fun k h h' => ?_, by decide +kernel⟩
  have : k = 7 := by omega
  subst this; decide

/-- A segmentation request of 16,385 bytes. -/
def seg0 : SegReq :=
  { ring := 2, index := 0, port := 0, cls := 0, mss := 1460, hdr := [], payAddr := 0, payLen := 16385, done := 0, seq := 0, dropped := false, chunks := [] }

theorem test_meets_SegmentationFetchesChunks :
    base.dieRuns = true ∧ seg0.seq = 0 ∧ seg0.done = 0 ∧ seg0.chunks = [] ∧ 0 < seg0.mss ∧ 16384 < seg0.payLen ∧
      ∃ b d0, segAlloc { base with segs := [seg0] } = some (b, d0) ∧ d0.segs = [seg0] :=
  ⟨by decide, rfl, rfl, rfl, by decide, by decide, 0, { base with segs := [seg0] }.grant 3 0 0x21, by decide +kernel, by decide +kernel⟩

/-! ## Pipes and the Roll -/

/-- An unknown packet in pipe 15. -/
def desc0 : Desc :=
  { id := 1, pipe := 15, frame := 0, bytes := fit 60 [], hdr := parseFrame (fit 60 []) 255 0, edition := 0, dgen := 0, stamp := 0, pass := 0,
    result := 0, rule := 32768, yellow := false, key := none, dirB := false, h1 := 0, wait := .place, tried := [], cands := none, outcome := 0,
    delayed := false, refused := false, tie := false, multi := false, userTag := 0, parts := 0, arrived := 0,
    endpoint := none, slot := none, detour := false, stage := 7, tag := none }

/-- A notice of station 2 in VLAN 1 on port 255, period 65,535. -/
def notice0 : Nat := (({ kind := 0, mac := 2, vlan := 1, port := 255, period := 65535, lesson := 2 ^ 24 - 1 } : Learn)).toNat

theorem test_meets_PacketsAreParsedAndLearned :
    (let f := { stored0 with bytes := fit 13 [] }
     let d := { (base.wr M.PARSER_MALFORMED_ACTION 0).setFrame 0 (some f) with ports := { base.ports with arrivals := [(15, 0)] } }
     d.dieRuns = true ∧ d.pins.ready = true ∧ d.gated 15 = false ∧ (∀ x ∈ d.descs, x.wait ≠ .recirc) ∧ d.ports.arrivals = [(15, 0)] ∧ d.frame 0 = some f ∧ f.port < 256 ∧
     (parseFrame f.bytes f.port f.cls).malformed ≠ 0 ∧ d.rd M.PARSER_MALFORMED_ACTION = 0) ∧
    (let d := base.setPipe 15 { Pipe.init with learned := [notice0] }
     let l := Learn.ofNat notice0
     d.dieRuns = true ∧ d.gated 15 = false ∧ (d.pipe 15).learned = [notice0] ∧ l.kind ≠ 4 ∧ l2Versions d.tabs 15 l.mac l.vlan = [] ∧
     (d.l2Take 15 l.mac l.vlan).isSome = true) := by decide +kernel

/-- A slot with an entry in the write buffer. -/
def buffered : Dev := { base with roll := { base.roll with wb := [{ slot := 5, data := 7, issued := true }] } }

/-- A device whose channels serve. -/
def serving : Dev := (List.range 16).foldl (fun d c => d.wr (M.MEMCH_STATE c) 2) base

/-- A read of slot 5 by pipe 15 that is outstanding. -/
def reading : Dev := (serving.setPipe 15 { Pipe.init with reads := [5] }).setLine (base.setOf 5 * 16)
  (some { slot := 5, data := 0, dirty := false, pending := true, referenced := false, updated := 0 })

theorem test_meets_SlotHasOneCurrentValue :
    (writeSlot BellSt.init base 5 7).isSome = true ∧ (writeSlot BellSt.init reading 5 7).isSome = true ∧
    (buffered.findLine 5 = none ∧ buffered.lateData 5 = none ∧
      (buffered.roll.wb.filter (fun x => x.slot == 5)).getLast? = some { slot := 5, data := 7, issued := true }) ∧
    (base.findLine 5 = none ∧ base.lateData 5 = none ∧ ∀ l ∈ base.roll.wb, l.slot ≠ 5) := by decide +kernel

theorem test_meets_RollReadsAndWrites :
    (let d := (base.wr (M.MEMCH_STATE 1) 2).setPipe 15 { Pipe.init with missQueue := [5], unitsUsed := 149 }
     d.dieRuns = true ∧ (d.pipe 15).missQueue = [5] ∧ 5 < askSlot 0 ∧ d.findLine 5 = none ∧ d.buffered 5 = false ∧ d.remoteRead 15 5 = false ∧ (d.pipe 15).unitsUsed + d.readUnits 5 ≤ 150 ∧ d.readable 5 = true ∧
     (∀ x ∈ d.descs, x.hdr.port < 256) ∧ (List.range 16).find? (fun w => (d.line (d.setOf 5 * 16 + w)).isNone) = some 0) ∧
    (reading.dieRuns = true ∧ (reading.pipe 15).reads.contains 5 = true ∧ reading.buddy.awaiting.any (fun a => a.2 == some 5) = false ∧
      reading.readable 5 = true ∧ reading.buffered 5 = false ∧ (reading.findLine 5).any (fun p => p.2.pending) = true ∧ recTwoSlots (reading.stored 5) = false ∧
      (∀ x ∈ reading.descs, x.wait ≠ .fetch 5) ∧ (∀ c, c < 16 → reading.chServes c = true) ∧
      ((reading.channel (reading.placeOf 5).1).oldest (reading.placeOf 5).2 = none ∧
        (reading.channel (reading.placeOf 5).1).badReads.contains (0, (reading.placeOf 5).2) = false) ∧
      (let q := { MemReq.new 0 (reading.placeOf 5).2 false true 0 with issued := true }
       let d := reading.setChannel (reading.placeOf 5).1 { Channel.init with reqs := [q] }
       (d.channel (d.placeOf 5).1).oldest (d.placeOf 5).2 = some q ∧ q.port = 0 ∧ q.write = false ∧ q.corrective = false ∧ q.issued = true)) ∧
    (buffered.dieRuns = true ∧ buffered.roll.wb = [{ slot := 5, data := 7, issued := true }] ∧
      (buffered.channel (buffered.placeOf 5).1).oldest (buffered.placeOf 5).2 = none) ∧
    Passes base (host 1) M.ROLL_PROBE := by unfold Passes; decide +kernel

/-- Two packets of one flow. -/
def leader : Desc := { desc0 with key := some ⟨false, 6, 1, 2, 3, 4⟩, wait := .fetch 5 }
def follower : Desc := { leader with id := 2, wait := .hold 1 }

theorem test_meets_WaitingPacketsGoOn :
    (base.dieRuns = true ∧ base.roll.late = [] ∧ base.roll.rebuild = [] ∧ (writeSlot running base 5 7).isSome = true ∧ base.descs = []) ∧
    { base with descs := [desc0] }.descs.find? (fun (x : Desc) => x.pipe == 15 && x.wait == Wait.place) = some desc0 ∧
    { base with descs := [follower] }.descs.find? (fun (x : Desc) => x.pipe == 15 && { base with descs := [follower] }.mayRelease x) = some follower ∧
    ({ base with descs := [follower] }.ahead follower).isNone = true ∧ ({ base with descs := [leader, follower] }.ahead follower).isSome = true ∧
    ∀ x ∈ ({ base with descs := [] } : Dev).descs, x.pipe = 15 → (base.ahead x).isSome = true ∨ x.stage = 7 ∧ base.hitsPending x = true := by
  decide +kernel

/-! ## Tutors and tasks -/

/-- The fields of a word. -/
def word (seq cond target sys reg alu dst a b mem data addr : Nat) : Nat :=
  seq * 2 ^ 188 + cond * 2 ^ 184 + target * 2 ^ 169 + sys * 2 ^ 165 + reg * 2 ^ 160 + alu * 2 ^ 154 + dst * 2 ^ 149 + a * 2 ^ 144 + b * 2 ^ 139 +
    3 * 2 ^ 136 + mem * 2 ^ 131 + data * 2 ^ 126 + addr * 2 ^ 121

/-- A task of tutor 63 with a packet, a record and an endpoint. -/
def task0 : TaskRec := { TaskRec.new 15 20 0 with slot := 8191, state := .running 63, desc := some 1, recSlot := some 5, epIndex := some 6 }

/-- A task with nothing but itself. -/
def alone : TaskRec := { TaskRec.new 15 20 0 with slot := 8191, state := .running 63 }

/-- Tutor 63 at address 32766. -/
def tutor0 : Tutor := { Tutor.init with task := some 8191, pc := 32766, stack := [5] }

/-- An image with one word at address 32766. -/
def image0 (w : Nat) : Image := { minor := 2, version := 1, words := 32768, entry := List.replicate 64 32766, store := [(32766, w)], native := false }

/-- Tutor 63 runs a task at a word. -/
def running63 (x : Tutor) (t : TaskRec) (w : Nat) : Dev :=
  { base with descs := [{ desc0 with wait := .task 8191 }], tutors := { base.tutors with tutors := [(63, x)], tasks := [t], image := some (image0 w) } }

/-- What makes tutor 63 issue a word. -/
theorem issues_of (d : Dev) (w next : Nat) (t : TaskRec) (im : Image)
    (h : d.dieRuns = true ∧ d.asleep = false ∧ d.running 63 = some t ∧ d.tutors.image = some im ∧ im.native = false ∧ (d.tutor 63).issues = true ∧
      d.tutors.storeBad.contains (clusterOf 63 * 32768 + (d.tutor 63).pc) = false ∧ d.storeWord (d.tutor 63).pc = (true, w) ∧
      (d.tutor 63).stalls w = false ∧ wordTrap d t im.minor true (d.tutor 63) w = none ∧ nextAddr (d.tutor 63) w = .inl next) : Issues d 63 w next :=
  ⟨h.1, h.2.1, t, im, h.2.2⟩

/-- The same as one truth value. -/
def issuesB (x : Tutor) (t : TaskRec) (w next : Nat) : Bool :=
  let d := running63 x t w
  decide (d.dieRuns = true ∧ d.asleep = false ∧ d.running 63 = some t ∧ (image0 w).native = false ∧ (d.tutor 63).issues = true ∧
      d.tutors.storeBad.contains (clusterOf 63 * 32768 + (d.tutor 63).pc) = false ∧ d.storeWord (d.tutor 63).pc = (true, w) ∧
      (d.tutor 63).stalls w = false ∧ wordTrap d t (image0 w).minor true (d.tutor 63) w = none ∧ nextAddr (d.tutor 63) w = .inl next)

theorem issues_ofB {x : Tutor} {t : TaskRec} {w next : Nat} (h : issuesB x t w next = true) : Issues (running63 x t w) 63 w next := by
  have h := of_decide_eq_true h
  exact ⟨h.1, h.2.1, t, image0 w, h.2.2.1, rfl, h.2.2.2⟩

/-- The word with one ALU operation. -/
def aluWord (op : Nat) : Nat := word 0 0 0 0 0 op 30 1 2 0 0 0
def seqWord (op : Nat) : Nat := word op 0 32767 0 0 0 0 0 0 0 0 0
def memWord (op : Nat) : Nat := word 0 0 0 0 0 0 0 0 0 op 1 2
def sysWord (op : Nat) : Nat := word 0 0 0 op 1 0 0 0 0 0 0 0

theorem test_meets_AluWordsRun : ∀ op ∈ List.range 0x15,
    Issues (running63 tutor0 task0 (aluWord op)) 63 (aluWord op) 32767 ∧ OnlyAlu (aluWord op) ∧ wAlu (aluWord op) = op := by
  have h : (List.range 0x15).all (fun op => issuesB tutor0 task0 (aluWord op) 32767 && wMem (aluWord op) == 0 && wSys (aluWord op) == 0 &&
    wSeq (aluWord op) == 0 && wAlu (aluWord op) == op) = true := by decide +kernel
  intro op g
  have h := List.all_eq_true.1 h op g
  simp only [Bool.and_eq_true, beq_iff_eq] at h
  exact ⟨issues_ofB h.1.1.1.1, ⟨h.1.1.1.2, h.1.1.2, h.1.2⟩, h.2⟩

theorem test_meets_AluResultsAreExact : (64 ∈ [8, 16, 32, 64] ∧ 2 ^ 64 - 1 < 2 ^ 64 ∧ 0 < 2 ^ 64 ∧ 63 < 64 ∧ 2 ^ 64 - 1 ≠ 0) ∧
    (wAlu (aluWord 0x14) ∉ [0x00, 0x01, 0x02, 0x0C] ∧ wAlu (aluWord 0x0C) = 0x0C ∧ wDst (aluWord 0x14) ≠ 0 ∧ wDst (aluWord 0x14) ≠ 31 ∧
      (aluRun tutor0 (aluWord 0x14)).writes = true) := by decide +kernel

theorem test_meets_SequencerWordsRun :
    (∀ p ∈ [(0, 32767), (1, 32767), (2, 32767), (3, 5), (4, 32767), (5, 32767)],
      Issues (running63 tutor0 task0 (seqWord p.1)) 63 (seqWord p.1) p.2 ∧ OnlySeq (seqWord p.1) ∧ wSeq (seqWord p.1) = p.1) ∧
    (condHolds (wCond (seqWord 2)) tutor0 = true ∧ tutor0.stack = 5 :: []) ∧
    (Issues (running63 tutor0 alone (seqWord 6)) 63 (seqWord 6) 32766 ∧ OnlySeq (seqWord 6) ∧ wSeq (seqWord 6) = 6 ∧ tutor0.ops = [] ∧
      (running63 tutor0 alone (seqWord 6)).running 63 = some alone ∧ alone.recSlot = none ∧ alone.epIndex = none ∧ alone.desc = none ∧ alone.order = none ∧
      alone.host = none ∧ alone.cancelled = false ∧ (running63 tutor0 alone (seqWord 6)).services.natRelease = [] ∧
      ∀ x ∈ (running63 tutor0 alone (seqWord 6)).descs, x.wait ≠ .slot) := by
  have h : [(0, 32767), (1, 32767), (2, 32767), (3, 5), (4, 32767), (5, 32767)].all (fun (p : Nat × Nat) => issuesB tutor0 task0 (seqWord p.1) p.2 &&
    wAlu (seqWord p.1) == 0 && wMem (seqWord p.1) == 0 && wSys (seqWord p.1) == 0 && wSeq (seqWord p.1) == p.1) = true := by decide +kernel
  refine ⟨fun p g => ?_, by decide +kernel, issues_ofB (by decide +kernel), by unfold OnlySeq; decide +kernel, by decide +kernel⟩
  have h := List.all_eq_true.1 h p g
  simp only [Bool.and_eq_true, beq_iff_eq] at h
  exact ⟨issues_ofB h.1.1.1.1, ⟨h.1.1.1.2, h.1.1.2, h.1.2⟩, h.2⟩

/-- HV_READ is in range where the header vector's space holds a byte: its size is open. -/
theorem test_meets_MemoryWordsIssue :
    (∀ op ∈ [0x01, 0x02, 0x04, 0x05, 0x06, 0x07, 0x08, 0x09, 0x0A, 0x0B, 0x0C, 0x0D, 0x0E, 0x0F, 0x10, 0x11, 0x12, 0x13],
      Issues (running63 tutor0 task0 (memWord op)) 63 (memWord op) 32767 ∧ OnlyMem (memWord op) ∧ wMem (memWord op) = op) ∧
    (1 ≤ Config.hvBytes → Issues (running63 tutor0 task0 (memWord 3)) 63 (memWord 3) 32767 ∧ OnlyMem (memWord 3) ∧ wMem (memWord 3) = 3) := by
  have h : [0x01, 0x02, 0x04, 0x05, 0x06, 0x07, 0x08, 0x09, 0x0A, 0x0B, 0x0C, 0x0D, 0x0E, 0x0F, 0x10, 0x11, 0x12, 0x13].all (fun op =>
    issuesB tutor0 task0 (memWord op) 32767 && wSys (memWord op) == 0 && wSeq (memWord op) == 0 && wMem (memWord op) == op) = true := by decide +kernel
  refine ⟨fun op g => ?_, fun g => ⟨issues_of _ _ _ task0 (image0 (memWord 3)) ⟨by decide +kernel, by decide +kernel, by decide +kernel, rfl, by decide +kernel, by decide +kernel,
    by decide +kernel, by decide +kernel, by decide +kernel, ?_, by decide +kernel⟩, by unfold OnlyMem; decide +kernel, by decide +kernel⟩⟩
  · have h := List.all_eq_true.1 h op g
    simp only [Bool.and_eq_true, beq_iff_eq] at h
    exact ⟨issues_ofB h.1.1.1, ⟨h.1.1.2, h.1.2⟩, h.2⟩
  · have e : memOpOf (aluApply ((running63 tutor0 task0 (memWord 3)).tutor 63) (memWord 3)) (memWord 3) =
        { op := 3, reg := 1, addr := 0, width := 1, value := 0, age := 0 } := by decide +kernel
    have r : memRange (running63 tutor0 task0 (memWord 3)) task0 3 0 1 0 = false := by
      show (!(true && (decide (0 + 1 ≤ Config.hvBytes) && true))) = false
      simp [g]
    have n : nextAddr ((running63 tutor0 task0 (memWord 3)).tutor 63) (memWord 3) = .inl 32767 := by decide +kernel
    have l : wordLegal (image0 (memWord 3)).minor (memWord 3) = true := by decide +kernel
    have s : wSys (memWord 3) = 0 := by decide +kernel
    unfold wordTrap
    rw [n, l]
    dsimp only
    rw [e]
    dsimp only
    rw [r, s]
    rfl

/-- Tutor 63 with one operation outstanding. -/
def waiting63 (m : MemOp) : Tutor := { tutor0 with ops := [m] }
def op0 (op addr : Nat) : MemOp := { op, reg := 30, addr, width := 8, value := 7, age := 0 }

theorem test_meets_MemoryOperationsComplete :
    ([op0 1 8184, op0 2 8184, op0 0x0A 168296448, op0 8 (2 ^ 30 - 8), op0 9 (2 ^ 30 - 8), op0 5 120].all (fun m =>
      let d := running63 (waiting63 m) task0 0
      (d.tutor 63).ops == [m] && d.running 63 == some task0 && (d.tutor 63).due.isEmpty && !(d.tutor 63).double && d.dieRuns && (d.tutor 63).preempt.isNone && !(d.tutor 63).waiting &&
        m.reg != 0 && m.reg != 31)) = true ∧ 168296448 ≤ (op0 0x0A 168296448).addr ∧
    ([op0 0x0A 168296448, op0 9 (2 ^ 30 - 8)].all (fun m =>
      ((tdEnd running { (running63 (waiting63 m) task0 0) with reg := serving.reg } m .ok false).map (fun x => decide (x.1 = .ok))) == some true)) = true := by
  decide +kernel

theorem test_meets_SystemWordsRun :
    (Issues (running63 tutor0 alone (sysWord 1)) 63 (sysWord 1) 32766 ∧ OnlySys (sysWord 1) ∧ wSys (sysWord 1) = 1) ∧
    (∀ p ∈ [(2, 32767), (3, 32767), (4, 32766), (5, 32767), (6, 32767), (7, 32767), (8, 32767)],
      Issues (running63 tutor0 task0 (sysWord p.1)) 63 (sysWord p.1) p.2 ∧ OnlySys (sysWord p.1) ∧ wSys (sysWord p.1) = p.1) ∧
    tutor0.ops = [] ∧ tutor0.due = [] ∧ (running63 tutor0 task0 (sysWord 2)).taskRec (fld (tutor0.g 1) 13 5) (fld (tutor0.g 1) 0 13) = none ∧
    (wSysReg (sysWord 3) ≠ 0 ∧ wSysReg (sysWord 3) ≠ 31 ∧ (running63 tutor0 task0 (sysWord 3)).freeSlot (clusterOf 63) 10 = some 0) ∧
    tutor0.trapping = false ∧ (running63 tutor0 task0 (sysWord 8)).rings.events = [] := by
  have h : [(2, 32767), (3, 32767), (4, 32766), (5, 32767), (6, 32767), (7, 32767), (8, 32767)].all (fun (p : Nat × Nat) =>
    issuesB tutor0 task0 (sysWord p.1) p.2 && wAlu (sysWord p.1) == 0 && wMem (sysWord p.1) == 0 && wSeq (sysWord p.1) == 0 &&
      wSys (sysWord p.1) == p.1) = true := by decide +kernel
  refine ⟨⟨issues_ofB (by decide +kernel), by unfold OnlySys; decide +kernel, by decide +kernel⟩, fun p g => ?_, by decide +kernel⟩
  have h := List.all_eq_true.1 h p g
  simp only [Bool.and_eq_true, beq_iff_eq] at h
  exact ⟨issues_ofB h.1.1.1.1, ⟨h.1.1.1.2, h.1.1.2, h.1.2⟩, h.2⟩

theorem test_meets_TrapFrameRestoresTutor : 32767 < 2 ^ 15 ∧ (List.replicate 16 65535).length ≤ 16 ∧ ∀ p ∈ List.replicate 16 65535, p < 2 ^ 16 := by decide +kernel

/-- A ready task of level 7, and one that is saved in level 0. -/
def urgent : TaskRec := { TaskRec.new 15 20 7 with slot := 513 }
def saved0 : Saved :=
  { pc := 9, z := true, n := false, c := false, v := false, stack := [], regs := [], status := 1, slot := 8191, cycles := 0, trapping := false, due := [] }

/-- Cluster 15 with tasks, a ready queue and tutor 63. -/
def cluster (x : Tutor) (ts : List TaskRec) (ready : List Nat) : Dev :=
  { (base.wr (M.TUTOR_ENABLE 63) 1) with tutors := { base.tutors with tutors := [(63, x)], tasks := ts, ready, image := some (image0 0) } }

/-- A datagram of pipe 15 with a fragment that waits since lesson 0. -/
def gram0 : Datagram := { pipe := 15, src := 1, dst := 2, proto := 17, ident := 3, ports := none, count := 0, lastLesson := 0, waiting := [(8191, 0)] }

theorem test_meets_TasksAreScheduled :
    (let d := cluster Tutor.init [urgent] [urgent.handle]
     d.dieRuns = true ∧ d.asleep = false ∧ d.dispatchStopped = false ∧ d.readyHead 15 = some urgent ∧ (d.idleTutorFor urgent).isSome = true ∧ d.tutors.image = some (image0 0) ∧ urgent.cancelled = false) ∧
    (let d := { (cluster tutor0 [alone, urgent] [urgent.handle]) with
        reg := ((((base.wr (M.TUTOR_ENABLE 60) 0).wr (M.TUTOR_ENABLE 61) 0).wr (M.TUTOR_ENABLE 62) 0).wr (M.TUTOR_ENABLE 63) 1).reg }
     d.dieRuns = true ∧ d.asleep = false ∧ d.dispatchStopped = false ∧ d.readyHead 15 = some urgent ∧ d.idleTutorFor urgent = none ∧
     d.victimTutor 15 urgent.prio = some 63 ∧ d.running 63 = some alone ∧
     (d.tutor 63).ops = [] ∧ (d.tutor 63).waiting = false) ∧
    (let t := { alone with state := .preempted 63 }; let d := cluster { Tutor.init with levels := [(0, some saved0)] } [t] []
     d.dieRuns = true ∧ d.asleep = false ∧ (d.tutor 63).task = none ∧ d.preemptedOn 63 = some t ∧ d.readyHead (clusterOf 63) = none ∧
     SMap.get (fun _ => none) (d.tutor 63).levels t.prio = some saved0 ∧ t.cancelled = false ∧ saved0.due = [] ∧ { saved0 with trapping := true }.trapping = true ∧
     (d.tutor 63).double = false ∧ (d.tutor 63).preempt = none ∧
     (d.tutor 63).waiting = false) ∧
    (let t := { alone with state := .held 0 }; let d := cluster Tutor.init [t] []
     d.dieRuns = true ∧ d.tutors.tasks = [t] ∧ t.pipe = 15 ∧ t.state = .held 0 ∧ t.cancelled = false ∧ t.desc = none ∧ t.host = none ∧ d.services.natRelease = [] ∧ d.services.exportQueue = [] ∧
     ∀ x ∈ d.descs, x.wait ≠ .slot) ∧
    (gram0.pipe = 15 ∧ 64 ≤ lessonsSince running.lesson.toNat gram0.lastLesson) ∧
    (let t := task0
     let d := { running63 Tutor.init t 0 with tutors := { (running63 Tutor.init t 0).tutors with datagrams := [gram0] } }
     d.dieRuns = true ∧ d.taskRec 15 8191 = some t ∧ (d.taskDesc t).isSome = true ∧ t.state = .running 63 ∧ d.tutors.datagrams = [gram0] ∧ gram0.pipe = 15 ∧ gram0.ports = none ∧
     gram0.waiting = [(8191, 0)] ∧ 2 ≤ lessonsSince running.lesson.toNat 0) := by decide +kernel

theorem test_meets_TutorsTrapAndHang :
    (tutor0.task.isSome = true ∧ tutor0.budget = false ∧ tutor0.due = [] ∧ tutor0.double = false ∧ tutor0.ops = [] ∧ tutor0.waiting = false ∧ tutor0.trapping = false) ∧
    { tutor0 with masked := true }.masked = true ∧
    (let d := running63 { tutor0 with budget := true } alone 0
     d.dieRuns = true ∧ (d.tutor 63).task.isSome = true ∧ (d.tutor 63).budget = true ∧ d.tutors.tasks = [alone] ∧ alone.state = .running 63 ∧ alone.reissue = 0) := by decide +kernel

/-- An image of 16 words in host memory. -/
def imageDev : Dev :=
  let d := (base.wr M.TUTOR_IMAGE_SOURCE 2).wr M.TUTOR_IMAGE_LEN 704
  { d with memories := { d.memories with host := [(0, 0x47), (1, 0x54), (2, 0x55), (3, 0x54), (4, 1), (6, 1), (7, 2), (12, 16)] },
           tutors := { d.tutors with load := .checking } }

/-- An image is accepted where the part takes it under the key of slot 0 and its signature verifies: both are the part's. -/
theorem test_meets_TutorImagesLoad :
    (Passes base (host 1) M.TUTOR_IMAGE_LOAD ∧ base.tutors.load = .idle ∧ base.start.state = .ready) ∧
    (imageDev.dieRuns = true ∧ imageDev.tutors.load = .checking ∧ (Config.keyPolicyCustomerOnly = false →
      imageSigOk 0 imageDev.imageBytes.2 = true → imageStatus imageDev.imageBytes.2 = St.OK)) ∧
    (let d := imageDev.wr M.TUTOR_IMAGE_LEN 0; d.tutors.load = .checking ∧ imageStatus d.imageBytes.2 ≠ St.OK) ∧
    { base.tutors with load := .stopping }.load = .stopping ∧
    (Passes base (host 1) (M.TUTOR_ENABLE 63) ∧ storedValue (M.TUTOR_ENABLE 63) (host 1).val = 1) := by
  refine ⟨by unfold Passes; decide +kernel, ⟨by decide +kernel, rfl, fun h g => ?_⟩, by decide +kernel, rfl, by unfold Passes; decide +kernel⟩
  have f : imageFormatOk imageDev.imageBytes.2 = true := by decide +kernel
  have s : byteAt imageDev.imageBytes.2 8 = 0 := by decide +kernel
  have a : byteAt imageDev.imageBytes.2 6 = 1 ∧ byteAt imageDev.imageBytes.2 7 = 2 := by decide +kernel
  unfold imageStatus
  rw [f, s, a.1, a.2, h]
  simp [g]

/-! ## Pools, memory channels, rings and windows -/

theorem test_meets_PoolsGrantAndFree :
    (Passes base (host 1) M.POOL_HOST_ALLOC ∧ base.pools.hostAlloc = none) ∧ (Passes base (host 1) M.POOL_HOST_FREE ∧ base.pools.hostFree = none) ∧
    { base.pools with hostAlloc := some 1 }.hostAlloc.isSome = true ∧
    ([1, 1024, 1025, 65536].all (fun size =>
      let d := { ((base.wr (M.POOL_SHARE 1) 2).wr (M.POOL_SHARE 2) 2).wr (M.POOL_SHARE 4) 2 with pools := { base.pools with hostAlloc := some size } }
      d.pools.hostAlloc == some size && d.pools.hostFree.isNone && decide (1 ≤ size) && decide (size ≤ 65536) &&
        !d.pools.resizing.contains (poolFor size) &&
        (d.findFree (poolFor size) (if poolFor size = 3 then 16 else 0) (d.poolCount (poolFor size))).isSome)) = true ∧
    (65536 < 65537 ∧ (base.findFree 3 16 32).isSome = true) ∧
    base.dieRuns = true ∧
    (let d := { base with pools := { base.pools with hostFree := some (3 * 2 ^ 61 + 16 * poolBytes 3) } }.grant 3 16 0x20
     d.pools.hostAlloc = none ∧ d.pools.hostFree = some (3 * 2 ^ 61 + 16 * poolBytes 3) ∧ 16 < d.poolCount 3 ∧ 16 * poolBytes 3 < 2 ^ 40 ∧
     d.pools.quarantined.contains (bufKey 3 16) = false ∧ d.buf 3 16 = (0x20, 1)) := by
  unfold Passes; decide +kernel

/-- A read of unit 7 of channel 15, and the channel with it. -/
def read7 : MemReq := ask 5 1 0 true
def chan (issued : Bool) (state : Nat) : Dev :=
  (base.wr (M.MEMCH_STATE 15) state).setChannel 15 { Channel.init with reqs := [{ read7 with issued }] }

theorem test_meets_MemoryRequestsIssueAndComplete :
    (pickRoll base { Channel.init with reqs := [read7] } [1] 5 = some read7 ∧ pickBulk base { Channel.init with reqs := [read7] } [1] 5 = some read7) ∧
    ((chan false 2).dieRuns = true ∧ (chan false 2).chServes 15 = true ∧
      (if (chan false 2).on (M.MEMCH_CLASS 15) then pickBulk (chan false 2) ((chan false 2).channel 15) [1] 5
        else pickRoll (chan false 2) ((chan false 2).channel 15) [1] 5) = some read7) ∧
    ((chan true 2).dieRuns = true ∧ (chan true 2).roll.reads.all (fun x => decide ((chan true 2).slotPlace x.slot ≠ (15, 4))) = true ∧
      (∀ p, p < 16 → ((chan true 2).pipe p).reads = []) ∧ ((chan true 2).channel 15).oldest 4 = some { read7 with issued := true } ∧
      read7.write = false ∧ read7.port ≠ 3 ∧ (chan true 2).chServes 15 = true ∧ read7.found ⟨[], []⟩ = (.clean, .clean) ∧
      read7.found ⟨[(0, 0)], []⟩ = (.symbol 0 1, .clean) ∧ read7.found ⟨[(0, 0), (1, 0)], []⟩ = (.uncorrectable, .clean) ∧ read7.overtaken = false ∧
      { read7 with overtaken := true }.overtaken = true) ∧
    ({ read7 with issued := true } ∈ ((chan true 2).channel 15).reqs ∧ 65536 ≤ ((65536 - 1024 : Nat) + 1024 + 2 ^ 32 - read7.issuedAt % 2 ^ 32) % 2 ^ 32 ∧
      (0 + 1024 + 2 ^ 32 - read7.issuedAt % 2 ^ 32) % 2 ^ 32 < 65536) ∧
    (((chan true 2).wr (M.MEMCH_FAIL_LIMIT 15) 0).rd (M.MEMCH_FAIL_LIMIT 15) < ((chan true 2).channel 15).failures + 1 ∧
      ((chan true 2).channel 15).failures + 1 ≤ ((chan true 2).wr (M.MEMCH_FAIL_LIMIT 15) 1).rd (M.MEMCH_FAIL_LIMIT 15)) := by decide +kernel

theorem test_meets_MemoryChannelsChangeState :
    ((base.channel 15).reqs.any (fun q => unitBank q.unit == 1) = false ∧ ((chan false 2).channel 15).reqs.any (fun q => unitBank q.unit == 1) = true) ∧
    (let d := (base.wr (M.MEMCH_STATE 15) 2).wr (M.MEMCH_CLASS 15) 1
     d.dieRuns = true ∧ d.on (M.MEMCH_CLASS 15) = true ∧ d.rd (M.MEMCH_STATE 15) = 2 ∧ (d.channel 15).idle = true ∧ d.start.zeroing = false ∧
     d.rd (M.MEMCH_SR_IDLE 15) ≤ (d.rd (M.MEMCH_SR_IDLE 15) + 2 ^ 32 - (d.channel 15).lastReq % 2 ^ 32) % 2 ^ 32) ∧
    ((base.wr (M.MEMCH_STATE 15) 4).rd (M.MEMCH_STATE 15) ≠ 2 ∧ (base.wr (M.MEMCH_CLASS 15) 0).on (M.MEMCH_CLASS 15) = false ∧
      ((chan false 2).channel 15).idle = false ∧ { base.start with zeroing := true }.zeroing = true) ∧
    ((base.channel 15).zqLesson = none ∧ (63 + 2 ^ 24 - 0 % 2 ^ 24) % 2 ^ 24 < 64 ∧ { Channel.init with zqLesson := some 0 }.zqLesson = some 0 ∧
      64 ≤ (64 + 2 ^ 24 - 0 % 2 ^ 24) % 2 ^ 24) ∧
    (let d := base.wr (M.MEMCH_STATE 15) 4; Passes d (host 1) (M.MEMCH_RETRAIN 15) ∧ d.rd (M.MEMCH_STATE 15) = 4) ∧
    (let d := base.wr (M.MEMCH_STATE 15) 2; Passes d (host 1) (M.MEMCH_RETRAIN 15) ∧ d.rd (M.MEMCH_STATE 15) ≠ 4) ∧
    ((base.wr (M.MEMCH_STATE 15) 1).rd (M.MEMCH_STATE 15) = 1 ∧ train0.code = 0 ∧ { train0 with code := 65535 }.code ≠ 0) := by
  unfold Passes; decide +kernel

/-- An entry of an operation at index 65535. -/
def entry0 (op : Nat) (rest : Bytes) : REntry :=
  { index := 65535, positions := 1, bytes := fit 16 (toLE 8 (op * 2 ^ 24)) ++ rest, started := false, fin := none }

/-- Ring `r` enabled, with entries. -/
def ringed (r : Nat) (es : List REntry) : Dev :=
  ((linked.wr (M.RING_STATE r) 1).wr (M.RING_SIZE r) 64).setRing r { Ring.empty with entries := es }

theorem test_meets_RingDoorbellsAndPushes :
    (base.rd (M.RING_STATE 0) ≠ 1 ∧ 256 ≤ 256 ∧ 4 ≠ 0 ∧ (toLE 2 0).length ≠ 4) ∧
    ((ringed 240 []).dieRuns = true ∧ (ringed 240 []).rd (M.RING_STATE 240) = 1 ∧ (ringed 255 []).rd (M.RING_STATE 255) = 1 ∧ (toLE 4 1).length = 4) ∧
    ((ringed 239 []).dieRuns = true ∧ (ringed 239 []).rd (M.RING_STATE 239) = 1 ∧ ((ringed 239 []).ring 239).fetch < 65536 ∧ (ringed 239 []).taskStalled 239 = false) ∧
    ((List.replicate 64 (0 : Byte)).length = 64 ∧ ((ringed 239 []).ring 239).pushes.length < 8) ∧
    (let d := (ringed 239 []).setRing 239 { Ring.empty with pushes := List.replicate 8 (0, []) }
     d.rd (M.RING_STATE 239) = 1 ∧ 8 ≤ (d.ring 239).pushes.length) := by decide +kernel

/-- TX_FRAME of a 60-byte buffer to port 255, and one of 59 bytes. -/
def sends (n : Nat) : REntry := entry0 0x01 (toLE 16 (255 * 2 ^ 16)) |> fun e => { e with bytes := patch e.bytes 4 (toLE 2 n) }

/-- TX_SEG with a header of `n` bytes and an MSS. -/
def segs (n mss : Nat) : REntry := entry0 0x02 (toLE 16 (mss * 2 ^ 48 + 5000 * 2 ^ 28 + 255 * 2 ^ 16)) |> fun e => { e with bytes := patch e.bytes 4 (toLE 2 n) }

/-- Headers of an IPv4 TCP segment. -/
def tcpHeader : Bytes := fit 12 [] ++ toBE 2 0x0800 ++ patch (fit 20 [0x45]) 9 [6] ++ patch (fit 20 []) 12 [0x50]

theorem test_meets_RingEntriesStart :
    (base.nextEntry 0 0 = none ∧ base.nextEntry 0 0x10 = none ∧ base.nextEntry 0 1 = none ∧ base.nextEntry 0 2 = none ∧ base.nextEntry 0 3 = none ∧
      65535 < 65536) ∧
    ((ringed 2 [entry0 0 []]).dieRuns = true ∧ (ringed 2 [entry0 0 []]).nextEntry 2 0 = some (entry0 0 []) ∧ (ringed 120 [entry0 0x10 []]).nextEntry 120 0x10 = some (entry0 0x10 [])) ∧
    (let s := with_ running (ringed 2 [sends 59])
     s.dev.nextEntry 2 1 = some (sends 59) ∧ s.dev.pins.ready = true ∧ s.dev.segBusy 2 = false ∧ txLength (sends 59).bytes < 60) ∧
    (let s := with_ running (ringed 2 [sends 60]); let e := sends 60
     let f : Frame := { bytes := fit 60 [], port := 255, cls := 0, rxNs := 0, cells := 1, limited := false, lossless := false, source := 1, held := [], bad := [] }
     s.dev.nextEntry 2 1 = some e ∧ s.dev.pins.ready = true ∧ s.dev.segBusy 2 = false ∧ bitOf (posAt e.bytes 1) 12 = false ∧ 60 ≤ txLength e.bytes ∧
     txLength e.bytes + 4 ≤ s.dev.rd (M.PORT_MAX_FRAME (fld (posAt e.bytes 1) 16 8)) ∧ fld (posAt e.bytes 1) 16 8 = 255 ∧ fld (posAt e.bytes 1) 13 3 = 0 ∧
     bitOf (posAt e.bytes 1) 11 = false ∧ cellsOf 64 = 1 ∧ ptpPlace (fit 60 []) = none ∧ (takeCells s.bell s.dev f).1 = some 0 ∧
     (enqueue s.bell (takeCells s.bell s.dev f).2.2 f (copyOf 0 f (fit 60 []) 255 0 false none) none false).1 = .queued) ∧
    (let d := ringed 2 [segs 54 1460]; let e := segs 54 1460
     d.nextEntry 2 2 = some e ∧ d.pins.ready = true ∧ pos0BufLen e.bytes = 54 ∧ segHeaderOk (fit 54 tcpHeader) = true ∧ fld (posAt e.bytes 1) 48 16 ≠ 0 ∧
     54 + fld (posAt e.bytes 1) 48 16 + 4 ≤ d.rd (M.PORT_MAX_FRAME (fld (posAt e.bytes 1) 16 8))) ∧
    (let d := ringed 2 [segs 54 0]; let v := posAt (segs 54 0).bytes 1
     d.nextEntry 2 2 = some (segs 54 0) ∧ pos0BufLen (segs 54 0).bytes = 54 ∧ fld v 48 16 = 0 ∧
     (let e := segs 54 10000; (ringed 2 [e]).nextEntry 2 2 = some e ∧
       (ringed 2 [e]).rd (M.PORT_MAX_FRAME (fld (posAt e.bytes 1) 16 8)) < 54 + fld (posAt e.bytes 1) 48 16 + 4)) ∧
    (let d := ringed 2 [segs 257 1460]
     d.nextEntry 2 2 = some (segs 257 1460) ∧ 256 < pos0BufLen (segs 257 1460).bytes) ∧
    (let e := entry0 0x03 (fit 32 []); let s := with_ running (ringed 2 [e])
     s.dev.nextEntry 2 3 = some e ∧ s.dev.gated (pos0Addr e.bytes % 16) = false ∧
     (makeReady s.bell s.dev { TaskRec.new (pos0Addr e.bytes % 16) 9 (fld (pos0Addr e.bytes) 8 3) with
       word := slice e.bytes 16 32, host := some (2, e.index) }).1.isSome = true) ∧
    (let e := entry0 0x03 (fit 32 []); let d := (ringed 2 [e]).wr M.PIPE_GATE_ACTIVE 1
     d.nextEntry 2 3 = some e ∧ d.gated (pos0Addr e.bytes % 16) = true) := by decide +kernel

/-- An event ring with its producer at a position. -/
def events0 (prod : Nat) : Dev :=
  let d := (((ringed 240 []).wr (M.RING_EVENT_MASK 240) 7).wr (M.RING_PROD 240) prod).wr (M.RING_CONS 240) prod
  { d with rings := { d.rings with events := [{ code := 1, period := 0, ns := 0, object := 0, detail := 0, repeats := 0 }] } }

theorem test_meets_RingEntriesCompleteInOrder :
    (let e := { entry0 0 [] with fin := some (St.OK, []) }
     (ringed 255 [e]).dieRuns = true ∧ ((ringed 255 [e]).ring 255).entries = [e] ∧ e.fin = some (St.OK, [])) ∧
    (((ringed 2 [entry0 0 []]).ring 2).entries.head?.bind (fun e => e.fin)) = none ∧
    ([0, 62, 63, 65535].all (fun p => let d := events0 p
      d.dieRuns && d.eventRing 0 == some 240 && decide (2 + b2n (d.rd (M.RING_PROD 240) % d.ringSize 240 + 2 > d.ringSize 240) ≤ d.eventRoom 240))) = true ∧
    (base.rings.events = [] ∧ base.eventRing 0 = none) ∧
    (let x := { Ring.empty with irqLimit := 1, irqNow := true, irqCount := 1, irqTimer := true, vector := 7 }
     x.irqLimit ≠ 0 ∧ x.irqNow = true ∧ x.irqCount ≠ 0 ∧ x.irqLimit ≤ x.irqCount ∧ x.irqTimer = true ∧ x.vector ∉ base.rings.unmasked ∧
     (∀ p ∈ base.rings.pendingVec, p.1 ≠ x.vector) ∧ x.vector ∈ { base.rings with unmasked := [7] }.unmasked) ∧
    ({ Ring.empty with irqLimit := 0 }.irqLimit = 0 ∧ (base.ring 255).irqNow = false ∧ (base.ring 255).irqCount = 0 ∧
      (base.ring 255).irqTimer = false) := by decide +kernel

/-- Ring 255 as it may be enabled. -/
def ringReady : Dev := (base.wr (M.RING_SIZE 255) 32768).wr (M.RING_FORMAT 255) 1

theorem test_meets_RingsEnableDisableFault :
    (Admits ringReady (host 1) (M.RING_ENABLE 255) ∧ storedValue (M.RING_ENABLE 255) (host 1).val = 1 ∧ ringReady.ringEnableStatus 255 = St.OK ∧
      (ringReady.wr (M.RING_SIZE 255) 63).ringEnableStatus 255 ≠ St.OK) ∧
    (let d := ringReady.wr (M.RING_STATE 255) 1
     Admits d (host 0) (M.RING_ENABLE 255) ∧ storedValue (M.RING_ENABLE 255) (host 0).val = 0 ∧ d.rd (M.RING_STATE 255) = 1) ∧
    (let d := ringReady.wr (M.RING_STATE 255) 3; Admits d (host 0) (M.RING_ENABLE 255) ∧ d.rd (M.RING_STATE 255) = 3) ∧
    ((ringReady.wr (M.RING_STATE 255) 2).dieRuns = true ∧ (ringReady.wr (M.RING_STATE 255) 2).rd (M.RING_STATE 255) = 2 ∧ (ringReady.ring 255).entries = []) ∧
    (ringReady.rd (M.RING_STATE 255) ≠ 2 ∧ ((ringed 2 [entry0 0 []]).ring 2).entries ≠ [] ∧ ringReady.rd (M.RING_STATE 255) ≠ 1) := by
  unfold Admits; decide +kernel

/-- Window 0 on the host region. -/
def window0 : Dev := (serving.wr (M.WIN_REGION 0) 1).wr M.HOST_REGION_BYTES 64

theorem test_meets_WindowsReadAndWriteRegions :
    (window0.dieRuns = true ∧ (0x0C000000 : Nat) ≤ 0x0C000000 ∧ 0x0C000000 / 2 ^ 32 ≠ 4 ∧ 0x0C000000 / 2 ^ 32 ≠ 2 ∧ (4 * 2 ^ 32) / 2 ^ 32 = 4 ∧
      (0x0C000000 ≤ 2 * 2 ^ 32 ∧ (2 * 2 ^ 32) / 2 ^ 32 = 2) ∧ window0.bar0Closed = false ∧
      { window0 with start := { window0.start with state := .starting }, pins := { window0.pins with ready := false } }.bar0Closed = true) ∧
    (let us := window0.winUnits 0x0C000000 64; let os := [MemOutcome.uncorrectable]
     us.length = 1 ∧ (∀ p ∈ us, window0.unitOutcome us os p ≠ .unavailable) ∧ (∀ p ∈ us, window0.unitOutcome us os p = .uncorrectable) ∧
     (∀ p ∈ us, window0.unitOutcome us [] p = .ok) ∧ (∀ p ∈ us, window0.chServes p.1 = true ∧ window0.winPart 0x0C000000 64 p = false) ∧
     (∀ p ∈ us, window0.winPart 0x0C000000 4 p = true)) ∧
    window0.start.pcieUp = true ∧ ({ base.start with pcieUp := false } : Start).pcieUp = false ∧
    (window0.winInside (0x0C000000 + 60) [(1 : Byte), 2, 3, 4].length = true ∧
      (0x0C000000 + 60) / 2 ^ 24 = (0x0C000000 + 60 + [(1 : Byte), 2, 3, 4].length - 1) / 2 ^ 24 ∧
      (window0.winPlace (0x0C000000 + 60)).isSome = true) ∧
    window0.winInside (0x0C000000 + 61) [(1 : Byte), 2, 3, 4].length = false ∧
    ((0x00100068 : Nat) < 0x0A000000 ∧ placeOf 0x00100068 = .member M.CNT_TBL_BUSY_WRITE 0 ∧
      (findMember M.CNT_TBL_BUSY_WRITE).any (fun m => m.k == .r) = true ∧ window0.gate (M.CNT_TBL_BUSY_WRITE / 2 ^ 24) = false) := by decide +kernel

/-! ## Checks, time, observation and Buddy -/

/-- Context 7 with a job of one byte. -/
def chk7 : Dev := ((base.wr (M.CHK_WIDTH 7) 64).wr (M.CHK_LENGTH 7) 1).wr (M.CHK_START_ADDR 7) 4095

theorem test_meets_CheckJobsRunToTheirResult :
    (Passes chk7 (host 1) (M.CHK_RUN 7) ∧ Passes chk7 (host 1) (M.CHK_CONTINUE 7) ∧ chk7.chkState 7 = 0 ∧ chkSettingsOk chk7 7 = true ∧
      chk7.rd (M.CHK_START_ADDR 7) + chk7.rd (M.CHK_LENGTH 7) ≤ chkSpaceSize chk7 7 ∧ chk7.rd (M.CHK_LENGTH 7) ≠ 0) ∧
    (chkSpaceSize chk7 7 < (chk7.wr (M.CHK_LENGTH 7) 2).rd (M.CHK_START_ADDR 7) + (chk7.wr (M.CHK_LENGTH 7) 2).rd (M.CHK_LENGTH 7) ∧
      chkSettingsOk (chk7.wr (M.CHK_WIDTH 7) 7) 7 = false) ∧
    (Passes (chk7.setChk 7 1) (host 1) (M.CHK_RUN 7) ∧ (chk7.setChk 7 1).chkState 7 ≠ 0) ∧ Passes chk7 (host 1) (M.CHK_ABORT 7) ∧
    (chk7.dieRuns = true ∧ (chk7.setChk 7 1).chkState 7 = 1 ∧ (chk7.setChk 7 2).chkState 7 = 2) ∧
    (let d := chk7.wr (M.CHK_LENGTH 7) 100; let e := d.wr (M.CHK_START_ADDR 7) 64
     chkFed e 7 70 < e.rd (M.CHK_LENGTH 7) ∧ chkFed e 7 70 ≠ 0) := by
  unfold Passes; decide +kernel

theorem test_meets_TimeInputsAndPps :
    Admits base (host 0) M.TIME_OFFSET_IN ∧ Passes base (host 5) M.TIME_STEP ∧ Passes base (host 1) M.TIME_SERVO_RESET ∧
    Admits base (host 999999999) M.TIME_ANCHOR_NS ∧
    (let d := (base.wr M.TIME_SERVO_STATE 1).wr M.TIME_HOLDOVER_LESSONS 8388607
     d.dieRuns = true ∧ d.rd M.TIME_SERVO_STATE = 1 ∧
     (let late := { running with lesson := 8388607 }
      d.rd M.TIME_HOLDOVER_LESSONS ≤ (late.lesson.toNat + 2 ^ 24 - d.time.lastStep % 2 ^ 24) % 2 ^ 24 ∧
      (late.lesson.toNat + 2 ^ 24 - d.time.lastStep % 2 ^ 24) % 2 ^ 24 < 2 ^ 23)) ∧
    (base.rd M.TIME_SERVO_STATE ≠ 1 ∧ base.rd M.TIME_SERVO_STATE ≠ 2) ∧
    (let d := base.wr M.TIME_PPS_OUT_ENABLE 1
     d.on M.TIME_PPS_OUT_ENABLE = true ∧ ((d.ptpNs 1000000000 : Int) - d.rdS 32 M.TIME_PPS_OUT_OFFSET) % 10 ^ 9 = 0) ∧
    (base.rd M.TIME_PPS_OUT_WIDTH + 2 ^ 32 - base.time.ppsRise % 2 ^ 32) % 2 ^ 32 = base.rd M.TIME_PPS_OUT_WIDTH ∧ 2 ^ 32 - 1 < 2 ^ 32 := by
  unfold Admits Passes; decide +kernel

/-- A message of 16 bytes waits. -/
def exporting : Dev :=
  { ((base.wr M.EXPORT_MODE 2).wr M.EXPORT_HOST_RING 239) with
    services := { base.services with exportPending := [(3, [0, 10, 0, 16, 0, 0, 0, 0, 0, 0, 0, 0, 0, 0, 0, 0])] } }

theorem test_meets_TagsSnapshotsAndExport :
    (0 < 2 ^ 32 - 1 ∧ 2 ^ 32 - 1 < 2 ^ 32) ∧ Admits base (host 0) (M.PERF_TAG_SEED 15) ∧ Admits base (host 1) (M.PERF_TAG_MODE 15) ∧
    Admits base (host 1) M.PERF_SNAP_ENABLE ∧ Admits base (host 999) M.EXPORT_NS ∧
    (exporting.dieRuns = true ∧ 512 ≤ exporting.rd M.EXPORT_MSG_BYTES ∧ exporting.exportRingUsed + 1024 ≤ exportRingBytes exporting.palette ∧
      exporting.pins.ready = true ∧ exporting.rd M.EXPORT_TEMPLATE_INTERVAL ≤ lessonsSince running.lesson.toNat exporting.services.templateLesson ∧
      exporting.rd M.EXPORT_MODE ≠ 0) ∧
    (base.rd M.EXPORT_MODE = 0 ∧ base.services.exportPending = []) ∧
    (exporting.services.exportPending = (3, [0, 10, 0, 16, 0, 0, 0, 0, 0, 0, 0, 0, 0, 0, 0, 0]) :: [] ∧
      beAt [0, 10, 0, 16, 0, 0, 0, 0, 0, 0, 0, 0, 0, 0, 0, 0] 2 2 ≤ 16 ∧ exporting.rd M.EXPORT_MODE = 2 ∧ exporting.services.exportQueue = [] ∧
      exporting.rd (M.RING_STATE (exporting.rd M.EXPORT_HOST_RING)) ≠ 1 ∧ exporting.rd M.EXPORT_HOST_RING < 256) := by
  unfold Admits; decide +kernel

/-- A Walger frame from VERSION on. -/
def walger (type flags part period ack count : Nat) (payload : Bytes) : Bytes :=
  [2, toByte type, toByte flags, toByte part] ++ toBE 4 period ++ toBE 4 ack ++ toBE 2 count ++ toBE 2 payload.length ++ payload

/-- A device of a pair with a frame received. -/
def paired (mode : BuddyMode) (f : Bytes) : Dev := { base with buddy := { base.buddy with mode, returning := true, rx := [(0, f)] } }

/-- A HELLO of the other side, at the count of `running`. -/
def hello0 : Bytes := walger 1 0 0 0 0 0 ([1, 2, 1, 1] ++ toBE 4 base.roll.seed1 ++ toBE 4 base.roll.seed2 ++ toBE 4 base.roll.seed3 ++
  toBE 4 running.period.toNat ++ toBE 4 0)

theorem test_meets_BuddiesJoinTakeOverAndHandBack :
    (let r := takeWalger (paired .joining hello0) 1
     r.map Prod.fst = some hello0 ∧ (r.map (fun x => decide (x.2.buddy.mode = .joining))) = some true ∧
     (r.map (fun x => helloCheck running x.2 (walgerPayload hello0))) = some St.OK ∧
     (r.map (fun x => decide (helloCheck running (x.2.wr M.STRAP_BUDDY_ROLE 1) (walgerPayload hello0) = St.OK))) = some false) ∧
    (let r := takeWalger (paired .paired hello0) 1
     (r.map (fun x => decide (x.2.buddy.mode ≠ .joining ∧ x.2.buddy.mode ≠ .alone))) = some true) ∧ takeWalger base 1 = none ∧
    (base.dieRuns = true ∧ { base.buddy with takeoverDue := true }.takeoverDue = true ∧ base.buddy.relayPart = none ∧ base.buddy.awaiting = [] ∧ base.descs = [] ∧
      base.buddy.takeoverDue = false) ∧
    (Passes (paired .syncing []) (host 1) M.BUDDY_HANDBACK ∧ (paired .syncing []).buddy.mode = .syncing ∧
      Passes (paired .paired []) (host 1) M.BUDDY_HANDBACK ∧ (paired .paired []).buddy.mode ≠ .syncing) ∧
    (let r := takePart running (paired .syncing (walger 6 1 0 1 0 0 (toBE 4 9))) 6
     r.1 = some (toBE 4 9, walger 6 1 0 1 0 0 (toBE 4 9)) ∧ r.2.buddy.mode = .syncing ∧ r.2.buddy.returning = true) ∧
    (takePart running base 6).1 = none := by unfold Passes; decide +kernel

/-- An entry of kind 10 with 40 bytes. -/
def missing0 : WEntry := { kind := 10, flags := 0, slot := 0, body := List.replicate 40 1 }

theorem test_meets_BuddiesExchangeBatches :
    (∀ e ∈ [missing0, { missing0 with kind := 255, flags := 255, slot := 2 ^ 32 - 1 }], e.kind < 256 ∧ e.flags < 256 ∧ e.slot < 2 ^ 32 ∧ e.body.length < 65536) ∧
    (let f := walger 2 0 1 8 0 0 []
     let d := { (paired .paired f) with buddy := { (paired .paired f).buddy with received := some 7, early := [⟨8, [(1, [])], none⟩] } }
     d.dieRuns = true ∧ (takeWalger d 2).map Prod.fst = some f ∧
     ((takeWalger d 2).map (fun x => x.2.joined && x.2.descs.isEmpty && x.2.buddy.early.all (fun b => b.parts.any (fun p => p.1 == byteAt f 3)) &&
       x.2.buddy.early.any (fun b => b.period == beAt f 4 4))) = some true ∧ beAt f 12 2 = 0) ∧
    takeWalger base 2 = none ∧ periodAfter 7 7 = false ∧
    (let f := walger 3 1 0 8 0 0 []; (takePart running (paired .paired f) 3).1 = some ([], f)) ∧
    (let f := walger 4 1 0 8 0 1 missing0.bytes
     let d := { (paired .paired f) with buddy := { (paired .paired f).buddy with awaiting := [(missing0.body, none)] } }
     (takePart running d 4).1 = some (missing0.bytes, f) ∧ readEntries (beAt f 12 2) missing0.bytes = [missing0] ∧
     (takePart running d 4).2.buddy.awaiting = [(missing0.body, none)] ∧ (takePart running d 4).2.descs = []) ∧
    (let f := walger 5 4 0 8 0 0 (toBE 4 0); (takePart running (paired .paired f) 5).1 = some (toBE 4 0, f) ∧ bitOf (byteAt f 2) 2 = true) ∧
    (let f := walger 5 1 0 8 0 0 (toBE 4 0)
     let d := { (paired .paired f) with buddy := { (paired .paired f).buddy with relayPart := some (8, 0, [1]) } }
     (takePart running d 5).1 = some (toBE 4 0, f) ∧ bitOf (byteAt f 2) 2 = false ∧
     (takePart running d 5).2.buddy.relayPart = some (beAt f 4 4, beAt (toBE 4 0) 0 2, [1])) ∧
    (let x := { desc0 with wait := .relay 0 }; let d := { base with descs := [x] }
     d.dieRuns = true ∧ d.descs = [x] ∧ x.wait = .relay 0 ∧ d.rd M.BUDDY_CREATE_WAIT ≤ periodsSince running.period.toNat 0) ∧ base.descs = [] := by decide +kernel

end Sys2Proof.Test
end

/-! What a command can do to the state at all. -/

namespace Sys2Proof.Machine

/-- Every command answers a next state that differs from the present one in the bell and the device alone. -/
theorem exec_next (c : Instr) (s : State) : ∃ b d, exec c s = .next { s with bell := b, dev := d } := by
  cases c <;> exact ⟨_, _, rfl⟩

/-- Every event of the die changes the device alone, and that only while the die runs. -/
theorem exec_ofDie {c : Instr} (hc : c.ofDie = true) (s : State) :
    ∃ d, exec c s = .next { s with dev := if s.dev.dieRuns then d else s.dev } := by
  cases c with
  | bell | bellLoad | vauxUp | vauxLoss | resetNPulse | vcorePgRise | mainSeqStepDone | vcorePgFall | registerWrite | stagedWrite
  | rcClear | denlysRead | denlysWrite | denlysHeartbeat | denlysReadBlock | denlysSubscribe | denlysBegin | denlysCommit
  | denlysRollback | avsTransactionFail | avsSettleEnd | thermtrip | thermtripRelease | throttleNFall | throttleNRise
  | islandStart | mainSeqStepTimeout | startRelease | startRetry | perstNAssert | perstNDeassert | lifeToggle | lifeStop
  | paletteSave | datapathRestart | recessEnter | recessExit | tblNop | tblRead | tblWrite | tblInsert | tblCas | tblDelete
  | tblCasDelete | tblNext | tblSearch | txnBegin | txnCommit | txnRollback | denlysFrameRx | denlysHello | denlysResponseTx
  | denlysNotify | denlysNotifyContinuation | denlysHeartbeatSend | denlysSessionTimeout | keySlotWrite | keySave
  | portWakePrepare | rollProbe | rollSeedSave | tutorImageLoad | tutorEnable | poolHostAlloc | poolHostFree | memchRetrain
  | ringEnable | ringDisable | chkRun | chkContinue | chkAbort | timeOffsetIn | timeStep | timeServoReset | timeAnchorNs
  | exportNs | buddyHandback | perfTagSeed | perfTagMode | perfSnapEnable | pcieLinkUp | plcaBeacon | i2cStretchTimeout =>
    exact absurd hc Bool.false_ne_true
  | _ => exact ⟨_, rfl⟩

/-- An event of the die does nothing while the die does not run. -/
theorem exec_ofDie_of_stopped {c : Instr} {s : State} (hc : c.ofDie = true) (hd : s.dev.dieRuns = false) : exec c s = .next s := by
  obtain ⟨d, hx⟩ := exec_ofDie hc s
  rw [hx, hd]
  rfl

end Sys2Proof.Machine

namespace Sys2Proof

open Sys2Proof.Machine

/-- Settles O2: a command's effect is confined to the bell and the device, and an event of the die is guarded by
`dieRuns`; that such an event then does nothing is the model's choice (log 6). -/
theorem everyCommandAnswersAndKeepsQueue : Obligations.EveryCommandAnswersAndKeepsQueue := by
  constructor
  · intro c s
    obtain ⟨b, d, hx⟩ := exec_next c s
    exact ⟨_, hx, rfl⟩
  · exact fun c s hc hd => exec_ofDie_of_stopped hc hd

end Sys2Proof

/-! The current value of a slot of the Front Row. -/

namespace Sys2Proof.Machine

/-- A search of a range ends at the first number for which the function has an answer. -/
theorem findSome?_range_eq_some {α : Type} {f : Nat → Option α} {n : Nat} {b : α} :
    (List.range n).findSome? f = some b ↔ ∃ w, w < n ∧ f w = some b ∧ ∀ v, v < w → f v = none := by
  induction n with
  | zero => simp
  | succ n ih =>
    rw [List.range_succ, List.findSome?_append, Option.or_eq_some_iff, ih, List.findSome?_eq_none_iff]
    simp only [List.mem_range, List.findSome?_singleton]
    constructor
    · rintro (⟨w, hw, hb, hv⟩ | ⟨hv, hb⟩)
      · exact ⟨w, by omega, hb, hv⟩
      · exact ⟨n, by omega, hb, hv⟩
    · rintro ⟨w, hw, hb, hv⟩
      obtain hw | rfl := Nat.lt_succ_iff_lt_or_eq.mp hw
      · exact .inl ⟨w, hw, hb, hv⟩
      · exact .inr ⟨hv, hb⟩

/-! ## Lines of the Front Row (R278) -/

/-- The slot whose line stands at a number. -/
def Dev.slotAt (d : Dev) (k : Nat) : Option Nat := (d.line k).map Line.slot

@[simp] theorem Dev.line_setLine_same (d : Dev) (k : Nat) (l : Option Line) : (d.setLine k l).line k = l := by
  simp [Dev.line, Dev.setLine]

theorem Dev.line_setLine_other (d : Dev) {k j : Nat} (l : Option Line) (h : j ≠ k) : (d.setLine k l).line j = d.line j := by
  simp [Dev.line, Dev.setLine, SMap.get_set_other _ _ _ _ _ h]

theorem Dev.slotAt_setLine_other (d : Dev) {k j : Nat} (l : Option Line) (h : j ≠ k) : (d.setLine k l).slotAt j = d.slotAt j := by
  simp only [Dev.slotAt, d.line_setLine_other l h]

@[simp] theorem Dev.setOf_setLine (d : Dev) (k : Nat) (l : Option Line) (slot : Nat) : (d.setLine k l).setOf slot = d.setOf slot := rfl

/-- The line at a number, where it holds a slot. -/
def Dev.lineFor (d : Dev) (slot k : Nat) : Option (Nat × Line) :=
  match d.line k with
  | some l => if l.slot = slot then some (k, l) else none
  | none => none

theorem Dev.lineFor_eq_some_iff {d : Dev} {slot j k : Nat} {l : Line} :
    d.lineFor slot j = some (k, l) ↔ j = k ∧ d.line k = some l ∧ l.slot = slot := by
  unfold Dev.lineFor
  split
  · split <;> grind
  · grind

theorem Dev.lineFor_eq_none_iff {d : Dev} {slot k : Nat} : d.lineFor slot k = none ↔ d.slotAt k ≠ some slot := by
  unfold Dev.lineFor Dev.slotAt
  split <;> simp_all

theorem Dev.findLine_eq (d : Dev) (slot : Nat) :
    d.findLine slot = (List.range 16).findSome? (fun w => d.lineFor slot (d.setOf slot * 16 + w)) := rfl

/-- A slot's line is the first of its set that holds the slot. -/
theorem Dev.findLine_eq_some_iff {d : Dev} {slot k : Nat} {l : Line} : d.findLine slot = some (k, l) ↔
    ∃ w, w < 16 ∧ (d.setOf slot * 16 + w = k ∧ d.line k = some l ∧ l.slot = slot) ∧
      ∀ v, v < w → d.slotAt (d.setOf slot * 16 + v) ≠ some slot := by
  simp only [Dev.findLine_eq, findSome?_range_eq_some, Dev.lineFor_eq_some_iff, Dev.lineFor_eq_none_iff]

/-- A slot has no line where no line of its set holds it. -/
theorem Dev.findLine_eq_none_iff {d : Dev} {slot : Nat} :
    d.findLine slot = none ↔ ∀ w, w < 16 → d.slotAt (d.setOf slot * 16 + w) ≠ some slot := by
  simp only [Dev.findLine_eq, List.findSome?_eq_none_iff, List.mem_range, Dev.lineFor_eq_none_iff]

/-- A line written for a slot in a way of its set is the slot's line where no earlier way holds it. -/
theorem Dev.findLine_setLine {d : Dev} {slot w : Nat} {l : Line} (hw : w < 16) (hl : l.slot = slot)
    (hv : ∀ v, v < w → d.slotAt (d.setOf slot * 16 + v) ≠ some slot) :
    (d.setLine (d.setOf slot * 16 + w) (some l)).findLine slot = some (d.setOf slot * 16 + w, l) := by
  refine Dev.findLine_eq_some_iff.mpr ⟨w, hw, ⟨rfl, Dev.line_setLine_same .., hl⟩, fun v hvw => ?_⟩
  rw [Dev.setOf_setLine, Dev.slotAt_setLine_other _ _ (by omega)]
  exact hv v hvw

/-- A slot's line that is written again for the slot stays its line. -/
theorem Dev.findLine_setLine_of_some {d : Dev} {slot k : Nat} {l x : Line} (h : d.findLine slot = some (k, l)) (hx : x.slot = slot) :
    (d.setLine k (some x)).findLine slot = some (k, x) := by
  obtain ⟨w, hw, ⟨rfl, -, -⟩, hv⟩ := Dev.findLine_eq_some_iff.mp h
  exact Dev.findLine_setLine hw hx hv

/-! ## What making room for a line keeps (R279, R280) -/

/-- Every line's number holds the same slot as before, in sets that are numbered as before. -/
def Dev.SameSlots (d e : Dev) : Prop := e.palette = d.palette ∧ ∀ k, e.slotAt k = d.slotAt k

namespace Dev.SameSlots

variable {d e f : Dev}

theorem refl (d : Dev) : d.SameSlots d := ⟨rfl, fun _ => rfl⟩

theorem trans (h : d.SameSlots e) (h' : e.SameSlots f) : d.SameSlots f :=
  ⟨h'.1.trans h.1, fun k => (h'.2 k).trans (h.2 k)⟩

theorem setOf_eq (h : d.SameSlots e) (slot : Nat) : e.setOf slot = d.setOf slot := by
  simp only [Dev.setOf, h.1]

theorem findLine_none (h : d.SameSlots e) {slot : Nat} (hn : d.findLine slot = none) : e.findLine slot = none := by
  rw [Dev.findLine_eq_none_iff] at hn ⊢
  intro w hw
  rw [h.setOf_eq, h.2]
  exact hn w hw

/-- A line of the same slot takes the place of the one that stands there. -/
theorem setLine {k : Nat} {x y : Line} (hx : d.line k = some x) (hy : y.slot = x.slot) : d.SameSlots (d.setLine k (some y)) := by
  refine ⟨rfl, fun j => ?_⟩
  by_cases hj : j = k
  · subst hj; simp [Dev.slotAt, hx, hy]
  · exact d.slotAt_setLine_other _ hj

theorem foldl {α : Type} {g : Dev → α → Dev} (hg : ∀ d a, Dev.SameSlots d (g d a)) (as : List α) : d.SameSlots (as.foldl g d) :=
  List.foldlRecOn as g (refl d) fun _ h a _ => h.trans (hg _ a)

/-- Only the active palette and the lines count. -/
theorem of_lines (hp : e.palette = d.palette) (hl : e.roll.lines = d.roll.lines) : d.SameSlots e :=
  ⟨hp, fun k => by simp only [Dev.slotAt, Dev.line, hl]⟩

theorem bump (d : Dev) {id : Nat} (h : M.PALETTE_ACTIVE ≠ id) : d.SameSlots (d.bump id) := of_lines (Dev.rd_bump_other _ _ _ h) rfl

end Dev.SameSlots

/-- A slot without a line has the line that a way of its set takes for it once room has been made. -/
theorem Dev.findLine_setLine_of_sameSlots {d e : Dev} {slot w : Nat} {l : Line} (h : d.SameSlots e) (hn : d.findLine slot = none)
    (hw : w < 16) (hl : l.slot = slot) :
    (e.setLine (d.setOf slot * 16 + w) (some l)).findLine slot = some (d.setOf slot * 16 + w, l) := by
  rw [← h.setOf_eq]
  exact Dev.findLine_setLine hw hl fun v hv => Dev.findLine_eq_none_iff.mp (h.findLine_none hn) v (by omega)

/-- A request reaches its channel and nothing else. -/
theorem memRequest_frame (d : Dev) (ch : Nat) (q : MemReq) : (memRequest d ch q).reg = d.reg ∧ (memRequest d ch q).roll = d.roll := by
  unfold memRequest
  split
  · exact ⟨rfl, rfl⟩
  · dsimp only
    split <;> exact ⟨rfl, rfl⟩

/-- A write that goes to its channel changes neither the dictionary nor the Roll. -/
theorem requestWrite_frame (now : BellSt) (d : Dev) (slot : Nat) :
    (requestWrite now d slot).reg = d.reg ∧ (requestWrite now d slot).roll = d.roll := memRequest_frame ..

theorem wbPush_sameSlots (now : BellSt) (d : Dev) (slot : Nat) (data : BitVec 512) : d.SameSlots (wbPush now d slot data) := by
  unfold wbPush
  dsimp only
  split
  · exact .refl d
  · split
    · obtain ⟨hreg, hroll⟩ := requestWrite_frame now
        { d with roll := { d.roll with wb := d.roll.wb ++ [{ slot, data, issued := d.chServes (d.placeOf slot).1 }] } } slot
      exact .of_lines (Dev.rd_of_reg hreg _) (by rw [hroll])
    · exact .of_lines rfl rfl

/-- The victim of a set is one of its sixteen ways. -/
theorem Dev.victim_lt {d : Dev} {set v : Nat} {cleared : List Nat} (h : d.victim set = some (cleared, v)) : v < 16 := by
  have hand : ∀ w ∈ d.handWays set, w < 16 := by
    intro w hw
    obtain ⟨k, -, rfl⟩ := List.mem_map.mp hw
    omega
  unfold Dev.victim at h
  dsimp only at h
  split at h
  · rename_i hv
    cases h
    exact hand _ (List.mem_filter.mp (List.mem_of_find?_eq_some hv)).1
  · split at h
    · rename_i hv
      cases h
      exact hand _ (List.mem_filter.mp (hv ▸ List.mem_cons_self)).1
    · cases h

/-- A way's Referenced bit cleared, as the hand of a set passes it (R279). -/
def clearReferenced (set : Nat) (d : Dev) (w : Nat) : Dev :=
  match d.line (set * 16 + w) with
  | some x => d.setLine (set * 16 + w) (some { x with referenced := false })
  | none => d

theorem clearReferenced_sameSlots (set : Nat) (d : Dev) (w : Nat) : d.SameSlots (clearReferenced set d w) := by
  unfold clearReferenced
  split
  · rename_i x hx
    exact .setLine hx rfl
  · exact .refl d

/-- Placing a slot gives it a line with the data and the state asked for, wherever that line stands and whatever line gave way
(R279). -/
theorem placeLine_findLine {now : BellSt} {d e : Dev} {slot data : Nat} {dirty pending : Bool}
    (h : placeLine now d slot data dirty pending = some e) :
    ∃ k l, e.findLine slot = some (k, l) ∧ l.data = BitVec.ofNat 512 data ∧ l.pending = pending := by
  unfold placeLine at h
  dsimp only at h
  split at h
  case h_1 k l hk =>
    cases h
    exact ⟨_, _, Dev.findLine_setLine_of_some hk rfl, rfl, rfl⟩
  case h_2 hn =>
    split at h
    case h_1 w hw =>
      cases h
      exact ⟨_, _, Dev.findLine_setLine_of_sameSlots (.refl d) hn (List.mem_range.mp (List.mem_of_find?_eq_some hw)) rfl, rfl, rfl⟩
    case h_2 =>
      split at h
      · cases h
      · rename_i cleared v hv
        cases h
        refine ⟨_, _, Dev.findLine_setLine_of_sameSlots ?_ hn (Dev.victim_lt hv) rfl, rfl, rfl⟩
        have cleaned := Dev.SameSlots.foldl (d := d) (clearReferenced_sameSlots (d.setOf slot)) cleared
        refine cleaned.trans (.trans ?_ (.of_lines rfl rfl))
        split
        · split
          · exact (wbPush_sameSlots ..).trans (.bump _ (by decide))
          · exact .refl _
        · exact .refl _

/-! ## The current value of a slot (R18) -/

@[simp] theorem Dev.lateData_setLate_none (d : Dev) (slot : Nat) : (d.setLate slot none).lateData slot = none := by
  simp [Dev.lateData, Dev.setLate]

@[simp] theorem Dev.lateData_setLate_some (d : Dev) (slot v : Nat) : (d.setLate slot (some v)).lateData slot = some (v % 2 ^ 512) := by
  have hrest : (d.roll.late.filter (fun l => l.1 != slot)).find? (fun l => l.1 == slot) = none := by simp
  rw [← BitVec.toNat_ofNat]
  simp [Dev.lateData, Dev.setLate, List.find?_append, hrest, -BitVec.toNat_ofNat]

theorem Dev.current_of_lineVal {d : Dev} {slot v : Nat} (h : d.lineVal slot = some v) : d.current slot = v := by
  simp [Dev.current, h]

theorem Dev.lineVal_eq_none {d : Dev} {slot : Nat} (h : d.findLine slot = none) : d.lineVal slot = none := by
  simp [Dev.lineVal, h]

theorem Dev.current_of_findLine_none {d : Dev} {slot : Nat} (h : d.findLine slot = none) :
    d.current slot = (d.lateData slot).getD ((d.wbData slot).getD (d.stored slot)) := by
  simp [Dev.current, Dev.lineVal_eq_none h]

/-- The newest write-buffer entry of a slot is the last of its entries (R280). -/
theorem Dev.wbData_eq (d : Dev) (slot : Nat) :
    d.wbData slot = (d.roll.wb.filter (fun l => l.slot == slot)).getLast?.map (fun l => l.data.toNat) := by
  rw [List.getLast?_filter]
  rfl

/-- A write that takes a line leaves its slot with a valid line of the value written, and with no update that waits. -/
theorem writeSlot_value {now : BellSt} {d e : Dev} {slot v : Nat} (h : writeSlot now d slot v = some e) :
    e.lineVal slot = some (v % 2 ^ 512) ∧ e.lateData slot = none := by
  unfold writeSlot at h
  dsimp only at h
  obtain ⟨p, hp, rfl⟩ := Option.map_eq_some_iff.mp h
  have placed : ∃ k l, p.findLine slot = some (k, l) ∧ l.data = BitVec.ofNat 512 v ∧ l.pending = false := by
    split at hp
    case h_1 k l hk =>
      cases hp
      obtain ⟨-, -, ⟨-, -, hl⟩, -⟩ := Dev.findLine_eq_some_iff.mp hk
      exact ⟨_, _, Dev.findLine_setLine_of_some hk hl, rfl, rfl⟩
    case h_2 => exact placeLine_findLine hp
  obtain ⟨k, l, hk, hdata, hpending⟩ := placed
  have hfind : (p.setLate slot none).findLine slot = some (k, l) := hk
  refine ⟨?_, p.lateData_setLate_none slot⟩
  rw [← BitVec.toNat_ofNat]
  simp [Dev.lineVal, hfind, hpending, hdata, -BitVec.toNat_ofNat]

/-- A write that takes no line finds none of its slot. -/
theorem findLine_none_of_writeSlot_none {now : BellSt} {d : Dev} {slot v : Nat} (h : writeSlot now d slot v = none) :
    d.findLine slot = none := by
  unfold writeSlot at h
  dsimp only at h
  split at h
  · simp at h
  · assumption

/-- An update that waits for a line is its slot's value where the slot has no line (R279). -/
theorem current_of_late {d : Dev} {slot v : Nat} (hn : d.findLine slot = none) (hv : d.lateData slot = some v) :
    d.current slot = v := by
  simp [Dev.current_of_findLine_none hn, hv]

/-- An update is its slot's value at once, whether it takes a line or waits for one (R279). -/
theorem putSlot_current (now : BellSt) (d : Dev) (slot v : Nat) : (putSlot now d slot v).current slot = v % 2 ^ 512 := by
  unfold putSlot
  split
  case h_1 e he => exact Dev.current_of_lineVal (writeSlot_value he).1
  case h_2 hn =>
    have same : d.SameSlots ((d.setLate slot (some v)).bump M.CNT_FR_SET_PINNED) :=
      .trans (.of_lines rfl rfl) (.bump (d.setLate slot (some v)) (by decide))
    exact current_of_late (same.findLine_none (findLine_none_of_writeSlot_none hn)) (d.lateData_setLate_some slot v)

/-- A read that returns leaves a slot with a valid line as it is (R18). -/
theorem installFill_of_lineVal {now : BellSt} {d : Dev} {slot v : Nat} (h : d.lineVal slot = some v) : installFill now d slot = some d := by
  simp [installFill, h]

end Sys2Proof.Machine

namespace Sys2Proof

open Sys2Proof.Machine

/-- Settles O34: a write that takes a line leaves it valid with the value written, which `current` reads before anything
else; where it finds none, the update that waits is read, then the write buffer, then memory. -/
theorem slotHasOneCurrentValue : Obligations.SlotHasOneCurrentValue := by
  refine ⟨fun now d e slot v h => ?_, putSlot_current, fun d slot l hn hlate hwb => ?_, fun d slot hn hlate hwb => ?_⟩
  · obtain ⟨hline, hlate⟩ := writeSlot_value h
    exact ⟨Dev.current_of_lineVal hline, hlate, installFill_of_lineVal hline⟩
  · simp [Dev.current_of_findLine_none hn, hlate, Dev.wbData_eq, hwb]
  · have hnil : d.roll.wb.filter (fun l => l.slot == slot) = [] := by simpa using hwb
    simp [Dev.current_of_findLine_none hn, hlate, Dev.wbData_eq, hnil]

end Sys2Proof

/-! What hard steps, the presets and the resets do to the bell. -/

namespace Sys2Proof.Machine

/-! ## Hard steps (R501) -/

/-- `c` is `b` after hard steps of the counter, if any (R501): only the counter and the mark of a due bell may differ, and the mark of a
stepped counter says whether the bell rings at its value (R31). -/
structure BellSt.Steps (b c : BellSt) : Prop where
  frame : c = { b with ns := c.ns, due := c.due }
  mark : (c.ns = b.ns ∧ c.due = b.due) ∨ c.due = (c.ns.toNat % 1024 == 0)

namespace BellSt.Steps

variable {b c e : BellSt}

theorem refl (b : BellSt) : b.Steps b := ⟨rfl, .inl ⟨rfl, rfl⟩⟩

theorem hardStep (b : BellSt) (ns : BitVec 32) : b.Steps { b with ns, due := ns.toNat % 1024 == 0 } := ⟨rfl, .inr rfl⟩

theorem trans (h : b.Steps c) (h' : c.Steps e) : b.Steps e := by
  refine ⟨?_, ?_⟩
  · rw [h'.frame, h.frame]
  · obtain ⟨hns, hdue⟩ | hdue := h'.mark
    · rw [hns, hdue]
      exact h.mark
    · exact .inr hdue

theorem state (h : b.Steps c) : c.state = b.state := by rw [h.frame]
theorem period (h : b.Steps c) : c.period = b.period := by rw [h.frame]
theorem lesson (h : b.Steps c) : c.lesson = b.lesson := by rw [h.frame]
theorem time (h : b.Steps c) : c.time = b.time := by rw [h.frame]
theorem latch (h : b.Steps c) : c.latch = b.latch := by rw [h.frame]
theorem readyRisen (h : b.Steps c) : c.readyRisen = b.readyRisen := by rw [h.frame]

theorem consistent (h : b.Steps c) (hb : b.Consistent) : c.Consistent := by
  obtain ⟨hcount, htime, hdue⟩ := hb
  refine ⟨?_, ?_, fun hc => ?_⟩
  · rw [h.lesson, h.period]
    exact hcount
  · rw [h.time]
    exact htime
  · obtain ⟨hns, hsame⟩ | hmark := h.mark
    · rw [hns]
      exact hdue (hsame ▸ hc)
    · exact beq_iff_eq.mp (hmark ▸ hc)

end BellSt.Steps

/-! ## Periodic work moves the counter by hard steps alone (R39 item 3) -/

theorem timeSteps_steps (now : BellSt) (d : Dev) : now.Steps (timeSteps now d).1 := by
  unfold timeSteps
  refine List.foldlRecOn _ _ (motive := fun s : BellSt × Dev => now.Steps s.1) (.refl now) fun s h amount _ => ?_
  dsimp only
  split
  · exact h.trans (.hardStep ..)
  · exact h

/-- Item 3 takes over the counter and its mark alone from the bell it computes with. -/
theorem servoItem_steps (cur at_ : BellSt) (d : Dev) : cur.Steps (servoItem cur at_ d).1 :=
  ⟨rfl, (timeSteps_steps { cur with period := at_.period, lesson := at_.lesson, time := at_.time } d).mark⟩

theorem itemUnits_steps (s : BellSt × Dev) (c : Carried) (hi : Nat) : s.1.Steps (itemUnits s c hi).2.1 := by
  unfold itemUnits
  dsimp only
  split
  · exact .refl _
  · split
    case h_2 => exact servoItem_steps ..
    all_goals exact .refl _

theorem runItem_steps (s : BellSt × Dev) (c : Carried) (reach : Option Nat) : s.1.Steps (runItem s c reach).2.1 :=
  itemUnits_steps (s.1, (itemStarts s.2 c).2) ..

theorem workOn_steps (held : List (Nat × Nat)) (olds i : Nat) (cs : List Carried) (s : BellSt × Dev) :
    s.1.Steps (workOn held olds i cs s).1 := by
  induction cs generalizing i s with
  | nil => exact .refl _
  | cons c cs ih =>
    have ran := runItem_steps s c ((held.find? (fun h => h.1 == i)).map Prod.snd)
    unfold workOn
    split
    case h_1 t ht =>
      rw [ht] at ran
      exact ran.trans (ih ..)
    case h_2 rest t ht =>
      rw [ht] at ran
      split
      · exact ran
      · exact ran.trans (ih (i + 1) (carry t [rest]))

theorem periodicWork_steps (b : BellSt) (held : List (Nat × Nat)) (d : Dev) : b.Steps (periodicWork b held d).1 :=
  workOn_steps held _ 0 _ (b, { d with work := { d.work with carried := [] } })

theorem bellWork_steps (b now : BellSt) (fall rise : Bool) (i : BellIn) (d : Dev) : now.Steps (bellWork b now fall rise i d).1 :=
  periodicWork_steps ..


/-! ## The bell (R29 to R36) -/

theorem lessonStarts_succ (p : BitVec 32) : lessonStarts (p + 1) = true ↔ (p.toNat + 1) % 1024 = 0 := by
  simp only [lessonStarts, beq_iff_eq, BitVec.ofNat_eq_ofNat, BitVec.toNat_add, BitVec.toNat_ofNat]
  omega

/-- The counts of a bell with no preset latched (R33). -/
theorem nextCounts_of_latch_none {b : BellSt} (h : b.latch = none) :
    nextCounts b = (b.period + 1, if (b.period.toNat + 1) % 1024 = 0 then b.lesson + 1 else b.lesson) := by
  simp only [nextCounts, h, lessonStarts_succ]

/-- The counts of a bell that loads presets (R36). -/
theorem nextCounts_of_latch_some {b : BellSt} {p : BitVec 32} {top : BitVec 2} (h : b.latch = some (p, top)) :
    (nextCounts b).1 = p ∧ (nextCounts b).2.toNat = top.toNat * 2 ^ 22 + p.toNat / 1024 := by
  simp only [nextCounts, h, BitVec.toNat_ofNat, true_and]
  omega

/-- The counts of the next bell agree as those of this one do (R33, R34, R36), across the wrap of both too. -/
theorem nextCounts_agree {b : BellSt} (hb : b.Consistent) :
    (nextCounts b).2.toNat % 2 ^ 22 = (nextCounts b).1.toNat / 2 ^ 10 := by
  obtain ⟨hcount, -, -⟩ := hb
  cases hl : b.latch with
  | some l =>
    obtain ⟨hperiod, hlesson⟩ := nextCounts_of_latch_some (p := l.1) (top := l.2) hl
    rw [hperiod, hlesson]
    omega
  | none =>
    rw [nextCounts_of_latch_none hl]
    dsimp only
    split <;> simp only [BitVec.ofNat_eq_ofNat, BitVec.toNat_add, BitVec.toNat_ofNat] <;> omega

theorem nextBell_toNat (b : BellSt) :
    (nextBell b).toNat = if b.due then b.ns.toNat / 1024 * 1024 else (b.ns.toNat / 1024 + 1) * 1024 % 2 ^ 32 := by
  unfold nextBell
  split
  · simp only [BitVec.toNat_ofNat]
    omega
  · simp only [BitVec.toNat_ofNat]

theorem ring_consistent {b : BellSt} (hb : b.Consistent) (ready fall rise : Bool) : (ring b ready fall rise).Consistent := by
  refine ⟨nextCounts_agree hb, ?_, nofun⟩
  show (nextBell b).toNat % 1024 = 0
  rw [nextBell_toNat]
  split <;> omega

/-- BELL does nothing while BELL_STATE is OFF (R46). -/
theorem bell_of_off {i : BellIn} {b : BellSt} {d : Dev} (h : b.state = .off) : bell i b d = (b, d) := by
  simp [bell, h]

/-- While the time base and the clocks run, BELL rings, and hard steps of item 3 may follow. -/
theorem bell_steps_of_running {i : BellIn} {b : BellSt} {d : Dev} (hoff : b.state ≠ .off) (hclocks : d.start.clocksStopped = false) :
    (ring b d.pins.ready d.start.fallDue (d.start.readyDue && !d.start.fallDue)).Steps (bell i b d).1 := by
  unfold bell
  rw [if_neg (by simp [hoff, hclocks])]
  exact bellWork_steps ..

theorem bell_consistent {b : BellSt} (hb : b.Consistent) (i : BellIn) (d : Dev) : (bell i b d).1.Consistent := by
  unfold bell
  split
  · exact hb
  · exact (bellWork_steps ..).consistent (ring_consistent hb ..)

/-- Where bells ring, BELL completes with the bell that has rung, but for hard steps. -/
theorem bell_gives (i : BellIn) (s : State) (hoff : s.bell.state ≠ .off) (hclocks : s.dev.start.clocksStopped = false) :
    ∃ b d, Gives (.bell i) s b d ∧
      (ring s.bell s.dev.pins.ready s.dev.start.fallDue (s.dev.start.readyDue && !s.dev.start.fallDue)).Steps b :=
  ⟨_, _, rfl, bell_steps_of_running hoff hclocks⟩

/-! ## Latched presets (R36) -/

/-- `c` is `b` with its presets latched or not. -/
def BellSt.Latches (b c : BellSt) : Prop := c = { b with latch := c.latch }

namespace BellSt.Latches

variable {b c e : BellSt}

theorem refl (b : BellSt) : b.Latches b := rfl

theorem trans (h : b.Latches c) (h' : c.Latches e) : b.Latches e := by
  unfold BellSt.Latches at *
  rw [h', h]

theorem consistent (h : b.Latches c) (hb : b.Consistent) : c.Consistent := by
  rw [h]
  exact hb

end BellSt.Latches

theorem bellLoad_latches (now : BellSt) (d : Dev) (a : Acc) : now.Latches (bellLoad now d a).2.1 := by
  unfold bellLoad
  dsimp only
  split <;> rfl

theorem writeMember_latches (now : BellSt) (d : Dev) (a : Acc) (id : Nat) : now.Latches (writeMember now d a id).2.1 := by
  unfold writeMember
  split
  · exact bellLoad_latches ..
  · split <;> rfl

theorem pcieWrite_latches (now : BellSt) (d : Dev) (w : PcieWrite) : now.Latches (pcieWrite now d w).1 := by
  unfold pcieWrite
  iterate 6 (split; · rfl)
  split
  case h_1 => exact writeMember_latches ..
  all_goals rfl

theorem pcieWriteOf_latches (k : WriteKind) (now : BellSt) (d : Dev) (w : PcieWrite) : now.Latches (pcieWriteOf k now d w).1 := by
  unfold pcieWriteOf
  split
  · exact pcieWrite_latches ..
  · rfl

/-- A Denlys request whose operation touches the presets alone leaves the rest of the bell. -/
theorem serveRequest_latches {f : Nat → Session → Bytes → BellSt × Dev → Nat × Bytes × BellSt × Dev}
    (hf : ∀ s x p (q : BellSt × Dev), q.1.Latches (f s x p q).2.2.1) (op : Nat) (now : BellSt) (d : Dev) :
    now.Latches (serveRequest op now d f).1 := by
  unfold serveRequest
  split
  · rfl
  · split
    · rfl
    · dsimp only
      split
      · rfl
      · split
        · rfl
        · split
          · rfl
          · exact hf ..

theorem denlysRead_latches (now : BellSt) (d : Dev) : now.Latches (denlysRead now d).1 := by
  refine serveRequest_latches (fun s x p q => ?_) 2 now d
  dsimp only
  split <;> rfl

theorem denlysWrite_latches (now : BellSt) (d : Dev) : now.Latches (denlysWrite now d).1 := by
  refine serveRequest_latches (fun s x p q => ?_) 3 now d
  dsimp only
  split
  · rfl
  · exact List.foldlRecOn _ _ (motive := fun acc : Bytes × BellSt × Dev => q.1.Latches acc.2.1) (.refl q.1)
      fun acc h i _ => h.trans (writeMember_latches ..)

theorem denlysHeartbeat_latches (now : BellSt) (d : Dev) : now.Latches (denlysHeartbeat now d).1 :=
  serveRequest_latches (fun _ _ _ _ => .refl _) 0x0A now d

theorem denlysReadBlock_latches (now : BellSt) (d : Dev) : now.Latches (denlysReadBlock now d).1 := by
  refine serveRequest_latches (fun s x p q => ?_) 4 now d
  dsimp only
  iterate 2 (split; · rfl)
  split
  · rfl
  · split <;> rfl

theorem denlysSubscribe_latches (now : BellSt) (d : Dev) : now.Latches (denlysSubscribe now d).1 := by
  refine serveRequest_latches (fun s x p q => ?_) 8 now d
  dsimp only
  iterate 4 (split; · rfl)
  rfl

theorem denlysTrigger_latches (op id : Nat) (now : BellSt) (d : Dev) : now.Latches (denlysTrigger op id now d).1 :=
  serveRequest_latches (fun _ _ _ _ => writeMember_latches ..) op now d

/-! ## Resets and the start of the time base (R36, R106) -/

theorem init_consistent : BellSt.init.Consistent := ⟨rfl, rfl, fun _ => rfl⟩

theorem vauxUp_consistent {now : BellSt} (h : now.Consistent) (x : Straps) (d : Dev) : (vauxUp x now d).1.Consistent := by
  unfold vauxUp
  split
  · exact h
  · exact init_consistent

theorem vauxLoss_consistent {now : BellSt} (h : now.Consistent) (d : Dev) : (vauxLoss now d).1.Consistent := by
  unfold vauxLoss
  split
  · exact h
  · exact init_consistent

theorem resetNPulse_consistent {now : BellSt} (h : now.Consistent) (ns : Nat) (x : Straps) (d : Dev) :
    (resetNPulse ns x now d).1.Consistent := by
  unfold resetNPulse
  dsimp only
  split
  · exact h
  · split
    · exact h
    · exact init_consistent

theorem vcorePgRise_consistent {now : BellSt} (h : now.Consistent) (d : Dev) : (vcorePgRise now d).1.Consistent := by
  unfold vcorePgRise
  dsimp only
  split
  · exact init_consistent
  · exact h

/-- A loss of the main rails stops the bell at its counts, with none due. -/
theorem vcorePgFall_consistent {now : BellSt} (h : now.Consistent) (ns : Nat) (d : Dev) : (vcorePgFall ns now d).1.Consistent := by
  unfold vcorePgFall
  dsimp only
  split
  · exact h
  · split
    · exact h
    · exact ⟨h.1, h.2.1, nofun⟩

/-- Of the steps of the main sequence only step 7 touches the bell: it starts it at 0. -/
theorem mainSeqStepDone_consistent {now : BellSt} (h : now.Consistent) (i : StepIn) (d : Dev) :
    (mainSeqStepDone now i d).1.Consistent := by
  unfold mainSeqStepDone
  dsimp only
  split
  · exact h
  · split
    · exact h
    · iterate 6 (split; · exact h)
      split
      · exact init_consistent
      · exact h

/-- Every command completes, and keeps a consistent bell consistent. -/
theorem exec_gives_consistent (c : Instr) {s : State} (h : s.bell.Consistent) : ∃ b d, Gives c s b d ∧ b.Consistent := by
  cases c with
  | bell i => exact ⟨_, _, rfl, bell_consistent h ..⟩
  | bellLoad a => exact ⟨_, _, rfl, (bellLoad_latches ..).consistent h⟩
  | registerWrite w | stagedWrite w | rcClear w => exact ⟨_, _, rfl, (pcieWriteOf_latches ..).consistent h⟩
  | denlysRead => exact ⟨_, _, rfl, (denlysRead_latches ..).consistent h⟩
  | denlysWrite => exact ⟨_, _, rfl, (denlysWrite_latches ..).consistent h⟩
  | denlysHeartbeat => exact ⟨_, _, rfl, (denlysHeartbeat_latches ..).consistent h⟩
  | denlysReadBlock => exact ⟨_, _, rfl, (denlysReadBlock_latches ..).consistent h⟩
  | denlysSubscribe => exact ⟨_, _, rfl, (denlysSubscribe_latches ..).consistent h⟩
  | denlysBegin | denlysCommit | denlysRollback => exact ⟨_, _, rfl, (denlysTrigger_latches ..).consistent h⟩
  | vauxUp x => exact ⟨_, _, rfl, vauxUp_consistent h ..⟩
  | vauxLoss => exact ⟨_, _, rfl, vauxLoss_consistent h ..⟩
  | resetNPulse ns x => exact ⟨_, _, rfl, resetNPulse_consistent h ..⟩
  | vcorePgRise => exact ⟨_, _, rfl, vcorePgRise_consistent h ..⟩
  | vcorePgFall ns => exact ⟨_, _, rfl, vcorePgFall_consistent h ..⟩
  | mainSeqStepDone i => exact ⟨_, _, rfl, mainSeqStepDone_consistent h ..⟩
  | _ => exact ⟨s.bell, _, rfl, h⟩

end Sys2Proof.Machine

namespace Sys2Proof

open Sys2Proof.Machine

/-- Settles O4: bells and hard steps keep the counts and the multiples of 1,024, writes reach the latch alone, and resets start
from zero. -/
theorem bellConsistencyKeptByEveryStep : Obligations.BellConsistencyKeptByEveryStep := by
  intro s t hs hstep
  unfold step at hstep
  split at hstep
  · cases hstep
    exact hs
  · rename_i c rest _
    obtain ⟨b, d, hgives, hb⟩ := exec_gives_consistent c (s := { s with pending := rest }) hs
    cases hgives.symm.trans hstep
    exact hb

/-- Settles O5, by evaluation of the state after reset (log 2). -/
theorem resetBellConsistent : Obligations.ResetBellConsistent :=
  ⟨init_consistent, rfl, rfl, rfl, rfl, rfl, rfl⟩

/-- Settles O6: the hard steps that may follow the bell leave its counts and BELL_TIME. -/
theorem bellAdvancesCounts : Obligations.BellAdvancesCounts := by
  intro i s hoff hclocks hlatch
  obtain ⟨b, d, hgives, hb⟩ := bell_gives i s hoff hclocks
  have hcounts := nextCounts_of_latch_none hlatch
  refine ⟨b, d, hgives, hb.period.trans (congrArg Prod.fst hcounts), hb.lesson.trans (congrArg Prod.snd hcounts), ?_, hb.readyRisen⟩
  rw [hb.time]
  exact nextBell_toNat s.bell

/-- Settles O7: a bell takes its counts from the latch where it holds presets, and rings with the latch empty. -/
theorem bellLoadsLatchedPresets : Obligations.BellLoadsLatchedPresets := by
  refine ⟨fun i s p top hoff hclocks hlatch => ?_, fun i s hoff => ?_⟩
  · obtain ⟨b, d, hgives, hb⟩ := bell_gives i s hoff hclocks
    obtain ⟨hperiod, hlesson⟩ := nextCounts_of_latch_some hlatch
    exact ⟨b, d, hgives, hb.period.trans hperiod, (congrArg BitVec.toNat hb.lesson).trans hlesson, hb.latch⟩
  · show s.onBoth (bell i) = .next s
    rw [State.onBoth_eq, bell_of_off hoff]

/-- Settles O8: BELL_STATE after a bell is `nextBellState`, which hard steps leave. -/
theorem bellStateFollowsReady : Obligations.BellStateFollowsReady := by
  intro i s hoff hclocks
  obtain ⟨b, d, hgives, hb⟩ := bell_gives i s hoff hclocks
  exact ⟨b, d, hgives, hb.state⟩

end Sys2Proof

/-! What BELL_LOAD latches. -/

namespace Sys2Proof.Machine

theorem bellLoadStatus_of_readyRisen {now : BellSt} (h : now.readyRisen = true) (d : Dev) : bellLoadStatus now d = St.NOT_ALLOWED := by
  simp [bellLoadStatus, h]

/-- Presets that agree may be latched before READY has risen (R36). -/
theorem bellLoadStatus_ok {now : BellSt} {d : Dev} (hready : now.readyRisen = false)
    (hcount : d.rd M.LESSON_PRESET % 2 ^ 22 = d.rd M.PERIOD_PRESET / 1024) (hlesson : d.rd M.LESSON_PRESET < 2 ^ 24) :
    bellLoadStatus now d = St.OK := by
  unfold bellLoadStatus
  rw [if_neg (by simp [hready]), if_neg (by omega)]

/-- A BELL_LOAD that fails its check leaves the bell. -/
theorem bellLoad_bell_of_refused {now : BellSt} {d : Dev} (h : bellLoadStatus now d ≠ St.OK) (a : Acc) :
    (bellLoad now d a).2.1 = now := by
  simp [bellLoad, h]

/-- A BELL_LOAD that reaches its check and passes it latches the presets. -/
theorem bellLoad_bell_of_passes {now : BellSt} {d : Dev} {a : Acc} (h : Passes d a M.BELL_LOAD) (hok : bellLoadStatus now d = St.OK) :
    (bellLoad now d a).2.1 = bellLatch now d := by
  obtain ⟨hgate, hlink, hstatus, hval⟩ := h
  have hlink' : (a.who != .k || d.start.pcieUp) = true := by
    by_cases hk : a.who = .k
    · simp [hlink hk]
    · simp [hk]
  have hgate' : d.gate 0x04 = false := hgate
  simp [bellLoad, hgate', hlink', hstatus, hval, hok]

theorem bellLoad_gives (a : Acc) (s : State) :
    Gives (.bellLoad a) s (bellLoad s.bell s.dev a).2.1 (bellLoad s.bell s.dev a).2.2 := rfl

end Sys2Proof.Machine

namespace Sys2Proof

open Sys2Proof.Machine

/-- Settles O10: the latch follows the check of the presets and of READY, which only a BELL_LOAD that passes reaches. -/
theorem bellLoadLatchesPresets : Obligations.BellLoadLatchesPresets := by
  constructor
  · intro a s hpass hready hcount hlesson
    have hbell := bellLoad_bell_of_passes hpass (bellLoadStatus_ok hready hcount hlesson)
    exact ⟨_, hbell ▸ bellLoad_gives a s⟩
  · intro a s hready
    have hbell := bellLoad_bell_of_refused (d := s.dev) (by rw [bellLoadStatus_of_readyRisen hready]; decide) a
    exact ⟨(bellLoad s.bell s.dev a).2.2, by simpa only [hbell] using bellLoad_gives a s⟩

end Sys2Proof

/-! The main sequence, step by step. -/

namespace Sys2Proof.Machine

variable {d : Dev} {now : BellSt} {i : StepIn}

/-- A member written with the start-up state reads what was written. -/
theorem Dev.rd_wr_start (d : Dev) (id v : Nat) (x : Start) : ({ d.wr id v with start := x } : Dev).rd id = v % 2 ^ 64 := Dev.rd_wr_same ..

/-- Raising an event with an open DETAIL changes no member but the count of merged events. -/
theorem Dev.raiseOpen_rd (d : Dev) (now : BellSt) (code object k : Nat) (h : k ≠ M.CNT_EVENT_MERGED) :
    (d.raiseOpen now code object).rd k = d.rd k := Dev.raise_rd _ now code object _ k h

theorem Dev.raise_start (d : Dev) (now : BellSt) (code object detail : Nat) : (d.raise now code object detail).start = d.start := by
  rw [Dev.raise_frame]

theorem Dev.raiseOpen_start (d : Dev) (now : BellSt) (code object : Nat) : (d.raiseOpen now code object).start = d.start :=
  Dev.raise_start _ now code object _

/-- A trigger that passes every check, and whose chapter answers ST_OK, leaves what its chapter left. -/
theorem Dev.trigger_ok {a : Acc} {id : Nat} {f : Nat → Dev → Nat × Dev} {e : Dev} (h : Passes d a id)
    (hf : f (storedValue id a.val) d = (St.OK, e)) : (d.trigger a id f).2 = e := by
  rw [Dev.trigger_passes f h, hf, Dev.answer_ok]

/-! ## Steps that end (R98, R99) -/

/-- A step of the main sequence is in progress (R98). -/
theorem inStep_of_starting (hstate : d.start.state = .starting) (hready : d.start.readyDue = false)
    (hlo : 2 ≤ d.rd M.START_STEP) (hhi : d.rd M.START_STEP ≤ 9) (hne : d.rd M.START_STEP ≠ 8) : inStep d = true := by
  simp [inStep, hstate, hready, hlo, hhi, hne]

/-- The time a step took is added to the sequence's. -/
def Dev.elapse (d : Dev) (ms : Nat) : Dev := { d with start := { d.start with elapsedMs := d.start.elapsedMs + ms } }

theorem mainSeqStepDone_step2 (hstate : d.start.state = .starting) (hready : d.start.readyDue = false)
    (hk : d.rd M.START_STEP = 2) (hfail : i.fail = none) (hms : d.start.elapsedMs + i.ms ≤ 5) :
    mainSeqStepDone now i d =
      (now, { (d.elapse i.ms).wr M.START_STEP 3 with start := { (d.elapse i.ms).start with pllLocked := true } }) := by
  simp [mainSeqStepDone, inStep, hstate, hready, hk, hfail, stepLimit, Dev.elapse, Nat.not_lt.mpr hms]

theorem mainSeqStepDone_step7 (hstate : d.start.state = .starting) (hready : d.start.readyDue = false)
    (hk : d.rd M.START_STEP = 7) (hfail : i.fail = none) (hms : d.start.elapsedMs + i.ms ≤ 1450) :
    mainSeqStepDone now i d = stepTime now (d.elapse i.ms) := by
  simp [mainSeqStepDone, inStep, hstate, hready, hk, hfail, stepLimit, Dev.elapse, Nat.not_lt.mpr hms]

theorem mainSeqStepDone_step9 (hstate : d.start.state = .starting) (hready : d.start.readyDue = false)
    (hk : d.rd M.START_STEP = 9) (hms : d.start.elapsedMs + i.ms ≤ 1500) :
    mainSeqStepDone now i d = (now, { d.elapse i.ms with start := { (d.elapse i.ms).start with readyDue := true } }) := by
  simp [mainSeqStepDone, inStep, hstate, hready, hk, stepLimit, Dev.elapse, Nat.not_lt.mpr hms]

/-- Step 7 without START_HOLD starts the time base and goes on to step 9. -/
theorem stepTime_of_hold_clear (h : d.on M.START_HOLD = false) :
    stepTime now d = ({ BellSt.init with state := .prestart, latch := now.latch },
      { d with pins := { d.pins with lifeRuns := true } }.wr M.START_STEP 9) := by
  simp [stepTime, h]

theorem mainSeqStepDone_gives (i : StepIn) (s : State) :
    Gives (.mainSeqStepDone i) s (mainSeqStepDone s.bell i s.dev).1 (mainSeqStepDone s.bell i s.dev).2 := rfl

/-! ## Failures (R101) -/

theorem failStart_step (now : BellSt) (d : Dev) (step unit code : Nat) :
    (failStart now d step unit code).rd M.START_FAIL_STEP = step % 2 ^ 64 := by
  unfold failStart
  rw [Dev.raise_rd _ _ _ _ _ _ (by decide)]
  exact (Dev.rd_wr_other _ _ _ _ (by decide)).trans ((Dev.rd_wr_other _ _ _ _ (by decide)).trans (Dev.rd_wr_same ..))

theorem failStart_start (now : BellSt) (d : Dev) (step unit code : Nat) :
    (failStart now d step unit code).start = { d.start with state := .failed, readyDue := false, txIdle := true } := by
  unfold failStart
  rw [Dev.raise_start]
  rfl

/-- A timeout while a step is in progress fails the sequence at that step. -/
theorem mainSeqStepTimeout_gives (s : State) (h : inStep s.dev = true) :
    Gives .mainSeqStepTimeout s s.bell (failStart s.bell s.dev (s.dev.rd M.START_STEP) 0 St.NONE) := by
  have hexec : exec .mainSeqStepTimeout s =
      .next { s with dev := if inStep s.dev then failStart s.bell s.dev (s.dev.rd M.START_STEP) 0 St.NONE else s.dev } := rfl
  rwa [if_pos h] at hexec

/-! ## Release and retry (R99, R101) -/

theorem startRelease_of_hold (v : Nat) (h : d.start.state = .hold) :
    startRelease v d = (St.OK, { d.wr M.START_STEP 9 with start := { d.start with readyDue := true } }) := if_pos h

theorem startRetry_of_failed (v : Nat) (hstate : d.start.state = .failed) (hstep : d.rd M.START_FAIL_STEP ≠ 0)
    (hpg : d.pins.vcorePg = true) :
    startRetry v d = (St.OK, { (d.goes .starting).wr M.START_STEP 2 with
      start := { d.start with state := .starting, elapsedMs := 0, readyDue := false } }) := if_pos ⟨hstate, hstep, hpg⟩

theorem startRelease_gives (a : Acc) (s : State) :
    Gives (.startRelease a) s s.bell (s.dev.trigger a M.START_RELEASE startRelease).2 := rfl

theorem startRetry_gives (a : Acc) (s : State) : Gives (.startRetry a) s s.bell (s.dev.trigger a M.START_RETRY startRetry).2 := rfl

/-! ## The end of zeroing (R105) -/

/-- The channels' times change alone as the writes of zeroing end. -/
theorem zeroWritesEnd_frame (now : BellSt) (d : Dev) :
    (zeroWritesEnd now d).reg = d.reg ∧ (zeroWritesEnd now d).start = d.start := by
  unfold zeroWritesEnd
  exact List.foldlRecOn _ _ (motive := fun e : Dev => e.reg = d.reg ∧ e.start = d.start) ⟨rfl, rfl⟩ fun _ h _ _ => h

theorem rollReadyRises_rd {k : Nat} (hz : d.start.zeroing = true) (hready : d.pins.ready = true) (hk : k ≠ M.CNT_EVENT_MERGED) :
    (rollReadyRises now d).rd k = ((d.wr M.ROLL_READY 1).wr M.ROLL_ZERO_PROGRESS 100).rd k := by
  rw [rollReadyRises, if_pos ⟨hz, hready⟩, Dev.rd_of_reg (zeroWritesEnd_frame ..).1, Dev.raiseOpen_rd _ _ _ _ _ hk]
  rfl

theorem rollReadyRises_start (hz : d.start.zeroing = true) (hready : d.pins.ready = true) :
    (rollReadyRises now d).start = { d.start with zeroing := false } := by
  rw [rollReadyRises, if_pos ⟨hz, hready⟩, (zeroWritesEnd_frame ..).2, Dev.raiseOpen_start]

theorem rollReady_gives {s : State} (h : s.dev.dieRuns = true) : Gives .rollReady s s.bell (rollReadyRises s.bell s.dev) := by
  have hexec : exec .rollReady s = .next { s with dev := if s.dev.dieRuns then rollReadyRises s.bell s.dev else s.dev } := rfl
  rwa [if_pos h] at hexec

end Sys2Proof.Machine

namespace Sys2Proof

open Sys2Proof.Machine

/-- Settles O16, clause by clause; that a retry counts its time afresh is log 206, and that no bell is due at counter 0 log 253. -/
theorem mainSequenceSteps : Obligations.MainSequenceSteps := by
  refine ⟨fun i s hstate hk hready hfail hms => ?_, fun i s hstate hk hready hfail hms hhold => ?_,
    fun i s hstate hk hready hms => ?_, fun s hstate hlo hhi hne hready => ?_, fun a s hpass hstate => ?_,
    fun a s hpass hstate hstep hpg => ?_, fun s hruns hz hready => ?_⟩
  · have hgives := mainSeqStepDone_gives i s
    rw [mainSeqStepDone_step2 hstate hready hk hfail hms] at hgives
    exact ⟨_, hgives, Dev.rd_wr_start .., rfl, hstate⟩
  · have hgives := mainSeqStepDone_gives i s
    rw [mainSeqStepDone_step7 hstate hready hk hfail hms, stepTime_of_hold_clear (d := s.dev.elapse i.ms) hhold] at hgives
    exact ⟨_, hgives, Dev.rd_wr_same .., rfl⟩
  · have hgives := mainSeqStepDone_gives i s
    rw [mainSeqStepDone_step9 hstate hready hk hms] at hgives
    exact ⟨_, hgives, rfl, rfl⟩
  · refine ⟨_, mainSeqStepTimeout_gives s (inStep_of_starting hstate hready hlo hhi hne), ?_, ?_, ?_⟩
    · rw [failStart_start]
    · rw [failStart_step, Nat.mod_eq_of_lt (Dev.rd_lt ..)]
    · rw [failStart_start]
  · have hgives := startRelease_gives a s
    rwa [Dev.trigger_ok hpass (startRelease_of_hold _ hstate)] at hgives
  · have hgives := startRetry_gives a s
    rw [Dev.trigger_ok hpass (startRetry_of_failed _ hstate hstep hpg)] at hgives
    exact ⟨_, hgives, rfl, Dev.rd_wr_start .., rfl⟩
  · refine ⟨_, rollReady_gives hruns, ?_, ?_, ?_⟩
    · exact (rollReadyRises_rd hz hready (by decide)).trans ((Dev.rd_wr_other _ _ _ _ (by decide)).trans (Dev.rd_wr_same ..))
    · exact (rollReadyRises_rd hz hready (by decide)).trans (Dev.rd_wr_same ..)
    · rw [rollReadyRises_start hz hready]

end Sys2Proof

/-! Values saved to the boot store, and the data-path restart. -/

namespace Sys2Proof.Machine

variable {d : Dev}

/-! ## Triggers that are refused (R123) -/

/-- What a write is answered over PCIe is recorded in the dictionary alone. -/
theorem Dev.answer_frame (who : Principal) (id : Nat) (r : Nat × Dev) :
    Dev.answer who id r = { r.2 with reg := (Dev.answer who id r).reg } := by
  unfold Dev.answer
  split
  · split <;> rfl
  · split <;> rfl
  · rfl

theorem Dev.rejectPcie_rd (d : Dev) (status id : Nat) {k : Nat} (hstatus : k ≠ M.LAST_WRITE_STATUS) (hid : k ≠ M.LAST_WRITE_ID)
    (hcnt : k ≠ M.CNT_WRITE_REJECT) : (d.rejectPcie status id).rd k = d.rd k :=
  (Dev.rd_bump_other _ _ _ hcnt).trans ((Dev.rd_wr_other _ _ _ _ hid).trans (Dev.rd_wr_other _ _ _ _ hstatus))

theorem Dev.answer_rd (who : Principal) (id : Nat) (r : Nat × Dev) {k : Nat} (hstatus : k ≠ M.LAST_WRITE_STATUS)
    (hid : k ≠ M.LAST_WRITE_ID) (hcnt : k ≠ M.CNT_WRITE_REJECT) : (Dev.answer who id r).rd k = r.2.rd k := by
  have rejected := r.2.rejectPcie_rd r.1 id hstatus hid hcnt
  unfold Dev.answer
  split
  · split
    · rfl
    · exact rejected
  · split
    · rfl
    · exact rejected
  · rfl

/-! ## Values saved to the boot store (R59, R185, R298) -/

/-- A restart that runs keeps its RESTART_STATUS (R61, log 207). -/
theorem paletteSave_rd_restartStatus (v : Nat) (d : Dev) :
    (paletteSave v d).2.rd M.RESTART_STATUS = if d.start.state = .restarting then d.rd M.RESTART_STATUS else St.OK := by
  unfold paletteSave
  split
  · rfl
  · exact Dev.rd_wr_start ..

theorem paletteSave_start (v : Nat) (d : Dev) : (paletteSave v d).2.start =
    { d.start with boot := { d.start.boot with palette := some (d.rd M.PALETTE_NEXT, d.rd M.PIPE_GATE_NEXT) } } := by
  unfold paletteSave
  split <;> rfl

theorem exec_paletteSave_of_passes {a : Acc} {s : State} (h : Passes s.dev a M.PALETTE_SAVE) :
    exec (.paletteSave a) s = .next { s with dev := (paletteSave (storedValue M.PALETTE_SAVE a.val) s.dev).2 } := by
  have hexec : exec (.paletteSave a) s = .next { s with dev := (s.dev.trigger a M.PALETTE_SAVE paletteSave).2 } := rfl
  rwa [Dev.trigger_ok h (e := (paletteSave _ s.dev).2) rfl] at hexec

theorem exec_rollSeedSave_of_passes {a : Acc} {s : State} (h : Passes s.dev a M.ROLL_SEED_SAVE) :
    exec (.rollSeedSave a) s = .next { s with dev := (rollSeedSave (storedValue M.ROLL_SEED_SAVE a.val) s.dev).2 } := by
  have hexec : exec (.rollSeedSave a) s = .next { s with dev := (s.dev.trigger a M.ROLL_SEED_SAVE rollSeedSave).2 } := rfl
  rwa [Dev.trigger_ok h (e := (rollSeedSave _ s.dev).2) rfl] at hexec

theorem exec_keySave_of_passes {a : Acc} {s : State} (h : Passes s.dev a M.KEY_SAVE) :
    exec (.keySave a) s = .next { s with dev := (keySave (storedValue M.KEY_SAVE a.val) s.dev).2 } := by
  have hexec : exec (.keySave a) s = .next { s with dev := (s.dev.trigger a M.KEY_SAVE keySave).2 } := rfl
  rwa [Dev.trigger_ok h (e := (keySave _ s.dev).2) rfl] at hexec

/-! ## The abort of an open transaction (R159) -/

/-- The end of a transaction writes members of class TXN alone. -/
theorem txnClear_rd (d : Dev) {k : Nat} (h : k / 2 ^ 24 ≠ 0x05) : (txnClear d).rd k = d.rd k := by
  unfold txnClear
  rw [Dev.rd_wr_other _ _ _ _ (by rintro rfl; exact h rfl), Dev.rd_wr_other _ _ _ _ (by rintro rfl; exact h rfl),
    Dev.rd_wr_other _ _ _ _ (by rintro rfl; exact h rfl)]
  rfl

theorem rollbackEnd_frame (d : Dev) (b : Bool) : (rollbackEnd d b).start = d.start ∧ (rollbackEnd d b).txn.state = .idle := by
  cases b <;> exact ⟨rfl, rfl⟩

theorem rollbackEnd_rd (d : Dev) (b : Bool) {k : Nat} (h : k / 2 ^ 24 ≠ 0x05) : (rollbackEnd d b).rd k = d.rd k := by
  cases b
  all_goals
    exact (Dev.rd_bump_other _ _ _ (by rintro rfl; exact h rfl)).trans
      ((Dev.rd_wr_other _ _ _ _ (by rintro rfl; exact h rfl)).trans (txnClear_rd d h))

/-- The abort of a restart leaves no transaction, and the start-up state as it was. -/
theorem txnAbortNow_frame (d : Dev) : (txnAbortNow d).start = d.start ∧ (txnAbortNow d).txn.state = .idle := by
  unfold txnAbortNow
  split
  case h_1 hidle => exact ⟨rfl, hidle⟩
  all_goals exact rollbackEnd_frame ..

theorem txnAbortNow_rd (d : Dev) {k : Nat} (h : k / 2 ^ 24 ≠ 0x05) : (txnAbortNow d).rd k = d.rd k := by
  unfold txnAbortNow
  split
  · rfl
  all_goals exact rollbackEnd_rd _ _ h

/-! ## DATAPATH_RESTART (R61) -/

/-- The restart's trigger with every check passed: the transaction ends, the pair and the seeds are latched, and READY is due
to fall. -/
def Dev.beginRestart (d : Dev) : Dev :=
  ({ (latchNext (txnAbortNow d)).wr M.RESTART_STATUS St.PENDING with
    start := { (latchNext (txnAbortNow d)).start with fallDue := true } }).goes .restarting

theorem datapathRestart_of_valid (v : Nat) (hstate : d.start.state = .ready)
    (hpair : gateRuleOk (d.rd M.PALETTE_NEXT) (d.rd M.PIPE_GATE_NEXT) = true) :
    datapathRestart txnAbortNow v d = (St.OK, d.beginRestart) := by
  simp [datapathRestart, hstate, hpair, Dev.beginRestart]

theorem datapathRestart_of_invalid (v : Nat) (hstate : d.start.state = .ready)
    (hpair : gateRuleOk (d.rd M.PALETTE_NEXT) (d.rd M.PIPE_GATE_NEXT) = false) :
    datapathRestart txnAbortNow v d = (St.INCONSISTENT, d.wr M.RESTART_STATUS St.INCONSISTENT) := by
  simp [datapathRestart, hstate, hpair]

/-- The pair and the seeds latched are those of the dictionary before the transaction ends, which touches none of them. -/
theorem Dev.beginRestart_start (d : Dev) : d.beginRestart.start = { d.start with
    state := .restarting, fallDue := true, latched := some (d.rd M.PALETTE_NEXT, d.rd M.PIPE_GATE_NEXT)
    seeds := (d.rd M.ROLL_SEED_1, d.rd M.ROLL_SEED_2, d.rd M.ROLL_SEED_3) } := by
  simp only [Dev.beginRestart, Dev.goes, latchNext, txnAbortNow_frame, txnAbortNow_rd d (k := M.PALETTE_NEXT) (by decide),
    txnAbortNow_rd d (k := M.PIPE_GATE_NEXT) (by decide), txnAbortNow_rd d (k := M.ROLL_SEED_1) (by decide),
    txnAbortNow_rd d (k := M.ROLL_SEED_2) (by decide), txnAbortNow_rd d (k := M.ROLL_SEED_3) (by decide)]

theorem Dev.beginRestart_rd_restartStatus (d : Dev) : d.beginRestart.rd M.RESTART_STATUS = St.PENDING :=
  Dev.rd_wr_same (latchNext (txnAbortNow d)) M.RESTART_STATUS St.PENDING

theorem Dev.beginRestart_txn (d : Dev) : d.beginRestart.txn.state = .idle := (txnAbortNow_frame d).2

theorem exec_datapathRestart (a : Acc) (s : State) : exec (.datapathRestart a) s =
    .next { s with dev := (s.dev.trigger a M.DATAPATH_RESTART (datapathRestart txnAbortNow)).2 } := rfl

/-! ## RESTART_COMPLETE (R62) -/

/-- A lane has a result of its calibration: 1 where it passed, 2 where it failed (R100). -/
def Dev.Calibrated (d : Dev) (l : Nat) : Prop := d.rd (M.LANE_CAL_STATUS l) = 1 ∨ d.rd (M.LANE_CAL_STATUS l) = 2

/-- What one element of a list brings about, and every other keeps, holds when the list is done. -/
theorem foldl_of_mem {α β : Type} {P : β → Prop} {f : β → α → β} (keeps : ∀ b a, P b → P (f b a)) {a : α}
    (sets : ∀ b, P (f b a)) {as : List α} (ha : a ∈ as) (b : β) : P (as.foldl f b) := by
  obtain ⟨before, after, rfl⟩ := List.append_of_mem ha
  rw [List.foldl_append, List.foldl_cons]
  exact List.foldlRecOn after f (sets _) fun b hb a _ => keeps b a hb

theorem Dev.calibrated_wr (d : Dev) (l : Nat) {v : Nat} (hv : v = 1 ∨ v = 2) : (d.wr (M.LANE_CAL_STATUS l) v).Calibrated l := by
  unfold Dev.Calibrated
  rw [Dev.rd_wr_same]
  omega

theorem Dev.Calibrated.wr_other {l id : Nat} (h : d.Calibrated l) (v : Nat) (hid : M.LANE_CAL_STATUS l ≠ id) :
    (d.wr id v).Calibrated l := by
  unfold Dev.Calibrated
  rwa [Dev.rd_wr_other _ _ _ _ hid]

/-- A result written for a lane, its own or another's, leaves the lane with a result. -/
theorem Dev.Calibrated.wr_result {l v : Nat} (h : d.Calibrated l) (hv : v = 1 ∨ v = 2) (k : Nat) :
    (d.wr (M.LANE_CAL_STATUS k) v).Calibrated l := by
  by_cases hk : l = k
  · exact hk ▸ d.calibrated_wr l hv
  · exact h.wr_other v (by unfold M.LANE_CAL_STATUS; omega)

/-- LANE_CAL_STATUS is member 0 of its class. -/
theorem laneCalStatus_ne {id : Nat} (h : id % 256 ≠ 0) (l : Nat) : M.LANE_CAL_STATUS l ≠ id := by
  unfold M.LANE_CAL_STATUS
  omega

/-- Lanes that fail keep their own result and that of every other lane. -/
theorem failLanes_calibrated {l : Nat} (h : d.Calibrated l) (lanes : List Nat) : (failLanes d lanes).Calibrated l :=
  List.foldlRecOn lanes _ (motive := fun e : Dev => e.Calibrated l) h
    fun _ he k _ => (he.wr_result (.inr rfl) k).wr_other _ (laneCalStatus_ne (by decide) l)

/-- Every lane of a pipe that is not gated has a result after calibration (R98). -/
theorem calibrateLanes_calibrated (d : Dev) {gate l : Nat} (bad : List Nat) (hl : l < 256) (hgate : bitOf gate (l / 16) = false) :
    (calibrateLanes d gate bad).Calibrated l := by
  have hmem : l ∈ (List.range 256).filter (fun l => !bitOf gate (l / 16)) :=
    List.mem_filter.mpr ⟨List.mem_range.mpr hl, by simp [hgate]⟩
  refine failLanes_calibrated (foldl_of_mem (P := fun e : Dev => e.Calibrated l) ?_ ?_ hmem _) _
  · exact fun e k he => he.wr_result (.inl rfl) k
  · exact fun e => e.calibrated_wr l (.inl rfl)

theorem failLanes_start (d : Dev) (lanes : List Nat) : (failLanes d lanes).start = d.start :=
  List.foldlRecOn lanes _ (motive := fun e : Dev => e.start = d.start) rfl fun _ h _ _ => h

theorem calibrateLanes_start (d : Dev) (gate : Nat) (bad : List Nat) : (calibrateLanes d gate bad).start = d.start := by
  unfold calibrateLanes
  rw [failLanes_start]
  exact List.foldlRecOn _ _ (motive := fun e : Dev => e.start = d.start) rfl fun _ h _ _ => h

/-- An image in the control stores leaves the results of the lanes. -/
theorem Dev.Calibrated.withImage {l : Nat} (h : d.Calibrated l) (i : Image) : (d.withImage i).Calibrated l := by
  have loaded : ({ d with tutors := { d.tutors with image := some i, storeBad := [] } } : Dev).Calibrated l := h
  exact (loaded.wr_other _ (laneCalStatus_ne (by decide) l)).wr_other _ (laneCalStatus_ne (by decide) l)

theorem Dev.withImage_start (d : Dev) (i : Image) : (d.withImage i).start = d.start := rfl

/-- The end of a restart whose READY has fallen makes READY due to rise. -/
theorem restartComplete_start (hstate : d.start.state = .restarting) (hfall : d.start.fallDue = false)
    (hready : d.start.readyDue = false) : (restartComplete d).start = { d.start with readyDue := true } := by
  rw [restartComplete, if_pos ⟨hstate, hfall, hready⟩]
  simp only [Dev.withImage_start, calibrateLanes_start, Dev.fresh_eq]

theorem restartComplete_calibrated (hstate : d.start.state = .restarting) (hfall : d.start.fallDue = false)
    (hready : d.start.readyDue = false) {l : Nat} (hl : l < 256)
    (hgate : bitOf (d.start.latched.getD (1, 0)).2 (l / 16) = false) : (restartComplete d).Calibrated l := by
  rw [restartComplete, if_pos ⟨hstate, hfall, hready⟩]
  exact (calibrateLanes_calibrated _ _ hl hgate).withImage _

theorem exec_restartComplete_of_dieRuns {s : State} (h : s.dev.dieRuns = true) :
    exec .restartComplete s = .next { s with dev := restartComplete s.dev } := by
  have hexec : exec .restartComplete s = .next { s with dev := if s.dev.dieRuns then restartComplete s.dev else s.dev } := rfl
  rwa [if_pos h] at hexec

end Sys2Proof.Machine

namespace Sys2Proof

open Sys2Proof.Machine

/-- Settles O18, clause by clause: the saves, a restart with a valid and with an invalid pair, and its end. That PALETTE_SAVE
leaves the ST_PENDING of a restart that runs is log 207. -/
theorem savesAndRestart : Obligations.SavesAndRestart := by
  refine ⟨fun a s hpass => ?_, fun a s hpass => ?_, fun a s hpass => ?_, fun a s hpass hstate hpair => ?_,
    fun a s hpass hstate hpair => ?_, fun s hruns hstate hfall hready => ?_⟩
  · exact ⟨_, exec_paletteSave_of_passes hpass, paletteSave_start .., paletteSave_rd_restartStatus ..⟩
  · exact exec_rollSeedSave_of_passes hpass
  · exact ⟨_, exec_keySave_of_passes hpass, rfl, rfl⟩
  · refine ⟨s.dev.beginRestart, ?_, Dev.beginRestart_start _, Dev.beginRestart_rd_restartStatus _, Dev.beginRestart_txn _⟩
    rw [exec_datapathRestart, Dev.trigger_ok hpass (datapathRestart_of_valid _ hstate hpair)]
  · refine ⟨_, exec_datapathRestart a s, ?_⟩
    rw [Dev.trigger_passes _ hpass, datapathRestart_of_invalid _ hstate hpair]
    refine ⟨?_, ?_, ?_⟩
    · rw [Dev.answer_frame]
      rfl
    · rw [Dev.answer_rd _ _ _ (by decide) (by decide) (by decide)]
      exact Dev.rd_wr_same ..
    · rw [Dev.answer_frame]
      rfl
  · exact ⟨_, exec_restartComplete_of_dieRuns hruns, restartComplete_start hstate hfall hready,
      fun l hl hgate => restartComplete_calibrated hstate hfall hready hl hgate⟩

end Sys2Proof

/-! The power management of the package: the sag governor, THROTTLE_N, AVSBus and the thermal trip. -/

namespace Sys2Proof.Machine

variable {d : Dev}

/-- An event of the die that runs does what it does to the device, and leaves the bell. -/
theorem gives_of_onDie {c : Instr} {s : State} {f : BellSt → Dev → Dev} (hexec : exec c s = s.onDie f) (h : s.dev.dieRuns = true) :
    Gives c s s.bell (f s.bell s.dev) := by
  unfold Gives
  rw [hexec, State.onDie, State.onDev_eq, if_pos h]

theorem b2n_le_one (b : Bool) : b2n b ≤ 1 := by cases b <;> decide

/-! ## The clock takes a step (R78, R81) -/

theorem Dev.stepFloor_lt (d : Dev) : d.stepFloor < 2 ^ 64 := by
  have hstep := d.rd_lt M.THROTTLE_N_STEP
  have hfault := b2n_le_one d.power.avsFault
  unfold Dev.stepFloor
  split <;> omega

theorem Dev.throttleStep_le_stepFloor (h : d.pins.throttleLow = true) : d.rd M.THROTTLE_N_STEP ≤ d.stepFloor := by
  simp [Dev.stepFloor, h]

theorem Dev.one_le_stepFloor (h : d.power.avsFault = true) : 1 ≤ d.stepFloor := by
  simp [Dev.stepFloor, h, b2n]

theorem Dev.rd_bumpIf_other (c : Bool) (id k : Nat) (h : k ≠ id) : (d.bumpIf c id).rd k = d.rd k := by
  cases c
  · rfl
  · exact Dev.rd_bump_other d id k h

theorem Dev.setStep_rd_clockStep (d : Dev) {k : Nat} (h : k < 2 ^ 64) : (d.setStep k).rd M.CLOCK_STEP = k :=
  (Dev.rd_wr_same ..).trans (Nat.mod_eq_of_lt h)

theorem Dev.setStep_rd_other (d : Dev) (k : Nat) {id : Nat} (hstep : id ≠ M.CLOCK_STEP) (hcount : id ≠ M.CNT_SAG_STRETCH) :
    (d.setStep k).rd id = d.rd id :=
  (Dev.rd_wr_other _ _ _ _ hstep).trans (Dev.rd_bumpIf_other _ _ _ hcount)

/-- A step of the clock changes the dictionary and what is noted of the running period's cycles, and nothing else. -/
theorem Dev.setStep_frame (d : Dev) (k : Nat) : d.setStep k = { d with
    reg := (d.setStep k).reg
    power := { d.power with someLowest := d.power.someLowest || k == 3, allLowest := d.power.allLowest && k == 3 } } := by
  unfold Dev.setStep Dev.bumpIf
  dsimp only
  split <;> rfl

theorem Dev.setStep_pins (d : Dev) (k : Nat) : (d.setStep k).pins = d.pins := by rw [Dev.setStep_frame]

/-! ## Sag (R74, R76) -/

theorem Dev.raiseTo_pins (d : Dev) (id v : Nat) : (d.raiseTo id v).pins = d.pins := by
  unfold Dev.raiseTo
  split <;> rfl

theorem Dev.raiseTo_rd_same (d : Dev) (id : Nat) {v : Nat} (h : v < 2 ^ 64) : (d.raiseTo id v).rd id = max (d.rd id) v := by
  unfold Dev.raiseTo
  split
  · rw [Dev.rd_wr_same]
    omega
  · omega

theorem Dev.raiseTo_rd_other (d : Dev) (id v : Nat) {k : Nat} (h : k ≠ id) : (d.raiseTo id v).rd k = d.rd k := by
  unfold Dev.raiseTo
  split
  · exact Dev.rd_wr_other _ _ _ _ h
  · rfl

/-- A sag is at most the whole target: 100 %, in units of 0.01 %. -/
theorem Dev.sagOf_le (d : Dev) (uv : Nat) : d.sagOf uv ≤ 10000 :=
  Nat.div_le_of_le_mul (Nat.mul_le_mul_right _ (Nat.sub_le ..))

theorem Dev.sagStep_le (d : Dev) (uv : Nat) : d.sagStep uv ≤ 3 := by
  unfold Dev.sagStep
  split_ifs <;> omega

/-- A lower voltage calls for a step at least as slow. -/
theorem Dev.sagStep_anti (d : Dev) {low high : Nat} (h : low ≤ high) : d.sagStep high ≤ d.sagStep low := by
  simp only [Dev.sagStep, Dev.sagExceeds, decide_eq_true_eq]
  split_ifs <;> omega

theorem foldl_min_le {v b : Nat} {vs : List Nat} (h : b ≤ v ∨ v ∈ vs) : vs.foldl min b ≤ v := by
  induction vs generalizing b with
  | nil => simpa using h
  | cons w ws ih =>
    refine ih ?_
    obtain h | h := h
    · exact .inl (min_le_of_left_le h)
    · obtain rfl | h := List.mem_cons.mp h
      · exact .inl (min_le_right ..)
      · exact .inr h

theorem Dev.lowest_le (d : Dev) {volts : List Nat} {uv : Nat} (h : uv ∈ volts) : d.lowest volts ≤ uv := foldl_min_le (.inr h)

theorem Dev.sagStep_eq_three_iff (d : Dev) (uv : Nat) :
    d.sagStep uv = 3 ↔ 7 * (d.sagTarget * 1000) < (d.sagTarget * 1000 - uv) * 100 := by
  simp only [Dev.sagStep, Dev.sagExceeds, decide_eq_true_eq]
  split_ifs <;> simp_all

theorem Dev.sagTarget_of_settling {old : Nat} (h : d.power.avsOld = some old) : d.sagTarget = min old (d.rd M.VCORE_TARGET) := by
  simp [Dev.sagTarget, h]

/-- The step that SAG_STEP_DOWN sets: the slowest called for. -/
def Dev.stepCalledFor (d : Dev) (volts : List Nat) : Nat :=
  max (d.rd M.CLOCK_STEP) (max (d.sagStep (d.lowest volts)) d.stepFloor)

theorem Dev.stepCalledFor_lt (d : Dev) (volts : List Nat) : d.stepCalledFor volts < 2 ^ 64 := by
  have hclock := d.rd_lt M.CLOCK_STEP
  have hsag := d.sagStep_le (d.lowest volts)
  have hfloor := d.stepFloor_lt
  unfold Dev.stepCalledFor
  omega

theorem Dev.sagStep_le_stepCalledFor (d : Dev) {volts : List Nat} {uv : Nat} (h : uv ∈ volts) : d.sagStep uv ≤ d.stepCalledFor volts := by
  have hsag := d.sagStep_anti (d.lowest_le h)
  unfold Dev.stepCalledFor
  omega

/-- SAG_PEAK is raised before the step is judged, and touches nothing that calls for a step. -/
theorem sagStepDown_eq (volts : List Nat) (d : Dev) :
    sagStepDown volts d = (d.raiseTo M.SAG_PEAK (d.sagOf (d.lowest volts))).setStep (d.stepCalledFor volts) := rfl

theorem sagStepDown_rd_clockStep (volts : List Nat) (d : Dev) : (sagStepDown volts d).rd M.CLOCK_STEP = d.stepCalledFor volts :=
  Dev.setStep_rd_clockStep _ (d.stepCalledFor_lt volts)

theorem sagStepDown_rd_other (volts : List Nat) (d : Dev) {id : Nat} (hstep : id ≠ M.CLOCK_STEP) (hcount : id ≠ M.CNT_SAG_STRETCH) :
    (sagStepDown volts d).rd id = (d.raiseTo M.SAG_PEAK (d.sagOf (d.lowest volts))).rd id :=
  Dev.setStep_rd_other _ _ hstep hcount

theorem sagStepDown_rd_sagPeak (volts : List Nat) (d : Dev) :
    (sagStepDown volts d).rd M.SAG_PEAK = max (d.rd M.SAG_PEAK) (d.sagOf (d.lowest volts)) := by
  rw [sagStepDown_rd_other _ _ (by decide) (by decide)]
  exact d.raiseTo_rd_same _ ((d.sagOf_le _).trans_lt (by decide))

theorem sagStepDown_pins (volts : List Nat) (d : Dev) : (sagStepDown volts d).pins = d.pins := by
  rw [sagStepDown_eq, Dev.setStep_pins, Dev.raiseTo_pins]

theorem sagStepDown_gives (volts : List Nat) {s : State} (h : s.dev.dieRuns = true) :
    Gives (.sagStepDown volts) s s.bell (sagStepDown volts s.dev) := gives_of_onDie (f := fun _ => sagStepDown volts) rfl h

theorem sagStepRecover_of_below {uv : Nat} (hstep : d.rd M.CLOCK_STEP ≠ 0)
    (hsag : (d.sagTarget * 1000 - uv) * 100 < stepThreshold (d.rd M.CLOCK_STEP) * (d.sagTarget * 1000))
    (hfloor : d.stepFloor < d.rd M.CLOCK_STEP) : sagStepRecover uv d = d.setStep (d.rd M.CLOCK_STEP - 1) :=
  if_pos ⟨hstep, hsag, hfloor⟩

theorem sagStepRecover_gives (uv : Nat) {s : State} (h : s.dev.dieRuns = true) :
    Gives (.sagStepRecover uv) s s.bell (sagStepRecover uv s.dev) := gives_of_onDie (f := fun _ => sagStepRecover uv) rfl h

end Sys2Proof.Machine

namespace Sys2Proof

open Sys2Proof.Machine

/-- Settles O11: a lower reading calls for a slower step, so the step of the lowest serves for every reading. SAG_N, which
follows the step (R78), is no field of the pins. -/
theorem sagGovernorSetsClockStep : Obligations.SagGovernorSetsClockStep := by
  refine ⟨fun volts s hruns => ?_, fun old uv s hold => ?_, fun uv s hruns hstep hsag hfloor => ?_⟩
  · refine ⟨_, sagStepDown_gives volts hruns, sagStepDown_rd_clockStep .., fun uv huv => ?_, sagStepDown_rd_sagPeak ..,
      sagStepDown_pins .., fun id hid hpeak hcount => ?_⟩
    · rw [sagStepDown_rd_clockStep]
      exact s.dev.sagStep_le_stepCalledFor huv
    · rw [sagStepDown_rd_other _ _ hid hcount]
      exact Dev.raiseTo_rd_other _ _ _ hpeak
  · exact ⟨Dev.sagTarget_of_settling hold, s.dev.sagStep_eq_three_iff uv⟩
  · have hgives := sagStepRecover_gives uv hruns
    rw [sagStepRecover_of_below hstep hsag hfloor] at hgives
    exact ⟨_, hgives, s.dev.setStep_rd_clockStep ((Nat.sub_le ..).trans_lt (s.dev.rd_lt _)), Dev.setStep_pins ..,
      fun id hid hcount => Dev.setStep_rd_other _ _ hid hcount⟩

end Sys2Proof

/-! THROTTLE_N and admission throttling, AVSBus failures, and the thermal trip. -/

namespace Sys2Proof.Machine

variable {d : Dev}

/-! ## ALERT_CAUSE (R92) -/

theorem Dev.alert_rd_same (d : Dev) {bits : Nat} (h : bits < 2 ^ 64) :
    (d.alert bits).rd M.ALERT_CAUSE = d.rd M.ALERT_CAUSE ||| bits :=
  (Dev.rd_wr_same ..).trans (Nat.mod_eq_of_lt (Nat.or_lt_two_pow (d.rd_lt _) h))

theorem Dev.alert_rd_other (d : Dev) (bits : Nat) {id : Nat} (h : id ≠ M.ALERT_CAUSE) : (d.alert bits).rd id = d.rd id :=
  Dev.rd_wr_other _ _ _ _ h

/-! ## THROTTLE_N (R79) -/

/-- The device with THROTTLE_N low, its fall counted and its cause set. -/
def Dev.throttled (d : Dev) : Dev :=
  ({ d with pins := { d.pins with throttleLow := true } } : Dev).bump M.CNT_THROTTLE_PIN |>.alert 4

theorem throttleNFall_of_dieRuns (h : d.dieRuns = true) :
    throttleNFall d = d.throttled.setStep (max (d.throttled.rd M.CLOCK_STEP) d.throttled.stepFloor) := if_pos h

theorem throttleNFall_of_stopped (h : d.dieRuns = false) :
    throttleNFall d = { d with pins := { d.pins with throttleLow := true } } := if_neg (h.trans_ne Bool.false_ne_true)

theorem Dev.throttled_rd_other {id : Nat} (hcount : id ≠ M.CNT_THROTTLE_PIN) (halert : id ≠ M.ALERT_CAUSE) :
    d.throttled.rd id = d.rd id :=
  (Dev.alert_rd_other _ _ halert).trans (Dev.rd_bump_other _ _ _ hcount)

theorem Dev.throttled_rd_count (d : Dev) : d.throttled.rd M.CNT_THROTTLE_PIN = (d.rd M.CNT_THROTTLE_PIN + 1) % 2 ^ 64 :=
  (Dev.alert_rd_other _ _ (by decide)).trans (Dev.rd_bump_same ..)

theorem Dev.throttled_rd_alertCause (d : Dev) : d.throttled.rd M.ALERT_CAUSE = d.rd M.ALERT_CAUSE ||| 4 := by
  refine (Dev.alert_rd_same _ (by decide)).trans ?_
  rw [Dev.rd_bump_other _ _ _ (by decide)]
  rfl

theorem throttleNFall_gives (s : State) : Gives .throttleNFall s s.bell (throttleNFall s.dev) := rfl

/-! ## Pause frames (R83) -/

theorem pauseFrame_frame (d : Dev) (port cls quanta : Nat) : (pauseFrame d port cls quanta).2 = { d with free := d.free + 1 } := rfl

theorem leaveLpi_frame (now : BellSt) (d : Dev) (port : Nat) :
    (leaveLpi now d port).reg = d.reg ∧ (leaveLpi now d port).power = d.power := by
  unfold leaveLpi
  split <;> exact ⟨rfl, rfl⟩

theorem macSends_power (now : BellSt) (d : Dev) (port : Nat) (f : Bytes) : (macSends now d port f).power = d.power := by
  unfold macSends
  rw [Dev.addTo_power, Dev.bump_power, Dev.emit_power, (leaveLpi_frame ..).2]

/-- A frame of the MAC's own changes no member but the two counters of what its port sends. -/
theorem macSends_rd (now : BellSt) (d : Dev) {port id : Nat} (f : Bytes) (hframes : id ≠ M.CNT_TX_FRAMES port)
    (hbytes : id ≠ M.CNT_TX_BYTES port) : (macSends now d port f).rd id = d.rd id := by
  unfold macSends
  rw [Dev.rd_addTo_other _ _ _ _ hbytes, Dev.rd_bump_other _ _ _ hframes]
  exact Dev.rd_of_reg (leaveLpi_frame ..).1 id

theorem sendPause_power (now : BellSt) (d : Dev) (port cls quanta counter : Nat) :
    (sendPause now d port cls quanta counter).power = d.power := by
  unfold sendPause
  split
  · rfl
  · rw [Dev.bump_power, macSends_power, pauseFrame_frame]

/-- A pause frame changes no member but its own counter and the two of the frames that its port sends. -/
theorem sendPause_rd (now : BellSt) (d : Dev) {port counter id : Nat} (cls quanta : Nat) (hframes : id ≠ M.CNT_TX_FRAMES port)
    (hbytes : id ≠ M.CNT_TX_BYTES port) (hcount : id ≠ counter) : (sendPause now d port cls quanta counter).rd id = d.rd id := by
  unfold sendPause
  split
  · rfl
  · rw [Dev.rd_bump_other _ _ _ hcount, macSends_rd _ _ _ hframes hbytes, pauseFrame_frame]
    rfl

/-- Pause frames change neither what throttling keeps nor the clock's step. -/
theorem throttlePause_sends (now : BellSt) (d : Dev) (ks : List Nat) (quanta : Dev → Nat → Nat) :
    let e := ks.foldl (fun d k => sendPause now d (k / 8) (k % 8) (quanta d k) M.CNT_THROTTLE_PAUSE) d
    e.power = d.power ∧ e.rd M.CLOCK_STEP = d.rd M.CLOCK_STEP := by
  refine List.foldlRecOn ks _ (motive := fun e : Dev => e.power = d.power ∧ e.rd M.CLOCK_STEP = d.rd M.CLOCK_STEP) ⟨rfl, rfl⟩ ?_
  intro e he k _
  have hframes : M.CLOCK_STEP ≠ M.CNT_TX_FRAMES (k / 8) := by
    unfold M.CLOCK_STEP M.CNT_TX_FRAMES
    omega
  have hbytes : M.CLOCK_STEP ≠ M.CNT_TX_BYTES (k / 8) := by
    unfold M.CLOCK_STEP M.CNT_TX_BYTES
    omega
  exact ⟨(sendPause_power ..).trans he.1, (sendPause_rd now e _ _ hframes hbytes (by decide)).trans he.2⟩

/-- A throttling pause: the pause frames, then what is noted of the classes paused. -/
theorem throttlePause_frame (now : BellSt) (d : Dev) : (throttlePause now d).power = { d.power with
      paused := d.power.paused ++ d.losslessClasses.filter (fun k => !d.power.paused.contains k)
      pausedAt := now.period.toNat } ∧
    (throttlePause now d).rd M.CLOCK_STEP = d.rd M.CLOCK_STEP := by
  have hsends := throttlePause_sends now d (pauseOnce d d.losslessClasses) (fun d k => 64 * d.gbps (k / 8))
  unfold throttlePause
  dsimp only at hsends ⊢
  generalize List.foldl _ _ _ = e at hsends ⊢
  obtain ⟨hpower, hstep⟩ := hsends
  rw [hpower]
  exact ⟨rfl, hstep⟩

theorem throttlePause_paused (now : BellSt) (d : Dev) (k : Nat) :
    k ∈ (throttlePause now d).power.paused ↔ k ∈ d.power.paused ∨ k ∈ d.losslessClasses := by
  rw [(throttlePause_frame now d).1, List.mem_append, List.mem_filter]
  by_cases hk : k ∈ d.power.paused <;> simp [hk]

theorem throttlePauseRefresh_of_due {now : BellSt} (hstate : d.on M.THROTTLE_STATE = true)
    (hdue : 16 ≤ (now.period.toNat + 2 ^ 32 - d.power.pausedAt % 2 ^ 32) % 2 ^ 32) : throttlePauseRefresh now d = throttlePause now d :=
  if_pos ⟨hstate, hdue⟩

/-! ## AVSBus failures (R75) -/

/-- The device with one failure more, counted, that asks for a retry of a read or of a write (log 217). -/
def Dev.avsFailed (d : Dev) (read : Bool) : Dev :=
  { ({ d with free := d.free + 1 } : Dev).bump M.CNT_AVS_FAULT with
    power := { d.power with avsFails := d.power.avsFails + 1, avsRetry := some read } }

/-- The device with the hold of its clock. -/
def Dev.avsHeld (d : Dev) : Dev := { d with power := { d.power with avsFault := true } }

/-- The third failure: the hold, its cause and its event, and the step that it calls for. -/
def Dev.avsFaulted (d : Dev) (now : BellSt) : Dev :=
  ((d.avsHeld.alert 8).raiseOpen now Ev.AVS_FAULT (oid 3 0)).setStep (max (d.avsHeld.rd M.CLOCK_STEP) d.avsHeld.stepFloor)

/-- Whether the transaction that failed was a read (log 217). -/
def Dev.avsWasRead (d : Dev) : Bool := d.fresh.1 % 2 == 0

theorem avsTransactionFail_of_not_third {now : BellSt} (h : d.power.avsFails ≠ 2) :
    avsTransactionFail now d = d.avsFailed d.avsWasRead := if_neg (by simpa using h)

theorem avsTransactionFail_of_third {now : BellSt} (h : d.power.avsFails = 2) :
    avsTransactionFail now d = (d.avsFailed d.avsWasRead).avsFaulted now := if_pos (by simpa using h)

theorem Dev.avsFailed_rd_count (d : Dev) (read : Bool) : (d.avsFailed read).rd M.CNT_AVS_FAULT = (d.rd M.CNT_AVS_FAULT + 1) % 2 ^ 64 :=
  Dev.rd_bump_same ..

theorem Dev.avsFailed_rd_other (d : Dev) (read : Bool) {id : Nat} (h : id ≠ M.CNT_AVS_FAULT) : (d.avsFailed read).rd id = d.rd id :=
  Dev.rd_bump_other _ _ _ h

theorem Dev.raiseOpen_power (d : Dev) (now : BellSt) (code object : Nat) : (d.raiseOpen now code object).power = d.power := by
  unfold Dev.raiseOpen
  dsimp only [Dev.fresh_eq]
  rw [Dev.raise_frame]

theorem Dev.avsFaulted_power (d : Dev) (now : BellSt) :
    (d.avsFaulted now).power.avsFault = true ∧ (d.avsFaulted now).power.avsRetry = d.power.avsRetry := by
  unfold Dev.avsFaulted
  rw [Dev.setStep_frame, Dev.raiseOpen_power]
  exact ⟨rfl, rfl⟩

theorem Dev.avsFaulted_rd_other (d : Dev) (now : BellSt) {id : Nat} (hstep : id ≠ M.CLOCK_STEP) (hcount : id ≠ M.CNT_SAG_STRETCH)
    (hmerged : id ≠ M.CNT_EVENT_MERGED) : (d.avsFaulted now).rd id = (d.alert 8).rd id :=
  (Dev.setStep_rd_other _ _ hstep hcount).trans (Dev.raiseOpen_rd _ _ _ _ _ hmerged)

/-- The hold is part of the floor of the clock's step. -/
theorem Dev.one_le_avsFaulted_rd_clockStep (d : Dev) (now : BellSt) : 1 ≤ (d.avsFaulted now).rd M.CLOCK_STEP := by
  unfold Dev.avsFaulted
  rw [Dev.setStep_rd_clockStep _ (max_lt (Dev.rd_lt ..) (Dev.stepFloor_lt _))]
  exact le_max_of_le_right (Dev.one_le_stepFloor rfl)

theorem exec_avsTransactionFail (s : State) : exec .avsTransactionFail s =
    .next { s with dev := if s.dev.start.island.answers then avsTransactionFail s.bell s.dev else s.dev } := rfl

theorem avsTransactionFail_gives {s : State} (h : s.dev.start.island.answers = true) :
    Gives .avsTransactionFail s s.bell (avsTransactionFail s.bell s.dev) := by
  unfold Gives
  rw [exec_avsTransactionFail, if_pos h]

/-! ## The thermal trip (R86, R110) -/

theorem thermtrip_of_hot {temp : Int} (h : 120000 ≤ temp) : thermtrip temp d = tripThermal d := if_pos h

theorem tripThermal_rd_alertCause (d : Dev) : (tripThermal d).rd M.ALERT_CAUSE = d.rd M.ALERT_CAUSE ||| 16 :=
  d.alert_rd_same (by decide)

theorem thermtripRelease_of_cool {temp : Int} (hpg : d.pins.vcorePg = false) (h : temp < 100000) :
    thermtripRelease temp d = { d with pins := { d.pins with thermtrip := false } } := if_pos ⟨hpg, h⟩

theorem thermtripRelease_of_not {temp : Int} (h : d.pins.vcorePg = true ∨ 100000 ≤ temp) : thermtripRelease temp d = d := by
  refine if_neg fun ⟨hpg, hcool⟩ => ?_
  obtain hpg' | hhot := h
  · exact Bool.false_ne_true (hpg.symm.trans hpg')
  · omega

theorem thermtrip_gives (temp : Int) (s : State) : Gives (.thermtrip temp) s s.bell (thermtrip temp s.dev) := rfl

theorem thermtripRelease_gives (temp : Int) (s : State) : Gives (.thermtripRelease temp) s s.bell (thermtripRelease temp s.dev) := rfl

theorem throttlePauseRefresh_gives {s : State} (h : s.dev.dieRuns = true) :
    Gives .throttlePauseRefresh s s.bell (throttlePauseRefresh s.bell s.dev) := gives_of_onDie (f := throttlePauseRefresh) rfl h

end Sys2Proof.Machine

namespace Sys2Proof

open Sys2Proof.Machine

/-- Settles O12: the step that THROTTLE_N calls for is part of the floor of the clock's step, and pause frames leave the step. That
a port whose link is down pauses no class is log 249. -/
theorem throttlePinForcesStep : Obligations.ThrottlePinForcesStep := by
  refine ⟨fun s hruns => ?_, fun s => rfl, fun s hstopped => ?_, fun s hruns hstate hdue => ?_⟩
  · have hgives := throttleNFall_gives s
    rw [throttleNFall_of_dieRuns hruns] at hgives
    refine ⟨_, hgives, Dev.setStep_pins .., ?_, ?_, ?_⟩
    · rw [Dev.setStep_rd_other _ _ (by decide) (by decide), Dev.throttled_rd_count]
    · rw [Dev.setStep_rd_other _ _ (by decide) (by decide), Dev.throttled_rd_alertCause]
    · rw [Dev.setStep_rd_clockStep _ (max_lt (Dev.rd_lt ..) (Dev.stepFloor_lt _))]
      have hforced := s.dev.throttled.throttleStep_le_stepFloor rfl
      rw [Dev.throttled_rd_other (by decide) (by decide)] at hforced
      exact le_max_of_le_right hforced
  · exact throttleNFall_of_stopped hstopped ▸ throttleNFall_gives s
  · have hgives := throttlePauseRefresh_gives hruns
    rw [throttlePauseRefresh_of_due hstate hdue] at hgives
    refine ⟨_, hgives, ?_, (throttlePause_frame ..).2, fun k => throttlePause_paused ..⟩
    rw [(throttlePause_frame ..).1]

/-- Settles O13: a failure only counts, but for the third in a row, whose fault raises the floor of the clock's step to 1. -/
theorem avsFailureCounting : Obligations.AvsFailureCounting := by
  refine ⟨fun s hanswers hfails => ?_, fun s hanswers hfails => ?_, fun s hanswers => ?_, fun s => rfl⟩
  · have hgives := avsTransactionFail_gives hanswers
    rw [avsTransactionFail_of_not_third hfails] at hgives
    exact ⟨_, hgives, ⟨_, rfl⟩, rfl, Dev.avsFailed_rd_count .., fun id hid => Dev.avsFailed_rd_other _ _ hid⟩
  · have hgives := avsTransactionFail_gives hanswers
    rw [avsTransactionFail_of_third hfails] at hgives
    obtain ⟨hfault, hretry⟩ := (s.dev.avsFailed s.dev.avsWasRead).avsFaulted_power s.bell
    refine ⟨_, hgives, hfault, hretry ▸ rfl, ?_, ?_, Dev.one_le_avsFaulted_rd_clockStep ..⟩
    · rw [Dev.avsFaulted_rd_other _ _ (by decide) (by decide) (by decide), Dev.alert_rd_other _ _ (by decide), Dev.avsFailed_rd_count]
    · rw [Dev.avsFaulted_rd_other _ _ (by decide) (by decide) (by decide), Dev.alert_rd_same _ (by decide),
        Dev.avsFailed_rd_other _ _ (by decide)]
  · rw [exec_avsTransactionFail, hanswers]
    rfl

/-- Settles O14, clause by clause: the trip, its release, and a release whose conditions do not hold. -/
theorem thermalTripAndRelease : Obligations.ThermalTripAndRelease := by
  refine ⟨fun temp s hhot => ?_, fun temp s hpg hcool => ?_, fun temp s hkept => ?_⟩
  · have hgives := thermtrip_gives temp s
    rw [thermtrip_of_hot hhot] at hgives
    exact ⟨_, hgives, rfl, rfl, rfl, tripThermal_rd_alertCause _⟩
  · exact thermtripRelease_of_cool hpg hcool ▸ thermtripRelease_gives temp s
  · have hgives := thermtripRelease_gives temp s
    rwa [thermtripRelease_of_not hkept] at hgives

end Sys2Proof

/-! Frame lemmas of the packet path: whatever becomes of a packet, a record, a port or a task, the start-up state stays, and with it
the wake that entry into Recess latches (R88, R89). -/

namespace Sys2Proof.Machine

variable (now : BellSt) (d : Dev) (x : Desc)

/-- The device with which a packet goes on or waits. -/
def Got.dev : Got → Dev
  | .have_ _ d => d
  | .waits d => d

/-- The device with which a lookup of a key ends. -/
def Found.dev : Found → Dev
  | .rec_ _ _ _ d => d
  | .create _ d => d
  | .waits d => d

theorem foldl_start {α : Type} {f : Dev → α → Dev} (h : ∀ d a, (f d a).start = d.start) (as : List α) :
    (as.foldl f d).start = d.start :=
  List.foldlRecOn as f (motive := fun e : Dev => e.start = d.start) rfl fun e he a _ => (h e a).trans he

theorem foldl_snd_start {α β : Type} {f : β × Dev → α → β × Dev} (h : ∀ p a, (f p a).2.start = p.2.start) (as : List α)
    (p : β × Dev) : (as.foldl f p).2.start = p.2.start :=
  List.foldlRecOn as f (motive := fun q : β × Dev => q.2.start = p.2.start) rfl fun q hq a _ => (h q a).trans hq

/-! ### Members and events -/

@[simp] theorem Dev.bumpIf_start (c : Bool) (id : Nat) : (d.bumpIf c id).start = d.start := by
  unfold Dev.bumpIf
  split <;> simp

@[simp] theorem Dev.raiseTo_start (id v : Nat) : (d.raiseTo id v).start = d.start := by
  unfold Dev.raiseTo
  split <;> simp

@[simp] theorem Dev.abump_start (a : Nat) : (d.abump a).start = d.start := rfl

@[simp] theorem Dev.stamp_start : (Dev.stamp now d).2.start = d.start := rfl

@[simp] theorem Dev.raiseOpenIf_start (c : Bool) (code object : Nat) : (d.raiseOpenIf c now code object).start = d.start := by
  unfold Dev.raiseOpenIf
  grind [Dev.raiseOpen_start]

/-! ### Pause frames (R83) -/

@[simp] theorem pauseFrame_start (port cls quanta : Nat) : (pauseFrame d port cls quanta).2.start = d.start := rfl

@[simp] theorem leaveLpi_start (port : Nat) : (leaveLpi now d port).start = d.start := by
  unfold leaveLpi
  split <;> simp

@[simp] theorem macSends_start (port : Nat) (f : Bytes) : (macSends now d port f).start = d.start := by
  simp [macSends]

@[simp] theorem sendPause_start (port cls quanta counter : Nat) : (sendPause now d port cls quanta counter).start = d.start := by
  unfold sendPause
  split <;> simp

/-! ### Memory channels (R435, R446) -/

@[simp] theorem memRequest_start (ch : Nat) (q : MemReq) : (memRequest d ch q).start = d.start := by
  simp [memRequest, apply_ite Dev.start]

@[simp] theorem sleepChannel_start (ch : Nat) : (sleepChannel d ch).start = d.start := rfl

/-! ### Pools (R398, R402) -/

@[simp] theorem Dev.poolMin_start (p : Nat) : (d.poolMin p).start = d.start := by
  simp [Dev.poolMin, apply_ite Dev.start]

@[simp] theorem Dev.grant_start (p i owner : Nat) : (d.grant p i owner).start = d.start := by
  simp [Dev.grant]

@[simp] theorem poolEmpty_start (p : Nat) : (poolEmpty d p).2.2.start = d.start := by
  unfold poolEmpty
  grind [Dev.bump_start, Dev.fresh_eq]

@[simp] theorem poolAlloc_start (owner size : Nat) : (poolAlloc d owner size).2.2.start = d.start := by
  unfold poolAlloc
  grind [poolEmpty_start, Dev.grant_start]

@[simp] theorem Dev.unitAccess_start (port : Nat) (write : Bool) (t : Nat) (us : List ((Nat × Nat) × Option Bool)) :
    (d.unitAccess port write t us).start = d.start :=
  foldl_start d (fun _ _ => memRequest_start ..) us

@[simp] theorem Dev.regionAccess_start (port : Nat) (write : Bool) (t : Nat) (bs : List RegionByte) :
    (d.regionAccess port write t bs).start = d.start := by
  simp [Dev.regionAccess]

@[simp] theorem Dev.regionUpdate_start (port : Nat) (part : Bool) (t : Nat) (bs : List RegionByte) :
    (d.regionUpdate port part t bs).start = d.start := by
  unfold Dev.regionUpdate
  split <;> simp

/-! ### Host rings (R472, R473) -/

@[simp] theorem finishEntry_start (r i st : Nat) : (finishEntry d r i st).start = d.start := rfl

@[simp] theorem finishStamped_start (r i : Nat) (stamp : Option Nat) : (finishStamped d r i stamp).start = d.start := rfl

@[simp] theorem fillHost_start (r : Nat) (m : Meta) (item : Bytes) (total : Nat) (xs : List (REntry × Nat)) :
    (fillHost d r m item total xs).start = d.start := by
  induction xs generalizing d item with
  | nil => rfl
  | cons e rest ih => exact ih ..

@[simp] theorem Dev.lockerWrite_start (a : Nat) (bs : Bytes) (t : Nat) : (d.lockerWrite a bs t).start = d.start := by
  simp [Dev.lockerWrite]

@[simp] theorem deliver_start (r : Nat) (m : Meta) (item : Bytes) : (deliver now d r m item).start = d.start := by
  unfold deliver
  grind [Dev.bump_start, fillHost_start, poolAlloc_start, Dev.stamp_start, Dev.lockerWrite_start, Dev.setRing_start]

/-! ### Tags (R552) -/

@[simp] theorem tagStage_start (t : Option Tag) (lo : Nat) : (tagStage now d t lo).2.start = d.start := by
  unfold tagStage
  split <;> simp

@[simp] theorem tagWrite_start (t : Option Tag) (fate drop : Nat) : (tagWrite d t fate drop).start = d.start := by
  unfold tagWrite
  grind [Dev.bump_start, Dev.wr_start]

/-! ### The packet buffer and the queues (R385 to R393, R410) -/

@[simp] theorem Dev.setIngress_start (port cls n : Nat) : (d.setIngress port cls n).start = d.start := rfl

@[simp] theorem Dev.setEgress_start (port cls n : Nat) : (d.setEgress port cls n).start = d.start := rfl

@[simp] theorem pfcCheck_start (port cls : Nat) : (pfcCheck now d port cls).start = d.start := by
  simp [pfcCheck, apply_ite Dev.start]

@[simp] theorem releaseCells_start (n : Nat) (cells : List Nat) (whole : Bool) :
    (releaseCells now d n cells whole).2.start = d.start := by
  have freed (e : Dev) (is : List Nat) := foldl_start e (fun e i => e.setBuf_start 0 i (freeBuf 0)) is
  have counted (e : Dev) (is : List Nat) := foldl_start e (fun e i => e.setBuf_start 0 i ((e.buf 0 i).1, (e.buf 0 i).2 - 1)) is
  unfold releaseCells
  split
  · rfl
  · simp [apply_ite Dev.start, freed, counted]

@[simp] theorem freeFrame_start (n : Nat) : (freeFrame now d n).start = d.start := by
  simp [freeFrame]

@[simp] theorem setCounts_start (n copies : Nat) : (setCounts d n copies).start = d.start :=
  foldl_start d (fun _ _ => Dev.setBuf_start ..) _

@[simp] theorem Dev.setSubRow_start (i v : Nat) : (d.setSubRow i v).start = d.start := rfl

@[simp] theorem Dev.setQueueRow_start (i v : Nat) : (d.setQueueRow i v).start = d.start := by
  unfold Dev.setQueueRow
  split <;> simp

@[simp] theorem Dev.setQueue_start (q : Nat) (cs : List Copy) : (d.setQueue q cs).start = d.start := rfl

@[simp] theorem Dev.setMacq_start (port cls : Nat) (cs : List Copy) : (d.setMacq port cls cs).start = d.start := rfl

@[simp] theorem chooseSub_start (port : Nat) (ep : Option Nat) : (chooseSub d port ep).2.start = d.start := by
  unfold chooseSub
  grind [Dev.bump_start]

@[simp] theorem subDrop_start (s : Nat) : (subDrop d s).start = d.start := rfl

@[simp] theorem enqueueAt_start (f : Frame) (c : Copy) (ep : Option Nat) (multi : Bool) :
    (enqueueAt now d f c ep multi).2.start = d.start := by
  unfold enqueueAt
  grind [Dev.bump_start, chooseSub_start, subDrop_start, Dev.bumpIf_start, tagStage_start, Dev.setQueueRow_start,
    Dev.setEgress_start, Dev.setQueue_start]

@[simp] theorem enqueue_start (f : Frame) (c : Copy) (ep : Option Nat) (multi : Bool) :
    (enqueue now d f c ep multi).2.start = d.start := by
  unfold enqueue
  grind [enqueueAt_start, Dev.bump_start]

@[simp] theorem finishDropped_start (c : Copy) : (finishDropped d c).start = d.start := by
  unfold finishDropped
  split <;> simp

@[simp] theorem goesQuiet_start (port t : Nat) : (goesQuiet d port t).start = d.start := by
  unfold goesQuiet
  split <;> simp

@[simp] theorem unlinkQueue_start (port : Nat) (q : Nat) : (unlinkQueue port d q).start = d.start := by
  unfold unlinkQueue
  grind [Dev.setQueue_start, Dev.setQueueRow_start, Dev.setSubRow_start]

@[simp] theorem unlinkPort_start (port : Nat) : (unlinkPort d port).start = d.start := by
  refine (foldl_start _ (fun _ _ => Dev.setMacq_start ..) _).trans
    ((foldl_start _ (fun _ _ => unlinkQueue_start ..) _).trans (foldl_start d ?_ _))
  rintro e ⟨q, c⟩
  cases q <;> simp

@[simp] theorem Dev.setMeter_start (m : Nat) (y : Meter) : (d.setMeter m y).start = d.start := rfl

/- Here and below, a callee whose result a branch depends on is abstracted before the branches are split: the kernel would
otherwise evaluate it to see which branch is taken. -/

@[simp] theorem refillMeter_start (cur at_ : Nat) (m : Nat) : (refillMeter cur at_ d m).start = d.start := by
  obtain ⟨refill, hrefill⟩ : ∃ f, f = meterRefill := ⟨_, rfl⟩
  generalize hf : refillMeter = f
  delta refillMeter at hf
  rw [← hrefill] at hf
  subst hf
  simp [apply_ite Dev.start]

@[simp] theorem classMeter_start (cur at_ : Nat) (m input len : Nat) : (classMeter cur at_ d m input len).2.start = d.start := by
  unfold classMeter
  grind [refillMeter_start, Dev.setMeter_start]

/-! ### Ports (R390, R530) -/

@[simp] theorem buddyPortDown_start (port : Nat) : (buddyPortDown now d port).start = d.start := by
  unfold buddyPortDown
  grind [Dev.raise_start]

@[simp] theorem portDown_start (port : Nat) : (portDown now d port).start = d.start := by
  simp [portDown, apply_ite Dev.start]

/-! ### Classification (R239 to R247) -/

@[simp] theorem stealSlots_start (pipe n : Nat) : (stealSlots d pipe n).start = d.start := rfl

@[simp] theorem rewritePart_start (pipe idx : Nat) : (rewritePart d pipe idx).start = d.start := rfl

@[simp] theorem repairShadow_start (pipe idx : Nat) : (repairShadow now d pipe idx).start = d.start := by
  unfold repairShadow
  grind [Dev.raiseOpen_start, Dev.bump_start, rewritePart_start]

@[simp] theorem verifyFailed_start (pipe parts idx : Nat) : (verifyFailed now d pipe parts idx).start = d.start := by
  simp [verifyFailed, foldl_start]

@[simp] theorem bankSearch_start (fuel : Nat) (pipe bank parts key start : Nat) :
    (bankSearch fuel now d pipe bank parts key start).2.start = d.start := by
  induction fuel generalizing d with
  | zero => rfl
  | succ fuel ih =>
    unfold bankSearch
    split
    · rfl
    · split
      · rfl
      · rw [ih, verifyFailed_start]

@[simp] theorem hitEntry_start (idx : Nat) : (hitEntry d idx).2.start = d.start := by
  unfold hitEntry
  grind [Dev.setRow_start]

@[simp] theorem classify_start (pipe : Nat) (h : Hdr) (edition : Nat) : (classify now d pipe h edition).2.start = d.start := by
  unfold classify
  extract_lets e
  split
  rename_i hits e' hfold
  have hstart : e'.start = d.start := by
    have hsteps := congrArg (fun p : List BankHit × Dev => p.2.start) hfold
    refine hsteps.symm.trans (foldl_snd_start (fun p b => ?_) _ _)
    grind [bankSearch_start]
  grind [Dev.bump_start, hitEntry_start, Dev.bumpIf_start]

/-! ### Forwarding (R254 to R259) -/

@[simp] theorem bridge_start (pipe edition ingress vlan mac : Nat) : (bridge d pipe edition ingress vlan mac).2.start = d.start := by
  unfold bridge
  grind [Dev.bump_start]

@[simp] theorem route_start (pipe edition cls : Nat) (h : Hdr) (f : Bytes) : (route d pipe edition cls h f).2.2.start = d.start := by
  unfold route
  grind [Dev.bump_start, bridge_start]

@[simp] theorem forwardOf_start (pipe edition cls : Nat) (routed : Bool) (h : Hdr) (f : Bytes) :
    (forwardOf d pipe edition cls routed h f).2.2.start = d.start := by
  unfold forwardOf
  grind [route_start, bridge_start]

/-! ### Tasks (R368, R372) -/

@[simp] theorem traceTask_start (kind : Nat) (t : TaskRec) (tutor info : Nat) :
    (traceTask now d kind t tutor info).start = d.start := by
  unfold traceTask
  grind [Dev.bump_start, Dev.fresh_eq]

@[simp] theorem makeReady_start (t : TaskRec) : (makeReady now d t).2.start = d.start := by
  unfold makeReady
  grind [traceTask_start, Dev.bump_start]

@[simp] theorem Dev.freeTask_start (pipe slot : Nat) : (d.freeTask pipe slot).start = d.start := rfl

@[simp] theorem natReleaseTask_start (pipe mapping : Nat) : (natReleaseTask now d pipe mapping).start = d.start := by
  unfold natReleaseTask
  grind [makeReady_start]

@[simp] theorem natReleaseRetry_start : (natReleaseRetry now d).start = d.start :=
  foldl_start _ (fun _ _ => natReleaseTask_start ..) _

@[simp] theorem exportTask_start : (exportTask now d).start = d.start := by
  unfold exportTask
  split <;> simp

/-! ### The Front Row (R279 to R282) -/

@[simp] theorem Dev.store_start (slot v : Nat) : (d.store slot v).start = d.start := by
  unfold Dev.store
  split <;> simp

@[simp] theorem readSlot_start (slot port : Nat) (known : Option Bool) : (readSlot now d slot port known).start = d.start := by
  simp [readSlot]

@[simp] theorem Dev.touchLine_start (slot : Nat) : (d.touchLine slot).start = d.start := by
  unfold Dev.touchLine
  split <;> simp

@[simp] theorem Dev.touch_start (slot : Nat) : (d.touch slot).start = d.start := by
  simp [Dev.touch, apply_ite Dev.start]

@[simp] theorem Dev.setLate_start (slot : Nat) (v : Option Nat) : (d.setLate slot v).start = d.start := rfl

@[simp] theorem requestWrite_start (slot : Nat) : (requestWrite now d slot).start = d.start := by
  simp [requestWrite]

@[simp] theorem wbPush_start (slot : Nat) (data : BitVec 512) : (wbPush now d slot data).start = d.start := by
  simp [wbPush, apply_ite Dev.start]

theorem clearReferenced_start (set : Nat) (d : Dev) (w : Nat) : (clearReferenced set d w).start = d.start := by
  unfold clearReferenced
  split <;> rfl

theorem placeLine_start (slot : Nat) (data : Nat) (dirty pending : Bool) :
    ∀ e ∈ placeLine now d slot data dirty pending, e.start = d.start := by
  intro e he
  unfold placeLine at he
  dsimp only at he
  split at he
  · cases he
    rfl
  · split at he
    · cases he
      rfl
    · split at he
      · cases he
      · rename_i cleared _ _
        have hcleared := foldl_start d (clearReferenced_start (d.setOf slot)) cleared
        unfold clearReferenced at hcleared
        cases he
        generalize List.foldl _ _ _ = e at hcleared ⊢
        grind [Dev.setLine_start, Dev.bump_start, wbPush_start]

theorem writeSlot_start (slot v : Nat) : ∀ e ∈ writeSlot now d slot v, e.start = d.start := by
  intro e he
  unfold writeSlot at he
  obtain ⟨p, hp, rfl⟩ := Option.map_eq_some_iff.mp he
  rw [Dev.setLate_start]
  split at hp
  · cases hp
    rfl
  · exact placeLine_start _ _ _ _ _ _ _ hp

theorem writeRecord_start (slot r : Nat) : ∀ e ∈ writeRecord now d slot r, e.start = d.start := by
  intro e he
  unfold writeRecord at he
  split at he
  · cases he
  · rename_i p hp
    have written := writeSlot_start _ _ _ _ _ hp
    split at he
    · exact (writeSlot_start _ _ _ _ _ he).trans written
    · cases he
      exact written

@[simp] theorem putSlot_start (slot v : Nat) : (putSlot now d slot v).start = d.start := by
  unfold putSlot
  split
  · rename_i e he
    exact writeSlot_start _ _ _ _ _ he
  · rw [Dev.bump_start, Dev.setLate_start]

@[simp] theorem updateRecord_start (slot r : Nat) : (updateRecord now d slot r).start = d.start := by
  unfold updateRecord
  dsimp only
  split
  · rw [putSlot_start, putSlot_start]
  · exact putSlot_start ..

theorem bringSlot_start (slot port : Nat) (bad : Bool) : ∀ e, bringSlot now d slot port bad = .here e → e.start = d.start := by
  have written := writeSlot_start now d slot
  have placed := placeLine_start now d slot
  unfold bringSlot
  grind [Dev.bump_start, readSlot_start, Option.map_eq_some_iff]

@[simp] theorem clearSlot_start (slot : Nat) : (clearSlot now d slot).start = d.start := by
  simp [clearSlot]

@[simp] theorem clearRecord_start (slot : Nat) : (clearRecord now d slot).start = d.start := by
  simp [clearRecord, apply_ite Dev.start]

/-! ### The Roll -/

@[simp] theorem resync_start (cause : Nat) : (resync now d cause).start = d.start := by
  unfold resync
  grind [Dev.raise_start, Dev.bump_start]

@[simp] theorem mirror_start (kind slot : Nat) (ext : Bool) (body : Bytes) : (mirror now d kind slot ext body).start = d.start := by
  simp [mirror, apply_ite Dev.start]

@[simp] theorem noteChanged_start (key : Bytes) : (noteChanged now d key).start = d.start := by
  unfold noteChanged
  split <;> simp

@[simp] theorem mirrorCreate_start (slot : Nat) : (mirrorCreate now d slot).start = d.start := by
  simp [mirrorCreate]

@[simp] theorem mirrorState_start (slot : Nat) : (mirrorState now d slot).start = d.start := by
  simp [mirrorState]

@[simp] theorem deltaAdd_start (key : Bytes) (dir : Bool) (bytes lesson : Nat) :
    (deltaAdd d key dir bytes lesson).start = d.start := by
  simp [deltaAdd, apply_ite Dev.start]

@[simp] theorem Dev.setTags_start (s : Nat) (two : Bool) (tag : Nat) : (d.setTags s two tag).start = d.start := rfl

@[simp] theorem Dev.wroteTag_start (s pipe : Nat) : (d.wroteTag s pipe).start = d.start := rfl

theorem insertRecord_start (k : FlowKey) (r : Nat) : ∀ s e, insertRecord now d k r = .at s e → e.start = d.start := by
  unfold insertRecord
  grind [writeRecord_start, Dev.setTags_start]

@[simp] theorem exportNotice_start (n : Notice) : (exportNotice now d n).2.start = d.start := by
  unfold exportNotice
  grind [exportTask_start, Dev.bump_start]

@[simp] theorem noteRefusal_start (pipe h1 : Nat) : (noteRefusal d pipe h1).start = d.start := by
  simp [noteRefusal, apply_ite Dev.start]

@[simp] theorem setEndpoint_start (e v : Nat) : (setEndpoint now d e v).start = d.start := by
  simp [setEndpoint]

/-! ### Packets -/

@[simp] theorem park_start (w : Wait) : (park d x w).start = d.start := by
  simp [park]

@[simp] theorem Dev.unpark_start (id : Nat) : (d.unpark id).start = d.start := rfl

@[simp] theorem Desc.stamp_start (lo : Nat) : (Desc.stamp_ now d x lo).2.start = d.start := by
  simp [Desc.stamp_]

@[simp] theorem dropPacket_start (counter : Nat) : (dropPacket now d x counter).start = d.start := by
  simp [dropPacket]

@[simp] theorem dropAtEnqueue_start (counter : Nat) : (dropAtEnqueue now d x counter).start = d.start := by
  simp [dropAtEnqueue]

@[simp] theorem deliverCopy_start (ring cause : Nat) : (deliverCopy now d x ring cause).2.start = d.start := by
  simp [deliverCopy]

@[simp] theorem ringPacket_start (ring cause : Nat) : (ringPacket now d x ring cause).2.start = d.start := by
  unfold ringPacket
  grind [deliverCopy_start, freeFrame_start, tagWrite_start, Dev.bump_start, dropPacket_start]

@[simp] theorem sendCopy_start (f : Frame) (ep : Option Nat) (group : Option Nat) (multi : Bool) (acc : Copies × Dev) (port : Nat) :
    (sendCopy now x f ep group multi acc port).2.start = acc.2.start := by
  unfold sendCopy
  grind [enqueue_start, Dev.bumpIf_start, Dev.abump_start]

theorem sendCopies_start (f : Frame) (ep group : Option Nat) (multi : Bool) (ports : List Nat) (acc : Copies × Dev) :
    (ports.foldl (sendCopy now x f ep group multi) acc).2.start = acc.2.start :=
  foldl_snd_start (fun p port => sendCopy_start now x f ep group multi p port) ports acc

@[simp] theorem sendPorts_start (ports : List Nat) (group ep slot : Option Nat) (host : Bool) :
    (sendPorts now d x ports group ep slot host).start = d.start := by
  unfold sendPorts
  grind [Dev.bumpIf_start, deliverCopy_start, sendCopies_start, updateRecord_start, freeFrame_start, tagWrite_start,
    Dev.bump_start, dropPacket_start, dropAtEnqueue_start, setCounts_start]

@[simp] theorem outcome_start (code : Nat) : (outcome d x code).2.start = d.start := rfl

@[simp] theorem firstOutcome_start (code : Nat) : (firstOutcome d x code).2.start = d.start := by
  unfold firstOutcome
  split <;> simp

@[simp] theorem report_start : (report now d x).start = d.start := by
  unfold report
  grind [Dev.setPipe_start, exportNotice_start, Dev.bump_start]

@[simp] theorem leaveRoll_start : (leaveRoll now d x).2.start = d.start := by
  simp [leaveRoll]

@[simp] theorem refuseOrder_start : (refuseOrder now d x).start = d.start := by
  simp [refuseOrder]

@[simp] theorem waitIn_start (w : Wait) : (waitIn now d x w).start = d.start := by
  unfold waitIn
  split <;> simp

@[simp] theorem taskPacket_start (kind prio retry : Nat) (slot ep : Option Nat) (order : Option Nat) :
    (taskPacket now d x kind prio retry slot ep order).start = d.start := by
  unfold taskPacket
  grind [refuseOrder_start, makeReady_start, park_start]

@[simp] theorem police_start (ep : Option Nat) : (police now d x ep).2.2.start = d.start := by
  obtain ⟨meter, hmeter⟩ : ∃ f, f = classMeter := ⟨_, rfl⟩
  obtain ⟨field, hfield⟩ : ∃ f, f = fld := ⟨_, rfl⟩
  obtain ⟨endpointMeter, hendpoint⟩ : ∃ f, f = epMeter := ⟨_, rfl⟩
  have metered := classMeter_start
  generalize hf : police = f
  delta police at hf
  rw [← hmeter] at hf metered
  rw [← hfield, ← hendpoint] at hf
  subst hf
  beta_reduce
  grind [setEndpoint_start, Dev.bump_start]

@[simp] theorem forwardPacket_start (routed : Bool) (ep slot : Option Nat) :
    (forwardPacket now d x routed ep slot).start = d.start := by
  unfold forwardPacket
  grind [Desc.stamp_start, sendPorts_start, forwardOf_start, deliverCopy_start, dropPacket_start, Dev.bump_start, ringPacket_start]

@[simp] theorem decide_start (ep slot : Option Nat) : (decide_ now d x ep slot).start = d.start := by
  simp [decide_, apply_ite Dev.start]

@[simp] theorem act_start (ep slot : Option Nat) (hairpin : Bool) : (act now d x ep slot hairpin).start = d.start := by
  simp [act, apply_ite Dev.start]

@[simp] theorem actInOrder_start : (actInOrder now d x).start = d.start := by
  unfold actInOrder
  split <;> simp

@[simp] theorem refuse_start (code : Nat) : (refuse now d x code).start = d.start := by
  simp [refuse, apply_ite Dev.start]

@[simp] theorem dropAll_start (counter : Nat) : (dropAll now d x counter).start = d.start := by
  unfold dropAll
  dsimp only
  rw [foldl_start] <;> simp

@[simp] theorem holdPacket_start (w : Wait) : (holdPacket now d x w).start = d.start := by
  unfold holdPacket
  grind [refuse_start, firstOutcome_start, park_start]

@[simp] theorem placeWait_start : (placeWait now d x).start = d.start := by
  simp [placeWait]

@[simp] theorem queueRead_start (slot : Nat) : (queueRead now d x slot).start = d.start := by
  simp [queueRead, apply_ite Dev.start]

@[simp] theorem joinFill_start (slot : Nat) : (joinFill now d x slot).start = d.start := by
  simp [joinFill]

@[simp] theorem needRecord_start (fuel : Nat) (slot : Nat) : (needRecord fuel now d x slot).dev.start = d.start := by
  induction fuel generalizing d with
  | zero => exact placeWait_start ..
  | succ fuel ih =>
    unfold needRecord
    grind [placeWait_start, Dev.touch_start, joinFill_start, bringSlot_start, queueRead_start, Got.dev]

@[simp] theorem intervalNotice_start (slot r : Nat) : (intervalNotice now d slot r).2.start = d.start := by
  unfold intervalNotice
  grind [exportNotice_start, Dev.bump_start]

@[simp] theorem actFromRecord_start (slot r : Nat) (client : Bool) : (actFromRecord now d x slot r client).start = d.start := by
  simp [actFromRecord]

@[simp] theorem recUpdate_start (r : Nat) (dir : Bool) : (recUpdate now d r dir x).2.2.start = d.start := by
  unfold recUpdate
  grind [Dev.bump_start]

@[simp] theorem servePacket_start (slot r : Nat) (viaLink : Bool) : (servePacket now d x slot r viaLink).start = d.start := by
  simp [servePacket, apply_ite Dev.start]

@[simp] theorem hitRecord_start (slot r : Nat) (viaLink : Bool) : (hitRecord now d x slot r viaLink).start = d.start := by
  unfold hitRecord
  grind [needRecord_start, servePacket_start, refuse_start, firstOutcome_start, park_start, updateRecord_start, Dev.bump_start,
    taskPacket_start, mirrorState_start, Got.dev]

/-! ### Packets in the Roll stage -/

@[simp] theorem markBorn_start (key : Bytes) (r : Nat) : (markBorn d x key r).2.start = d.start := by
  simp [markBorn]

@[simp] theorem serveCreated_start (acked : Bool) : (serveCreated now d x acked).start = d.start := by
  unfold serveCreated
  grind [dropPacket_start, waitIn_start, leaveRoll_start, actFromRecord_start]

theorem placeNew_start (d0 : Dev) (k : FlowKey) (r : Nat) (tutor : Bool) (ep : Nat) (h : d0.start = d.start) :
    (placeNew now d0 d x k r tutor ep).start = d.start := by
  obtain ⟨insert, hinsert⟩ : ∃ f, f = insertRecord := ⟨_, rfl⟩
  have placed := insertRecord_start
  generalize hf : placeNew = f
  delta placeNew at hf
  rw [← hinsert] at hf placed
  subst hf
  beta_reduce
  grind [markBorn_start, refuse_start, placeWait_start, Dev.wroteTag_start, firstOutcome_start, taskPacket_start,
    serveCreated_start, mirrorCreate_start]

@[simp] theorem relay_start : (relay now d x).start = d.start := by
  unfold relay
  split <;> simp

@[simp] theorem askMiss_start : (askMiss now d x).start = d.start := by
  simp [askMiss]

@[simp] theorem createFlow_start (k : FlowKey) : (createFlow now d x k).start = d.start := by
  unfold createFlow
  grind [askMiss_start, relay_start, needRecord_start, Dev.bumpIf_start, dropAll_start, Dev.bump_start, setEndpoint_start,
    refuse_start, firstOutcome_start, park_start, placeNew_start, Got.dev]

@[simp] theorem follow_start (s r : Nat) : (follow now d x s r).dev.start = d.start := by
  unfold follow
  grind [needRecord_start, Dev.bump_start, clearRecord_start, Found.dev, Got.dev]

@[simp] theorem searchFlow_start (fuel : Nat) (k : FlowKey) : (searchFlow fuel now d x k).dev.start = d.start := by
  induction fuel generalizing d x with
  | zero => rfl
  | succ fuel ih =>
    unfold searchFlow
    dsimp only
    split
    · simp
    · split
      · simp [Found.dev]
      · split
        · split
          · rfl
          · simp [ih]
        · grind [needRecord_start, follow_start, Found.dev, Got.dev]

@[simp] theorem lookupFlow_start (k : FlowKey) : (lookupFlow now d x k).dev.start = d.start := by
  unfold lookupFlow
  grind [holdPacket_start, searchFlow_start, Found.dev]

@[simp] theorem arriveRoll_start : (arriveRoll now d x).2.start = d.start := by
  unfold arriveRoll
  split <;> simp

@[simp] theorem rollStage_start : (rollStage now d x).start = d.start := by
  unfold rollStage
  grind [arriveRoll_start, act_start, refuse_start, holdPacket_start, Dev.bumpIf_start, taskPacket_start, lookupFlow_start,
    createFlow_start, hitRecord_start, Found.dev]

@[simp] theorem hairpinSecond_start : (hairpinSecond now d x).start = d.start := by
  unfold hairpinSecond
  grind [dropPacket_start, Dev.bump_start, lookupFlow_start, decide_start, Found.dev]

@[simp] theorem enterRoll_start : (enterRoll now d x).start = d.start := by
  unfold enterRoll
  split <;> simp

@[simp] theorem icmpStage_start : (icmpStage now d x).start = d.start := by
  unfold icmpStage
  grind [enterRoll_start, lookupFlow_start, taskPacket_start, Found.dev]

@[simp] theorem addressStage_start : (addressStage now d x).start = d.start := by
  simp [addressStage, apply_ite Dev.start]

@[simp] theorem guardStage_start : (guardStage now d x).start = d.start := by
  unfold guardStage
  grind [addressStage_start, dropPacket_start, Dev.bump_start, refuse_start, needRecord_start, Got.dev]

@[simp] theorem classifyPass_start : (classifyPass now d x).start = d.start := by
  simp [classifyPass]

@[simp] theorem fragmentPass_start : (fragmentPass now d x).start = d.start := by
  simp [fragmentPass, apply_ite Dev.start]

@[simp] theorem resume_start : (resume now d x).start = d.start := by
  unfold resume
  split <;> simp

/-! ### The end of a task (R367 to R372) -/

@[simp] theorem leaveFor_start : (leaveFor now d x).2.start = d.start := by
  unfold leaveFor
  split <;> simp

@[simp] theorem dropVerdict_start : (dropVerdict now d x).start = d.start := by
  simp [dropVerdict]

@[simp] theorem cancelVerdict_start (counter : Nat) : (cancelVerdict now d x counter).start = d.start := by
  simp [cancelVerdict]

@[simp] theorem wakeSlots_start (fuel : Nat) (pipe : Nat) : (wakeSlots fuel now d pipe).start = d.start := by
  induction fuel generalizing d with
  | zero => rfl
  | succ fuel ih =>
    unfold wakeSlots
    split
    · rfl
    · split
      · rfl
      · rw [ih, resume_start, Dev.unpark_start]

@[simp] theorem endSlot_start (t : TaskRec) (st : Nat) : (endSlot now d t st).start = d.start := by
  unfold endSlot
  grind [finishEntry_start, Dev.freeTask_start, traceTask_start, exportTask_start, natReleaseRetry_start]

@[simp] theorem discardTask_start (counter : Option Nat) (t : TaskRec) : (discardTask now counter d t).start = d.start := by
  unfold discardTask
  grind [endSlot_start, cancelVerdict_start, Dev.unpark_start, dropVerdict_start, wakeSlots_start]

@[simp] theorem Dev.idleTutor_start (t : Nat) : (d.idleTutor t).start = d.start := rfl

@[simp] theorem Dev.putBack_start (t : TaskRec) : (d.putBack t).start = d.start := rfl

/-! ### Entry into Recess (R88) -/

@[simp] theorem discardDesc_start (i : Nat) : (discardDesc now d i).start = d.start := by
  unfold discardDesc
  grind [Dev.idleTutor_start, discardTask_start, dropVerdict_start, Dev.unpark_start]

@[simp] theorem frontLost_start : (frontLost d).start = d.start := by
  unfold frontLost
  dsimp only
  rw [foldl_start, foldl_start, foldl_start]
  · intro e l
    split <;> simp
  · intro e l
    split <;> simp
  · intro e l
    grind [Dev.bump_start, Dev.store_start]

@[simp] theorem channelSleeps_start (ch : Nat) : (channelSleeps d ch).start = d.start := by
  simp [channelSleeps, apply_ite Dev.start]

@[simp] theorem tutorsGated_start : (tutorsGated d).start = d.start := by
  refine foldl_start d (fun e t => ?_) _
  split <;> simp

end Sys2Proof.Machine

/-! Recess: entry, drain time-out, entry completion, and the wake. -/

namespace Sys2Proof.Machine

variable (now : BellSt) {d : Dev}

/-! ## RECESS_ENTER (R88) -/

/-- The device that has begun entry: READY is due to fall, and no wake is latched. -/
def Dev.entering (d : Dev) : Dev :=
  { d with
    start := { d.start with recess := .entering, fallDue := true, wakeLatch := none, drained := false }
    roll := { d.roll with recessLesson := 0 } }

theorem recessEnter_of_ok (v : Nat) (h : recessCheck d = St.OK) :
    recessEnter v d = (St.OK, (d.entering.wr M.RECESS_STATUS St.PENDING).goes .recess) :=
  if_neg (not_not_intro h)

theorem Dev.goes_rd (d : Dev) (st : StartState) (id : Nat) : (d.goes st).rd id = d.rd id := rfl

theorem Dev.setReady_rd (d : Dev) (b : Bool) (id : Nat) : (d.setReady b).rd id = d.rd id := rfl

theorem recessEnter_gives {a : Acc} {s : State} (hpass : Passes s.dev a M.RECESS_ENTER) (hcheck : recessCheck s.dev = St.OK) :
    Gives (.recessEnter a) s s.bell ((s.dev.entering.wr M.RECESS_STATUS St.PENDING).goes .recess) := by
  have hexec : Gives (.recessEnter a) s s.bell (s.dev.trigger a M.RECESS_ENTER recessEnter).2 := rfl
  rwa [Dev.trigger_ok hpass (recessEnter_of_ok _ hcheck)] at hexec

/-! ## The drain (R88 step 3) -/

theorem discardPackets_start (d : Dev) : (discardPackets now d).start = d.start := by
  unfold discardPackets
  dsimp only
  rw [foldl_start _ (freeFrame_start now), foldl_start _ finishDropped_start, foldl_start _ (discardDesc_start now)]

/-- The device that the drain time-out leaves: the frames of the buffer are counted, and every packet goes. -/
def Dev.emptied (d : Dev) : Dev :=
  let e := discardPackets now (d.addTo M.CNT_RECESS_DISCARD d.switch.frames.length)
  { e with start := { e.start with drained := true } }

theorem Dev.emptied_start (d : Dev) : (Dev.emptied now d).start = { d.start with drained := true } := by
  unfold Dev.emptied
  dsimp only
  rw [discardPackets_start]
  rfl

theorem Dev.emptied_frames (d : Dev) : (Dev.emptied now d).switch.frames = [] := rfl

theorem Dev.emptied_descs (d : Dev) : (Dev.emptied now d).descs = [] := rfl

theorem recessDrainTimeout_of_due (hentering : d.start.recess = .entering) (hfallen : d.start.fallDue = false)
    (hdrained : d.start.drained = false) : recessDrainTimeout now d = Dev.emptied now d :=
  if_pos ⟨hentering, hfallen, hdrained⟩

theorem recessDrainTimeout_wakeLatch (d : Dev) : (recessDrainTimeout now d).start.wakeLatch = d.start.wakeLatch := by
  by_cases h : d.start.recess = .entering ∧ d.start.fallDue = false ∧ d.start.drained = false
  · obtain ⟨hentering, hfallen, hdrained⟩ := h
    rw [recessDrainTimeout_of_due now hentering hfallen hdrained, Dev.emptied_start]
  · rw [recessDrainTimeout, if_neg h]

theorem recessDrainTimeout_gives {s : State} (h : s.dev.dieRuns = true) :
    Gives .recessDrainTimeout s s.bell (recessDrainTimeout s.bell s.dev) :=
  gives_of_onDie (f := recessDrainTimeout) rfl h

/-! ## RECESS_ENTRY_COMPLETE (R88 steps 4 to 6) -/

/-- The device asleep, short of its RECESS_STATUS: drained, the Front Row written back, the ports without a wake pattern down,
the tutors gated and the channels in self-refresh. -/
def Dev.fallenAsleep (d : Dev) : Dev :=
  let d := if d.start.drained then d else recessDrainTimeout now d
  let d := frontLost d
  let d := ((List.range 256).filter (fun p => !d.on (M.PORT_WAKE_ENABLE p))).foldl (portDown now) d
  (List.range 16).foldl channelSleeps (tutorsGated d)

/-- No step of the entry latches a wake, or drops one. -/
theorem Dev.fallenAsleep_wakeLatch (d : Dev) : (Dev.fallenAsleep now d).start.wakeLatch = d.start.wakeLatch := by
  unfold Dev.fallenAsleep
  dsimp only
  rw [foldl_start _ channelSleeps_start, tutorsGated_start, foldl_start _ (portDown_start now), frontLost_start]
  split
  · rfl
  · exact recessDrainTimeout_wakeLatch now d

/-- The device in Recess. -/
def Dev.inRecess (d : Dev) : Dev := { d with start := { d.start with recess := .recess } }.wr M.RECESS_STATUS St.OK

theorem Dev.inRecess_wakeLatch (d : Dev) : d.inRecess.start.wakeLatch = d.start.wakeLatch := rfl

theorem recessEntryComplete_of_unlatched (hentering : d.start.recess = .entering) (hfallen : d.start.fallDue = false)
    (hlatch : d.start.wakeLatch = none) : recessEntryComplete now d = (Dev.fallenAsleep now d).inRecess := by
  have hnone : (Dev.fallenAsleep now d).inRecess.start.wakeLatch = none := by
    rw [Dev.inRecess_wakeLatch, Dev.fallenAsleep_wakeLatch, hlatch]
  unfold recessEntryComplete
  rw [if_neg (by simp [hentering, hfallen])]
  unfold Dev.inRecess Dev.fallenAsleep at hnone ⊢
  dsimp only at hnone ⊢
  rw [hnone]

theorem recessEntryComplete_gives {s : State} (h : s.dev.dieRuns = true) :
    Gives .recessEntryComplete s s.bell (recessEntryComplete s.bell s.dev) :=
  gives_of_onDie (f := recessEntryComplete) rfl h

/-! ## RECESS_EXIT (R89) -/

/-- The cause of a wake by RECESS_EXIT: 3 over Denlys, 2 over PCIe. -/
def wakeCause (who : Principal) : Nat :=
  match who with
  | .d _ => 3
  | _ => 2

theorem wakeCause_ne_one (who : Principal) : wakeCause who ≠ 1 := by
  cases who <;> simp [wakeCause]

theorem wakeCause_lt (who : Principal) : wakeCause who < 2 ^ 64 := by
  cases who <;> simp [wakeCause]

/-- The device whose wake has begun, short of the event. -/
def Dev.waking (d : Dev) (cause : Nat) : Dev :=
  { d.wr M.RECESS_WAKE_CAUSE cause with start := { d.start with recess := .waking, wakeLatch := none } }

theorem recessWake_of_recess {cause : Nat} (port pattern : Nat) (h : d.start.recess = .recess) (hcause : cause ≠ 1) :
    recessWake now d cause port pattern = (d.waking cause).raiseOpen now Ev.RECESS_WAKE (oid 3 0) := by
  unfold recessWake
  rw [h]
  dsimp only
  rw [if_neg hcause]
  rfl

/-- The device after RECESS_EXIT in Recess. -/
def Dev.exiting (d : Dev) (who : Principal) : Dev :=
  ((d.waking (wakeCause who)).raiseOpen now Ev.RECESS_WAKE (oid 3 0)).wr M.RECESS_STATUS St.PENDING

theorem recessExit_of_recess (who : Principal) (v : Nat) (h : d.start.recess = .recess) :
    recessExit now who v d = (St.OK, Dev.exiting now d who) := by
  unfold recessExit
  rw [if_neg (by simp [h])]
  exact congrArg (fun e : Dev => (St.OK, e.wr M.RECESS_STATUS St.PENDING)) (recessWake_of_recess now 0 0 h (wakeCause_ne_one who))

theorem recessExit_gives {a : Acc} {s : State} (hpass : Passes s.dev a M.RECESS_EXIT) (h : s.dev.start.recess = .recess) :
    Gives (.recessExit a) s s.bell (Dev.exiting s.bell s.dev a.who) := by
  have hexec : Gives (.recessExit a) s s.bell (s.dev.trigger a M.RECESS_EXIT (recessExit s.bell a.who)).2 := rfl
  rwa [Dev.trigger_ok hpass (recessExit_of_recess s.bell a.who _ h)] at hexec

theorem Dev.exiting_recess (d : Dev) (who : Principal) : (Dev.exiting now d who).start.recess = .waking :=
  congrArg Start.recess (Dev.raiseOpen_start ..)

theorem Dev.exiting_rd_wakeCause (d : Dev) (who : Principal) :
    (Dev.exiting now d who).rd M.RECESS_WAKE_CAUSE = wakeCause who := by
  unfold Dev.exiting
  rw [Dev.rd_wr_other _ _ _ _ (by decide), Dev.raiseOpen_rd _ _ _ _ _ (by decide)]
  exact (Dev.rd_wr_same ..).trans (Nat.mod_eq_of_lt (wakeCause_lt who))

/-! ## RECESS_WAKE_COMPLETE (R90) -/

/-- The device whose channels have left self-refresh, with the lessons that it slept through. -/
def Dev.woken (d : Dev) : Dev :=
  let d := (List.range 16).foldl (fun d ch => if d.rd (M.MEMCH_STATE ch) = 3 then d.wr (M.MEMCH_STATE ch) 2 else d) d
  if 2 ^ 23 ≤ d.roll.recessLesson then
    { d with roll := { d.roll with wakeLesson := some now.lesson.toNat, sweepPartial := d.rd M.ROLL_CALL_POSITION != 0 } }
  else d

/-- The device awake, with READY high. -/
def Dev.awakened (d : Dev) : Dev :=
  let e := { d with tcamCopies := [], start := { d.start with recess := .awake, wakeLatch := none, drained := false } }
  ((e.wr M.RECESS_STATUS St.OK).goes .ready).setReady true

theorem Dev.awakened_rd_recessStatus (d : Dev) : d.awakened.rd M.RECESS_STATUS = St.OK :=
  (Dev.setReady_rd ..).trans ((Dev.goes_rd ..).trans (Dev.rd_wr_same ..))

theorem recessWakeComplete_of_waking (h : d.start.recess = .waking) : recessWakeComplete now d = (Dev.woken now d).awakened := by
  unfold recessWakeComplete Dev.woken Dev.awakened
  rw [if_neg (not_not_intro h)]

theorem recessWakeComplete_gives {s : State} (h : s.dev.dieRuns = true) :
    Gives .recessWakeComplete s s.bell (recessWakeComplete s.bell s.dev) :=
  gives_of_onDie (f := recessWakeComplete) rfl h

end Sys2Proof.Machine

namespace Sys2Proof

open Sys2Proof.Machine

/-- Settles O19: what the drain and the steps of entry do to packets, ports, tutors and channels leaves the start-up state, so
that no wake is latched by them. That RECESS_STATUS is ST_PENDING from RECESS_ENTER and RECESS_EXIT, and ST_OK as entry
completes, is the model's choice (log 26). -/
theorem recessEntersAndWakes : Obligations.RecessEntersAndWakes := by
  refine ⟨fun a s hpass hcheck => ?_, fun s hruns hentering hfallen hdrained => ?_, fun s hruns hentering hfallen hlatch => ?_,
    fun a s hpass hrecess => ?_, fun s hruns hwaking => ?_⟩
  · exact ⟨_, recessEnter_gives hpass hcheck, rfl, rfl, rfl, (Dev.goes_rd ..).trans (Dev.rd_wr_same ..)⟩
  · refine ⟨_, recessDrainTimeout_gives hruns, ?_⟩
    rw [recessDrainTimeout_of_due _ hentering hfallen hdrained]
    exact ⟨Dev.emptied_frames .., Dev.emptied_descs .., congrArg Start.drained (Dev.emptied_start ..)⟩
  · refine ⟨_, recessEntryComplete_gives hruns, ?_⟩
    rw [recessEntryComplete_of_unlatched _ hentering hfallen hlatch]
    exact ⟨rfl, Dev.rd_wr_same ..⟩
  · refine ⟨_, recessExit_gives hpass hrecess, Dev.exiting_recess .., ?_, Dev.rd_wr_same ..⟩
    exact Dev.exiting_rd_wakeCause ..
  · refine ⟨_, recessWakeComplete_gives hruns, ?_⟩
    rw [recessWakeComplete_of_waking _ hwaking]
    exact ⟨rfl, rfl, rfl, Dev.awakened_rd_recessStatus _⟩

end Sys2Proof

/-! The island's resets, its image, and the rails of the logic die. -/

namespace Sys2Proof.Machine

variable {d : Dev} {now : BellSt}

/-- A command of bell and device leaves what it answers for both. -/
theorem gives_of_onBoth {c : Instr} {s : State} {f : BellSt → Dev → BellSt × Dev} {b : BellSt} {d : Dev}
    (hexec : exec c s = s.onBoth f) (h : f s.bell s.dev = (b, d)) : Gives c s b d := by
  unfold Gives
  rw [hexec, State.onBoth_eq, h]

/-! ## The straps (R93, R94) -/

/-- An island reset takes members alone from the straps and the boot store. -/
theorem latchStraps_frame (d : Dev) (x : Straps) : ∃ reg, latchStraps d x = { d with reg } := by
  unfold latchStraps
  extract_lets d₁ d₂ d₃
  obtain ⟨reg, hreg⟩ : ∃ reg, d₁ = { d with reg } :=
    List.foldlRecOn _ _ (motive := fun e : Dev => ∃ reg, e = { d with reg }) ⟨_, rfl⟩ fun e he p _ => by
      obtain ⟨reg, rfl⟩ := he
      exact ⟨_, rfl⟩
  clear_value d₁
  subst hreg
  dsimp only [d₂, d₃]
  split
  all_goals
    split
    all_goals exact ⟨_, rfl⟩

theorem latchStraps_start (d : Dev) (x : Straps) : (latchStraps d x).start = d.start := by
  obtain ⟨reg, hreg⟩ := latchStraps_frame d x
  rw [hreg]

theorem latchStraps_pins (d : Dev) (x : Straps) : (latchStraps d x).pins = d.pins := by
  obtain ⟨reg, hreg⟩ := latchStraps_frame d x
  rw [hreg]

theorem latchStraps_rd (d : Dev) (x : Straps) :
    (latchStraps d x).rd M.STRAP_NODEID = x.nodeId % 256 ∧ (latchStraps d x).rd M.STRAP_BOOTSEL = x.bootSel % 4 := by
  unfold latchStraps
  extract_lets d₁ d₂ d₃
  constructor
  · rw [Dev.rd_wr_other _ _ _ _ (by decide), Dev.rd_wr_other _ _ _ _ (by decide), Dev.rd_wr_other _ _ _ _ (by decide), Dev.rd_wr_same]
    omega
  · rw [Dev.rd_wr_other _ _ _ _ (by decide), Dev.rd_wr_other _ _ _ _ (by decide), Dev.rd_wr_same]
    omega

/-! ## Resets of the island (R106, R110, R551) -/

theorem resetIsland_frame (d : Dev) (x : Straps) (keepTrip : Bool) :
    (resetIsland d x keepTrip).start = Start.init d.start.boot ∧ (resetIsland d x keepTrip).pins.vaux = true ∧
      (resetIsland d x keepTrip).pins.thermtrip = (keepTrip && d.pins.thermtrip) :=
  ⟨latchStraps_start .., congrArg Pins.vaux (latchStraps_pins ..), congrArg Pins.thermtrip (latchStraps_pins ..)⟩

theorem resetIsland_rd (d : Dev) (x : Straps) (keepTrip : Bool) :
    (resetIsland d x keepTrip).rd M.STRAP_NODEID = x.nodeId % 256 ∧ (resetIsland d x keepTrip).rd M.STRAP_BOOTSEL = x.bootSel % 4 :=
  latchStraps_rd ..

theorem vauxUp_of_low (x : Straps) (h : d.pins.vaux = false) : vauxUp x now d = (BellSt.init, resetIsland d x false) :=
  if_neg (by simp [h])

/-- The device whose island has stopped. -/
def Dev.islandOff (d : Dev) : Dev :=
  let e := resetIsland d ⟨0, 0, 0⟩ false
  { e with pins := { e.pins with vaux := false }, start := { e.start with island := .off } }

theorem vauxLoss_of_high (h : d.pins.vaux = true) : vauxLoss now d = (BellSt.init, d.islandOff) := if_neg (by simp [h])

/-- A low pulse of 10 µs resets the island. -/
theorem resetNPulse_of_long {ns : Nat} (x : Straps) (hns : 10000 ≤ ns) (h : d.pins.vaux = true) :
    resetNPulse ns x now d = ({ BellSt.init with readyRisen := now.readyRisen }, resetIsland d x true) := by
  have hshort : ¬ ns < 10000 := Nat.not_lt.mpr hns
  have hignored : ¬ (ns < 1000 ∨ d.pins.vaux = false) := by simp [h]; omega
  unfold resetNPulse
  dsimp only
  rw [if_neg hignored, if_neg fun hopen => hshort hopen.1, if_neg hshort]

/-! ## The island's image (R94, R95) -/

theorem islandStart_of_primary {im : IslandImages} (hisland : d.start.island = .starting) (hvaux : d.pins.vaux = true)
    (hpg : d.pins.vcorePg = false) (hboot : d.rd M.STRAP_BOOTSEL % 2 = 0) (him : im.primary = true) :
    islandStart im d = { d.wr M.BOOT_IMAGE 0 with start := { d.start with island := .running, state := .mainOff } } := by
  simp [islandStart, hisland, hvaux, hpg, hboot, him, b2n]

/-! ## VCORE_PG rises (R98) -/

/-- The device that leaves reset, before step 1 of the main sequence. -/
def Dev.railsUp (d : Dev) : Dev := { d with pins := { d.pins with vcorePg := true } }

theorem vcorePgRise_of_mainOff (hisland : d.start.island = .running) (hstate : d.start.state = .mainOff) :
    vcorePgRise now d = ({ BellSt.init with readyRisen := now.readyRisen }, startSequence d.railsUp) := if_pos ⟨hisland, hstate⟩

theorem startSequence_rd (d : Dev) : (startSequence d).rd M.START_STEP = 2 ∧ (startSequence d).rd M.ROLL_READY = 0 := by
  constructor
  · exact (Dev.setStep_rd_other _ _ (by decide) (by decide)).trans ((Dev.rd_wr_other _ _ _ _ (by decide)).trans (Dev.rd_wr_same ..))
  · exact (Dev.setStep_rd_other _ _ (by decide) (by decide)).trans (Dev.rd_wr_same ..)

theorem startSequence_state (d : Dev) : (startSequence d).start.state = .starting := by
  unfold startSequence
  rw [Dev.setStep_frame]
  rfl

theorem startSequence_vcorePg (d : Dev) : (startSequence d).pins.vcorePg = d.pins.vcorePg := by
  unfold startSequence
  rw [Dev.setStep_pins]
  rfl

/-! ## VCORE_PG falls (R102, R109) -/

/-- The die without its rails: pins low, lanes idle, PLLs and link lost. -/
def Dev.railsDown (d : Dev) : Dev :=
  { d with
    pins := { d.pins with vcorePg := false, ready := false, life := false, lifeRuns := false, ppsOut := false }
    start := { d.start with txIdle := true, readyDue := false, fallDue := false, pllLocked := false, pcieUp := false, recess := .awake } }

/-- The loss of the rails is counted where READY was high. -/
def Dev.countLoss (d : Dev) (wasReady : Bool) : Dev :=
  if wasReady then (d.wr M.ALERT_CAUSE (d.rd M.ALERT_CAUSE ||| 0x20)).bump M.CNT_RAIL_LOSS else d

theorem Dev.countLoss_frame (d : Dev) (b : Bool) : (d.countLoss b).pins = d.pins ∧ (d.countLoss b).start = d.start := by
  cases b <;> exact ⟨rfl, rfl⟩

theorem Dev.countLoss_rd (d : Dev) (b : Bool) : (d.countLoss b).rd M.CNT_RAIL_LOSS = (d.rd M.CNT_RAIL_LOSS + b2n b) % 2 ^ 64 := by
  cases b with
  | false => exact (Nat.mod_eq_of_lt (d.rd_lt M.CNT_RAIL_LOSS)).symm
  | true => exact (Dev.rd_bump_same ..).trans (congrArg (fun n => (n + 1) % 2 ^ 64) (Dev.rd_wr_other _ _ _ _ (by decide)))

/-- The device after a loss of the main rails. -/
def Dev.mainLost (d : Dev) : Dev :=
  let e := ((d.railsDown.countLoss d.pins.ready).wr M.ROLL_READY 0).wr M.ROLL_ZERO_PROGRESS 0
  Dev.goes { e with start := { e.start with zeroing := false } } .mainOff

theorem vcorePgFall_of_long {ns : Nat} (hns : 200 ≤ ns) (hisland : d.start.island = .running) :
    vcorePgFall ns now d = ({ now with state := .off, latch := none, due := false }, d.mainLost) := by
  have hrunning : (d.railsDown.countLoss d.pins.ready).start.island = .running :=
    (congrArg Start.island (Dev.countLoss_frame ..).2).trans hisland
  have hlong : ¬ ns < 200 := Nat.not_lt.mpr hns
  unfold vcorePgFall
  dsimp only
  rw [if_neg (by omega), if_neg fun hopen => hlong hopen.1, if_neg hlong]
  exact congrArg (Prod.mk _) (if_pos hrunning)

theorem Dev.mainLost_frame (d : Dev) : d.mainLost.pins = d.railsDown.pins ∧
    d.mainLost.start = { d.railsDown.start with zeroing := false, state := .mainOff } := by
  obtain ⟨hpins, hstart⟩ := d.railsDown.countLoss_frame d.pins.ready
  exact ⟨hpins, congrArg (fun x : Start => { x with zeroing := false, state := .mainOff }) hstart⟩

theorem Dev.mainLost_rd (d : Dev) : d.mainLost.rd M.ROLL_READY = 0 ∧
    d.mainLost.rd M.CNT_RAIL_LOSS = (d.rd M.CNT_RAIL_LOSS + b2n d.pins.ready) % 2 ^ 64 := by
  have hrd (k : Nat) : d.mainLost.rd k =
      (((d.railsDown.countLoss d.pins.ready).wr M.ROLL_READY 0).wr M.ROLL_ZERO_PROGRESS 0).rd k := rfl
  constructor
  · rw [hrd, Dev.rd_wr_other _ _ _ _ (by decide), Dev.rd_wr_same, Nat.zero_mod]
  · rw [hrd, Dev.rd_wr_other _ _ _ _ (by decide), Dev.rd_wr_other _ _ _ _ (by decide), Dev.countLoss_rd]
    rfl

end Sys2Proof.Machine

namespace Sys2Proof

open Sys2Proof.Machine

/-- Settles O15, clause by clause. That a pin reset and a main power-up keep whether READY has risen, and an island power-on does
not, is the model's choice (log 266), as are the state after VAUX_LOSS (log 184) and that ROLL_READY falls with READY (log 214). -/
theorem islandAndRailsStart : Obligations.IslandAndRailsStart := by
  refine ⟨fun x s hvaux => ?_, fun s hvaux => ?_, fun ns x s hns hvaux => ?_, fun im s hisland hvaux hpg hboot him => ?_,
    fun s hisland hstate => ?_, fun ns s hns hisland => ?_⟩
  · obtain ⟨hstart, hpin, -⟩ := resetIsland_frame s.dev x false
    exact ⟨_, gives_of_onBoth rfl (vauxUp_of_low x hvaux), congrArg Start.island hstart, hpin, (resetIsland_rd ..).1⟩
  · exact ⟨_, gives_of_onBoth rfl (vauxLoss_of_high hvaux), rfl, rfl⟩
  · obtain ⟨hstart, -, htrip⟩ := resetIsland_frame s.dev x true
    exact ⟨_, gives_of_onBoth rfl (resetNPulse_of_long x hns hvaux), congrArg Start.island hstart, (resetIsland_rd ..).2, htrip,
      by rw [hstart]; rfl⟩
  · have hgives : Gives (.islandStart im) s s.bell (islandStart im s.dev) := rfl
    rwa [islandStart_of_primary hisland hvaux hpg hboot him] at hgives
  · obtain ⟨hstep, hroll⟩ := startSequence_rd s.dev.railsUp
    exact ⟨_, gives_of_onBoth rfl (vcorePgRise_of_mainOff hisland hstate), startSequence_state _, hstep, hroll, startSequence_vcorePg _⟩
  · obtain ⟨hpins, hstart⟩ := s.dev.mainLost_frame
    obtain ⟨hroll, hcount⟩ := s.dev.mainLost_rd
    refine ⟨_, gives_of_onBoth rfl (vcorePgFall_of_long hns hisland), ?_, ?_, ?_, ?_, ?_, hroll, hcount⟩
    · rw [hstart]
    · rw [hpins]; rfl
    · rw [hpins]; rfl
    · rw [hpins]; rfl
    · rw [hstart]; rfl

end Sys2Proof

/-! PERST_N, Function Level Reset, the PCIe link, LIFE and the board bus. -/

namespace Sys2Proof.Machine

variable {d e : Dev}

/-! ## What a PCIe reset touches -/

/-- `e` has the pins, the start-up state, the rings and the outputs of `d`, whatever else has changed. -/
structure Dev.SameLink (d e : Dev) : Prop where
  pins : e.pins = d.pins
  start : e.start = d.start
  rings : e.rings = d.rings
  out : e.out = d.out

theorem Dev.SameLink.refl (d : Dev) : d.SameLink d := ⟨rfl, rfl, rfl, rfl⟩

/-! ## The abort of a transaction (R159) -/

theorem rollbackEnd_sameLink (d : Dev) (b : Bool) : d.SameLink (rollbackEnd d b) := by
  cases b <;> exact ⟨rfl, rfl, rfl, rfl⟩

theorem txnAbort_sameLink (d : Dev) : d.SameLink (txnAbort d) := by
  unfold txnAbort rollbackBegin
  split
  case h_3 => exact rollbackEnd_sameLink d false
  all_goals exact ⟨rfl, rfl, rfl, rfl⟩

/-! ## The buffers of segmentation requests (R214, R399) -/

/-- A buffer freed changes the pools and their counts. -/
theorem poolFree_frame (d : Dev) (who ptr : Nat) : ∃ reg pools, (poolFree d who ptr).2 = { d with reg, pools } := by
  unfold poolFree
  dsimp only
  repeat' split
  all_goals exact ⟨_, _, rfl⟩

theorem foldl_poolFree_frame (gone : List Nat) (who : Nat) (ptr : Nat → Nat) (d : Dev) :
    ∃ reg pools, gone.foldl (fun d b => (poolFree d who (ptr b)).2) d = { d with reg, pools } := by
  induction gone generalizing d with
  | nil => exact ⟨d.reg, d.pools, rfl⟩
  | cons b rest ih =>
    obtain ⟨reg, pools, hfree⟩ := poolFree_frame d who (ptr b)
    obtain ⟨reg', pools', hrest⟩ := ih (poolFree d who (ptr b)).2
    exact ⟨reg', pools', by rw [List.foldl_cons, hrest, hfree]⟩

/-- Reaping changes members, pools and requests alone, and of the requests it leaves, the chunks alone. -/
theorem segReap_frame (d : Dev) :
    d.SameLink (segReap d) ∧ ∀ q ∈ (segReap d).segs, ∃ s ∈ d.segs, q = { s with chunks := q.chunks } := by
  unfold segReap
  extract_lets d₁ free gone d₂ d₃
  obtain ⟨reg, pools, hfreed⟩ : ∃ reg pools, d₂ = { d₁ with reg, pools } :=
    foldl_poolFree_frame gone 0x21 (fun b => 3 * 2 ^ 61 + b * 16384) d₁
  have hlink : d.SameLink d₂ := hfreed ▸ ⟨rfl, rfl, rfl, rfl⟩
  have hsegs : d₂.segs = d₁.segs := by rw [hfreed]
  refine ⟨⟨hlink.pins, hlink.start, hlink.rings, hlink.out⟩, fun q hq => ?_⟩
  obtain ⟨r, hr, rfl⟩ := List.mem_map.mp (List.mem_filter.mp hq).1
  rw [hsegs] at hr
  obtain ⟨s, hs, rfl⟩ := List.mem_map.mp hr
  exact ⟨s, hs, rfl⟩

/-! ## The PCIe resets (R106, R108, R457) -/

/-- A segmentation request that makes no more segments, and that no ring knows. -/
def SegReq.Ended (q : SegReq) : Prop := q.ring = 256 ∧ q.seq = q.count

theorem SegReq.orphan_ended (q : SegReq) : q.orphan.Ended := ⟨rfl, rfl⟩

theorem segReap_ended (h : ∀ q ∈ d.segs, q.Ended) : ∀ q ∈ (segReap d).segs, q.Ended := by
  intro q hq
  obtain ⟨s, hs, hchunks⟩ := (segReap_frame d).2 q hq
  rw [hchunks]
  exact h s hs

/-- The device short of the end of its segmentation requests: a transaction that K owns is aborted, and class RING cleared. -/
def Dev.ringsReset (d : Dev) : Dev := resetPcie (if d.rd M.TXN_OWNER = 1 then txnAbort d else d)

theorem pcieReset_eq (d : Dev) : pcieReset d = segReap { d.ringsReset with segs := d.ringsReset.segs.map SegReq.orphan } := rfl

theorem pcieReset_segs (d : Dev) : ∀ q ∈ (pcieReset d).segs, q.Ended := by
  refine segReap_ended fun q hq => ?_
  obtain ⟨s, -, rfl⟩ := List.mem_map.mp hq
  exact s.orphan_ended

/-- A PCIe reset disables every ring; what left the device, the pins and the waiting events stay, and so does the state of the link. -/
theorem pcieReset_frame (d : Dev) :
    (pcieReset d).pins = d.pins ∧ (pcieReset d).start = { d.start with pcieConfigReset := true } ∧ (pcieReset d).out = d.out ∧
      (pcieReset d).rings = { d.rings with rings := [], unmasked := [], pendingVec := [] } := by
  have habort : d.SameLink (if d.rd M.TXN_OWNER = 1 then txnAbort d else d) := by
    split
    · exact txnAbort_sameLink d
    · exact .refl d
  have hreap := (segReap_frame { d.ringsReset with segs := d.ringsReset.segs.map SegReq.orphan }).1
  refine ⟨hreap.pins.trans habort.pins, hreap.start.trans ?_, hreap.out.trans habort.out, hreap.rings.trans ?_⟩
  · exact congrArg (fun x : Start => { x with pcieConfigReset := true }) habort.start
  · exact congrArg (fun x : Rings => { x with rings := [], unmasked := [], pendingVec := [] }) habort.rings

/-! ## Pins and the link (R103, R112, R556) -/

theorem pcieLinkUp_of_trained (w g : Nat) (hlocked : d.start.pllLocked = true) (hperst : d.pins.perstHigh = true)
    (hruns : d.dieRuns = true) :
    pcieLinkUp w g d = { d.wr M.PCIE_LINK (w % 256 * 256 + g % 16) with start := { d.start with pcieUp := true } } :=
  if_pos ⟨hlocked, hperst, hruns⟩

theorem lifeToggle_of_runs {now : BellSt} (hbell : now.state ≠ .off) (hlife : d.pins.lifeRuns = true) (hruns : d.dieRuns = true) :
    lifeToggle now d = { d with pins := { d.pins with life := !d.pins.life } } := if_pos ⟨hbell, hlife, hruns⟩

theorem perstNAssert_gives (s : State) : Gives .perstNAssert s s.bell (perstAssert s.dev) := rfl

theorem functionLevelReset_gives {s : State} (h : s.dev.dieRuns = true) : Gives .functionLevelReset s s.bell (pcieReset s.dev) :=
  gives_of_onDie (f := fun _ => pcieReset) rfl h

theorem pcieLinkUp_gives (w g : Nat) (s : State) : Gives (.pcieLinkUp w g) s s.bell (pcieLinkUp w g s.dev) := rfl

theorem lifeToggle_gives (s : State) : Gives .lifeToggle s s.bell (lifeToggle s.bell s.dev) := rfl

theorem i2cStretchTimeout_gives {s : State} (h : s.dev.start.island.answers = true) :
    Gives .i2cStretchTimeout s s.bell (s.dev.emit .i2cStop) := by
  have hexec : exec .i2cStretchTimeout s =
      .next { s with dev := if s.dev.start.island.answers then s.dev.emit .i2cStop else s.dev } := rfl
  rwa [if_pos h] at hexec

end Sys2Proof.Machine

namespace Sys2Proof

open Sys2Proof.Machine

/-- Settles O17, clause by clause: both resets are one PCIe reset, and PERST_N takes the link down besides. That either ends the
segmentation requests is the model's choice (log 147), and that the waiting events outlast a Function Level Reset (log 42). -/
theorem pcieAndLifePins : Obligations.PcieAndLifePins := by
  refine ⟨fun s => ?_, fun s => rfl, fun s hruns => ?_, fun w g s hlocked hperst hruns => ?_, fun s hbell hlife hruns => ?_, fun s => rfl,
    fun s hisland => i2cStretchTimeout_gives hisland⟩
  · obtain ⟨-, -, hout, hrings⟩ := pcieReset_frame s.dev
    exact ⟨_, perstNAssert_gives s, rfl, rfl, congrArg Rings.rings hrings, hout, pcieReset_segs s.dev⟩
  · obtain ⟨-, hstart, -, hrings⟩ := pcieReset_frame s.dev
    exact ⟨_, functionLevelReset_gives hruns, congrArg Rings.rings hrings, pcieReset_segs s.dev, by rw [hstart], by rw [hrings]⟩
  · exact pcieLinkUp_of_trained w g hlocked hperst hruns ▸ pcieLinkUp_gives w g s
  · exact lifeToggle_of_runs hbell hlife hruns ▸ lifeToggle_gives s

end Sys2Proof

/-! Table commands as they reach an interface. -/

namespace Sys2Proof.Machine

variable {d : Dev} {i cmd : Nat}

/-! ## The interfaces (R134, R135) -/

@[simp] theorem Dev.iface_setIface_same (d : Dev) (i : Nat) (x : TblIf) : (d.setIface i x).iface i = x :=
  SMap.get_set_same ..

theorem Dev.iface_setIface_other (d : Dev) (x : TblIf) {i k : Nat} (h : k ≠ i) : (d.setIface i x).iface k = d.iface k :=
  SMap.get_set_other _ _ _ _ _ h

/-- TBL_CMD as the interface keeps it: the command word without its reserved bits (R136). -/
def TblCmd.word (c : TblCmd) : Nat :=
  c.table * 2 ^ 48 + c.op * 2 ^ 44 + b2n c.staged * 2 ^ 43 + b2n c.merge * 2 ^ 42 + b2n c.keyed * 2 ^ 41 + c.pipe * 2 ^ 35 + c.index

/-- The interface with a command word, and with the command that then runs in it, if any. -/
def TblIf.took (x : TblIf) (word : Nat) (running : Option TblCmd) : TblIf := { x with cmd := word, age := 0, running }

/-- `e` is `d` after a command word at interface `i`: the interface runs `running`, and of the staging words, the result, the other
interfaces, the tables and the members nothing has changed. -/
structure Dev.Took (d e : Dev) (i : Nat) (running : Option TblCmd) : Prop where
  running : (e.iface i).running = running
  key : (e.iface i).key = (d.iface i).key
  data : (e.iface i).data = (d.iface i).data
  status : (e.iface i).status = (d.iface i).status
  tabs : e.tabs = d.tabs
  reg : e.reg = d.reg
  others : ∀ k, k ≠ i → e.iface k = d.iface k

/-- What an interface takes leaves everything else, also where it has taken something before. -/
theorem Dev.Took.set {e : Dev} {r : Option TblCmd} (h : d.Took e i r) (word : Nat) (running : Option TblCmd) :
    d.Took (e.setIface i ((d.iface i).took word running)) i running := by
  refine ⟨?_, ?_, ?_, ?_, h.tabs, h.reg, fun k hk => (Dev.iface_setIface_other _ _ hk).trans (h.others k hk)⟩
  all_goals
    rw [Dev.iface_setIface_same]
    rfl

theorem Dev.Took.refl (d : Dev) (i : Nat) : d.Took d i (d.iface i).running := ⟨rfl, rfl, rfl, rfl, rfl, rfl, fun _ _ => rfl⟩

/-! ## A command word (R136, R137, R141) -/

theorem tblStart_of_busy (hi : i < 16) (hbusy : (d.iface i).running.isSome = true) : tblStart d i cmd = d.bump M.CNT_TBL_BUSY_WRITE := by
  unfold tblStart
  rw [if_neg (Nat.not_le.mpr hi)]
  exact if_pos hbusy

/-- NOP leaves its word in an idle interface, and nothing runs. -/
theorem tblStart_of_nop (hi : i < 16) (hidle : (d.iface i).running = none) (hop : fld cmd 44 4 = 0) :
    d.Took (tblStart d i cmd) i none := by
  have hword : tblStart d i cmd = d.setIface i ((d.iface i).took (TblCmd.ofNat cmd).word none) := by
    unfold tblStart
    dsimp only
    rw [if_neg (Nat.not_le.mpr hi), if_neg (by simp [hidle]), if_pos (show (TblCmd.ofNat cmd).op = 0 from hop), ← hidle]
    rfl
  exact hword ▸ (Dev.Took.refl d i).set ..

/-- The checks of R142 read nothing of the interfaces. -/
theorem tblCheck_setIface (d : Dev) (c : TblCmd) (i k : Nat) (x : TblIf) (tutor : Bool) :
    tblCheck (d.setIface k x) c (ifaceOpen (d.setIface k x) i) tutor = tblCheck d c (ifaceOpen d i) tutor := rfl

/-- A command that passes its checks runs in an idle interface. -/
theorem tblStart_of_ok (hi : i < 16) (hidle : (d.iface i).running = none) (hop : fld cmd 44 4 ≠ 0)
    (hok : tblCheck d (.ofNat cmd) (ifaceOpen d i) false = St.OK) : d.Took (tblStart d i cmd) i (some (.ofNat cmd)) := by
  have hword : tblStart d i cmd = (d.setIface i ((d.iface i).took (TblCmd.ofNat cmd).word none)).setIface i
      ((d.iface i).took (TblCmd.ofNat cmd).word (some (.ofNat cmd))) := by
    unfold tblStart
    dsimp only
    rw [if_neg (Nat.not_le.mpr hi), if_neg (by simp [hidle]), if_neg (show (TblCmd.ofNat cmd).op ≠ 0 from hop), tblCheck_setIface,
      if_neg (not_not_intro hok), Dev.iface_setIface_same]
    unfold TblIf.took
    rw [← hidle]
    rfl
  exact hword ▸ ((Dev.Took.refl d i).set ..).set ..

/-! ## Access to the pages (R103) -/

theorem tblCommand_of_open {op : Nat} (hop : fld cmd 44 4 = op) (hopen : 12 ≤ i ∨ d.bar0Closed = false) :
    tblCommand op i cmd d = tblStart d i cmd := by
  refine if_neg fun h => ?_
  obtain hne | ⟨hi, hclosed⟩ := h
  · exact hne hop
  · obtain hisland | hbar := hopen
    · exact absurd hi (Nat.not_lt.mpr hisland)
    · rw [hbar] at hclosed
      exact Bool.false_ne_true hclosed

/-- Among the checks of R142 is READY. -/
theorem ready_of_tblCheck_ok {c : TblCmd} {open_ tutor : Bool} (h : tblCheck d c open_ tutor = St.OK) : d.pins.ready = true := by
  by_contra hlow
  unfold tblCheck at h
  dsimp only at h
  split at h
  · exact absurd h (by decide)
  · split at h
    · exact absurd h (by decide)
    · rw [if_pos (.inl (Bool.eq_false_iff.mpr hlow))] at h
      exact absurd h (by decide)

/-- With READY high, BAR0 gives access to every page. -/
theorem Dev.bar0Closed_of_ready (h : d.pins.ready = true) : d.bar0Closed = false := by
  simp [Dev.bar0Closed, h]

/-! ## The nine commands (R137) -/

/-- The operation of each command that writes a command word. -/
def tblRows : List (Nat × (Nat → Nat → Instr)) :=
  [(0, .tblNop), (1, .tblRead), (2, .tblWrite), (3, .tblInsert), (4, .tblCas), (5, .tblDelete), (6, .tblCasDelete), (7, .tblNext),
    (8, .tblSearch)]

theorem exec_tbl {p : Nat × (Nat → Nat → Instr)} (hp : p ∈ tblRows) (i cmd : Nat) (s : State) :
    exec (p.2 i cmd) s = .next { s with dev := tblCommand p.1 i cmd s.dev } := by
  fin_cases hp <;> rfl

/-- Every command but the first, TBL_NOP, has an operation. -/
theorem op_ne_zero_of_mem_tail {p : Nat × (Nat → Nat → Instr)} (hp : p ∈ tblRows.tail) : p.1 ≠ 0 := by
  have hall : ∀ op ∈ tblRows.tail.map Prod.fst, op ≠ 0 := by decide
  exact hall _ (List.mem_map_of_mem hp)

theorem exec_tbl_of_open {p : Nat × (Nat → Nat → Instr)} (hp : p ∈ tblRows) {s : State} (hop : fld cmd 44 4 = p.1)
    (hopen : 12 ≤ i ∨ s.dev.bar0Closed = false) : exec (p.2 i cmd) s = .next { s with dev := tblStart s.dev i cmd } := by
  rw [exec_tbl hp, tblCommand_of_open hop hopen]

end Sys2Proof.Machine

namespace Sys2Proof

open Sys2Proof.Machine

/-- Settles O20: the nine commands write one command word, whose effect depends on the interface, the operation and the checks; a
word that passes its checks finds BAR0 open, since READY is one of them. -/
theorem tableCommandsStart : Obligations.TableCommandsStart := by
  refine ⟨fun p hp i cmd s hop hi hidle hok => ?_, fun i cmd s hop hi hopen hidle => ?_, fun p hp i cmd s hop hi hopen hbusy => ?_⟩
  · have hopen := Dev.bar0Closed_of_ready (ready_of_tblCheck_ok hok)
    have hne : fld cmd 44 4 ≠ 0 := hop ▸ op_ne_zero_of_mem_tail hp
    have htook := tblStart_of_ok hi hidle hne hok
    exact ⟨_, exec_tbl_of_open (List.mem_of_mem_tail hp) hop (.inr hopen), htook.running, htook.key, htook.data, htook.tabs, htook.reg,
      htook.others⟩
  · have htook := tblStart_of_nop hi hidle hop
    exact ⟨_, exec_tbl_of_open (p := (0, .tblNop)) (List.mem_cons_self ..) hop hopen, htook.running, htook.status, htook.data, htook.tabs,
      htook.reg, htook.others⟩
  · rw [exec_tbl_of_open hp hop hopen, tblStart_of_busy hi hbusy]

end Sys2Proof

/-! How a running table command ends. -/

namespace Sys2Proof.Machine

variable {now : BellSt} {d : Dev} {i : Nat} {c : TblCmd} {w : Words}

/-- An event of the die that leaves the device as it is changes nothing, whether the die runs or not. -/
theorem exec_of_onDie_keeps {c : Instr} {s : State} {f : BellSt → Dev → Dev} (hexec : exec c s = s.onDie f)
    (h : f s.bell s.dev = s.dev) : exec c s = .next s := by
  rw [hexec, State.onDie, State.onDev_eq, h, ite_self]

/-! ## What an interface shows of a command that has ended (R139) -/

theorem tblPublish_iface (d : Dev) (i : Nat) (r : TblResult) : (tblPublish d i r).iface i =
    { d.iface i with status := r.word, data := r.data.getD (d.iface i).data, running := none, result := none, age := 0 } :=
  Dev.iface_setIface_same ..

theorem tblPublish_running (d : Dev) (i : Nat) (r : TblResult) : ((tblPublish d i r).iface i).running = none := by
  rw [tblPublish_iface]

theorem tblPublish_status (d : Dev) (i : Nat) (r : TblResult) : ((tblPublish d i r).iface i).status = r.word := by
  rw [tblPublish_iface]

theorem tblPublish_data (d : Dev) (i : Nat) (r : TblResult) : ((tblPublish d i r).iface i).data = r.data.getD (d.iface i).data := by
  rw [tblPublish_iface]

theorem tblPublish_reg (d : Dev) (i : Nat) (r : TblResult) : (tblPublish d i r).reg = d.reg := Dev.setIface_reg ..

theorem tblPublish_tabs (d : Dev) (i : Nat) (r : TblResult) : (tblPublish d i r).tabs = d.tabs := Dev.setIface_tabs ..

theorem tblPublish_row (d : Dev) (i : Nat) (r : TblResult) (k : Nat) : (tblPublish d i r).row k = d.row k := rfl

/-- TBL_STATUS of a result that names no other match. -/
theorem TblResult.word_of_single (r : TblResult) (h : r.multi = false) :
    r.word = b2n r.valid * 2 ^ 49 + r.status % 65536 * 2 ^ 32 + r.index % 2 ^ 32 := by
  simp [TblResult.word, h, b2n]

theorem tblEnd_word (st i : Nat) : (tblEnd st i).word = st % 65536 * 2 ^ 32 + i % 2 ^ 32 := by
  rw [TblResult.word_of_single _ rfl, show b2n (tblEnd st i).valid = 0 from rfl, Nat.zero_mul, Nat.zero_add]
  rfl

theorem tblEntry_data (st i : Nat) (valid : Bool) (image : Bytes) : (tblEntry st i valid image).data = some (fit 128 image) := rfl

theorem tblEntry_word (st i : Nat) (valid : Bool) (image : Bytes) :
    (tblEntry st i valid image).word = b2n valid * 2 ^ 49 + st % 65536 * 2 ^ 32 + i % 2 ^ 32 :=
  TblResult.word_of_single _ rfl

/-- RESULT_INDEX takes the low half of TBL_STATUS. -/
theorem TblResult.word_div_of_failed (r : TblResult) (hvalid : r.valid = false) (hmulti : r.multi = false) :
    r.word / 2 ^ 32 = r.status % 65536 := by
  rw [TblResult.word_of_single r hmulti, hvalid, show b2n false = 0 from rfl]
  omega

/-! ## A command that ends without effect (R140) -/

/-- The interface becomes idle with the status, and no table and no member has changed. -/
theorem tblEnds_frame (d : Dev) (i : Nat) {st : Nat} (hst : st < 65536) : ((tblEnds d i st).iface i).running = none ∧
    (tblEnds d i st).tabs = d.tabs ∧ (tblEnds d i st).reg = d.reg ∧ ((tblEnds d i st).iface i).status / 2 ^ 32 = st := by
  have hends : tblEnds d i st = tblPublish (tblFail d st).2 i (tblFail d st).1 := rfl
  rw [hends, tblPublish_running, tblPublish_status]
  exact ⟨rfl, rfl, rfl, (TblResult.word_div_of_failed _ rfl rfl).trans (Nat.mod_eq_of_lt hst)⟩

theorem tblComplete_of_late (o : MemOutcome) (hrun : (d.iface i).running.isSome = true) (hage : 64 ≤ (d.iface i).age) :
    tblComplete i o now d = tblEnds d i St.UNAVAILABLE := by
  obtain ⟨c, hc⟩ := Option.isSome_iff_exists.mp hrun
  unfold tblComplete
  simp only [hc]
  exact if_pos hage

theorem tblTimeout_of_late (hrun : (d.iface i).running.isSome = true) (hage : 64 ≤ (d.iface i).age) :
    tblTimeout i d = tblEnds d i St.UNAVAILABLE := by
  obtain ⟨c, hc⟩ := Option.isSome_iff_exists.mp hrun
  unfold tblTimeout
  simp only [hc]
  exact if_neg (Nat.not_lt.mpr hage)

/-- A command whose memory does not answer goes on. -/
theorem tblComplete_of_unavailable (hrun : (d.iface i).running.isSome = true) (hage : (d.iface i).age < 64) :
    tblComplete i .unavailable now d = d := by
  obtain ⟨c, hc⟩ := Option.isSome_iff_exists.mp hrun
  unfold tblComplete
  simp only [hc]
  rw [if_neg (Nat.not_le.mpr hage)]
  exact if_pos trivial

/-! ## READ and DELETE of the tables 6 to 9 (R137) -/

/-- The staging words of an interface, as its command takes them. -/
def TblIf.words (x : TblIf) : Words := { key := x.key, data := x.data, cmpValue := x.cmpValue, cmpMask := x.cmpMask }

/-- READ and DELETE need no feature, so tables 6 to 9 run them as any operation on an indexed row. -/
theorem tableOp_of_indexed {bad tutor : Bool} (hop : c.op = 1 ∨ c.op = 5) (hlow : 6 ≤ c.table) (hhigh : c.table ≤ 9) :
    tableOp now d c w bad tutor = .of (indexOp now d c w bad) := by
  have hfeature : featureDenied c.table c.op w.data = false := by
    unfold featureDenied
    rcases hop with h | h <;> rw [h] <;> rfl
  unfold tableOp
  rw [if_neg (by omega), hfeature, if_neg Bool.false_ne_true, if_neg (by omega), if_neg (by omega), if_neg (by omega),
    if_neg (by omega)]

theorem indexOp_read (hop : c.op = 1) : indexOp now d c w false =
    (tblEntry St.OK c.index (rowIsValid c.table (d.rowSeen c.table c.index).2) (rowImage c.table (d.rowSeen c.table c.index).2), d) := by
  unfold indexOp
  simp [hop]

/-- A DELETE of a valid row that no transaction touches clears VALID of the row seen. -/
theorem indexOp_delete (hop : c.op = 5) (hlive : rowIsValid c.table (d.rowSeen c.table c.index).2 = true)
    (hstaged : d.indexStaged c.table c.index = false) (hstable : (d.rowSeen c.table c.index).2.win.isStable = true)
    (hversion : c.table ≤ 7 ∨ (d.rowAt c.table 1 c.index).valid = false) : indexOp now d c w false =
    (tblEnd St.OK c.index, d.setRow (rowKey c.table 0 0 c.index) (some { (d.rowSeen c.table c.index).2 with valid := false })) := by
  have hsettled : ¬ ((8 ≤ c.table ∧ (d.rowAt c.table 1 c.index).valid = true) ∨ (d.rowSeen c.table c.index).2.win.isStable = false) := by
    rintro (⟨hlb, hv⟩ | hs)
    · rcases hversion with h | h
      · omega
      · simp [h] at hv
    · simp [hstable] at hs
  unfold indexOp
  simp [hop, hlive, hstaged, hsettled]

/-- Within its 64 periods an unstaged READ or DELETE of the tables 6 to 9 ends with the result of its operation. -/
theorem tblComplete_of_indexed (hrun : (d.iface i).running = some c) (hage : (d.iface i).age < 64) (hstaged : c.staged = false)
    (hop : c.op = 1 ∨ c.op = 5) (hlow : 6 ≤ c.table) (hhigh : c.table ≤ 9) : tblComplete i .ok now d =
    tblPublish (indexOp now d c (d.iface i).words false).2 i (indexOp now d c (d.iface i).words false).1 := by
  have hrun' := tableOp_of_indexed (now := now) (d := d) (w := (d.iface i).words) (bad := false) (tutor := false) hop hlow hhigh
  unfold TblIf.words at hrun'
  unfold tblComplete
  simp only [hrun, hstaged]
  rw [if_neg (Nat.not_le.mpr hage), if_neg (by decide), if_neg Bool.false_ne_true, show decide (MemOutcome.ok = .uncorrectable) = false from rfl, hrun']
  rfl

theorem tblComplete_read (hrun : (d.iface i).running = some c) (hage : (d.iface i).age < 64) (hstaged : c.staged = false) (hop : c.op = 1)
    (hlow : 6 ≤ c.table) (hhigh : c.table ≤ 9) : tblComplete i .ok now d = tblPublish d i (tblEntry St.OK c.index
      (rowIsValid c.table (d.rowSeen c.table c.index).2) (rowImage c.table (d.rowSeen c.table c.index).2)) := by
  rw [tblComplete_of_indexed hrun hage hstaged (.inl hop) hlow hhigh, indexOp_read hop]

theorem tblComplete_delete (hrun : (d.iface i).running = some c) (hage : (d.iface i).age < 64) (hstaged : c.staged = false) (hop : c.op = 5)
    (hlow : 6 ≤ c.table) (hhigh : c.table ≤ 9) (hlive : rowIsValid c.table (d.rowSeen c.table c.index).2 = true)
    (hfree : d.indexStaged c.table c.index = false) (hstable : (d.rowSeen c.table c.index).2.win.isStable = true)
    (hversion : c.table ≤ 7 ∨ (d.rowAt c.table 1 c.index).valid = false) : tblComplete i .ok now d =
    tblPublish (d.setRow (rowKey c.table 0 0 c.index) (some { (d.rowSeen c.table c.index).2 with valid := false })) i
      (tblEnd St.OK c.index) := by
  rw [tblComplete_of_indexed hrun hage hstaged (.inr hop) hlow hhigh, indexOp_delete hop hlive hfree hstable hversion]

@[simp] theorem Dev.row_setRow_same (d : Dev) (k : Nat) (r : Option Row) : (d.setRow k r).row k = r := SMap.get_set_same ..

theorem Dev.row_setRow_other (d : Dev) {k j : Nat} (r : Option Row) (h : j ≠ k) : (d.setRow k r).row j = d.row j :=
  SMap.get_set_other _ _ _ _ _ h

theorem Dev.iface_setRow (d : Dev) (k : Nat) (r : Option Row) (i : Nat) : (d.setRow k r).iface i = d.iface i := rfl

end Sys2Proof.Machine

namespace Sys2Proof

open Sys2Proof.Machine

/-- Settles O21: a command that ends publishes the result of its operation, which for an indexed row is one read or one store; past 64
periods it publishes a failure. That the store happens as the command ends is the model's choice (log 90). -/
theorem tableCommandsEnd : Obligations.TableCommandsEnd := by
  refine ⟨fun i c s hdie hrun hage hstaged hop hlow hhigh => ?_,
    fun i c s hdie hrun hage hstaged hop hlow hhigh hlive hfree hstable hversion => ?_, fun i s hrun hage => ?_,
    fun i o s hdie hrun hage => ?_⟩
  · have hgives : Gives (.tblCommandComplete i .ok) s s.bell (tblComplete i .ok s.bell s.dev) := gives_of_onDie rfl hdie
    rw [tblComplete_read hrun hage hstaged hop hlow hhigh] at hgives
    have hdata := tblPublish_data s.dev i (tblEntry St.OK c.index (rowIsValid c.table (s.dev.rowSeen c.table c.index).2)
      (rowImage c.table (s.dev.rowSeen c.table c.index).2))
    rw [tblEntry_data, Option.getD_some] at hdata
    exact ⟨_, hgives, tblPublish_running .., tblPublish_tabs .., tblPublish_reg .., hdata, (tblPublish_status ..).trans (tblEntry_word ..)⟩
  · have hgives : Gives (.tblCommandComplete i .ok) s s.bell (tblComplete i .ok s.bell s.dev) := gives_of_onDie rfl hdie
    rw [tblComplete_delete hrun hage hstaged hop hlow hhigh hlive hfree hstable hversion] at hgives
    exact ⟨_, hgives, tblPublish_running .., (tblPublish_reg ..).trans (Dev.setRow_reg ..),
      (tblPublish_row ..).trans (Dev.row_setRow_same ..), fun k hk => (tblPublish_row ..).trans (Dev.row_setRow_other _ _ hk),
      (tblPublish_data ..).trans (congrArg TblIf.data (Dev.iface_setRow ..)),
      (tblPublish_status ..).trans (tblEnd_word ..)⟩
  · exact exec_of_onDie_keeps (f := tblComplete i .unavailable) rfl (tblComplete_of_unavailable hrun hage)
  · have hcomplete : Gives (.tblCommandComplete i o) s s.bell (tblComplete i o s.bell s.dev) := gives_of_onDie rfl hdie
    have htimeout : Gives (.tblCommandTimeout i) s s.bell (tblTimeout i s.dev) := gives_of_onDie (f := fun _ => tblTimeout i) rfl hdie
    rw [tblComplete_of_late o hrun hage] at hcomplete
    rw [tblTimeout_of_late hrun hage] at htimeout
    have hends := tblEnds_frame s.dev i (show St.UNAVAILABLE < 65536 by decide)
    intro c hc
    rcases List.mem_pair.mp hc with rfl | rfl
    · exact ⟨_, hcomplete, hends⟩
    · exact ⟨_, htimeout, hends⟩

end Sys2Proof

/-! What a write does to the member it names. -/

namespace Sys2Proof.Machine

variable {now : BellSt} {d : Dev} {a : Acc} {id : Nat} {m : MemberRow} {w : PcieWrite}

/-! ## Rejected writes (R122, R123) -/

@[simp] theorem Dev.rejectPcie_rd_status (d : Dev) (status id : Nat) : (d.rejectPcie status id).rd M.LAST_WRITE_STATUS = status % 2 ^ 64 := by
  unfold Dev.rejectPcie
  rw [Dev.rd_bump_other _ _ _ (by decide), Dev.rd_wr_other _ _ _ _ (by decide), Dev.rd_wr_same]

@[simp] theorem Dev.rejectPcie_rd_id (d : Dev) (status id : Nat) : (d.rejectPcie status id).rd M.LAST_WRITE_ID = id % 2 ^ 64 := by
  unfold Dev.rejectPcie
  rw [Dev.rd_bump_other _ _ _ (by decide), Dev.rd_wr_same]

@[simp] theorem Dev.rejectPcie_rd_count (d : Dev) (status id : Nat) :
    (d.rejectPcie status id).rd M.CNT_WRITE_REJECT = (d.rd M.CNT_WRITE_REJECT + 1) % 2 ^ 64 := by
  unfold Dev.rejectPcie
  rw [Dev.rd_bump_same, Dev.rd_wr_other _ _ _ _ (by decide), Dev.rd_wr_other _ _ _ _ (by decide)]

theorem Dev.countRefused_rd (d : Dev) (status : Nat) {k : Nat} (hdenied : k ≠ M.CNT_ACCESS_DENIED) (hmissing : k ≠ M.CNT_NO_OBJECT) :
    (d.countRefused status).rd k = d.rd k :=
  (Dev.rd_bumpIf_other _ _ _ hmissing).trans (Dev.rd_bumpIf_other _ _ _ hdenied)

/-- Over PCIe a status other than ST_OK is recorded. -/
theorem Dev.answer_k {st : Nat} (hst : st ≠ St.OK) (id : Nat) (d : Dev) : Dev.answer .k id (st, d) = d.rejectPcie st id := if_neg hst

/-! ## Checks that come before the member's chapter (R120 to R123) -/

/-- A write reaches the dictionary: its class answers, and over PCIe the link is up. -/
def Dev.hears (d : Dev) (a : Acc) (id : Nat) : Prop := d.gate (id / 2 ^ 24) = false ∧ (a.who = .k → d.start.pcieUp = true)

/-- A write that fails a check does nothing of what its member's chapter says. -/
theorem Dev.accept_refused (h : d.hears a id) (hst : d.writeStatus a id ≠ St.OK) (f : Nat → Dev → Nat × Dev) : d.accept a id f =
    (d.writeStatus a id, Dev.answer a.who id (d.writeStatus a id, d.countRefused (d.writeStatus a id))) := by
  obtain ⟨hgate, hlink⟩ := h
  have hheard : ¬ (a.who = .k ∧ (d.start.pcieUp = false ∨ d.gate (id / 2 ^ 24) = true)) := by
    rintro ⟨hk, hdown | hclosed⟩
    · exact absurd (hlink hk) (Bool.eq_false_iff.mp hdown)
    · exact absurd hclosed (Bool.eq_false_iff.mp hgate)
  unfold Dev.accept
  rw [if_neg hheard, hgate, if_neg Bool.false_ne_true]
  simp only [if_neg hst]

/-- Whatever a member's write does, a write that fails a check is only answered with that check. -/
theorem writeMember_refused (now : BellSt) (hload : id ≠ M.BELL_LOAD) (h : d.hears a id) (hst : d.writeStatus a id ≠ St.OK) :
    writeMember now d a id =
      (d.writeStatus a id, now, Dev.answer a.who id (d.writeStatus a id, d.countRefused (d.writeStatus a id))) := by
  unfold writeMember
  rw [if_neg hload]
  split
  · rw [Dev.trigger, Dev.accept_refused h hst]
  · rw [Dev.accept_refused h hst]
  · rw [Dev.accept_refused h hst]

/-- A write of a member with no action of its own acts as the right it is written with says. -/
theorem writeMember_admits (now : BellSt) (hrow : findMember id = some m) (hload : id ≠ M.BELL_LOAD) (htrigger : triggerOf now a.who id = none)
    (hwrite : writeOf id = none) (h : Admits d a id) : writeMember now d a id =
      ((plainWrite m (m.right a.who) id (storedValue id a.val) d).1, now,
        Dev.answer a.who id (plainWrite m (m.right a.who) id (storedValue id a.val) d)) := by
  unfold writeMember
  rw [if_neg hload, htrigger, hwrite]
  simp only [Dev.accept_admits _ h, hrow]

/-! ## What each right does (R120, R124, R149) -/

theorem plainWrite_rw {v : Nat} (hown : ownRule d id v = St.OK) : plainWrite m .rw id v d = (St.OK, d.wr id v) := by
  simp [plainWrite, hown]

theorem plainWrite_rws {v : Nat} (hdenied : memberDenied id v = false) :
    plainWrite m .rws id v d = stageMember id v d := by
  simp [plainWrite, hdenied]

/-- The open transaction with a member's value staged. -/
def Txn.withMember (t : Txn) (id v : Nat) : Txn :=
  { t with members := SMap.set (fun _ => none) t.members id (some (BitVec.ofNat 64 v)), idleLessons := 0 }

@[simp] theorem Txn.member_withMember_same (t : Txn) (id v : Nat) : (t.withMember id v).member id = some (BitVec.ofNat 64 v) := by
  simp [Txn.member, Txn.withMember]

theorem Txn.member_withMember_other (t : Txn) (v : Nat) {k : Nat} (h : k ≠ id) : (t.withMember id v).member k = t.member k := by
  simp [Txn.member, Txn.withMember, SMap.get_set_other _ _ _ _ _ h]

/-- The device with a member's value staged. -/
def Dev.withStagedMember (d : Dev) (id v : Nat) : Dev :=
  { d.wr M.TXN_STAGED_OBJECTS (d.txn.withMember id v).members.length with txn := d.txn.withMember id v }

theorem Dev.withStagedMember_rd (d : Dev) (id v k : Nat) :
    (d.withStagedMember id v).rd k = (d.wr M.TXN_STAGED_OBJECTS (d.txn.withMember id v).members.length).rd k := rfl

theorem stageMember_of_room {v : Nat} (hroom : d.txn.members.length < 4096) : stageMember id v d = (St.OK, d.withStagedMember id v) :=
  if_neg fun h => absurd h.2 (Nat.not_le.mpr hroom)

theorem rcClear_of_bits {v : Nat} (hty : m.ty = .bits32 ∨ m.ty = .bits64) :
    plainWrite m .rc id v d = (St.OK, d.wr id (d.rd id - (d.rd id &&& v))) := by
  rcases hty with h | h <;> simp [plainWrite, rcClear, h]

/-- The bits two numbers share, and those of the first alone, make up the first. -/
theorem and_add_ldiff (x y : Nat) : (x &&& y) + Nat.ldiff x y = x := by
  induction x using Nat.binaryRec generalizing y with
  | zero => rw [Nat.zero_and, Nat.zero_add]; exact Nat.bitwise_zero_left ..
  | bit b x ih =>
    obtain ⟨c, y, rfl⟩ : ∃ c z, y = Nat.bit c z := ⟨y.bodd, y.div2, (Nat.bit_bodd_div2 y).symm⟩
    have hy := ih y
    rw [Nat.land_bit, Nat.ldiff_bit, Nat.bit_val, Nat.bit_val, Nat.bit_val]
    cases b <;> cases c <;> simp <;> omega

theorem testBit_sub_and (x y j : Nat) : (x - (x &&& y)).testBit j = (x.testBit j && !y.testBit j) := by
  have hsplit := and_add_ldiff x y
  rw [show x - (x &&& y) = Nat.ldiff x y by omega, Nat.testBit_ldiff]

/-! ## PCIe writes (R118, R123, R124, R149) -/

/-- A PCIe write of BAR0 at the address of a member. -/
structure WritesAt (w : PcieWrite) (id : Nat) (m : MemberRow) : Prop where
  bar : w.bar = 0
  low : w.addr < 0x0A000000
  data : w.data ≠ []
  place : placeOf w.addr = .member id 0
  row : findMember id = some m

/-- The write of the member that a PCIe write at its address is. -/
def memberAcc (w : PcieWrite) : Acc := { who := .k, val := leVal w.data, width := w.data.length }

/-- The row that a write of a member under a right of principal K belongs to. -/
def Right.kind : Right → WriteKind
  | .rws => .staged
  | .rc => .clear
  | _ => .plain

theorem writeKind_at (h : WritesAt w id m) : writeKind w = m.k.kind := by
  unfold writeKind
  rw [if_neg (not_not_intro h.bar), h.place]
  simp only [h.row]
  cases m.k <;> rfl

theorem pcieWrite_at (h : WritesAt w id m) (hlink : d.start.pcieUp = true) : pcieWrite now d w = (writeMember now d (memberAcc w) id).2 := by
  have hlow := h.low
  unfold pcieWrite
  rw [if_neg (by simp [hlink, h.data]), h.bar, if_neg (by decide), if_neg (by decide), if_neg (by omega), if_neg (by omega),
    if_neg (by omega), h.place]
  rfl

/-- A PCIe write at a member's address, under the row of its right, is a write of that member. -/
theorem pcieWriteOf_at (h : WritesAt w id m) (hlink : d.start.pcieUp = true) :
    pcieWriteOf m.k.kind now d w = (writeMember now d (memberAcc w) id).2 := by
  rw [pcieWriteOf, if_pos (writeKind_at h), pcieWrite_at h hlink]

/-- A command of PCIe writes, at an address of a member under its row, leaves what the write of the member leaves. -/
theorem gives_of_writesAt {k : WriteKind} {c : Instr} {s : State} {st : Nat} {b : BellSt} {e : Dev}
    (hexec : exec c s = s.onBoth (fun now d => pcieWriteOf k now d w)) (hkind : m.k.kind = k) (h : WritesAt w id m)
    (hlink : s.dev.start.pcieUp = true) (hwrite : writeMember s.bell s.dev (memberAcc w) id = (st, b, e)) : Gives c s b e := by
  subst hkind
  exact gives_of_onBoth hexec (by rw [pcieWriteOf_at h hlink, hwrite])

/-- A PCIe write that passes the checks, of a member with no action of its own, acts as principal K's right to the member says. -/
theorem writeMember_acc (now : BellSt) {rt : Right} {st : Nat} {e : Dev} (h : WritesAt w id m) (hk : m.k = rt) (hload : id ≠ M.BELL_LOAD)
    (htrigger : triggerOf now .k id = none) (hwrite : writeOf id = none) (hgate : d.gate (id / 2 ^ 24) = false)
    (hlink : d.start.pcieUp = true) (hst : d.writeStatus (memberAcc w) id = St.OK)
    (hplain : plainWrite m rt id (storedValue id (leVal w.data)) d = (st, e)) :
    writeMember now d (memberAcc w) id = (st, now, Dev.answer .k id (st, e)) := by
  have hact := writeMember_admits now h.row hload htrigger hwrite (a := memberAcc w) ⟨hgate, fun _ => hlink, hst⟩
  have hright : m.right (memberAcc w).who = rt := hk
  rw [hright] at hact
  rw [hact, show (memberAcc w).val = leVal w.data from rfl, hplain]
  rfl

/-! ## A write of an RWS member without a transaction (R125) -/

theorem Dev.writeStatus_of_unowned (hrow : findMember id = some m) (hright : m.right a.who = .rws) (howns : d.ownsOpen a.who = false)
    (hrole : ∀ x, a.who = .d x → d.role x = 2) (hwidth : a.who = .k → a.width = 8 ∨ (a.width = 4 ∧ m.ty.wide = false)) :
    d.writeStatus a id = St.NO_TXN := by
  unfold Dev.writeStatus
  simp only [hrow, hright]
  rw [if_neg (by decide)]
  refine (if_neg ?_).trans ?_
  · split
    · next x hx =>
      rw [hrole x hx]
      exact Bool.false_ne_true
    · exact Bool.false_ne_true
  · rw [if_neg fun h => h.2 (hwidth h.1), if_pos ⟨trivial, howns⟩]

/-- ST_NO_TXN is counted as no refusal, and is recorded over PCIe alone. -/
theorem Dev.answer_noTxn (who : Principal) (id : Nat) (d : Dev) : Dev.answer who id (St.NO_TXN, d.countRefused St.NO_TXN) =
    if who = .k ∨ who = .u then d.rejectPcie St.NO_TXN id else d := by
  have hcount : d.countRefused St.NO_TXN = d := rfl
  rw [hcount]
  cases who with
  | k => exact (Dev.answer_k (by decide) ..).trans (if_pos (.inl rfl)).symm
  | u => exact (Dev.answer_k (by decide) ..).trans (if_pos (Or.inr rfl)).symm
  | d _ => exact (if_neg (by simp)).symm
  | t _ => exact (if_neg (by simp)).symm

theorem writeMember_of_unowned (now : BellSt) (hload : id ≠ M.BELL_LOAD) (hheard : d.hears a id) (hrow : findMember id = some m)
    (hright : m.right a.who = .rws) (howns : d.ownsOpen a.who = false) (hrole : ∀ x, a.who = .d x → d.role x = 2)
    (hwidth : a.who = .k → a.width = 8 ∨ (a.width = 4 ∧ m.ty.wide = false)) : writeMember now d a id =
      (St.NO_TXN, now, if a.who = .k ∨ a.who = .u then d.rejectPcie St.NO_TXN id else d) := by
  have hst := Dev.writeStatus_of_unowned hrow hright howns hrole hwidth
  rw [writeMember_refused now hload hheard (by rw [hst]; decide), hst, Dev.answer_noTxn]

end Sys2Proof.Machine

namespace Sys2Proof

open Sys2Proof.Machine

/-- Settles O22: a write at a member's address is a write of the member, which acts as its right says once the checks before its own
chapter pass, and is answered with the first that fails. -/
theorem hostRegisterWrites : Obligations.HostRegisterWrites := by
  refine ⟨fun w id m s hbar hlow hdata hplace hrow hk hload htrigger hwrite hgate hlink hst hown => ?_,
    fun w id st m s hbar hlow hdata hplace hrow hk hload htrigger hwrite hgate hlink hst hne => ?_,
    fun w id m s hbar hlow hdata hplace hrow hk hty hload htrigger hwrite hgate hlink hst => ?_,
    fun w id m s hbar hlow hdata hplace hrow hk hload hcount htrigger hwrite hgate hlink hroom hst hdenied => ?_⟩
  · have hat : WritesAt w id m := ⟨hbar, hlow, hdata, hplace, hrow⟩
    have hact := writeMember_acc s.bell hat hk hload htrigger hwrite hgate hlink hst (plainWrite_rw hown)
    rw [Dev.answer_ok] at hact
    exact gives_of_writesAt (k := .plain) rfl (congrArg Right.kind hk) hat hlink hact
  · have hat : WritesAt w id m := ⟨hbar, hlow, hdata, hplace, hrow⟩
    have hst' : s.dev.writeStatus (memberAcc w) id = st := hst
    have hact := writeMember_refused (a := memberAcc w) s.bell hload ⟨hgate, fun _ => hlink⟩ (hst' ▸ hne)
    rw [hst', show (memberAcc w).who = .k from rfl, Dev.answer_k hne] at hact
    refine ⟨_, gives_of_writesAt (k := .plain) rfl (congrArg Right.kind hk) hat hlink hact, Dev.rejectPcie_rd_status .., Dev.rejectPcie_rd_id .., ?_,
      fun k hk => ?_⟩
    · rw [Dev.rejectPcie_rd_count, Dev.countRefused_rd _ _ (by decide) (by decide)]
    · simp only [List.mem_cons, List.not_mem_nil, or_false, not_or] at hk
      obtain ⟨hstatus, hid, hreject, hdenied, hmissing⟩ := hk
      rw [Dev.rejectPcie_rd _ _ _ hstatus hid hreject, Dev.countRefused_rd _ _ hdenied hmissing]
  · have hat : WritesAt w id m := ⟨hbar, hlow, hdata, hplace, hrow⟩
    have hact := writeMember_acc s.bell hat hk hload htrigger hwrite hgate hlink hst (rcClear_of_bits hty)
    rw [Dev.answer_ok] at hact
    refine ⟨_, gives_of_writesAt (k := .clear) rfl (congrArg Right.kind hk) hat hlink hact, fun k hk => Dev.rd_wr_other _ _ _ _ hk, fun j hj => ?_⟩
    rw [Dev.rd_wr_same, Nat.mod_eq_of_lt (Nat.lt_of_le_of_lt (Nat.sub_le ..) (Dev.rd_lt ..))]
    exact testBit_sub_and ..
  · have hat : WritesAt w id m := ⟨hbar, hlow, hdata, hplace, hrow⟩
    have hact := writeMember_acc s.bell hat hk hload htrigger hwrite hgate hlink hst
      ((plainWrite_rws hdenied).trans (stageMember_of_room hroom))
    rw [Dev.answer_ok] at hact
    exact ⟨_, gives_of_writesAt (k := .staged) rfl (congrArg Right.kind hk) hat hlink hact, (Dev.withStagedMember_rd ..).trans (Dev.rd_wr_other _ _ _ _ hcount),
      Txn.member_withMember_same .., (Dev.withStagedMember_rd ..).trans (Dev.rd_wr_same ..), rfl,
      fun k hk => Txn.member_withMember_other _ _ hk, fun k hk => (Dev.withStagedMember_rd ..).trans (Dev.rd_wr_other _ _ _ _ hk)⟩

/-- Settles O47: the owner of the transaction is the fourth check of R123, and nothing of a member's own chapter comes before it. -/
theorem unownedStagedWriteIsRefused : Obligations.UnownedStagedWriteIsRefused := by
  refine ⟨fun now d a id m hrow hright howns hrole hpcie hgate hload => ?_,
    fun w id m s hbar hlow hdata hplace hrow hk howns hwidth hgate hlink hload => ?_⟩
  · exact writeMember_of_unowned now hload ⟨hgate, fun h => (hpcie h).1⟩ hrow hright howns hrole fun h => (hpcie h).2
  · have hat : WritesAt w id m := ⟨hbar, hlow, hdata, hplace, hrow⟩
    have hact := writeMember_of_unowned (a := memberAcc w) s.bell hload ⟨hgate, fun _ => hlink⟩ hrow hk howns (fun _ h => nomatch h)
      fun _ => hwidth
    rw [if_pos (.inl rfl)] at hact
    refine ⟨_, gives_of_writesAt (k := .staged) rfl (congrArg Right.kind hk) hat hlink hact, rfl, Dev.rejectPcie_rd_status .., Dev.rejectPcie_rd_id ..,
      Dev.rejectPcie_rd_count .., fun k hk => ?_⟩
    simp only [List.mem_cons, List.not_mem_nil, or_false, not_or] at hk
    obtain ⟨hstatus, hid, hreject⟩ := hk
    exact Dev.rejectPcie_rd _ _ _ hstatus hid hreject

end Sys2Proof

/-! Windows on the LPDDR6 regions, and the reads of the object window and of BAR4 that share their commands. -/

namespace Sys2Proof.Machine

variable {now : BellSt} {d e : Dev} {addr n : Nat} {os : List MemOutcome}

/-! ## The requests of an access (R440, R444) -/

theorem memRequest_channels (d : Dev) (ch : Nat) (q : MemReq) :
    ∃ channels, memRequest d ch q = { d with memories := { d.memories with channels } } := by
  unfold memRequest
  split
  · exact ⟨_, rfl⟩
  · dsimp only
    split
    · exact ⟨_, rfl⟩
    · exact ⟨_, rfl⟩

theorem Dev.unitAccess_channels (d : Dev) (port : Nat) (write : Bool) (t : Nat) (us : List ((Nat × Nat) × Option Bool)) :
    ∃ channels, d.unitAccess port write t us = { d with memories := { d.memories with channels } } := by
  refine List.foldlRecOn us _ (motive := fun x : Dev => ∃ channels, x = { d with memories := { d.memories with channels } }) ⟨_, rfl⟩ ?_
  rintro x ⟨channels, rfl⟩ u _
  exact memRequest_channels ..

/-- The requests of a window access stand in the channels, and change nothing else but the model's own counter. -/
theorem winRequest_channels (now : BellSt) (d : Dev) (write : Bool) (us : List ((Nat × Nat) × MemOutcome)) :
    ∃ channels, winRequest now d write us = { d with memories := { d.memories with channels }, free := d.free + 1 } :=
  Dev.unitAccess_channels ..

@[simp] theorem winRequest_reg (now : BellSt) (d : Dev) (write : Bool) (us : List ((Nat × Nat) × MemOutcome)) :
    (winRequest now d write us).reg = d.reg := by
  obtain ⟨channels, h⟩ := winRequest_channels now d write us
  rw [h]

@[simp] theorem winRequest_out (now : BellSt) (d : Dev) (write : Bool) (us : List ((Nat × Nat) × MemOutcome)) :
    (winRequest now d write us).out = d.out := by
  obtain ⟨channels, h⟩ := winRequest_channels now d write us
  rw [h]

@[simp] theorem winRequest_host (now : BellSt) (d : Dev) (write : Bool) (us : List ((Nat × Nat) × MemOutcome)) :
    (winRequest now d write us).memories.host = d.memories.host := by
  obtain ⟨channels, h⟩ := winRequest_channels now d write us
  rw [h]

@[simp] theorem winRequest_pools (now : BellSt) (d : Dev) (write : Bool) (us : List ((Nat × Nat) × MemOutcome)) :
    (winRequest now d write us).pools = d.pools := by
  obtain ⟨channels, h⟩ := winRequest_channels now d write us
  rw [h]

/-- A window's write of a unit waits at its channel's controller. -/
def Dev.WriteWaits (d : Dev) (p : Nat × Nat) : Prop := ∃ q ∈ (d.channel p.1).reqs, q.write = true ∧ q.port = 4 ∧ q.unit = p.2

theorem Dev.chServes_of_reg (h : e.reg = d.reg) (ch : Nat) : e.chServes ch = d.chServes ch := by
  simp [Dev.chServes, Dev.rd_of_reg h]

theorem memRequest_chServes (d : Dev) (ch : Nat) (q : MemReq) (k : Nat) : (memRequest d ch q).chServes k = d.chServes k := by
  obtain ⟨channels, h⟩ := memRequest_channels d ch q
  exact Dev.chServes_of_reg (by rw [h]) k

theorem overtake_keeps {q x : MemReq} {qs : List MemReq} (hx : x ∈ qs) :
    ∃ y ∈ overtake q qs, y.write = x.write ∧ y.port = x.port ∧ y.unit = x.unit := by
  unfold overtake
  split
  · refine ⟨_, List.mem_map_of_mem hx, ?_⟩
    split
    · exact ⟨rfl, rfl, rfl⟩
    · exact ⟨rfl, rfl, rfl⟩
  · exact ⟨x, hx, rfl, rfl, rfl⟩

theorem Dev.WriteWaits.memRequest {p : Nat × Nat} (h : d.WriteWaits p) (ch : Nat) (q : MemReq) :
    (memRequest d ch q).WriteWaits p := by
  obtain ⟨x, hx, hwrite, hport, hunit⟩ := h
  unfold Machine.memRequest
  split
  · exact ⟨x, hx, hwrite, hport, hunit⟩
  · dsimp only
    split
    · exact ⟨x, hx, hwrite, hport, hunit⟩
    · by_cases hch : p.1 = ch
      · subst hch
        obtain ⟨y, hy, hy1, hy2, hy3⟩ := overtake_keeps (q := q) hx
        refine ⟨y, ?_, hy1.trans hwrite, hy2.trans hport, hy3.trans hunit⟩
        rw [Dev.channel_setChannel_same]
        exact List.mem_append_left _ hy
      · refine ⟨x, ?_, hwrite, hport, hunit⟩
        rw [Dev.channel_setChannel_other _ _ _ _ hch]
        exact hx

/-- A write asks a channel that serves requests: no write is answered from the queue (R444). -/
theorem memRequest_writeWaits {ch : Nat} {q : MemReq} (hserves : d.chServes ch = true) (hwrite : q.write = true) (hport : q.port = 4) :
    (memRequest d ch q).WriteWaits (ch, q.unit) := by
  unfold memRequest
  rw [if_neg (by simp [hserves])]
  dsimp only
  rw [if_neg (by simp [hwrite])]
  refine ⟨q, ?_, hwrite, hport, rfl⟩
  rw [Dev.channel_setChannel_same]
  exact List.mem_append_right _ (List.mem_singleton_self q)

theorem winRequest_writeWaits {us : List ((Nat × Nat) × MemOutcome)} {p : Nat × Nat} {o : MemOutcome} (hmem : (p, o) ∈ us)
    (hserves : d.chServes p.1 = true) : (winRequest now d true us).WriteWaits p := by
  have hasked : (winRequest now d true us).chServes p.1 = true → (winRequest now d true us).WriteWaits p := by
    refine foldl_of_mem (P := fun x : Dev => x.chServes p.1 = true → x.WriteWaits p) (fun x u h hs => ?_) (fun x hs => ?_)
      (List.mem_map_of_mem hmem) _
    · exact (h (by rwa [memRequest_chServes] at hs)).memRequest ..
    · exact memRequest_writeWaits (by rwa [memRequest_chServes] at hs) rfl rfl
  exact hasked (by rwa [Dev.chServes_of_reg (winRequest_reg ..)])

/-! ## The bytes of a region (R460) -/

/-- Windows and regions are set by members of other classes than DEVICE, which records rejected writes. -/
theorem Dev.winByte_of_rd (h : ∀ id, id / 2 ^ 24 ≠ 0x01 → e.rd id = d.rd id) (addr : Nat) : e.winByte addr = d.winByte addr := by
  unfold Dev.winByte
  split
  · rfl
  · next hout =>
    have hcount (g : Nat) : e.poolCount g = d.poolCount g := by
      unfold Dev.poolCount Dev.palette
      rw [h M.PALETTE_ACTIVE (by decide), h (M.POOL_SHARE g) (by simp only [M.POOL_SHARE]; omega)]
    have hbase : e.rd (M.WIN_BASE ((addr - 0x0C000000) / 2 ^ 24)) = d.rd (M.WIN_BASE ((addr - 0x0C000000) / 2 ^ 24)) :=
      h _ (by simp only [M.WIN_BASE]; omega)
    have hregion : e.rd (M.WIN_REGION ((addr - 0x0C000000) / 2 ^ 24)) = d.rd (M.WIN_REGION ((addr - 0x0C000000) / 2 ^ 24)) :=
      h _ (by simp only [M.WIN_REGION]; omega)
    dsimp only
    rw [hbase, hregion, h M.HOST_REGION_BYTES (by decide)]
    simp only [hcount]

theorem Dev.winByte_of_reg (h : e.reg = d.reg) (addr : Nat) : e.winByte addr = d.winByte addr :=
  Dev.winByte_of_rd (fun id _ => Dev.rd_of_reg h id) addr

theorem Dev.regionPlace_of_reg (h : e.reg = d.reg) (b : RegionByte) : e.regionPlace b = d.regionPlace b := by
  have hpalette : e.palette = d.palette := Dev.rd_of_reg h _
  unfold Dev.regionPlace Dev.lockerPlace
  dsimp only
  rw [hpalette]
  simp only [Dev.rd_of_reg h]

theorem Dev.winPlace_of_reg (h : e.reg = d.reg) (addr : Nat) : e.winPlace addr = d.winPlace addr := by
  unfold Dev.winPlace
  simp only [Dev.winByte_of_reg h, Dev.regionPlace_of_reg h]

theorem Dev.winByte_of_winPlace {p : Nat × Nat} (h : d.winPlace addr = some p) : d.winByte addr ≠ .none := by
  intro hnone
  simp [Dev.winPlace, hnone] at h

/-- The offset in its region that an address of a window stands for. -/
def Dev.winOffset (d : Dev) (addr : Nat) : Nat := d.rd (M.WIN_BASE ((addr - 0x0C000000) / 2 ^ 24)) + addr % 2 ^ 24

/-- An address of a region lies in a window, and names the byte of the window's region at its offset. -/
theorem Dev.winByte_inv (h : d.winByte addr ≠ .none) : 0x0C000000 ≤ addr ∧ addr < 0x10000000 ∧
    (d.winByte addr = .host (d.winOffset addr) ∨
      d.winByte addr = .locker ((d.rd (M.WIN_REGION ((addr - 0x0C000000) / 2 ^ 24)) - 1) * 2 ^ 40 + d.winOffset addr)) := by
  unfold Dev.winByte at h ⊢
  split at h
  · exact absurd rfl h
  · next hin =>
    refine ⟨by omega, by omega, ?_⟩
    rw [if_neg hin]
    dsimp only at h ⊢
    split at h
    · split at h
      · next hg ha => rw [if_pos hg, if_pos ha]; exact .inl rfl
      · exact absurd rfl h
    · split at h
      · split at h
        · next hg hg' ha => rw [if_neg hg, if_pos hg', if_pos ha]; exact .inr rfl
        · exact absurd rfl h
      · exact absurd rfl h

/-- Within one window different addresses name different bytes. -/
theorem Dev.winByte_injective {x : Nat} (hwindow : x / 2 ^ 24 = addr / 2 ^ 24) (hbyte : d.winByte addr ≠ .none)
    (h : d.winByte x = d.winByte addr) : x = addr := by
  obtain ⟨hlo, hhi, haddr⟩ := Dev.winByte_inv hbyte
  obtain ⟨hxlo, hxhi, hx⟩ := Dev.winByte_inv (h ▸ hbyte)
  have hsame : (x - 0x0C000000) / 2 ^ 24 = (addr - 0x0C000000) / 2 ^ 24 := by omega
  have hoffset : d.winOffset x = d.winOffset addr := by
    rw [h, hsame] at hx
    rcases haddr with ha | ha
    · rw [ha] at hx
      rcases hx with hx | hx
      · exact (WinByte.host.inj hx).symm
      · cases hx
    · rw [ha] at hx
      rcases hx with hx | hx
      · cases hx
      · exact (Nat.add_left_cancel (WinByte.locker.inj hx)).symm
  unfold Dev.winOffset at hoffset
  rw [hsame] at hoffset
  omega

/-! ## Reading and writing one byte (R461) -/

/-- The byte at a place of a region. -/
def WinByte.read (d : Dev) : WinByte → Byte
  | .host a => Memory.read d.memories.host a
  | .locker a => Memory.read d.pools.bytes a
  | .none => 0

/-- The device with a byte stored at a place of a region. -/
def WinByte.put (d : Dev) (b : Byte) : WinByte → Dev
  | .host a => { d with memories := { d.memories with host := Memory.write d.memories.host a b } }
  | .locker a => { d with pools := { d.pools with bytes := Memory.write d.pools.bytes a b } }
  | .none => d

theorem Dev.winRead_eq (d : Dev) (addr : Nat) : d.winRead addr = (d.winByte addr).read d := by
  unfold Dev.winRead
  cases d.winByte addr <;> rfl

theorem winPut_eq (d : Dev) (addr : Nat) (b : Byte) : winPut d addr b = (d.winByte addr).put d b := by
  unfold winPut
  cases d.winByte addr <;> rfl

theorem WinByte.read_put_same {p : WinByte} (h : p ≠ .none) (d : Dev) (b : Byte) : p.read (p.put d b) = b := by
  cases p with
  | host a => exact Memory.read_write_same ..
  | locker a => exact Memory.read_write_same ..
  | none => exact absurd rfl h

theorem WinByte.read_put_other {p q : WinByte} (h : q ≠ p) (d : Dev) (b : Byte) : q.read (p.put d b) = q.read d := by
  cases p with
  | none => rfl
  | host a =>
    cases q with
    | host x => exact Memory.read_write_other _ _ _ _ fun hx => h (congrArg _ hx)
    | locker x => rfl
    | none => rfl
  | locker a =>
    cases q with
    | host x => rfl
    | locker x => exact Memory.read_write_other _ _ _ _ fun hx => h (congrArg _ hx)
    | none => rfl

theorem WinByte.put_reg (p : WinByte) (d : Dev) (b : Byte) : (p.put d b).reg = d.reg := by cases p <;> rfl

theorem WinByte.put_out (p : WinByte) (d : Dev) (b : Byte) : (p.put d b).out = d.out := by cases p <;> rfl

/-- Where the windows are set alike and the regions hold the same bytes, the windows read alike. -/
theorem Dev.winRead_congr (hrd : ∀ id, id / 2 ^ 24 ≠ 0x01 → e.rd id = d.rd id) (hhost : e.memories.host = d.memories.host)
    (hpools : e.pools = d.pools) (addr : Nat) : e.winRead addr = d.winRead addr := by
  rw [Dev.winRead_eq, Dev.winRead_eq, Dev.winByte_of_rd hrd]
  cases d.winByte addr with
  | host a => simp only [WinByte.read, hhost]
  | locker a => simp only [WinByte.read, hpools]
  | none => rfl

theorem winRequest_winRead (now : BellSt) (d : Dev) (write : Bool) (us : List ((Nat × Nat) × MemOutcome)) (addr : Nat) :
    (winRequest now d write us).winRead addr = d.winRead addr :=
  Dev.winRead_congr (fun id _ => Dev.rd_of_reg (winRequest_reg ..) id) (winRequest_host ..) (winRequest_pools ..) addr

@[simp] theorem winRequest_winByte (now : BellSt) (d : Dev) (write : Bool) (us : List ((Nat × Nat) × MemOutcome)) (addr : Nat) :
    (winRequest now d write us).winByte addr = d.winByte addr := Dev.winByte_of_reg (winRequest_reg ..) addr

@[simp] theorem winRequest_winPlace (now : BellSt) (d : Dev) (write : Bool) (us : List ((Nat × Nat) × MemOutcome)) (addr : Nat) :
    (winRequest now d write us).winPlace addr = d.winPlace addr := Dev.winPlace_of_reg (winRequest_reg ..) addr

/-! ## The bytes of a write (R461) -/

/-- One byte of a write through a window, if its unit takes it. -/
def winStore (takes : Nat × Nat → Bool) (addr : Nat) (d : Dev) (x : Byte × Nat) : Dev :=
  if (d.winPlace (addr + x.2)).any takes then winPut d (addr + x.2) x.1 else d

variable {takes : Nat × Nat → Bool} {x : Byte × Nat}

theorem winPutsAt_eq (d : Dev) (takes : Nat × Nat → Bool) (addr : Nat) (bs : Bytes) :
    winPutsAt d takes addr bs = bs.zipIdx.foldl (winStore takes addr) d := rfl

theorem winStore_reg (d : Dev) (x : Byte × Nat) : (winStore takes addr d x).reg = d.reg := by
  unfold winStore
  split
  · rw [winPut_eq, WinByte.put_reg]
  · rfl

theorem winStore_out (d : Dev) (x : Byte × Nat) : (winStore takes addr d x).out = d.out := by
  unfold winStore
  split
  · rw [winPut_eq, WinByte.put_out]
  · rfl

theorem winPutsAt_reg (d : Dev) (takes : Nat × Nat → Bool) (addr : Nat) (bs : Bytes) : (winPutsAt d takes addr bs).reg = d.reg :=
  List.foldlRecOn bs.zipIdx (winStore takes addr) (motive := fun x : Dev => x.reg = d.reg) rfl fun e h x _ => (winStore_reg e x).trans h

theorem winPutsAt_out (d : Dev) (takes : Nat × Nat → Bool) (addr : Nat) (bs : Bytes) : (winPutsAt d takes addr bs).out = d.out :=
  List.foldlRecOn bs.zipIdx (winStore takes addr) (motive := fun x : Dev => x.out = d.out) rfl fun e h x _ => (winStore_out e x).trans h

theorem winStore_winRead_other {y : Nat} (h : d.winByte (addr + x.2) ≠ d.winByte y) :
    (winStore takes addr d x).winRead y = d.winRead y := by
  rw [Dev.winRead_eq, Dev.winByte_of_reg (winStore_reg d x), Dev.winRead_eq]
  unfold winStore
  split
  · rw [winPut_eq, WinByte.read_put_other (Ne.symm h)]
  · rfl

theorem winStore_winRead_same (h : d.winByte (addr + x.2) ≠ .none) : (winStore takes addr d x).winRead (addr + x.2) =
    if (d.winPlace (addr + x.2)).any takes then x.1 else d.winRead (addr + x.2) := by
  rw [Dev.winRead_eq, Dev.winByte_of_reg (winStore_reg d x)]
  unfold winStore
  split
  · rw [winPut_eq, WinByte.read_put_same h]
  · rw [Dev.winRead_eq]

theorem foldl_winStore_winRead_other {y : Nat} (xs : List (Byte × Nat)) (d : Dev)
    (h : ∀ x ∈ xs, d.winByte (addr + x.2) ≠ d.winByte y) : (xs.foldl (winStore takes addr) d).winRead y = d.winRead y := by
  induction xs generalizing d with
  | nil => rfl
  | cons x xs ih =>
    have hreg := Dev.winByte_of_reg (winStore_reg (takes := takes) (addr := addr) d x)
    rw [List.foldl_cons, ih, winStore_winRead_other (h x List.mem_cons_self)]
    intro z hz
    rw [hreg, hreg]
    exact h z (List.mem_cons_of_mem _ hz)

/-- Of bytes at different places, each that its unit takes is read back, and the place of any other keeps its byte. -/
theorem foldl_winStore_winRead_mem (xs : List (Byte × Nat)) (d : Dev)
    (hne : xs.Pairwise fun x y => d.winByte (addr + x.2) ≠ d.winByte (addr + y.2)) (hx : x ∈ xs) (hbyte : d.winByte (addr + x.2) ≠ .none) :
    (xs.foldl (winStore takes addr) d).winRead (addr + x.2) =
      if (d.winPlace (addr + x.2)).any takes then x.1 else d.winRead (addr + x.2) := by
  induction xs generalizing d with
  | nil => cases hx
  | cons y xs ih =>
    have hwin := Dev.winByte_of_reg (winStore_reg (takes := takes) (addr := addr) d y)
    obtain ⟨hy, hxs⟩ := List.pairwise_cons.mp hne
    rw [List.foldl_cons]
    rcases List.mem_cons.mp hx with rfl | hmem
    · rw [foldl_winStore_winRead_other, winStore_winRead_same hbyte]
      intro z hz
      rw [hwin, hwin]
      exact (hy z hz).symm
    · rw [ih _ (by simpa only [hwin] using hxs) hmem (by rwa [hwin]), Dev.winPlace_of_reg (winStore_reg d y),
        winStore_winRead_other (hy x hmem)]

/-- The bytes of a write within one window stand at different places. -/
theorem pairwise_winByte {bs : Bytes} (hinside : d.winInside addr bs.length = true) (hwindow : addr / 2 ^ 24 = (addr + bs.length - 1) / 2 ^ 24) :
    bs.zipIdx.Pairwise fun x y => d.winByte (addr + x.2) ≠ d.winByte (addr + y.2) := by
  rw [List.pairwise_iff_getElem]
  intro i j hi hj hij heq
  rw [List.length_zipIdx] at hi hj
  simp only [List.getElem_zipIdx, Nat.zero_add] at heq
  have hbyte : d.winByte (addr + j) ≠ .none := by
    have hall := List.all_eq_true.mp hinside j (List.mem_range.mpr hj)
    simpa using hall
  have hsame := Dev.winByte_injective (by omega) hbyte heq
  omega

/-! ## The units of an access (R461) -/

theorem Dev.winPlace_mem_winUnits {i : Nat} {p : Nat × Nat} (hi : i < n) (h : d.winPlace (addr + i) = some p) : p ∈ d.winUnits addr n :=
  List.mem_eraseDups.mpr (List.mem_filterMap.mpr ⟨i, List.mem_range.mpr hi, h⟩)

/-! ## Reads (R117, R461, R465, R482) -/

/-- The units of a read and how each ends. -/
def Dev.readEnds (d : Dev) (addr n : Nat) (os : List MemOutcome) : List ((Nat × Nat) × MemOutcome) :=
  (d.winUnits addr n).map (fun p => (p, d.unitOutcome (d.winUnits addr n) os p))

/-- A byte of a read none of whose units is unavailable: all ones where its unit is uncorrectable. -/
def Dev.winByteRead (d : Dev) (us : List (Nat × Nat)) (os : List MemOutcome) (addr : Nat) : Byte :=
  if (d.winPlace addr).map (d.unitOutcome us os) = some .uncorrectable then 0xFF else d.winRead addr

theorem Dev.winByteOf_of_available {us : List (Nat × Nat)} (f : Byte) (h : ∀ p, d.winPlace addr = some p → d.unitOutcome us os p ≠ .unavailable) :
    d.winByteOf us os f addr = d.winByteRead us os addr := by
  unfold Dev.winByteOf Dev.winByteRead
  cases hplace : d.winPlace addr with
  | none => rfl
  | some p =>
    have hp := h p hplace
    cases hend : d.unitOutcome us os p with
    | ok => simp [hend]
    | uncorrectable => simp [hend]
    | unavailable => exact absurd hend hp

theorem windowRead_of_available (hlink : d.start.pcieUp = true) (hlo : 0x0C000000 ≤ addr) (h4 : addr / 2 ^ 32 ≠ 4) (h2 : addr / 2 ^ 32 ≠ 2)
    (hopen : d.bar0Closed = false) (hends : ∀ p ∈ d.winUnits addr n, d.unitOutcome (d.winUnits addr n) os p ≠ .unavailable) :
    windowRead addr n os now d =
      ((winRequest now d false (d.readEnds addr n os)).emit (.readData ((List.range n).map (fun i =>
        d.winByteRead (d.winUnits addr n) os (addr + i))))).addTo M.CNT_WIN_UNCORRECTABLE
        ((d.readEnds addr n os).filter (fun x => decide (x.2 = .uncorrectable))).length := by
  have hnone : ((d.winUnits addr n).map (fun p => (p, d.unitOutcome (d.winUnits addr n) os p))).any (fun x => decide (x.2 = .unavailable)) = false := by
    rw [List.any_eq_false]
    intro x hx
    obtain ⟨p, hp, rfl⟩ := List.mem_map.mp hx
    simpa using hends p hp
  have hdata (f : Nat → Byte) : (List.range n).map (fun i => d.winByteOf (d.winUnits addr n) os (f i) (addr + i)) =
      (List.range n).map (fun i => d.winByteRead (d.winUnits addr n) os (addr + i)) :=
    List.map_congr_left fun i hi => Dev.winByteOf_of_available _ fun p hp =>
      hends p (Dev.winPlace_mem_winUnits (List.mem_range.mp hi) hp)
  unfold windowRead
  dsimp only
  rw [if_neg (by simp [hlink]), if_neg (by omega), if_neg h4, if_neg h2, if_neg (by simp [hopen]), hnone, if_neg Bool.false_ne_true, hdata]
  rfl

theorem windowRead_of_closed (hlink : d.start.pcieUp = true) (hlo : 0x0C000000 ≤ addr) (h4 : addr / 2 ^ 32 ≠ 4)
    (hclosed : d.bar0Closed = true ∨ addr / 2 ^ 32 = 2) : windowRead addr n os now d = d.emit (.readData (List.replicate n 0)) := by
  unfold windowRead
  dsimp only
  rw [if_neg (by simp [hlink]), if_neg (by omega), if_neg h4]
  rcases hclosed with h | h
  · rw [if_pos h]
    exact ite_self _
  · rw [if_pos h]

theorem windowRead_of_bar4 (hlink : d.start.pcieUp = true) (h4 : addr / 2 ^ 32 = 4) :
    windowRead addr n os now d = d.emit (.readData (bar4Read now d (addr % 2 ^ 32) n)) := by
  unfold windowRead
  dsimp only
  rw [if_neg (by simp [hlink]), if_neg (by omega), if_pos h4]

theorem windowRead_of_object (hlink : d.start.pcieUp = true) (hlow : addr < 0x0C000000) :
    windowRead addr n os now d = (bar0Read now d addr n).2.emit (.readData (bar0Read now d addr n).1) := by
  unfold windowRead
  dsimp only
  rw [if_neg (by simp [hlink]), if_pos hlow]

theorem windowRead_of_down (hlink : d.start.pcieUp = false) : windowRead addr n os now d = d := if_pos hlink

/-- The whole of a string from its start on is the string. -/
theorem slice_zero_length (bs : Bytes) : slice bs 0 bs.length = bs := by
  refine List.ext_getElem (by simp [slice]) fun i hi hi' => ?_
  simp [slice, hi']

theorem memberSlice_eight (v : Nat) : memberSlice v 0 8 = toLE 8 v := by
  have hlength : (toLE 8 v).length = 8 := by simp [toLE]
  have hslice := slice_zero_length (toLE 8 v)
  rw [hlength] at hslice
  exact (if_pos (.inl ⟨rfl, rfl⟩)).trans hslice

/-- A principal with a right to a member's value reads it, and no member changes. -/
theorem readAs_of_right {who : Principal} {id : Nat} {m : MemberRow} (hrow : findMember id = some m) (hgate : d.gate (id / 2 ^ 24) = false)
    (hnone : m.right who ≠ .none) (hx : m.right who ≠ .x) : (readAs now d who id).2.1 = readMember now d id ∧
      (readAs now d who id).2.2.reg = d.reg ∧ (readAs now d who id).2.2.out = d.out := by
  have hread : readAs now d who id = (St.OK, readMember now d id, if d.readsOpen id then d.fresh.2 else d) := by
    unfold readAs
    rw [hgate, if_neg Bool.false_ne_true, hrow]
    dsimp only
    split
    · next h => exact absurd h hnone
    · next h => exact absurd h hx
    · rfl
  rw [hread]
  refine ⟨rfl, ?_, ?_⟩
  · dsimp only
    split <;> rfl
  · dsimp only
    split <;> rfl

theorem bar0Read_member {id : Nat} (hlow : addr < 0x0A000000) (hplace : placeOf addr = .member id 0) (hgate : d.gate (id / 2 ^ 24) = false) :
    bar0Read now d addr 8 = (toLE 8 (readAs now d .k id).2.1, (readAs now d .k id).2.2) := by
  unfold bar0Read
  dsimp only
  rw [if_neg (by omega), if_neg (by omega), if_neg (by omega), hplace]
  dsimp only
  rw [hgate, if_neg (by simp), memberSlice_eight]

/-! ## Writes (R432, R461) -/

/-- How the write of a unit ends: one that is covered whole needs no read of it. -/
def Dev.writeEnd (d : Dev) (addr n : Nat) (os : List MemOutcome) (p : Nat × Nat) : MemOutcome :=
  if d.chServes p.1 = true ∧ d.winPart addr n p = false ∧ d.unitOutcome (d.winUnits addr n) os p = .uncorrectable then .ok
  else d.unitOutcome (d.winUnits addr n) os p

/-- The units of a write and how each ends. -/
def Dev.writeEnds (d : Dev) (addr n : Nat) (os : List MemOutcome) : List ((Nat × Nat) × MemOutcome) :=
  (d.winUnits addr n).map (fun p => (p, d.writeEnd addr n os p))

theorem Dev.find_writeEnds_eq_none (h : ∀ p ∈ d.winUnits addr n, d.writeEnd addr n os p = .ok) :
    (d.writeEnds addr n os).find? (fun x => decide (x.2 ≠ .ok)) = none := by
  rw [List.find?_eq_none]
  intro x hx
  obtain ⟨p, hp, rfl⟩ := List.mem_map.mp hx
  simp [h p hp]

/-- The first unit that refuses a write is the first of those that refuse it. -/
theorem Dev.find_writeEnds_eq_some {p : Nat × Nat} {rest : List (Nat × Nat)}
    (h : (d.winUnits addr n).filter (fun p => decide (d.writeEnd addr n os p ≠ .ok)) = p :: rest) :
    (d.writeEnds addr n os).find? (fun x => decide (x.2 ≠ .ok)) = some (p, d.writeEnd addr n os p) := by
  have hhead := congrArg List.head? h
  rw [List.head?_filter, List.head?_cons] at hhead
  rw [Dev.writeEnds, List.find?_map]
  exact congrArg (Option.map _) hhead

/-- The device with the units of a write asked for, and the bytes stored of those that take them. -/
def Dev.windowStored (now : BellSt) (d : Dev) (addr : Nat) (bs : Bytes) (os : List MemOutcome) : Dev :=
  let ends := d.writeEnds addr bs.length os
  winPutsAt (winRequest now (winRequest now d false (ends.filter (fun x => d.winPart addr bs.length x.1))) true
    (ends.filter (fun x => decide (x.2 = .ok)))) (fun p => ends.contains (p, .ok)) addr bs

/-- The record of a write by the first unit that refuses its bytes. -/
def Dev.windowRefused (d : Dev) : Option ((Nat × Nat) × MemOutcome) → Dev
  | some (_, .uncorrectable) => d.rejectPcie St.UNCORRECTABLE 0
  | some _ => d.rejectPcie St.UNAVAILABLE 0
  | none => d

theorem windowWrite_of_lost {bs : Bytes} (h : d.start.pcieUp = false ∨ d.bar0Closed = true) : windowWrite addr bs os now d = d := if_pos h

theorem windowWrite_of_outside {bs : Bytes} (hlink : d.start.pcieUp = true) (hopen : d.bar0Closed = false)
    (hout : d.winInside addr bs.length = false) : windowWrite addr bs os now d = d.rejectPcie St.RANGE 0 := by
  unfold windowWrite
  dsimp only
  rw [if_neg (by simp [hlink, hopen]), if_pos hout]

theorem windowWrite_of_inside {bs : Bytes} (hlink : d.start.pcieUp = true) (hopen : d.bar0Closed = false)
    (hin : d.winInside addr bs.length = true) : windowWrite addr bs os now d =
      (d.windowStored now addr bs os).windowRefused ((d.writeEnds addr bs.length os).find? (fun x => decide (x.2 ≠ .ok))) := by
  have hends : (d.winUnits addr bs.length).map (fun p => (p, if d.chServes p.1 && !d.winPart addr bs.length p &&
      decide (os.getD ((d.winUnits addr bs.length).idxOf p) .ok = .uncorrectable) then MemOutcome.ok
      else d.unitOutcome (d.winUnits addr bs.length) os p)) = d.writeEnds addr bs.length os := by
    refine List.map_congr_left fun p _ => ?_
    unfold Dev.writeEnd Dev.unitOutcome
    cases hserves : d.chServes p.1 <;> simp
  unfold windowWrite
  dsimp only
  rw [if_neg (by simp [hlink, hopen]), if_neg (by simp [hin]), hends]
  unfold Dev.windowRefused
  rfl

theorem Dev.windowRefused_out (d : Dev) (x : Option ((Nat × Nat) × MemOutcome)) : (d.windowRefused x).out = d.out := by
  unfold Dev.windowRefused
  split <;> rfl

theorem Dev.rejectPcie_winRead (d : Dev) (st : Nat) (addr : Nat) : (d.rejectPcie st 0).winRead addr = d.winRead addr := by
  refine Dev.winRead_congr (fun id hid => Dev.rejectPcie_rd _ _ _ ?_ ?_ ?_) rfl rfl addr <;>
    (rintro rfl; exact hid (by decide))

theorem Dev.windowRefused_winRead (d : Dev) (x : Option ((Nat × Nat) × MemOutcome)) (addr : Nat) :
    (d.windowRefused x).winRead addr = d.winRead addr := by
  unfold Dev.windowRefused
  split
  · exact Dev.rejectPcie_winRead ..
  · exact Dev.rejectPcie_winRead ..
  · rfl

/-- A write refused by a unit is recorded with the code of how the unit ended. -/
theorem Dev.windowRefused_rd (d : Dev) (p : Nat × Nat) (o : MemOutcome) :
    (d.windowRefused (some (p, o))).rd M.LAST_WRITE_STATUS = (if o = .uncorrectable then St.UNCORRECTABLE else St.UNAVAILABLE) ∧
      (d.windowRefused (some (p, o))).rd M.CNT_WRITE_REJECT = (d.rd M.CNT_WRITE_REJECT + 1) % 2 ^ 64 := by
  cases o <;> exact ⟨Dev.rejectPcie_rd_status .., Dev.rejectPcie_rd_count ..⟩

section stored

variable {bs : Bytes}

theorem Dev.windowStored_reg (now : BellSt) (d : Dev) (addr : Nat) (bs : Bytes) (os : List MemOutcome) :
    (d.windowStored now addr bs os).reg = d.reg := by
  unfold Dev.windowStored
  rw [winPutsAt_reg, winRequest_reg, winRequest_reg]

theorem Dev.windowStored_out (now : BellSt) (d : Dev) (addr : Nat) (bs : Bytes) (os : List MemOutcome) :
    (d.windowStored now addr bs os).out = d.out := by
  unfold Dev.windowStored
  rw [winPutsAt_out, winRequest_out, winRequest_out]

/-- A write leaves every byte that is not one of its own. -/
theorem Dev.windowStored_winRead_other {x : Nat} (h : ∀ i, i < bs.length → d.winByte (addr + i) ≠ d.winByte x) :
    (d.windowStored now addr bs os).winRead x = d.winRead x := by
  unfold Dev.windowStored
  dsimp only
  rw [winPutsAt_eq, foldl_winStore_winRead_other, winRequest_winRead, winRequest_winRead]
  intro y hy
  simp only [winRequest_winByte]
  exact h y.2 (List.snd_lt_of_mem_zipIdx hy)

/-- A write stores each byte whose unit takes it. -/
theorem Dev.windowStored_winRead_same {i : Nat} {p : Nat × Nat} (hinside : d.winInside addr bs.length = true)
    (hwindow : addr / 2 ^ 24 = (addr + bs.length - 1) / 2 ^ 24) (hi : i < bs.length) (hplace : d.winPlace (addr + i) = some p) :
    (d.windowStored now addr bs os).winRead (addr + i) =
      if d.writeEnd addr bs.length os p = .ok then bs.getD i 0 else d.winRead (addr + i) := by
  have htakes : (d.writeEnds addr bs.length os).contains (p, .ok) = decide (d.writeEnd addr bs.length os p = .ok) := by
    rw [Bool.eq_iff_iff, List.contains_iff_mem, decide_eq_true_iff]
    constructor
    · intro hmem
      obtain ⟨q, _, hq⟩ := List.mem_map.mp hmem
      obtain ⟨rfl, hok⟩ := Prod.mk.inj hq
      exact hok
    · intro hok
      exact List.mem_map.mpr ⟨p, Dev.winPlace_mem_winUnits hi hplace, Prod.ext rfl hok⟩
  have hmem : (bs.getD i 0, i) ∈ bs.zipIdx := by
    rw [List.mem_zipIdx_iff_getElem?]
    simp [hi]
  unfold Dev.windowStored
  dsimp only
  rw [winPutsAt_eq, foldl_winStore_winRead_mem (x := (bs.getD i 0, i)) _ _ _ hmem]
  · simp only [winRequest_winPlace, hplace, Option.any_some, htakes, winRequest_winRead, decide_eq_true_eq]
  · simp only [winRequest_winByte]
    exact Dev.winByte_of_winPlace hplace
  · simp only [winRequest_winByte]
    exact pairwise_winByte hinside hwindow

end stored

end Sys2Proof.Machine

namespace Sys2Proof

open Sys2Proof.Machine

theorem windowRead_gives (addr n : Nat) (os : List MemOutcome) {s : State} (h : s.dev.dieRuns = true) :
    Gives (.windowRead addr n os) s s.bell (windowRead addr n os s.bell s.dev) := gives_of_onDie (f := windowRead addr n os) rfl h

theorem windowWrite_gives (addr : Nat) (bs : Bytes) (os : List MemOutcome) {s : State} (h : s.dev.dieRuns = true) :
    Gives (.windowWrite addr bs os) s s.bell (windowWrite addr bs os s.bell s.dev) := gives_of_onDie (f := windowWrite addr bs os) rfl h

/-- Settles O55: a window's access asks its units and then reads, or stores, byte by byte; within one window different addresses are
different bytes, so each byte stored is read back. How a partly refused write is recorded and what a channel out of service answers
are the model's choices (logs 278 and 139), as is the reading of BAR4 and of members by their addresses (log 190). -/
theorem windowsReadAndWriteRegions : Obligations.WindowsReadAndWriteRegions := by
  refine ⟨fun addr n os s hdie hlo h4 h2 hlink hopen hends => ?_, fun addr n os s hdie hlo h4 hlink hclosed => ?_,
    fun addr n os s hdie h4 hlink => ?_, fun addr n bs os s hlink => ⟨?_, ?_⟩, fun addr bs os s hclosed => ?_,
    fun addr id m os s hdie hlow hlink hplace hrow hright hgate => ?_, fun addr bs os s hdie hlink hopen hinside hwindow => ?_,
    fun addr bs os s hdie hlink hopen hout => ?_, fun now d us p o hmem hserves => ⟨winRequest_reg .., winRequest_writeWaits hmem hserves⟩⟩
  · have hgives := windowRead_gives addr n os hdie
    rw [windowRead_of_available hlink hlo h4 h2 hopen hends] at hgives
    refine ⟨_, hgives, ?_, ?_, fun id hid => ?_, ?_, ?_⟩
    · rw [Dev.addTo_out, Dev.emit_out, winRequest_out]
      rfl
    · rw [Dev.rd_addTo_same, Dev.rd_of_reg (Dev.emit_reg ..), Dev.rd_of_reg (winRequest_reg ..), Dev.readEnds, List.filter_map, List.length_map]
      rfl
    · rw [Dev.rd_addTo_other _ _ _ _ hid, Dev.rd_of_reg (Dev.emit_reg ..), Dev.rd_of_reg (winRequest_reg ..)]
    · rw [Dev.addTo_memories, Dev.emit_memories, winRequest_host]
    · rw [Dev.addTo_pools, Dev.emit_pools, winRequest_pools]
  · have hgives := windowRead_gives addr n os hdie
    rwa [windowRead_of_closed hlink hlo h4 hclosed] at hgives
  · have hgives := windowRead_gives addr n os hdie
    rwa [windowRead_of_bar4 hlink h4] at hgives
  · exact exec_of_onDie_keeps (f := windowRead addr n os) rfl (windowRead_of_down hlink)
  · exact exec_of_onDie_keeps (f := windowWrite addr bs os) rfl (windowWrite_of_lost (.inl hlink))
  · exact exec_of_onDie_keeps (f := windowWrite addr bs os) rfl (windowWrite_of_lost (.inr hclosed))
  · have hgives := windowRead_gives addr 8 os hdie
    obtain ⟨hnone, hx⟩ : m.right .k ≠ .none ∧ m.right .k ≠ .x := by
      show m.k ≠ .none ∧ m.k ≠ .x
      rcases hright with h | h | h | h <;> rw [h] <;> decide
    obtain ⟨hvalue, hreg, hout⟩ := readAs_of_right (now := s.bell) hrow hgate hnone hx
    rw [windowRead_of_object hlink (by omega), bar0Read_member hlow hplace hgate] at hgives
    refine ⟨_, hgives, ?_, (Dev.emit_reg ..).trans hreg⟩
    rw [Dev.emit_out, hout, hvalue]
  · have hgives := windowWrite_gives addr bs os hdie
    rw [windowWrite_of_inside hlink hopen hinside] at hgives
    refine ⟨_, hgives, (Dev.windowRefused_out ..).trans (Dev.windowStored_out ..), fun i p hi hplace => ?_, fun x hx => ?_, fun hall => ?_,
      fun p rest hfirst => ?_⟩
    · rw [Dev.windowRefused_winRead]
      exact Dev.windowStored_winRead_same hinside hwindow hi hplace
    · rw [Dev.windowRefused_winRead, Dev.windowStored_winRead_other hx]
    · rw [Dev.find_writeEnds_eq_none hall]
      exact Dev.windowStored_reg ..
    · rw [Dev.find_writeEnds_eq_some hfirst]
      obtain ⟨hstatus, hcount⟩ := (s.dev.windowStored s.bell addr bs os).windowRefused_rd p (s.dev.writeEnd addr bs.length os p)
      exact ⟨hstatus, hcount.trans (by rw [Dev.rd_of_reg (Dev.windowStored_reg ..)])⟩
  · have hgives := windowWrite_gives addr bs os hdie
    rwa [windowWrite_of_outside hlink hopen hout] at hgives

end Sys2Proof

/-! The life of a transaction, from TXN_BEGIN to each of its ends short of the flip. -/

namespace Sys2Proof.Machine

variable {d e : Dev}

/-! ## TXN_BEGIN (R147) -/

/-- The device with a transaction opened for a principal. -/
def Dev.openTxn (d : Dev) (who : Principal) : Dev :=
  { ((d.wr M.TXN_OWNER who.owner).wr M.TXN_STATUS St.OK).wr M.TXN_PREPARED_ENTRIES 0 with
    txn := { d.txn with state := .opened, idleLessons := 0 } }

theorem txnBegin_of_idle (who : Principal) (v : Nat) (h : d.txn.state = .idle) : txnBegin who v d = (St.OK, d.openTxn who) :=
  if_neg (not_not_intro h)

theorem txnBegin_of_held {who : Principal} (v : Nat) (h : d.txn.state ≠ .idle) (howner : d.rd M.TXN_OWNER ≠ who.owner) :
    txnBegin who v d = (St.TXN_HELD, d) := by
  rw [txnBegin, if_pos h, if_neg howner]

theorem Dev.openTxn_rd (d : Dev) (who : Principal) (k : Nat) : (d.openTxn who).rd k =
    (((d.wr M.TXN_OWNER who.owner).wr M.TXN_STATUS St.OK).wr M.TXN_PREPARED_ENTRIES 0).rd k := rfl

theorem Dev.openTxn_rd_owner (d : Dev) (who : Principal) : (d.openTxn who).rd M.TXN_OWNER = who.owner % 2 ^ 64 := by
  rw [Dev.openTxn_rd, Dev.rd_wr_other _ _ _ _ (by decide), Dev.rd_wr_other _ _ _ _ (by decide), Dev.rd_wr_same]

theorem Dev.openTxn_rd_status (d : Dev) (who : Principal) : (d.openTxn who).rd M.TXN_STATUS = St.OK := by
  rw [Dev.openTxn_rd, Dev.rd_wr_other _ _ _ _ (by decide), Dev.rd_wr_same]
  rfl

theorem Dev.openTxn_rd_other (d : Dev) (who : Principal) {k : Nat} (h : k ∉ [M.TXN_OWNER, M.TXN_STATUS, M.TXN_PREPARED_ENTRIES]) :
    (d.openTxn who).rd k = d.rd k := by
  simp only [List.mem_cons, List.not_mem_nil, or_false, not_or] at h
  obtain ⟨howner, hstatus, hprepared⟩ := h
  rw [Dev.openTxn_rd, Dev.rd_wr_other _ _ _ _ hprepared, Dev.rd_wr_other _ _ _ _ hstatus, Dev.rd_wr_other _ _ _ _ howner]

theorem txnBegin_gives {a : Acc} {s : State} (hpass : Passes s.dev a M.TXN_BEGIN) (h : s.dev.txn.state = .idle) :
    Gives (.txnBegin a) s s.bell (s.dev.openTxn a.who) := by
  have hexec : Gives (.txnBegin a) s s.bell (s.dev.trigger a M.TXN_BEGIN (txnBegin a.who)).2 := rfl
  rwa [Dev.trigger_ok hpass (txnBegin_of_idle _ _ h)] at hexec

/-- A TXN_BEGIN over PCIe while another principal owns the transaction is a rejected write (R123). -/
theorem txnBegin_held_gives {a : Acc} {s : State} (hpass : Passes s.dev a M.TXN_BEGIN) (hwho : a.who = .k)
    (h : s.dev.txn.state ≠ .idle) (howner : s.dev.rd M.TXN_OWNER ≠ 1) :
    Gives (.txnBegin a) s s.bell (s.dev.rejectPcie St.TXN_HELD M.TXN_BEGIN) := by
  have hexec : Gives (.txnBegin a) s s.bell (s.dev.trigger a M.TXN_BEGIN (txnBegin a.who)).2 := rfl
  rwa [Dev.trigger_passes _ hpass, hwho, txnBegin_of_held (who := .k) _ h howner, Dev.answer_k (by decide)] at hexec

/-! ## TXN_COMMIT (R148, R153) -/

/-- The owner's trigger is taken in a state that takes it. -/
theorem txnJudge_of_owner {who : Principal} (h : d.txn.state ≠ .idle) (howner : d.rd M.TXN_OWNER = who.owner) :
    txnJudge who d true = St.OK := by
  rw [txnJudge, if_neg h, if_neg (not_not_intro howner), if_pos rfl]

/-- The pools that hold an allocated buffer (R395). -/
def Dev.heldPools (d : Dev) : List Nat := [1, 2, 3, 4].filter (fun p => !(d.granted p).isEmpty)

theorem Dev.mem_heldPools {p : Nat} : p ∈ d.heldPools ↔ 1 ≤ p ∧ p ≤ 4 ∧ d.granted p ≠ [] := by
  have hpool : p ∈ [1, 2, 3, 4] ↔ 1 ≤ p ∧ p ≤ 4 := by
    simp only [List.mem_cons, List.not_mem_nil, or_false]
    omega
  rw [Dev.heldPools, List.mem_filter, hpool, and_assoc, Bool.not_eq_true', List.isEmpty_eq_false_iff]

/-- The device whose transaction is being validated. -/
def Dev.startValidation (d : Dev) : Dev :=
  { d.wr M.TXN_STATUS St.PENDING with
    txn := { d.txn with state := .validating, passed := false, heldPools := d.heldPools }
    pools := { d.pools with resizing := stagedPools d } }

theorem txnCommit_of_opened {who : Principal} (v : Nat) (h : d.txn.state = .opened) (howner : d.rd M.TXN_OWNER = who.owner) :
    txnCommit who v d = (St.OK, d.startValidation) := by
  have hjudge : txnJudge who d (decide (d.txn.state = .opened)) = St.OK := by
    rw [decide_eq_true h]
    exact txnJudge_of_owner (by simp [h]) howner
  exact if_neg (not_not_intro hjudge)

theorem txnCommit_gives {a : Acc} {s : State} (hpass : Passes s.dev a M.TXN_COMMIT) (h : s.dev.txn.state = .opened)
    (howner : s.dev.rd M.TXN_OWNER = a.who.owner) : Gives (.txnCommit a) s s.bell s.dev.startValidation := by
  have hexec : Gives (.txnCommit a) s s.bell (s.dev.trigger a M.TXN_COMMIT (txnCommit a.who)).2 := rfl
  rwa [Dev.trigger_ok hpass (txnCommit_of_opened _ h howner)] at hexec

/-! ## A transaction that ends without a flip (R153, R158, R159) -/

/-- The members that an end writes, besides its counter. -/
def txnEndMembers : List Nat := [M.TXN_OWNER, M.TXN_STATUS, M.TXN_FAIL_ID, M.TXN_STAGED_OBJECTS, M.TXN_STAGED_ENTRIES]

/-- `e` is `d` with its staged set discarded and no owner: no row has changed, and only the members of an end have. -/
structure Dev.TxnCleared (d e : Dev) : Prop where
  state : e.txn.state = .idle
  members : e.txn.members = []
  areas : e.txn.areas = []
  ops : e.txn.ops = []
  owner : e.rd M.TXN_OWNER = 0
  tabs : e.tabs = d.tabs
  rest : ∀ k, k ∉ txnEndMembers → e.rd k = d.rd k

theorem txnClear_cleared (hreg : e.reg = d.reg) (htabs : e.tabs = d.tabs) : d.TxnCleared (txnClear e) where
  state := rfl
  members := rfl
  areas := rfl
  ops := rfl
  owner := (Dev.rd_wr_other _ _ _ _ (by decide)).trans ((Dev.rd_wr_other _ _ _ _ (by decide)).trans (Dev.rd_wr_same ..))
  tabs := htabs
  rest k hk := by
    have hne {id : Nat} (hid : id ∈ txnEndMembers) : k ≠ id := fun h => hk (h ▸ hid)
    exact (Dev.rd_wr_other _ _ _ _ (hne (by decide))).trans ((Dev.rd_wr_other _ _ _ _ (hne (by decide))).trans
      ((Dev.rd_wr_other _ _ _ _ (hne (by decide))).trans (Dev.rd_of_reg hreg k)))

/-- The status and the failing ID of an end are written after the owner is gone. -/
theorem Dev.TxnCleared.wr (h : d.TxnCleared e) {id : Nat} (hid : id ∈ txnEndMembers) (howner : M.TXN_OWNER ≠ id) (v : Nat) :
    d.TxnCleared (e.wr id v) where
  state := h.state
  members := h.members
  areas := h.areas
  ops := h.ops
  owner := (Dev.rd_wr_other _ _ _ _ howner).trans h.owner
  tabs := h.tabs
  rest k hk := (Dev.rd_wr_other e id k v fun hne => hk (hne ▸ hid)).trans (h.rest k hk)

/-- `e` is `d` with its transaction discarded under a status, and with the end counted. -/
def Dev.TxnEnds (d e : Dev) (status cnt : Nat) : Prop :=
  e.txn.state = .idle ∧ e.txn.members = [] ∧ e.txn.areas = [] ∧ e.txn.ops = [] ∧
    e.rd M.TXN_STATUS = status % 2 ^ 64 ∧ e.rd M.TXN_OWNER = 0 ∧ e.rd cnt = (d.rd cnt + 1) % 2 ^ 64 ∧ e.tabs = d.tabs

theorem Dev.TxnCleared.bump_ends {status cnt : Nat} (h : d.TxnCleared e) (hstatus : e.rd M.TXN_STATUS = status % 2 ^ 64)
    (hcnt : cnt ∉ txnEndMembers) : d.TxnEnds (e.bump cnt) status cnt := by
  have hkeeps {k : Nat} (hk : k ∈ txnEndMembers) : (e.bump cnt).rd k = e.rd k :=
    Dev.rd_bump_other e cnt k fun hne => hcnt (hne ▸ hk)
  refine ⟨h.state, h.members, h.areas, h.ops, (hkeeps (by decide)).trans hstatus, (hkeeps (by decide)).trans h.owner, ?_, h.tabs⟩
  rw [Dev.rd_bump_same, h.rest _ hcnt]

/-- The staged set discarded, and the outcome in TXN_STATUS. -/
theorem txnClear_wr_status_cleared (d : Dev) (status : Nat) : d.TxnCleared ((txnClear d).wr M.TXN_STATUS status) :=
  (txnClear_cleared rfl rfl).wr (by decide) (by decide) status

theorem rollbackEnd_ends_byTrigger (d : Dev) : d.TxnEnds (rollbackEnd d true) St.OK M.CNT_TXN_ROLLBACK :=
  (txnClear_wr_status_cleared d St.OK).bump_ends (Dev.rd_wr_same ..) (by decide)

theorem rollbackEnd_ends_abort (d : Dev) : d.TxnEnds (rollbackEnd d false) St.TXN_ABORTED M.CNT_TXN_ABORT :=
  (txnClear_wr_status_cleared d St.TXN_ABORTED).bump_ends (Dev.rd_wr_same ..) (by decide)

/-! ## TXN_VALIDATION_DONE (R153) -/

theorem txnValidationDone_of_ok (hstate : d.txn.state = .validating) (hpassed : d.txn.passed = false) (h : validate d = .ok e) :
    txnValidationDone d = { e with txn := { e.txn with passed := true } } := by
  simp [txnValidationDone, hstate, hpassed, h]

/-- A failed validation ends the transaction under the failing check's status; TXN_FAIL_ID may take an open value (log 1). -/
theorem txnValidationDone_of_error {f : CheckFail} (hstate : d.txn.state = .validating) (hpassed : d.txn.passed = false)
    (h : validate d = .error f) : ∃ free failId, txnValidationDone d =
      (((txnClear { d with free }).wr M.TXN_STATUS f.code).wr M.TXN_FAIL_ID failId).bump M.CNT_TXN_FAIL := by
  have hruns : ¬ (d.txn.state ≠ .validating ∨ d.txn.passed = true) := by simp [hstate, hpassed]
  rw [txnValidationDone, if_neg hruns, h]
  dsimp only
  by_cases hspread : f.spread = 1
  · rw [if_pos hspread]
    exact ⟨d.free, _, rfl⟩
  · rw [if_neg hspread]
    exact ⟨d.free + 1, _, rfl⟩

theorem txnValidationDone_ends {f : CheckFail} (hstate : d.txn.state = .validating) (hpassed : d.txn.passed = false)
    (h : validate d = .error f) : d.TxnEnds (txnValidationDone d) f.code M.CNT_TXN_FAIL := by
  obtain ⟨free, failId, hdone⟩ := txnValidationDone_of_error hstate hpassed h
  have hcleared : d.TxnCleared (txnClear { d with free }) := txnClear_cleared rfl rfl
  rw [hdone]
  exact ((hcleared.wr (by decide) (by decide) f.code).wr (by decide) (by decide) failId).bump_ends
    ((Dev.rd_wr_other _ _ _ _ (by decide)).trans (Dev.rd_wr_same ..)) (by decide)

theorem txnValidationDone_gives {s : State} (h : s.dev.dieRuns = true) :
    Gives .txnValidationDone s s.bell (txnValidationDone s.dev) := gives_of_onDie (f := fun _ => txnValidationDone) rfl h

/-! ## TXN_ROLLBACK and TXN_IDLE_ABORT in OPEN (R148, R158, R159) -/

/-- From OPEN nothing is to be undone: a rollback or an abort ends at once. -/
theorem rollbackBegin_of_opened (byTrigger : Bool) (h : d.txn.state = .opened) : rollbackBegin d byTrigger = rollbackEnd d byTrigger := by
  rw [rollbackBegin, h]

theorem txnRollback_of_opened {who : Principal} (v : Nat) (h : d.txn.state = .opened) (howner : d.rd M.TXN_OWNER = who.owner) :
    txnRollback who v d = (St.OK, rollbackEnd d true) := by
  have hjudge : txnJudge who d (decide (d.txn.state ≠ .rollingBack)) = St.OK := by
    rw [decide_eq_true (by simp [h])]
    exact txnJudge_of_owner (by simp [h]) howner
  rw [← rollbackBegin_of_opened true h]
  exact if_neg (not_not_intro hjudge)

theorem txnRollback_gives {a : Acc} {s : State} (hpass : Passes s.dev a M.TXN_ROLLBACK) (h : s.dev.txn.state = .opened)
    (howner : s.dev.rd M.TXN_OWNER = a.who.owner) : Gives (.txnRollback a) s s.bell (rollbackEnd s.dev true) := by
  have hexec : Gives (.txnRollback a) s s.bell (s.dev.trigger a M.TXN_ROLLBACK (txnRollback a.who)).2 := rfl
  rwa [Dev.trigger_ok hpass (txnRollback_of_opened _ h howner)] at hexec

/-- TXN_IDLE_LIMIT lessons without a staged write abort the transaction, where the limit is not zero. -/
theorem txnIdleAbort_of_due (h : d.txn.state = .opened) (hlimit : d.rd M.TXN_IDLE_LIMIT ≠ 0)
    (hdue : d.rd M.TXN_IDLE_LIMIT ≤ d.txn.idleLessons) : txnIdleAbort d = rollbackEnd d false :=
  (if_pos ⟨h, hlimit, hdue⟩).trans (rollbackBegin_of_opened false h)

theorem txnIdleAbort_gives {s : State} (h : s.dev.dieRuns = true) : Gives .txnIdleAbort s s.bell (txnIdleAbort s.dev) :=
  gives_of_onDie (f := fun _ => txnIdleAbort) rfl h

end Sys2Proof.Machine

namespace Sys2Proof

open Sys2Proof.Machine

/-- Settles O24, clause by clause: a failed validation, the rollback and the idle abort in OPEN are one end, `Dev.TxnEnds`, each
under its own status and counter. The pools held when validation starts are those of R395. -/
theorem transactionLifeCycle : Obligations.TransactionLifeCycle := by
  refine ⟨fun a s hpass hidle => ?_, fun a s hpass hwho hbusy howner => ?_, fun a s hpass hopen howner => ?_,
    fun e s hdie hstate hpassed hok => ?_, fun f s hdie hstate hpassed herror => ?_, fun a s hpass hopen howner => ?_,
    fun s hdie hopen hlimit hdue => ?_⟩
  · exact ⟨_, txnBegin_gives hpass hidle, rfl, s.dev.openTxn_rd_owner a.who, s.dev.openTxn_rd_status a.who,
      fun _ hk => s.dev.openTxn_rd_other a.who hk⟩
  · exact ⟨_, txnBegin_held_gives hpass hwho hbusy howner, rfl, Dev.rejectPcie_rd_status ..,
      Dev.rejectPcie_rd _ _ _ (by decide) (by decide) (by decide)⟩
  · exact ⟨_, txnCommit_gives hpass hopen howner, rfl, fun _ => Dev.mem_heldPools, Dev.rd_wr_same s.dev M.TXN_STATUS St.PENDING,
      fun k hk => Dev.rd_wr_other s.dev M.TXN_STATUS k St.PENDING hk⟩
  · exact txnValidationDone_of_ok hstate hpassed hok ▸ txnValidationDone_gives hdie
  · exact ⟨_, txnValidationDone_gives hdie, txnValidationDone_ends hstate hpassed herror⟩
  · exact ⟨_, txnRollback_gives hpass hopen howner, rollbackEnd_ends_byTrigger s.dev⟩
  · exact ⟨_, txnIdleAbort_of_due hopen hlimit hdue ▸ txnIdleAbort_gives hdie, rollbackEnd_ends_abort s.dev⟩

end Sys2Proof

/-! Denlys sessions, how they end, and the key slots. -/

namespace Sys2Proof.Machine

variable {d : Dev} {x : Session}

/-! ## Sessions -/

@[simp] theorem Dev.session_setSession_same (d : Dev) (k : Nat) (x : Option Session) : (d.setSession k x).session k = x := by
  simp [Dev.session, Dev.setSession]

theorem Dev.session_setSession_other (d : Dev) {k j : Nat} (x : Option Session) (h : j ≠ k) :
    (d.setSession k x).session j = d.session j := by
  simp [Dev.session, Dev.setSession, SMap.get_set_other _ _ _ _ _ h]

theorem Dev.session_of_sessions {e : Dev} (h : e.denlys.sessions = d.denlys.sessions) (j : Nat) : e.session j = d.session j := by
  rw [Dev.session, h, Dev.session]

/-! ## The end of a session (R159, R185, R187) -/

/-- The abort of a transaction is nothing to Denlys. -/
theorem txnAbort_denlys (d : Dev) : (txnAbort d).denlys = d.denlys := by
  unfold txnAbort rollbackBegin
  split <;> rfl

theorem txnAbort_rd (d : Dev) {k : Nat} (h : k / 2 ^ 24 ≠ 0x05) : (txnAbort d).rd k = d.rd k := by
  unfold txnAbort rollbackBegin
  split
  case h_3 => exact rollbackEnd_rd d false h
  all_goals rfl

theorem endSession_of_none {k : Nat} (h : d.session k = none) : endSession d k = d := if_pos (by rw [h]; rfl)

/-- What an end leaves of Denlys: the session, its second NOTIFY and its requests are gone. -/
theorem endSession_denlys {k : Nat} (h : d.session k = some x) : (endSession d k).denlys = { (d.setSession k none).denlys with
    second := d.denlys.second.filter (fun e => e.1 != k)
    requests := d.denlys.requests.filter (fun r => byteAt r.part 1 == 1 || byteAt r.part 2 != k) } := by
  have habort : (if d.rd M.TXN_OWNER = 0x8000 + k then txnAbort d else d).denlys = d.denlys := by
    split
    · exact txnAbort_denlys d
    · rfl
  unfold endSession
  rw [if_neg (by simp [h])]
  simp only [Dev.setSession, habort]

theorem endSession_rd (d : Dev) (s : Nat) {k : Nat} (h : k / 2 ^ 24 ≠ 0x05) : (endSession d s).rd k = d.rd k := by
  unfold endSession
  split
  · rfl
  · dsimp only
    split
    · exact txnAbort_rd d h
    · rfl

theorem endSession_keys (d : Dev) (s : Nat) : (endSession d s).denlys.keys = d.denlys.keys := by
  cases h : d.session s with
  | none => rw [endSession_of_none h]
  | some x => rw [endSession_denlys h]; rfl

theorem endSession_session (d : Dev) (s j : Nat) : (endSession d s).session j = if j = s then none else d.session j := by
  cases h : d.session s with
  | none => rw [endSession_of_none h]; split <;> simp_all
  | some x =>
    have hsessions : (endSession d s).denlys.sessions = (d.setSession s none).denlys.sessions := by rw [endSession_denlys h]
    rw [Dev.session_of_sessions hsessions]
    split
    case isTrue hj => rw [hj, Dev.session_setSession_same]
    case isFalse hj => exact Dev.session_setSession_other d none hj

/-- Of the requests of a session that has ended none waits; a HELLO belongs to no session. -/
theorem endSession_requests {k : Nat} (h : d.session k = some x) :
    ∀ r ∈ (endSession d k).denlys.requests, byteAt r.part 1 = 1 ∨ byteAt r.part 2 ≠ k := by
  intro r hr
  rw [endSession_denlys h] at hr
  simpa using (List.mem_filter.mp hr).2

/-! ## The end of a role's sessions (R185) -/

/-- A session ends if it is of a role. -/
def endIfRole (role : Nat) (d : Dev) (s : Nat) : Dev :=
  match d.session s with
  | some x => if x.role = role then endSession d s else d
  | none => d

theorem endRole_eq (d : Dev) (role : Nat) : endRole d role = (List.range 9).foldl (endIfRole role) d := rfl

theorem endIfRole_eq (role : Nat) (d : Dev) (s : Nat) :
    endIfRole role d s = endSession d s ∨ endIfRole role d s = d ∧ ∀ x, d.session s = some x → x.role ≠ role := by
  unfold endIfRole
  split
  case h_1 x h =>
    split
    · exact .inl rfl
    case isFalse hrole => exact .inr ⟨rfl, fun y hy => Option.some.inj (h.symm.trans hy) ▸ hrole⟩
  case h_2 h => exact .inr ⟨rfl, by simp [h]⟩

theorem endRole_keys (d : Dev) (role : Nat) : (endRole d role).denlys.keys = d.denlys.keys := by
  rw [endRole_eq]
  refine List.foldlRecOn _ _ (motive := fun e : Dev => e.denlys.keys = d.denlys.keys) rfl fun e he s _ => ?_
  obtain h | ⟨h, -⟩ := endIfRole_eq role e s
  · rw [h, endSession_keys, he]
  · rw [h, he]

/-- The step for a session ends it where it is of the role, and no other step opens it again. -/
theorem endRole_role (d : Dev) {role k : Nat} (hk : k < 9) : ∀ x, (endRole d role).session k = some x → x.role ≠ role := by
  rw [endRole_eq]
  refine foldl_of_mem (P := fun e : Dev => ∀ x, e.session k = some x → x.role ≠ role) (fun e s he => ?_) (fun e => ?_)
    (List.mem_range.mpr hk) d
  · obtain h | ⟨h, -⟩ := endIfRole_eq role e s
    · rw [h, endSession_session]
      split
      · simp
      · exact he
    · rwa [h]
  · obtain h | ⟨h, hrole⟩ := endIfRole_eq role e k
    · rw [h, endSession_session, if_pos rfl]
      simp
    · rwa [h]

/-! ## Writing a key slot (R185) -/

theorem patch_whole {old new : Bytes} (h : new.length = old.length) : patch old 0 new = new := by
  simp [patch, ← h]

/-- The slots with a key stored in one of them. -/
def Dev.withKey (d : Dev) (slot : Nat) (key : Bytes) : Dev :=
  { d with denlys := { d.denlys with keys := SMap.set (fun _ => none) d.denlys.keys slot (some key) } }

theorem Dev.withKey_same (d : Dev) (slot : Nat) (key : Bytes) :
    SMap.get (fun _ => none) (d.withKey slot key).denlys.keys slot = some key := by
  simp [Dev.withKey]

theorem Dev.withKey_other (d : Dev) {slot j : Nat} (key : Bytes) (h : j ≠ slot) :
    SMap.get (fun _ => none) (d.withKey slot key).denlys.keys j = SMap.get (fun _ => none) d.denlys.keys j := by
  simp [Dev.withKey, SMap.get_set_other _ _ _ _ _ h]

theorem keyPut_whole {slot : Nat} {key : Bytes} (hlen : key.length = 32)
    (hold : ∀ k, SMap.get (fun _ => none) d.denlys.keys slot = some k → k.length = 32) :
    keyPut d slot 0 key = endRole (d.withKey slot key) slot := by
  have hlength : key.length = ((SMap.get (fun _ => none) d.denlys.keys slot).getD (List.replicate 32 0)).length := by
    cases h : SMap.get (fun _ => none) d.denlys.keys slot with
    | none => simpa using hlen
    | some k => exact hlen.trans (hold k h).symm
  unfold keyPut Dev.withKey
  dsimp only
  rw [patch_whole hlength]

/-- A write of exactly one slot meets no other. -/
theorem keySlotWrite_slot {w : PcieWrite} {slot : Nat} (hslot : slot < 3) (hbar : w.bar = 0) (haddr : w.addr = 0x08B10000 + 32 * slot)
    (hlen : w.data.length = 32) (hlink : d.start.pcieUp = true) : keySlotWrite w d = keyPut d slot 0 w.data := by
  have hdata : w.data ≠ [] := by rintro h; simp [h] at hlen
  have htake : w.data.take 32 = w.data := List.take_of_length_le hlen.le
  unfold keySlotWrite
  rw [if_neg (by simp [hbar, hdata, hlink]; omega), if_neg (by omega)]
  obtain rfl | rfl | rfl : slot = 0 ∨ slot = 1 ∨ slot = 2 := by omega
  all_goals simp [List.range_succ, haddr, hlen, htake]

end Sys2Proof.Machine

namespace Sys2Proof

open Sys2Proof.Machine

/-- Settles O23: a write of a whole slot stores its bytes and then ends the role's sessions, which leaves the slots. -/
theorem keySlotHoldsItsKey : Obligations.KeySlotHoldsItsKey := by
  intro w slot s hslot hbar haddr hlen hlink hold
  have hwrite : keySlotWrite w s.dev = endRole (s.dev.withKey slot w.data) slot :=
    (keySlotWrite_slot hslot hbar haddr hlen hlink).trans (keyPut_whole hlen hold)
  refine ⟨keySlotWrite w s.dev, rfl, ?_, fun j hj => ?_, fun k x hk => ?_⟩
  · rw [hwrite, endRole_keys, Dev.withKey_same]
  · rw [hwrite, endRole_keys, Dev.withKey_other _ _ hj]
  · rw [hwrite]
    exact endRole_role _ hk x

end Sys2Proof

/-! Denlys frames as they arrive, and HELLO. -/

namespace Sys2Proof.Machine

variable {d : Dev} {r : DenReq} {x : Session}

/-- A command of the device leaves what it answers, and the bell. -/
theorem gives_of_onDev {c : Instr} {s : State} {f : BellSt → Dev → Dev} {e : Dev} (hexec : exec c s = s.onDev f)
    (h : f s.bell s.dev = e) : Gives c s s.bell e := by
  unfold Gives
  rw [hexec, State.onDev_eq, h]

@[simp] theorem queueRequest_session (d : Dev) (r : DenReq) (j : Nat) : (queueRequest d r).session j = d.session j := rfl

@[simp] theorem denlysReady_session (d : Dev) (ns : Nat) (f : Bytes) (j : Nat) : (denlysReady d ns f).session j = d.session j := rfl

/-! ## A frame that is verified, or not (R176, R178, R186) -/

/-- A frame that the endpoint takes, and whose FCS is right: it is counted, and its Denlys part is looked at. -/
structure Dev.Takes (d : Dev) (frame : Bytes) (rx : DenRx) : Prop where
  answers : d.start.island.answers = true
  fcs : rx.fcsOk = true
  dst : beAt frame 0 6 = Config.denlysMac % 2 ^ 48
  ethertype : beAt frame 12 2 = d.rd M.DENLYS_ETHERTYPE

/-- The request that a frame brings. -/
def requestOf (frame : Bytes) (rx : DenRx) : DenReq := { src := beAt frame 6 6, ns := rx.ns, part := frame.drop 14 }

theorem denlysFrameRx_of_badFcs {frame : Bytes} {rx : DenRx} (hanswers : d.start.island.answers = true) (hfcs : rx.fcsOk = false) :
    denlysFrameRx frame rx d = d.bump M.CNT_DENLYS_FCS := by
  unfold denlysFrameRx
  rw [if_neg (by simp [hanswers]), if_pos hfcs]

/-- A frame that is no HELLO is judged by its session's key. -/
theorem denlysFrameRx_of_session {frame : Bytes} {rx : DenRx} (h : d.Takes frame rx) (hop : byteAt (frame.drop 14) 1 ≠ 1)
    (hsession : d.session (byteAt (frame.drop 14) 2) = some x) :
    denlysFrameRx frame rx d = if tagOk x.key (frame.drop 14)
      then sessionRequest (d.bump M.CNT_DENLYS_RX) (requestOf frame rx) (byteAt (frame.drop 14) 2) x
      else (d.bump M.CNT_DENLYS_RX).bump M.CNT_DENLYS_BAD_TAG := by
  have hcounted : (d.bump M.CNT_DENLYS_RX).session (byteAt (frame.drop 14) 2) = some x := hsession
  unfold denlysFrameRx
  rw [if_neg (by simp [h.answers]), if_neg (by simp [h.fcs]), if_neg (by simp [h.dst, h.ethertype])]
  dsimp only
  rw [if_neg hop, hcounted]
  rfl

/-- The first request of a session is newer than the last where its SEQ is above 0 in serial arithmetic (log 176): it waits. -/
theorem sessionRequest_of_first {s : Nat} (hidle : d.denlys.requests = []) (hseq : x.seq = none) (hpos : 0 < beAt r.part 4 4)
    (hhalf : beAt r.part 4 4 < 2 ^ 31) (hop : requestOps.contains (byteAt r.part 1) = true) :
    sessionRequest d r s x = queueRequest (d.setSession s (some { x with heard := r.ns })) r := by
  have hdiff : (beAt r.part 4 4 + 2 ^ 32 - x.seq.getD 0) % 2 ^ 32 = beAt r.part 4 4 := by
    rw [hseq, Option.getD_none]
    omega
  have hnone : (d.setSession s (some { x with heard := r.ns })).denlys.requests = [] := hidle
  unfold sessionRequest
  dsimp only
  rw [hdiff, hnone, if_neg (by simp), if_neg (by omega), if_neg (by omega), if_pos hop]

theorem requestOps_ne_hello {op : Nat} (h : requestOps.contains op = true) : op ≠ 1 := by
  rintro rfl
  exact absurd h (by decide)

theorem denlysFrameRx_gives {frame : Bytes} {rx : DenRx} {s : State} {e : Dev} (h : denlysFrameRx frame rx s.dev = e) :
    Gives (.denlysFrameRx frame rx) s s.bell e := gives_of_onDev (f := fun _ => denlysFrameRx frame rx) rfl h

/-! ## Nonces (R183) -/

/-- Among more consecutive draws than there are nonces given out, one is new. -/
theorem newNonce_not_mem {used : List Nat} (draw : Nat) (hlen : used.length < 2 ^ 64) : newNonce used draw ∉ used := by
  unfold newNonce
  cases hfind : ((List.range (used.length + 1)).map (fun k => (draw + k) % 2 ^ 64)).find? (fun n => !used.contains n) with
  | some n =>
    have hnew := List.find?_some hfind
    simpa using hnew
  | none =>
    exfalso
    have hdistinct : ((List.range (used.length + 1)).map (fun k => (draw + k) % 2 ^ 64)).Nodup :=
      List.nodup_range.map_on fun i hi j hj hij => by
        rw [List.mem_range] at hi hj
        omega
    have hused : (List.range (used.length + 1)).map (fun k => (draw + k) % 2 ^ 64) ⊆ used := fun n hn => by
      simpa using List.find?_eq_none.mp hfind n hn
    have hle := (List.subperm_of_subset hdistinct hused).length_le
    simp at hle

/-! ## HELLO (R182) -/

/-- The oldest request is taken off. -/
def Dev.taken (d : Dev) : Dev := { d with denlys := { d.denlys with requests := [] } }

/-- The oldest request, and the only one, is a HELLO that names a key slot. -/
structure Dev.HelloWaits (d : Dev) (r : DenReq) : Prop where
  oldest : d.denlys.requests = [r]
  op : byteAt r.part 1 = 1
  role : byteAt (denlysPayload r.part) 2 < 3

theorem denlysHello_of_emptySlot {nonce ms : Nat} (h : d.HelloWaits r)
    (hkey : SMap.get (fun _ => none) d.denlys.keys (byteAt (denlysPayload r.part) 2) = none) :
    denlysHello nonce ms d = helloNoKey d.taken r ms := by
  unfold denlysHello
  rw [h.oldest]
  dsimp only
  rw [if_neg (not_not_intro h.op), if_pos h.role, hkey]
  rfl

theorem denlysHello_of_verified {nonce ms : Nat} {k : Bytes} (h : d.HelloWaits r)
    (hkey : SMap.get (fun _ => none) d.denlys.keys (byteAt (denlysPayload r.part) 2) = some k) (htag : tagOk k r.part = true) :
    denlysHello nonce ms d = helloOpen d.taken r (byteAt (denlysPayload r.part) 2) k (denlysPayload r.part) nonce := by
  unfold denlysHello
  rw [h.oldest]
  dsimp only
  rw [if_neg (not_not_intro h.op), if_pos h.role, hkey]
  exact if_pos htag

/-- A HELLO that names an empty slot is counted, and its address noted (R182 step 2). -/
def Dev.noKeyFor (d : Dev) (src ms : Nat) : Dev :=
  { d.bump M.CNT_DENLYS_NO_KEY with denlys := { d.denlys with refused := [(src, ms)] } }

theorem Dev.noKeyFor_rd_count (d : Dev) (src ms : Nat) :
    (d.noKeyFor src ms).rd M.CNT_DENLYS_NO_KEY = (d.rd M.CNT_DENLYS_NO_KEY + 1) % 2 ^ 64 := Dev.rd_bump_same d _

/-- With no address refused of late, a HELLO to an empty slot is counted, refused, and its address noted. -/
theorem helloNoKey_of_noneRefused (ms : Nat) (h : d.denlys.refused = []) : helloNoKey d r ms =
    refuseHello (d.noKeyFor r.src ms) r none St.DENLYS_NO_KEY := by
  have hcounted : (d.bump M.CNT_DENLYS_NO_KEY).denlys = d.denlys := rfl
  unfold helloNoKey
  dsimp only
  rw [hcounted, h]
  rfl

/-- A refused HELLO leaves an answer, and uses one open value for its SEQ (log 1). -/
theorem refuseHello_frame (d : Dev) (r : DenReq) (key : Option Bytes) (status : Nat) : ∃ f, refuseHello d r key status =
    denlysReady { d with free := d.free + 1 } r.ns f := ⟨_, rfl⟩

theorem endSource_of_noSessions (src : Nat) (h : ∀ n, d.session n = none) : endSource d src = d :=
  List.foldlRecOn _ _ (motive := fun e : Dev => e = d) rfl fun e he s _ => by
    subst he
    simp only [h]

/-- A nonce is given out. -/
def Dev.withNonce (d : Dev) (nonce : Nat) : Dev := { d with denlys := { d.denlys with nonces := nonce :: d.denlys.nonces } }

/-- The session that a HELLO opens. -/
def Dev.helloSession (d : Dev) (r : DenReq) (role : Nat) (key p : Bytes) (nonce : Nat) : Session :=
  { version := min (byteAt p 1) (d.rd M.DENLYS_VERSION_MAX), role, mac := r.src, key := sessionKey key (beAt p 4 8) nonce (d.rd M.STRAP_NODEID),
    seq := none, devSeq := 2, heard := r.ns, beat := r.ns, kept := [], sub := none }

/-- With no session open, a HELLO with a version in common opens session 1. -/
theorem helloOpen_of_noSessions {role draw : Nat} {key p : Bytes} (hnone : ∀ n, d.session n = none)
    (hversion : max 1 (byteAt p 0) ≤ min (byteAt p 1) (d.rd M.DENLYS_VERSION_MAX)) : ∃ f, helloOpen d r role key p draw =
      denlysReady ((d.withNonce (newNonce d.denlys.nonces draw)).setSession 1
        (some (d.helloSession r role key p (newNonce d.denlys.nonces draw)))) r.ns f := by
  have hfree : ((List.range 9).filter (fun s => (d.session s).isSome)).length ≠ 8 := by simp [hnone]
  have hsource : endSource (d.withNonce (newNonce d.denlys.nonces draw)) r.src = d.withNonce (newNonce d.denlys.nonces draw) :=
    endSource_of_noSessions r.src hnone
  have hfirst : [1, 2, 3, 4, 5, 6, 7, 8].find? (fun s => ((d.withNonce (newNonce d.denlys.nonces draw)).session s).isNone) = some 1 :=
    List.find?_cons_of_pos (congrArg Option.isNone (hnone 1))
  unfold Dev.withNonce at hsource hfirst
  unfold helloOpen
  dsimp only
  rw [if_neg hfree, if_neg (by omega), hsource, hfirst]
  exact ⟨_, rfl⟩

theorem denlysHello_gives {nonce ms : Nat} {s : State} {e : Dev} (h : denlysHello nonce ms s.dev = e) :
    Gives (.denlysHello nonce ms) s s.bell e := gives_of_onDev (f := fun _ => denlysHello nonce ms) rfl h

end Sys2Proof.Machine

namespace Sys2Proof

open Sys2Proof.Machine

/-- Settles O25, clause by clause. That the first request of a session is judged against SEQ 0 is log 176, and that the nonce is the
first unused value from the draw up is log 237. -/
theorem denlysFramesAndHello : Obligations.DenlysFramesAndHello := by
  refine ⟨fun f rx s hanswers hfcs => ?_, fun f rx x s hanswers hfcs hdst htype hop hsession htag => ?_,
    fun f rx x s hanswers hfcs hdst htype hop hsession htag hidle hseq hpos hhalf => ?_,
    fun nonce ms r s holdest hop hrole hkey hrefused => ?_, fun nonce ms r k s holdest hop hrole hkey htag hversion hnone => ?_,
    fun used draw hlen => newNonce_not_mem draw hlen⟩
  · exact denlysFrameRx_gives (denlysFrameRx_of_badFcs hanswers hfcs)
  · have hrx := denlysFrameRx_of_session ⟨hanswers, hfcs, hdst, htype⟩ hop hsession
    rw [if_neg (by simp [htag])] at hrx
    exact denlysFrameRx_gives hrx
  · have hrx := denlysFrameRx_of_session ⟨hanswers, hfcs, hdst, htype⟩ (requestOps_ne_hello hop) hsession
    rw [if_pos htag, sessionRequest_of_first (d := s.dev.bump M.CNT_DENLYS_RX) (r := requestOf f rx) hidle hseq hpos hhalf hop] at hrx
    refine ⟨_, denlysFrameRx_gives hrx, congrArg (· ++ [requestOf f rx]) hidle, rfl, ?_, fun k hk => ?_, rfl⟩
    · rw [queueRequest_session, Dev.session_setSession_same]
      rfl
    · rw [queueRequest_session, Dev.session_setSession_other _ _ hk]
      rfl
  · obtain ⟨f, hf⟩ := refuseHello_frame (s.dev.taken.noKeyFor r.src ms) r none St.DENLYS_NO_KEY
    have hhello : denlysHello nonce ms s.dev = _ := (denlysHello_of_emptySlot ⟨holdest, hop, hrole⟩ hkey).trans
      ((helloNoKey_of_noneRefused (d := s.dev.taken) ms hrefused).trans hf)
    exact ⟨_, denlysHello_gives hhello, rfl, rfl, List.length_append, s.dev.taken.noKeyFor_rd_count r.src ms, rfl⟩
  · obtain ⟨f, hf⟩ := helloOpen_of_noSessions (d := s.dev.taken) (r := r) (role := byteAt (denlysPayload r.part) 2) (draw := nonce)
      (key := k) hnone hversion
    have hhello : denlysHello nonce ms s.dev = _ := (denlysHello_of_verified ⟨holdest, hop, hrole⟩ hkey htag).trans hf
    refine ⟨_, denlysHello_gives hhello, rfl, List.length_append, rfl, ?_⟩
    rw [denlysReady_session, Dev.session_setSession_same]
    rfl

end Sys2Proof

/-! Denlys requests as they are served. -/

namespace Sys2Proof.Machine

variable {d e : Dev} {now b : BellSt} {r : DenReq} {x : Session} {op st : Nat} {payload : Bytes}

/-! ## Answers (R179, R186) -/

/-- A session after a request that was answered with a frame, which it keeps. -/
def Session.answered (x : Session) (r : DenReq) (f : Bytes) : Session :=
  { x with devSeq := (x.devSeq + 1) % 2 ^ 32, seq := some (beAt r.part 4 4), kept := f }

/-- An answer waits for a transmit opportunity, and its session keeps it. -/
theorem answerRequest_of_session (h : d.session (byteAt r.part 2) = some x) (st : Nat) (payload : Bytes) :
    let f := (x.frame d (byteAt r.part 2) r.src (byteAt r.part 1 % 128) st payload).1
    answerRequest d r st payload = denlysReady (d.setSession (byteAt r.part 2) (some (x.answered r f))) r.ns f := by
  unfold answerRequest
  dsimp only
  rw [h]
  rfl

/-- Of the device, a frame takes nothing but the EtherType. -/
theorem Session.frame_congr (h : e.rd M.DENLYS_ETHERTYPE = d.rd M.DENLYS_ETHERTYPE) (s dst : Nat) :
    x.frame e s dst op st payload = x.frame d s dst op st payload := by
  unfold Session.frame denlysFrame
  rw [h]

/-! ## The oldest request is executed (R179, R184) -/

/-- The oldest request, and the only one, names an operation that its session's version and role have. -/
structure Dev.RequestWaits (d : Dev) (op : Nat) (r : DenReq) (x : Session) : Prop where
  oldest : d.denlys.requests = [r]
  names : byteAt r.part 1 = op
  session : d.session (byteAt r.part 2) = some x
  version : opVersion op ≤ x.version
  role : opRole op ≤ x.role

/-- A request is taken off, executed and answered. -/
theorem serveRequest_of_waits {f : Nat → Session → Bytes → BellSt × Dev → Nat × Bytes × BellSt × Dev} (h : d.RequestWaits op r x)
    (hf : f (byteAt r.part 2) x (denlysPayload r.part) (now, d.taken) = (st, payload, b, e)) :
    serveRequest op now d f = (b, answerRequest e r st payload) := by
  have hsession : d.taken.session (byteAt r.part 2) = some x := h.session
  unfold serveRequest
  rw [h.oldest]
  dsimp only [Dev.taken] at hsession hf ⊢
  rw [if_neg (not_not_intro h.names), hsession]
  dsimp only
  rw [if_neg (Nat.not_lt.mpr h.version), if_neg (Nat.not_lt.mpr h.role), hf]

theorem denlysHeartbeat_of_waits (h : d.RequestWaits 0x0A r x) :
    denlysHeartbeat now d = (now, answerRequest d.taken r St.OK (heartbeatPayload now d)) := serveRequest_of_waits h rfl

/-- READ of one member. -/
theorem denlysRead_of_one {v : Nat} (h : d.RequestWaits 2 r x) (hone : byteAt (denlysPayload r.part) 0 = 1)
    (hread : readAs now d.taken (.d (byteAt r.part 2)) (beAt (denlysPayload r.part) 4 4) = (st, v, e)) :
    denlysRead now d = (now, answerRequest e r St.OK (toBE 2 st ++ toBE 2 0 ++ toBE 8 v)) := by
  refine serveRequest_of_waits h ?_
  simp [hone, hread]

/-- WRITE of one member. -/
theorem denlysWrite_of_one (h : d.RequestWaits 3 r x) (hone : byteAt (denlysPayload r.part) 0 = 1)
    (hwrite : writeMember now d.taken { who := .d (byteAt r.part 2), val := beAt (denlysPayload r.part) 8 8, width := 8 }
      (beAt (denlysPayload r.part) 4 4) = (st, b, e)) : denlysWrite now d = (b, answerRequest e r St.OK (toBE 2 st)) := by
  refine serveRequest_of_waits h ?_
  simp [hone, hwrite]

theorem denlysTrigger_of_waits {id : Nat} (h : d.RequestWaits op r x)
    (hwrite : writeMember now d.taken { who := .d (byteAt r.part 2), val := 1, width := 8 } id = (st, b, e)) :
    denlysTrigger op id now d = (b, answerRequest e r st []) := by
  refine serveRequest_of_waits h ?_
  dsimp only
  rw [hwrite]

/-! ## READ_BLOCK (R130, R179) -/

/-- A READ_BLOCK of 1 to 1,024 bytes, in a class that answers; `base` is where the class's block area begins (log 174). -/
structure Dev.BlockAsked (d : Dev) (p : Bytes) (base size : Nat) : Prop where
  nonempty : 0 < beAt p 8 2
  fits : beAt p 8 2 ≤ 1024
  answers : d.gate (byteAt p 0) = false
  area : blockArea (byteAt p 0) (beAt p 2 2) = some (base, size)

theorem Dev.BlockAsked.length_ok {p : Bytes} {base size : Nat} (h : d.BlockAsked p base size) : ¬(beAt p 8 2 = 0 ∨ 1024 < beAt p 8 2) := by
  obtain ⟨hpos, hmax, -, -⟩ := h
  omega

theorem denlysReadBlock_of_mapped {base size : Nat} (h : d.RequestWaits 4 r x) (hasked : d.BlockAsked (denlysPayload r.part) base size)
    (hinside : beAt (denlysPayload r.part) 4 4 + beAt (denlysPayload r.part) 8 2 ≤ size)
    (hmapped : ∀ i, i < beAt (denlysPayload r.part) 8 2 → areaUse (base + beAt (denlysPayload r.part) 4 4 + i) ≠ none) :
    denlysReadBlock now d = (now, answerRequest d.taken r St.OK ((List.range (beAt (denlysPayload r.part) 8 2)).map (fun i =>
      areaRead d (base + beAt (denlysPayload r.part) 4 4 + i)))) := by
  have hgate : d.taken.gate (byteAt (denlysPayload r.part) 0) = false := hasked.answers
  have hall : ¬ (size < beAt (denlysPayload r.part) 4 4 + beAt (denlysPayload r.part) 8 2 ∨
      (List.range (beAt (denlysPayload r.part) 8 2)).any (fun i => (areaUse (base + beAt (denlysPayload r.part) 4 4 + i)).isNone) = true) := by
    rintro (hout | hhole)
    · omega
    · obtain ⟨i, hi, hnone⟩ := List.any_eq_true.mp hhole
      exact hmapped i (List.mem_range.mp hi) (Option.isNone_iff_eq_none.mp hnone)
  refine serveRequest_of_waits h ?_
  dsimp only
  rw [if_neg hasked.length_ok, if_neg (by simp [hgate]), hasked.area]
  exact if_neg hall

theorem denlysReadBlock_of_hole {base size i : Nat} (h : d.RequestWaits 4 r x) (hasked : d.BlockAsked (denlysPayload r.part) base size)
    (hi : i < beAt (denlysPayload r.part) 8 2) (hhole : areaUse (base + beAt (denlysPayload r.part) 4 4 + i) = none) :
    denlysReadBlock now d = (now, answerRequest (d.taken.countRefused St.NO_OBJECT) r St.NO_OBJECT []) := by
  have hgate : d.taken.gate (byteAt (denlysPayload r.part) 0) = false := hasked.answers
  have hany : (List.range (beAt (denlysPayload r.part) 8 2)).any
      (fun i => (areaUse (base + beAt (denlysPayload r.part) 4 4 + i)).isNone) = true :=
    List.any_eq_true.mpr ⟨i, List.mem_range.mpr hi, by rw [hhole]; rfl⟩
  refine serveRequest_of_waits h ?_
  dsimp only
  rw [if_neg hasked.length_ok, if_neg (by simp [hgate]), hasked.area]
  exact if_pos (.inr hany)

theorem Dev.countRefused_rd_noObject (d : Dev) :
    (d.countRefused St.NO_OBJECT).rd M.CNT_NO_OBJECT = (d.rd M.CNT_NO_OBJECT + 1) % 2 ^ 64 := Dev.rd_bump_same d _

/-! ## SUBSCRIBE (R181) -/

/-- A subscription that has seen no lesson start and names no member. -/
def Subscription.fresh (interval : Nat) (events : Bool) : Subscription :=
  { interval, events, ids := [], lessons := 0, checked := 0, last := [], pendingEvents := [], overflow := 0 }

/-- A session with a subscription. -/
def Session.subscribed (x : Session) (b : Subscription) : Session := { x with sub := some b }

/-- A SUBSCRIBE that names no member and an interval in its range gives its session a subscription. -/
theorem denlysSubscribe_of_noMembers (h : d.RequestWaits 8 r x) (hnone : byteAt (denlysPayload r.part) 3 = 0)
    (hpos : 0 < beAt (denlysPayload r.part) 0 2) (hmax : beAt (denlysPayload r.part) 0 2 ≤ 1024) : denlysSubscribe now d =
      (now, answerRequest (d.taken.setSession (byteAt r.part 2) (some (x.subscribed
        (.fresh (beAt (denlysPayload r.part) 0 2) (bitOf (byteAt (denlysPayload r.part) 2) 0))))) r St.OK []) := by
  have hsession : d.taken.session (byteAt r.part 2) = some x := h.session
  refine serveRequest_of_waits h ?_
  dsimp only
  rw [hnone, if_neg (by omega), if_neg (by omega), hsession]
  rfl

end Sys2Proof.Machine

namespace Sys2Proof

open Sys2Proof.Machine

/-- Settles O26, clause by clause: a request that its session may make is taken off, executed and answered. That OFFSET of
READ_BLOCK counts from the start of the class's block area is log 174, the refusal of a block with a hole log 268, and the
big-endian form of an OCTETS8 value log 263. -/
theorem denlysRequestsAreServed : Obligations.DenlysRequestsAreServed := by
  refine ⟨fun r x s holdest hop hsession hversion => ?_, fun r st v x d s holdest hop hsession hversion hone hread => ?_,
    fun r st x b d s holdest hop hsession hversion hrole hone hwrite => ?_,
    fun r base size x s holdest hop hsession hversion hsome hfits hgate harea hinside hmapped => ?_,
    fun r base size i x s holdest hop hsession hversion hsome hfits hgate harea hi hhole => ?_,
    fun r x s holdest hop hsession hversion hnone hpos hmax => ?_,
    fun r st x b d s holdest hop hsession hversion hrole hwrite => ?_,
    fun r st x b d s holdest hop hsession hversion hrole hwrite => ?_,
    fun r st x b d s holdest hop hsession hversion hrole hwrite => ?_⟩
  · exact gives_of_onBoth rfl (denlysHeartbeat_of_waits ⟨holdest, hop, hsession, hversion, Nat.zero_le _⟩)
  · exact gives_of_onBoth rfl (denlysRead_of_one ⟨holdest, hop, hsession, hversion, Nat.zero_le _⟩ hone hread)
  · exact gives_of_onBoth rfl (denlysWrite_of_one ⟨holdest, hop, hsession, hversion, hrole⟩ hone hwrite)
  · have hwaits : s.dev.RequestWaits 4 r x := ⟨holdest, hop, hsession, hversion, Nat.zero_le _⟩
    refine ⟨_, gives_of_onBoth rfl (denlysReadBlock_of_mapped hwaits ⟨hsome, hfits, hgate, harea⟩ hinside hmapped), ?_⟩
    rw [answerRequest_of_session (d := s.dev.taken) hsession, hop]
    exact ⟨rfl, rfl, rfl, rfl⟩
  · have hwaits : s.dev.RequestWaits 4 r x := ⟨holdest, hop, hsession, hversion, Nat.zero_le _⟩
    refine ⟨_, gives_of_onBoth rfl (denlysReadBlock_of_hole hwaits ⟨hsome, hfits, hgate, harea⟩ hi hhole), ?_⟩
    rw [answerRequest_of_session (d := s.dev.taken.countRefused St.NO_OBJECT) hsession, hop,
      Session.frame_congr (d := s.dev) (Dev.countRefused_rd s.dev.taken _ (by decide) (by decide))]
    exact ⟨rfl, s.dev.taken.countRefused_rd_noObject⟩
  · refine ⟨_, gives_of_onBoth rfl (denlysSubscribe_of_noMembers ⟨holdest, hop, hsession, hversion, Nat.zero_le _⟩ hnone hpos hmax), ?_⟩
    rw [answerRequest_of_session (Dev.session_setSession_same ..)]
    exact ⟨_, (denlysReady_session ..).trans (Dev.session_setSession_same ..), rfl, rfl, rfl⟩
  · exact gives_of_onBoth rfl (denlysTrigger_of_waits ⟨holdest, hop, hsession, hversion, hrole⟩ hwrite)
  · exact gives_of_onBoth rfl (denlysTrigger_of_waits ⟨holdest, hop, hsession, hversion, hrole⟩ hwrite)
  · exact gives_of_onBoth rfl (denlysTrigger_of_waits ⟨holdest, hop, hsession, hversion, hrole⟩ hwrite)

end Sys2Proof

/-! What Denlys sends of itself, and sessions that fall silent. -/

namespace Sys2Proof.Machine

variable {d : Dev} {now : BellSt} {x : Session}

theorem Dev.rd_bumpIf_same (d : Dev) (c : Bool) (id : Nat) : (d.bumpIf c id).rd id = (d.rd id + b2n c) % 2 ^ 64 := by
  cases c
  · exact (Nat.mod_eq_of_lt (d.rd_lt id)).symm
  · exact d.rd_bump_same id

@[simp] theorem Dev.bumpIf_out (d : Dev) (c : Bool) (id : Nat) : (d.bumpIf c id).out = d.out := by cases c <;> rfl

@[simp] theorem Dev.bumpIf_denlys (d : Dev) (c : Bool) (id : Nat) : (d.bumpIf c id).denlys = d.denlys := by cases c <;> rfl

/-! ## A frame is sent (R188) -/

@[simp] theorem denlysSend_out (d : Dev) (f : Bytes) : (denlysSend d f).out = d.out ++ [.denlys f] := rfl

@[simp] theorem denlysSend_denlys (d : Dev) (f : Bytes) : (denlysSend d f).denlys = d.denlys := rfl

@[simp] theorem denlysSend_session (d : Dev) (f : Bytes) (j : Nat) : (denlysSend d f).session j = d.session j := rfl

theorem denlysSend_rd_count (d : Dev) (f : Bytes) : (denlysSend d f).rd M.CNT_DENLYS_TX = (d.rd M.CNT_DENLYS_TX + 1) % 2 ^ 64 :=
  Dev.rd_bump_same (d.emit (.denlys f)) _

theorem denlysSend_rd_other (d : Dev) (f : Bytes) {k : Nat} (h : k ≠ M.CNT_DENLYS_TX) : (denlysSend d f).rd k = d.rd k :=
  Dev.rd_bump_other (d.emit (.denlys f)) _ _ h

/-! ## Responses (R188) -/

/-- The frames that are left to send. -/
def Dev.withReady (d : Dev) (rest : List (Bytes × Nat)) : Dev := { d with denlys := { d.denlys with ready := rest } }

/-- Whether a response to a request that ended at `ended` starts past the bound; with NODEID 255 none does. -/
def Dev.responseLate (d : Dev) (ended : Nat) (tx : DenTx) : Bool :=
  d.rd M.STRAP_NODEID != 255 && decide (ended + d.denlysBound + tx.heldNs < tx.ns)

theorem denlysResponseTx_of_waiting {f : Bytes} {ended : Nat} {rest : List (Bytes × Nat)} (tx : DenTx)
    (h : d.denlys.ready = (f, ended) :: rest) :
    denlysResponseTx tx d = (denlysSend (d.withReady rest) f).bumpIf (d.responseLate ended tx) M.CNT_DENLYS_LATE := by
  unfold denlysResponseTx
  rw [h]
  rfl

theorem Dev.responseLate_eq (d : Dev) (ended : Nat) (tx : DenTx) : d.responseLate ended tx = (d.rd M.STRAP_NODEID != 255 &&
    decide (ended + 14000 + d.rd M.PLCA_NODE_COUNT * d.rd M.PLCA_TO_TIMER * 100 + tx.heldNs < tx.ns)) := by
  unfold Dev.responseLate Dev.denlysBound
  congr 2
  apply propext
  omega

/-! ## Notifications (R181) -/

/-- The members of a subscription that no longer read as at its last check, and what they read. -/
def Subscription.changes (b : Subscription) (now : BellSt) (d : Dev) : List (Nat × Nat) :=
  ((b.ids.zip (b.reads now d)).zip b.last).filterMap (fun v => if v.1.2 = v.2 then none else some v.1)

/-- A check that is due, with members that changed and no event, sends one NOTIFY to the session's station. -/
theorem denlysNotify_of_changes {k : Nat} {b : Subscription} (hsession : d.session k = some x) (hsub : x.sub = some b)
    (hdue : b.due = true) (hanswers : d.start.island.answers = true) (hevents : b.pendingEvents = []) (hchanges : b.changes now d ≠ []) :
    (denlysNotify k now d).rd M.CNT_DENLYS_TX = (d.rd M.CNT_DENLYS_TX + 1) % 2 ^ 64 ∧ (denlysNotify k now d).out =
      d.out ++ [.denlys (x.frame d k x.mac 9 St.OK (notifyPayload b.overflow (b.changes now d) [])).1] := by
  unfold Subscription.changes at hchanges ⊢
  unfold denlysNotify
  rw [hsession]
  dsimp only
  rw [hsub]
  dsimp only
  rw [if_neg (by simp [hdue, hanswers]), if_neg (by simp [hchanges]), hevents]
  simp only [List.take_nil, List.drop_nil, List.isEmpty_nil, if_true]
  refine ⟨?_, rfl⟩
  exact (Dev.rd_addTo_other _ _ _ _ (by decide)).trans (denlysSend_rd_count _ _)

theorem Subscription.changes_of_one {b : Subscription} {id v : Nat} (hids : b.ids = [id]) (hlast : b.last = [v])
    (hgate : d.gate (id / 2 ^ 24) = false) (hchanged : readMember now d id ≠ v) : b.changes now d = [(id, readMember now d id)] := by
  have hreads : b.reads now d = [readMember now d id] := by
    unfold Subscription.reads
    rw [hids, hlast]
    exact congrArg ([·]) (if_neg (ne_true_of_eq_false hgate))
  simp [Subscription.changes, hreads, hids, hlast, hchanged]

theorem denlysNotifyContinuation_of_second {k : Nat} {f : Bytes} (h : d.denlys.second = [(k, f)]) :
    denlysNotifyContinuation k d = denlysSend { d with denlys := { d.denlys with second := [] } } f := by
  unfold denlysNotifyContinuation
  rw [h, List.find?_cons_of_pos (by simp)]
  dsimp only
  rw [List.erase_cons_head]

/-! ## Heartbeats and silence (R187) -/

/-- A session that has sent a HEARTBEAT at an instant. -/
def Session.beaten (x : Session) (ns : Nat) : Session := { x with devSeq := (x.devSeq + 1) % 2 ^ 32, beat := ns }

theorem denlysHeartbeatSend_of_due {a : DenAt} (h : d.session a.session = some x)
    (hdue : x.beat + d.rd M.HEARTBEAT_INTERVAL * 1000000 ≤ a.ns) :
    denlysHeartbeatSend a now d = denlysSend (d.setSession a.session (some (x.beaten a.ns)))
      (x.frame d a.session x.mac 0x0A St.OK (heartbeatPayload now d)).1 := by
  unfold denlysHeartbeatSend
  dsimp only
  rw [h]
  exact if_neg (Nat.not_lt.mpr hdue)

theorem denlysHeartbeatSend_of_early {a : DenAt} (h : d.session a.session = some x)
    (hearly : a.ns < x.beat + d.rd M.HEARTBEAT_INTERVAL * 1000000) : denlysHeartbeatSend a now d = d := by
  unfold denlysHeartbeatSend
  dsimp only
  rw [h]
  exact if_pos hearly

theorem denlysSessionTimeout_of_silent {a : DenAt} (h : d.session a.session = some x)
    (hsilent : x.heard + d.rd M.SESSION_TIMEOUT * 1000000 ≤ a.ns) :
    denlysSessionTimeout a d = (endSession d a.session).bump M.CNT_DENLYS_SESSION_TIMEOUT := by
  unfold denlysSessionTimeout
  rw [h]
  exact if_neg (Nat.not_lt.mpr hsilent)

theorem denlysSessionTimeout_of_heard {a : DenAt} (h : d.session a.session = some x)
    (hheard : a.ns < x.heard + d.rd M.SESSION_TIMEOUT * 1000000) : denlysSessionTimeout a d = d := by
  unfold denlysSessionTimeout
  rw [h]
  exact if_pos hheard

/-! ## Commands -/

theorem denlysResponseTx_gives {tx : DenTx} {s : State} {e : Dev} (h : denlysResponseTx tx s.dev = e) :
    Gives (.denlysResponseTx tx) s s.bell e := gives_of_onDev (f := fun _ => denlysResponseTx tx) rfl h

theorem denlysNotifyContinuation_gives {k : Nat} {s : State} {e : Dev} (h : denlysNotifyContinuation k s.dev = e) :
    Gives (.denlysNotifyContinuation k) s s.bell e := gives_of_onDev (f := fun _ => denlysNotifyContinuation k) rfl h

theorem denlysHeartbeatSend_gives {a : DenAt} {s : State} {e : Dev} (h : denlysHeartbeatSend a s.bell s.dev = e) :
    Gives (.denlysHeartbeatSend a) s s.bell e := gives_of_onDev (f := denlysHeartbeatSend a) rfl h

theorem denlysSessionTimeout_gives {a : DenAt} {s : State} {e : Dev} (h : denlysSessionTimeout a s.dev = e) :
    Gives (.denlysSessionTimeout a) s s.bell e := gives_of_onDev (f := fun _ => denlysSessionTimeout a) rfl h

theorem plcaBeacon_gives {s : State} (hanswers : s.dev.start.island.answers = true) (hnode : s.dev.rd M.STRAP_NODEID = 0) :
    Gives .plcaBeacon s s.bell (s.dev.emit (.beacon (s.dev.rd M.PLCA_NODE_COUNT))) :=
  gives_of_onDev (f := fun _ => plcaBeacon) rfl (if_pos ⟨hanswers, hnode⟩)

end Sys2Proof.Machine

namespace Sys2Proof

open Sys2Proof.Machine

/-- Settles O27, clause by clause. That a session's waiting requests go with it unanswered is log 238, and that a heartbeat or an end
that is not due does nothing is log 236. -/
theorem denlysSendsAndTimeouts : Obligations.DenlysSendsAndTimeouts := by
  refine ⟨fun tx f ended rest s hready => ?_,
    fun k x b s hsession hsub hdue hanswers hevents id v hids hlast hgate hchanged => ?_, fun k f s hsecond => ?_,
    fun a x s hsession hdue => ?_, fun a x s hsession hsilent => ?_, fun a x s hsession => ⟨fun hearly => ?_, fun hheard => ?_⟩,
    fun s hanswers hnode => plcaBeacon_gives hanswers hnode⟩
  · have hsent := denlysResponseTx_of_waiting tx hready
    refine ⟨_, denlysResponseTx_gives hsent, (Dev.bumpIf_out ..).trans (denlysSend_out ..),
      (Dev.bumpIf_denlys ..).trans (denlysSend_denlys ..), ?_, ?_⟩
    · exact (Dev.rd_bumpIf_other _ _ _ (by decide)).trans (denlysSend_rd_count _ _)
    · rw [Dev.rd_bumpIf_same, denlysSend_rd_other _ _ (by decide), s.dev.responseLate_eq]
      rfl
  · have hchanges := Subscription.changes_of_one hids hlast hgate hchanged
    have hsent := denlysNotify_of_changes hsession hsub hdue hanswers hevents (now := s.bell) (by simp [hchanges])
    rw [hchanges] at hsent
    exact ⟨_, rfl, hsent⟩
  · exact ⟨_, denlysNotifyContinuation_gives (denlysNotifyContinuation_of_second hsecond), denlysSend_out .., rfl, denlysSend_rd_count _ _⟩
  · refine ⟨_, denlysHeartbeatSend_gives (denlysHeartbeatSend_of_due hsession hdue), denlysSend_out .., ?_, denlysSend_rd_count _ _⟩
    exact (denlysSend_session ..).trans (Dev.session_setSession_same ..)
  · refine ⟨_, denlysSessionTimeout_gives (denlysSessionTimeout_of_silent hsession hsilent), ?_, endSession_requests hsession,
      endSession_keys .., ?_⟩
    · exact (endSession_session ..).trans (if_pos rfl)
    · rw [Dev.rd_bump_same, endSession_rd _ _ (by decide)]
  · exact denlysHeartbeatSend_gives (denlysHeartbeatSend_of_early hsession hearly)
  · exact denlysSessionTimeout_gives (denlysSessionTimeout_of_heard hsession hheard)

end Sys2Proof

/-! Frames that a port receives. -/

namespace Sys2Proof.Machine

variable {d : Dev} {now : BellSt} {f : RxFrame}

/-! ## The MAC judges a frame (R200) -/

theorem frameReceive_of_dropped {c : Nat} (hport : f.port < 256) (hlink : d.on (M.PORT_LINK f.port) = true)
    (h : macDrop d f = some c) : frameReceive f now d = d.bump c := by
  unfold frameReceive
  rw [if_neg (by simp [hport, hlink]), h]

theorem frameReceive_of_accepted (hport : f.port < 256) (hlink : d.on (M.PORT_LINK f.port) = true)
    (h : macDrop d f = none) : frameReceive f now d = acceptFrame now d f := by
  unfold frameReceive
  rw [if_neg (by simp [hport, hlink]), h]

/-! ## What the count of an accepted frame leaves alone (R200, R220) -/

/-- The device with an accepted frame counted. -/
def Dev.countRx (d : Dev) (f : RxFrame) : Dev := (d.bump (M.CNT_RX_FRAMES f.port)).addTo (M.CNT_RX_BYTES f.port) f.bytes.length

theorem Dev.countRx_rd (f : RxFrame) {id : Nat} (hframes : id ≠ M.CNT_RX_FRAMES f.port) (hbytes : id ≠ M.CNT_RX_BYTES f.port) :
    (d.countRx f).rd id = d.rd id :=
  (Dev.rd_addTo_other _ _ _ _ hbytes).trans (Dev.rd_bump_other _ _ _ hframes)

theorem Dev.countRx_rd_frames (f : RxFrame) : (d.countRx f).rd (M.CNT_RX_FRAMES f.port) = (d.rd (M.CNT_RX_FRAMES f.port) + 1) % 2 ^ 64 :=
  (Dev.rd_addTo_other _ _ _ _ (by grind)).trans (Dev.rd_bump_same ..)

theorem Dev.countRx_ingressClass (f : RxFrame) (bytes : Bytes) : ingressClass (d.countRx f) f.port bytes = ingressClass d f.port bytes := by
  unfold ingressClass
  rw [Dev.countRx_rd f (by grind) (by grind), Dev.countRx_rd f (by grind) (by grind), Dev.countRx_rd f (by grind) (by grind)]
  rfl

theorem Dev.countRx_losslessOn (f : RxFrame) (cls : Nat) : (d.countRx f).losslessOn f.port cls = d.losslessOn f.port cls := by
  unfold Dev.losslessOn Dev.on
  rw [Dev.countRx_rd f (by grind) (by grind), Dev.countRx_rd f (by grind) (by grind)]

theorem Dev.countRx_rxStamp (f : RxFrame) : rxStamp (d.countRx f) f.port f.ns = rxStamp d f.port f.ns := by
  unfold rxStamp Dev.rdS
  rw [Dev.countRx_rd f (by grind) (by grind)]

theorem Dev.countRx_buddyPort (f : RxFrame) : (d.countRx f).buddyPort f.port = d.buddyPort f.port := by
  unfold Dev.buddyPort Dev.on
  rw [Dev.countRx_rd f (by grind) (by grind), Dev.countRx_rd f (by grind) (by grind), Dev.countRx_rd f (by grind) (by grind)]

/-! ## Accepted frames (R202, R386) -/

/-- The frame that an accepted frame becomes in the packet buffer: without its FCS, in its ingress class, and stamped. -/
def Dev.bufferedFrame (d : Dev) (f : RxFrame) : Frame :=
  let bytes := f.bytes.take (f.bytes.length - 4)
  { bytes, port := f.port, cls := ingressClass d f.port f.bytes, rxNs := rxStamp d f.port f.ns, cells := cellsOf (bytes.length + 4),
    limited := true, lossless := d.losslessOn f.port (ingressClass d f.port f.bytes), source := 0, held := [], bad := [] }

/-- What remains to be decided of an accepted frame while the device is awake, once it is counted. -/
theorem acceptFrame_of_awake (hawake : d.start.recess = .awake) : acceptFrame now d f =
    let e := d.countRx f
    let cls := ingressClass e f.port f.bytes
    if beAt f.bytes (typeOffset f.bytes) 2 = 0x8808 then macControl e f.port f.bytes else
    if e.asleep ∨ e.admits = false then e else
    if e.buddyPort f.port then buddyFrame e f.port f.bytes else
    if e.on M.THROTTLE_STATE ∧ cls < e.cutoff (pipeOf f.port) ∧ e.losslessOn f.port cls = false ∧ cls ≠ 7 then throttleDrop e f.port cls else
    (admitFrame now e f.port cls (f.bytes.take (f.bytes.length - 4)) (rxStamp e f.port f.ns) 0).2 := by
  have hrecess : ¬((d.countRx f).start.recess ≠ .awake ∧ (d.countRx f).admits = false) := fun h => h.1 hawake
  unfold acceptFrame
  dsimp only
  rw [← Dev.countRx, if_neg hrecess]

/-- Awake and ready, a data frame of a port without Walger and without a throttle is offered to the packet buffer. -/
theorem acceptFrame_of_data (hawake : d.start.recess = .awake) (hready : d.pins.ready = true)
    (hdata : beAt f.bytes (typeOffset f.bytes) 2 ≠ 0x8808) (hbuddy : d.buddyPort f.port = false) (hthrottle : d.on M.THROTTLE_STATE = false) :
    acceptFrame now d f = (admitFrame now (d.countRx f) f.port (ingressClass d f.port f.bytes) (f.bytes.take (f.bytes.length - 4))
      (rxStamp d f.port f.ns) 0).2 := by
  have hasleep : (d.countRx f).asleep = false := by simp [Dev.asleep, show (d.countRx f).start.recess = .awake from hawake]
  have hadmits : (d.countRx f).admits = true := hready
  have hthrottle' : (d.countRx f).on M.THROTTLE_STATE = false := by
    unfold Dev.on
    rwa [Dev.countRx_rd f (by grind) (by grind)]
  rw [acceptFrame_of_awake hawake]
  dsimp only
  rw [if_neg hdata, if_neg (by simp [hasleep, hadmits]), Dev.countRx_buddyPort, if_neg (by simp [hbuddy]), if_neg (by simp [hthrottle']),
    Dev.countRx_ingressClass, Dev.countRx_rxStamp]

section Admission

variable {n why : Nat} {e : Dev}

theorem admitFrame_of_room (h : takeCells now (d.countRx f) (d.bufferedFrame f) = (some n, why, e)) :
    (admitFrame now (d.countRx f) f.port (ingressClass d f.port f.bytes) (f.bytes.take (f.bytes.length - 4)) (rxStamp d f.port f.ns) 0).2 =
      { e with ports := { e.ports with arrivals := e.ports.arrivals ++ [(pipeOf f.port, n)] } } := by
  unfold Dev.bufferedFrame at h
  unfold admitFrame
  rw [Dev.countRx_losslessOn]
  dsimp only at h ⊢
  rw [h]

theorem admitFrame_of_no_room (h : takeCells now (d.countRx f) (d.bufferedFrame f) = (none, why, e)) :
    (admitFrame now (d.countRx f) f.port (ingressClass d f.port f.bytes) (f.bytes.take (f.bytes.length - 4)) (rxStamp d f.port f.ns) 0).2 =
      e.bump (if why = 1 then M.CNT_BUF_NO_CELL f.port else M.CNT_BUF_INGRESS_DROP f.port (ingressClass d f.port f.bytes)) := by
  unfold Dev.bufferedFrame at h
  unfold admitFrame
  rw [Dev.countRx_losslessOn]
  dsimp only at h ⊢
  rw [h]

end Admission

/-- A control frame is the MAC's own, asleep or awake, and goes no further. -/
theorem acceptFrame_of_control (hawake : d.start.recess = .awake) (hcontrol : beAt f.bytes (typeOffset f.bytes) 2 = 0x8808) :
    acceptFrame now d f = macControl (d.countRx f) f.port f.bytes := by
  rw [acceptFrame_of_awake hawake]
  exact if_pos hcontrol

/-- A PFC frame is obeyed where the port's flow control is PFC: it waits to be applied (R205). -/
theorem macControl_of_pfc {port : Nat} {bytes : Bytes} (hpfc : beAt bytes (typeOffset bytes + 2) 2 = 0x0101)
    (hmode : d.rd (M.PORT_FC_MODE port) = 2) :
    macControl d port bytes = { d with ports := { d.ports with control := d.ports.control ++ [(port, bytes)] } } := by
  unfold macControl
  rw [if_neg (by simp [hpfc]), if_pos (by simp [hpfc, hmode])]

theorem frameReceive_gives (f : RxFrame) {s : State} (h : s.dev.dieRuns = true) :
    Gives (.frameReceive f) s s.bell (frameReceive f s.bell s.dev) := gives_of_onDie (f := frameReceive f) rfl h

end Sys2Proof.Machine

namespace Sys2Proof

open Sys2Proof.Machine

/-- Settles O28, clause by clause. That a frame which R200 drops takes no cells, and that one which R386 stops has taken cells and
frees them, is log 252; that the type field stands behind up to two VLAN tags is log 50. -/
theorem framesAreReceived : Obligations.FramesAreReceived := by
  refine ⟨fun f c s hruns hport hlink hdrop => ?_,
    fun f n w d s hruns hport hlink hkept hawake hready hdata hbuddy hthrottle hcells => ?_,
    fun f w d s hruns hport hlink hkept hawake hready hdata hbuddy hthrottle hcells => ?_,
    fun f s hruns hport hlink hkept hawake hcontrol hpfc hmode => ?_⟩
  · have hgives := frameReceive_gives f hruns
    rwa [frameReceive_of_dropped hport hlink hdrop] at hgives
  · have hgives := frameReceive_gives f hruns
    rwa [frameReceive_of_accepted hport hlink hkept, acceptFrame_of_data hawake hready hdata hbuddy hthrottle,
      admitFrame_of_room hcells] at hgives
  · have hgives := frameReceive_gives f hruns
    rwa [frameReceive_of_accepted hport hlink hkept, acceptFrame_of_data hawake hready hdata hbuddy hthrottle,
      admitFrame_of_no_room hcells] at hgives
  · have hgives := frameReceive_gives f hruns
    rw [frameReceive_of_accepted hport hlink hkept, acceptFrame_of_control hawake hcontrol,
      macControl_of_pfc hpfc ((Dev.countRx_rd f (by grind) (by grind)).trans hmode)] at hgives
    exact ⟨_, hgives, rfl, rfl, Dev.countRx_rd_frames f⟩

end Sys2Proof

/-! Fields of numbers, and numbers as bytes. -/

namespace Sys2Proof.Machine

/-! ## Fields (R6) -/

theorem testBit_fld (v lo w k : Nat) : (fld v lo w).testBit k = (decide (k < w) && v.testBit (lo + k)) := by
  rw [fld, Nat.testBit_mod_two_pow, Nat.testBit_div_two_pow, Nat.add_comm]

/-- A number is what stands above a field, the field, and what stands below it. -/
theorem eq_parts (v lo w : Nat) : v = 2 ^ (lo + w) * (v / 2 ^ (lo + w)) + (2 ^ lo * fld v lo w + v % 2 ^ lo) := by
  have hlow := Nat.div_add_mod v (2 ^ lo)
  have hmid := Nat.div_add_mod (v / 2 ^ lo) (2 ^ w)
  rw [Nat.div_div_eq_div_mul, ← Nat.pow_add] at hmid
  calc v = 2 ^ lo * (2 ^ w * (v / 2 ^ (lo + w)) + fld v lo w) + v % 2 ^ lo := by rw [fld, hmid, hlow]
    _ = _ := by ring

theorem setFld_parts (v lo w x : Nat) :
    setFld v lo w x = 2 ^ (lo + w) * (v / 2 ^ (lo + w)) + (2 ^ lo * (x % 2 ^ w) + v % 2 ^ lo) := by
  have hv := eq_parts v lo w
  unfold setFld
  rw [Nat.mul_comm (fld v lo w), Nat.mul_comm (x % 2 ^ w)]
  omega

theorem testBit_setFld (v lo w x k : Nat) :
    (setFld v lo w x).testBit k = if lo ≤ k ∧ k < lo + w then x.testBit (k - lo) else v.testBit k := by
  have hlow : v % 2 ^ lo < 2 ^ lo := Nat.mod_lt _ (Nat.two_pow_pos _)
  have hmid : 2 ^ lo * (x % 2 ^ w) + v % 2 ^ lo < 2 ^ (lo + w) := by
    have hx : x % 2 ^ w + 1 ≤ 2 ^ w := Nat.mod_lt _ (Nat.two_pow_pos _)
    calc 2 ^ lo * (x % 2 ^ w) + v % 2 ^ lo < 2 ^ lo * (x % 2 ^ w + 1) := by rw [Nat.mul_add_one]; omega
      _ ≤ 2 ^ lo * 2 ^ w := Nat.mul_le_mul_left _ hx
      _ = 2 ^ (lo + w) := (Nat.pow_add ..).symm
  rw [setFld_parts, Nat.testBit_two_pow_mul_add _ hmid, Nat.testBit_two_pow_mul_add _ hlow, Nat.testBit_mod_two_pow,
    Nat.testBit_mod_two_pow, Nat.testBit_div_two_pow]
  grind

/-- A field reads what was written to it. -/
theorem fld_setFld_same (v lo w x : Nat) : fld (setFld v lo w x) lo w = x % 2 ^ w := by
  refine Nat.eq_of_testBit_eq fun k => ?_
  rw [testBit_fld, testBit_setFld, Nat.testBit_mod_two_pow]
  grind

/-- A field is untouched by a write of another. -/
theorem fld_setFld_other (v : Nat) {lo w lo' w' : Nat} (x : Nat) (h : lo' + w' ≤ lo ∨ lo + w ≤ lo') :
    fld (setFld v lo w x) lo' w' = fld v lo' w' := by
  refine Nat.eq_of_testBit_eq fun k => ?_
  rw [testBit_fld, testBit_fld, testBit_setFld]
  grind

/-- A field of a number's low bits is that of the number. -/
theorem fld_mod_two_pow (v : Nat) {n lo w : Nat} (h : lo + w ≤ n) : fld (v % 2 ^ n) lo w = fld v lo w := by
  refine Nat.eq_of_testBit_eq fun k => ?_
  rw [testBit_fld, testBit_fld, Nat.testBit_mod_two_pow]
  grind

/-- A bit reads the truth value written to it, and every other bit stays. -/
theorem bitOf_setFld_b2n (v q : Nat) (b : Bool) (k : Nat) : bitOf (setFld v q 1 (b2n b)) k = if k = q then b else bitOf v k := by
  unfold bitOf
  rw [testBit_setFld]
  obtain rfl | h := eq_or_ne k q
  · cases b <;> simp [b2n]
  · rw [if_neg (by omega), if_neg h]

/-- The low bits of a number are those of the number modulo a power of two. -/
theorem bitOf_mod_two_pow (v : Nat) {n k : Nat} (h : k < n) : bitOf (v % 2 ^ n) k = bitOf v k := by
  unfold bitOf
  rw [Nat.testBit_mod_two_pow, decide_eq_true h, Bool.true_and]

/-! ## Numbers as bytes (R7) -/

theorem length_toLE (n v : Nat) : (toLE n v).length = n := by simp [toLE]

theorem toLE_succ (n v : Nat) : toLE (n + 1) v = toByte v :: toLE n (v / 256) := by
  unfold toLE
  rw [List.range_succ_eq_map, List.map_cons, List.map_map]
  congr 1
  · simp
  · refine List.map_congr_left fun i _ => ?_
    rw [Function.comp_apply, Nat.pow_succ', Nat.div_div_eq_div_mul]

/-- A number read back from its little-endian bytes. -/
theorem leVal_toLE (n v : Nat) : leVal (toLE n v) = v % 256 ^ n := by
  induction n generalizing v with
  | zero => simp [toLE, leVal, Nat.mod_one]
  | succ n ih =>
    have hsplit : v % 256 ^ (n + 1) = v % 256 + 256 * (v / 256 % 256 ^ n) := by rw [Nat.pow_succ', Nat.mod_mul]
    rw [toLE_succ, leVal, List.foldr_cons, ← leVal, ih, toByte, BitVec.toNat_ofNat, hsplit]
    omega

end Sys2Proof.Machine

/-! Pause and PFC: the timers, the watchdog, and the refresh of a class that stays XOFF. -/

namespace Sys2Proof.Machine

variable {d : Dev} {now : BellSt} {port q : Nat}

/-! ## A pause is set or ended (R206) -/

theorem setPause_pauseOf (d : Dev) (port q : Nat) (x : Option Pause) : (setPause d port q x).pauseOf port q = x :=
  SMap.get_set_same ..

theorem setPause_rd_other (d : Dev) (port q : Nat) (x : Option Pause) {id : Nat} (h : id ≠ M.PORT_PAUSE_STATE port) :
    (setPause d port q x).rd id = d.rd id := Dev.rd_wr_other _ _ _ _ h

/-- PORT_PAUSE_STATE shows the pause of the queue, and of every other queue what it showed. -/
theorem setPause_state (d : Dev) (port q : Nat) (x : Option Pause) {k : Nat} (hk : k < 64) :
    bitOf ((setPause d port q x).rd (M.PORT_PAUSE_STATE port)) k =
      if k = q then x.isSome else bitOf (d.rd (M.PORT_PAUSE_STATE port)) k := by
  unfold setPause
  rw [Dev.rd_wr_same, bitOf_mod_two_pow _ hk, bitOf_setFld_b2n]
  rfl

theorem setPause_state_same (d : Dev) (port : Nat) {q : Nat} (x : Option Pause) (hq : q < 8) :
    bitOf ((setPause d port q x).rd (M.PORT_PAUSE_STATE port)) q = x.isSome := by
  rw [setPause_state _ _ _ _ (by omega), if_pos rfl]

/-! ## Frames that pause (R205 to R208) -/

/-- The pause that a time in quanta sets: it counts from 40 ns before the application, and an unbroken pause keeps its start. -/
def Dev.pausedFor (d : Dev) (port q t quanta : Nat) : Pause :=
  { until_ := t - 40 + (quanta * 512 + d.gbps port - 1) / d.gbps port,
    since := match d.pauseOf port q with | some p => p.since | none => t }

theorem pauseQueue_of_time {t quanta : Nat} (hheld : d.heldOff port q = false) (hquanta : quanta ≠ 0) :
    pauseQueue port t d (q, quanta) = setPause d port q (some (d.pausedFor port q t quanta)) := by
  unfold pauseQueue
  rw [if_neg (by simp [hheld]), if_neg hquanta]
  rfl

/-- The device with its one waiting control frame taken and counted as obeyed. -/
def Dev.pauseTaken (d : Dev) (port : Nat) : Dev := ({ d with ports := { d.ports with control := [] } } : Dev).bump (M.CNT_PAUSE_RX port)

theorem pauseApply_of_one {t quanta : Nat} {f : Bytes} (hcontrol : d.ports.control = [(port, f)])
    (htimes : pauseTimes f (beAt f (typeOffset f + 2) 2) = [(q, quanta)]) (hheld : d.heldOff port q = false) :
    pauseApply port t d = pauseQueue port t (d.pauseTaken port) (q, quanta) := by
  have hheld' (c : List (Nat × Bytes)) : ({ d with ports := { d.ports with control := c } } : Dev).heldOff port q = false := hheld
  unfold pauseApply
  rw [hcontrol, List.find?_cons_of_pos (by simp)]
  dsimp only
  rw [List.erase_cons_head, htimes]
  simp only [List.any_cons, List.any_nil, hheld', List.isEmpty_cons, Bool.or_false, Bool.false_or, Bool.not_false, Dev.bumpIf_true,
    Dev.bumpIf_false, List.foldl_cons, List.foldl_nil]
  rfl

theorem pauseTaken_heldOff : (d.pauseTaken port).heldOff port q = d.heldOff port q := rfl

theorem pauseTaken_pausedFor (d : Dev) (port q t quanta : Nat) : (d.pauseTaken port).pausedFor port q t quanta = d.pausedFor port q t quanta := by
  have hmode : (d.pauseTaken port).rd (M.PORT_MODE port) = d.rd (M.PORT_MODE port) := Dev.rd_bump_other _ _ _ (by grind)
  have hspeed : (d.pauseTaken port).gbps port = d.gbps port := congrArg modeGbps hmode
  unfold Dev.pausedFor
  rw [hspeed]
  rfl

/-! ## What ends a pause (R206, R208) -/

theorem pauseTimerExpire_of_due {t : Nat} {p : Pause} (h : d.pauseOf port q = some p) (hdue : p.until_ ≤ t)
    (hloaded : d.reloaded port q = false) : pauseTimerExpire port q t d = setPause d port q none := by
  unfold pauseTimerExpire
  rw [h]
  exact if_pos ⟨hdue, hloaded⟩

/-- A class whose hold-off begins, and ends at an instant. -/
def Dev.holdOff (d : Dev) (port q : Nat) (ends : Option Nat) : Dev :=
  { d with ports := { d.ports with holdoff := SMap.set (fun _ => none) d.ports.holdoff (port * 8 + q) ends } }

theorem Dev.holdOff_heldOff (d : Dev) (port q : Nat) (ends : Option Nat) : (d.holdOff port q ends).heldOff port q = ends.isSome := by
  unfold Dev.heldOff Dev.holdOff
  rw [SMap.get_set_same]

theorem Dev.holdOff_pauseOf (d : Dev) (port q : Nat) (ends : Option Nat) : (d.holdOff port q ends).pauseOf port q = d.pauseOf port q := rfl

theorem Dev.holdOff_rd (d : Dev) (port q : Nat) (ends : Option Nat) (id : Nat) : (d.holdOff port q ends).rd id = d.rd id := rfl

/-- The watchdog's end of a pause, short of the hold-off. -/
def Dev.watchdogEnds (now : BellSt) (d : Dev) (port q : Nat) : Dev :=
  ((setPause d port q none).bump (M.CNT_PAUSE_WATCHDOG port)).raise now Ev.PAUSE_WATCHDOG (oid 0x11 port) (port + q * 2 ^ 32)

theorem pauseWatchdog_of_due {t : Nat} {p : Pause} (h : d.pauseOf port q = some p) (hlimit : d.rd (M.PORT_PAUSE_WD_LIMIT port) ≠ 0)
    (hdue : p.since + d.rd (M.PORT_PAUSE_WD_LIMIT port) * 1000 < t) :
    ∃ e, pauseWatchdog port q t now d = (d.watchdogEnds now port q).holdOff port q (some e) := by
  unfold pauseWatchdog
  rw [h]
  exact ⟨_, if_pos ⟨hlimit, hdue⟩⟩

theorem Dev.watchdogEnds_pauseOf (now : BellSt) (d : Dev) (port q : Nat) : (d.watchdogEnds now port q).pauseOf port q = none := by
  unfold Dev.watchdogEnds
  rw [Dev.raise_frame]
  exact setPause_pauseOf ..

theorem Dev.watchdogEnds_rd (now : BellSt) (d : Dev) (q : Nat) {port id : Nat} (hcount : id ≠ M.CNT_PAUSE_WATCHDOG port)
    (hmerged : id ≠ M.CNT_EVENT_MERGED) : (d.watchdogEnds now port q).rd id = (setPause d port q none).rd id :=
  (Dev.raise_rd _ _ _ _ _ _ hmerged).trans (Dev.rd_bump_other _ _ _ hcount)

theorem Dev.watchdogEnds_rd_count (now : BellSt) (d : Dev) (port q : Nat) :
    (d.watchdogEnds now port q).rd (M.CNT_PAUSE_WATCHDOG port) = (d.rd (M.CNT_PAUSE_WATCHDOG port) + 1) % 2 ^ 64 := by
  unfold Dev.watchdogEnds
  rw [Dev.raise_rd _ _ _ _ _ _ (by grind), Dev.rd_bump_same, setPause_rd_other _ _ _ _ (by grind)]

theorem pauseHoldoffEnd_of_due {t e : Nat} (h : SMap.get (fun _ => none) d.ports.holdoff (port * 8 + q) = some e) (hdue : e ≤ t) :
    pauseHoldoffEnd port q t d = d.holdOff port q none := by
  unfold pauseHoldoffEnd
  rw [h]
  exact if_pos hdue

/-! ## A class that stays XOFF (R389) -/

theorem leaveLpi_switch (now : BellSt) (d : Dev) (port : Nat) :
    (leaveLpi now d port).switch = d.switch ∧ (leaveLpi now d port).out = d.out := by
  unfold leaveLpi
  split <;> exact ⟨rfl, rfl⟩

theorem macSends_switch (now : BellSt) (d : Dev) (port : Nat) (f : Bytes) : (macSends now d port f).switch = d.switch := by
  unfold macSends
  rw [Dev.addTo_switch, Dev.bump_switch, Dev.emit_switch, (leaveLpi_switch ..).1]

theorem macSends_out (now : BellSt) (d : Dev) (port : Nat) (f : Bytes) :
    (macSends now d port f).out = d.out ++ [.frame port (f ++ toLE 4 (crcEth f))] := by
  unfold macSends
  rw [Dev.addTo_out, Dev.bump_out, Dev.emit_out, (leaveLpi_switch ..).2]

/-- A pause frame leaves the switch core as it is. -/
theorem sendPause_switch (now : BellSt) (d : Dev) (port cls quanta counter : Nat) :
    (sendPause now d port cls quanta counter).switch = d.switch := by
  unfold sendPause
  split
  · rfl
  · rw [Dev.bump_switch, macSends_switch, pauseFrame_frame]

/-- A port whose link is up sends its pause frame, and counts it. -/
theorem sendPause_of_link (now : BellSt) {d : Dev} {port counter : Nat} (cls quanta : Nat) (hlink : d.on (M.PORT_LINK port) = true)
    (hframes : counter ≠ M.CNT_TX_FRAMES port) (hbytes : counter ≠ M.CNT_TX_BYTES port) :
    (sendPause now d port cls quanta counter).out.length = d.out.length + 1 ∧
    (sendPause now d port cls quanta counter).rd counter = (d.rd counter + 1) % 2 ^ 64 := by
  unfold sendPause
  rw [if_neg (by simp [hlink]), Dev.bump_out, macSends_out, Dev.rd_bump_same, macSends_rd _ _ _ hframes hbytes, pauseFrame_frame]
  exact ⟨List.length_append, rfl⟩

/-- The device with other classes XOFF. -/
def Dev.withXoff (d : Dev) (xoff : List (Nat × Nat)) : Dev := { d with switch := { d.switch with xoff } }

theorem pfcRefresh_of_due {cls p : Nat} (hxoff : d.switch.xoff = [(port * 8 + cls, p)])
    (hdue : 16 ≤ (now.period.toNat + 2 ^ 32 - p % 2 ^ 32) % 2 ^ 32) :
    pfcRefresh port cls now d =
      (sendPause now d port cls (64 * d.gbps port) (M.CNT_PFC_TX port)).withXoff [(port * 8 + cls, now.period.toNat)] := by
  unfold pfcRefresh Dev.withXoff
  dsimp only
  rw [sendPause_switch, hxoff, List.find?_cons_of_pos (by simp)]
  dsimp only
  rw [if_pos hdue, List.map_cons, List.map_nil, if_pos rfl]

/-! ## Commands -/

theorem pauseApply_gives (port t : Nat) {s : State} (h : s.dev.dieRuns = true) :
    Gives (.pauseApply port t) s s.bell (pauseApply port t s.dev) := gives_of_onDie (f := fun _ => pauseApply port t) rfl h

theorem pauseTimerExpire_gives (port q t : Nat) {s : State} (h : s.dev.dieRuns = true) :
    Gives (.pauseTimerExpire port q t) s s.bell (pauseTimerExpire port q t s.dev) :=
  gives_of_onDie (f := fun _ => pauseTimerExpire port q t) rfl h

theorem pauseWatchdog_gives (port q t : Nat) {s : State} (h : s.dev.dieRuns = true) :
    Gives (.pauseWatchdog port q t) s s.bell (pauseWatchdog port q t s.bell s.dev) := gives_of_onDie (f := pauseWatchdog port q t) rfl h

theorem pauseHoldoffEnd_gives (port q t : Nat) {s : State} (h : s.dev.dieRuns = true) :
    Gives (.pauseHoldoffEnd port q t) s s.bell (pauseHoldoffEnd port q t s.dev) :=
  gives_of_onDie (f := fun _ => pauseHoldoffEnd port q t) rfl h

theorem pfcRefresh_gives (port cls : Nat) {s : State} (h : s.dev.dieRuns = true) :
    Gives (.pfcRefresh port cls) s s.bell (pfcRefresh port cls s.bell s.dev) := gives_of_onDie (f := pfcRefresh port cls) rfl h

end Sys2Proof.Machine

namespace Sys2Proof

open Sys2Proof.Machine

/-- Settles O29, clause by clause. That CNT_PAUSE_RX and the hold-off are judged as the frame is applied is log 52, and that instants
stand on a clock that does not wrap is log 51. -/
theorem pauseTimersAndWatchdog : Obligations.PauseTimersAndWatchdog := by
  refine ⟨fun port t q quanta f s hruns _ hq hcontrol htimes hquanta hheld => ?_,
    fun port q t p s hruns hq hpause hdue hloaded => ?_, fun port q t p s hruns _ hq hpause hlimit hdue => ?_,
    fun port q t e s hruns hheld hdue => ?_, fun port cls p s hruns _ hlink hxoff hdue => ?_⟩
  · have hgives := pauseApply_gives port t hruns
    rw [pauseApply_of_one hcontrol htimes hheld, pauseQueue_of_time (pauseTaken_heldOff ▸ hheld) hquanta, pauseTaken_pausedFor] at hgives
    refine ⟨_, hgives, rfl, setPause_state_same _ _ _ hq, ?_, setPause_pauseOf ..⟩
    exact (setPause_rd_other _ _ _ _ (by grind)).trans (Dev.rd_bump_same ..)
  · have hgives := pauseTimerExpire_gives port q t hruns
    rw [pauseTimerExpire_of_due hpause hdue hloaded] at hgives
    exact ⟨_, hgives, setPause_pauseOf .., setPause_state_same _ _ _ hq,
      fun k hk hne => (setPause_state _ _ _ _ hk).trans (if_neg hne), fun id hid => setPause_rd_other _ _ _ _ hid⟩
  · obtain ⟨ends, hends⟩ := pauseWatchdog_of_due (now := s.bell) hpause hlimit hdue
    refine ⟨_, hends ▸ pauseWatchdog_gives port q t hruns, ?_, Dev.holdOff_heldOff .., ?_, ?_⟩
    · rw [Dev.holdOff_pauseOf, Dev.watchdogEnds_pauseOf]
    · rw [Dev.holdOff_rd, Dev.watchdogEnds_rd _ _ _ (by grind) (by grind)]
      exact setPause_state_same _ _ _ hq
    · rw [Dev.holdOff_rd, Dev.watchdogEnds_rd_count]
  · have hgives := pauseHoldoffEnd_gives port q t hruns
    rw [pauseHoldoffEnd_of_due hheld hdue] at hgives
    exact ⟨_, hgives, Dev.holdOff_heldOff .., rfl, rfl⟩
  · obtain ⟨hout, hcount⟩ := sendPause_of_link s.bell cls (64 * s.dev.gbps port) hlink (counter := M.CNT_PFC_TX port)
      (by grind) (by grind)
    have hgives := pfcRefresh_gives port cls hruns
    rw [pfcRefresh_of_due hxoff hdue] at hgives
    exact ⟨_, hgives, rfl, hout, hcount⟩

end Sys2Proof

/-! What the packet buffer's cells, pause frames and tags leave of the queues (R385 to R393). -/

namespace Sys2Proof.Machine

variable {d e : Dev} {now : BellSt}

/-- `e` has the queues, the egress counts, the cells waiting for return and the segmentation requests of `d`, and everything that has
left `d`. -/
structure Dev.KeepsQueues (d e : Dev) : Prop where
  queues : e.switch.queues = d.switch.queues
  macq : e.switch.macq = d.switch.macq
  egress : e.switch.egress = d.switch.egress
  flush : e.switch.flush = d.switch.flush
  segs : e.segs = d.segs
  out : d.out <+: e.out

namespace Dev.KeepsQueues

theorem of_switch (hswitch : e.switch = d.switch) (hsegs : e.segs = d.segs) (hout : d.out <+: e.out) : d.KeepsQueues e :=
  ⟨by rw [hswitch], by rw [hswitch], by rw [hswitch], by rw [hswitch], hsegs, hout⟩

theorem refl (d : Dev) : d.KeepsQueues d := of_switch rfl rfl (List.prefix_refl _)

theorem trans {f : Dev} (h : d.KeepsQueues e) (h' : e.KeepsQueues f) : d.KeepsQueues f :=
  ⟨h'.queues.trans h.queues, h'.macq.trans h.macq, h'.egress.trans h.egress, h'.flush.trans h.flush, h'.segs.trans h.segs, h.out.trans h'.out⟩

theorem foldl {α : Type} {f : Dev → α → Dev} (h : ∀ d a, Dev.KeepsQueues d (f d a)) (as : List α) (d : Dev) :
    d.KeepsQueues (as.foldl f d) :=
  List.foldlRecOn as f (motive := fun e : Dev => d.KeepsQueues e) (refl d) fun e he a _ => he.trans (h e a)

theorem egressHeld_eq (h : d.KeepsQueues e) (port cls : Nat) : e.egressHeld port cls = d.egressHeld port cls := by
  unfold Dev.egressHeld
  rw [h.egress]

theorem macq_eq (h : d.KeepsQueues e) (port cls : Nat) : e.macq port cls = d.macq port cls := by
  unfold Dev.macq
  rw [h.macq]

end Dev.KeepsQueues

open Dev.KeepsQueues (of_switch)

theorem Dev.bump_keepsQueues (d : Dev) (id : Nat) : d.KeepsQueues (d.bump id) := of_switch rfl rfl (List.prefix_refl _)

/-! ## Pause frames and flow control (R389) -/

theorem macSends_segs (now : BellSt) (d : Dev) (port : Nat) (f : Bytes) : (macSends now d port f).segs = d.segs := by
  unfold macSends
  rw [Dev.addTo_segs, Dev.bump_segs, Dev.emit_segs]
  unfold leaveLpi
  split <;> rfl

theorem sendPause_keepsQueues (now : BellSt) (d : Dev) (port cls quanta counter : Nat) :
    d.KeepsQueues (sendPause now d port cls quanta counter) := by
  refine of_switch (sendPause_switch ..) ?_ ?_
  · unfold sendPause
    split
    · rfl
    · rw [Dev.bump_segs, macSends_segs, pauseFrame_frame]
  · unfold sendPause
    split
    · exact List.prefix_refl _
    · rw [Dev.bump_out, macSends_out, pauseFrame_frame]
      exact List.prefix_append ..

theorem Dev.withXoff_keepsQueues (d : Dev) (xoff : List (Nat × Nat)) : d.KeepsQueues (d.withXoff xoff) :=
  ⟨rfl, rfl, rfl, rfl, rfl, List.prefix_refl _⟩

theorem pfcCheck_keepsQueues (now : BellSt) (d : Dev) (port cls : Nat) : d.KeepsQueues (pfcCheck now d port cls) := by
  unfold pfcCheck
  dsimp only
  split_ifs
  · exact .refl d
  · exact (sendPause_keepsQueues now d port cls _ _).trans (Dev.withXoff_keepsQueues ..)
  · exact d.withXoff_keepsQueues _
  · exact (d.withXoff_keepsQueues _).trans (sendPause_keepsQueues ..)
  · exact .refl d

theorem pfcCheck_frame (now : BellSt) (d : Dev) (port cls n : Nat) : (pfcCheck now d port cls).frame n = d.frame n := by
  unfold pfcCheck Dev.frame
  dsimp only
  split_ifs <;> simp only [sendPause_switch]

/-! ## Cells (R385, R393) -/

theorem Dev.setBuf_keepsQueues (d : Dev) (p i : Nat) (x : Nat × Nat) : d.KeepsQueues (d.setBuf p i x) := of_switch rfl rfl (List.prefix_refl _)

theorem Dev.setFrame_keepsQueues (d : Dev) (n : Nat) (x : Option Frame) : d.KeepsQueues (d.setFrame n x) :=
  ⟨rfl, rfl, rfl, rfl, rfl, List.prefix_refl _⟩

theorem Dev.setIngress_keepsQueues (d : Dev) (port cls n : Nat) : d.KeepsQueues (d.setIngress port cls n) :=
  ⟨rfl, rfl, rfl, rfl, rfl, List.prefix_refl _⟩

theorem Dev.addTo_keepsQueues (d : Dev) (id n : Nat) : d.KeepsQueues (d.addTo id n) := of_switch rfl rfl (List.prefix_refl _)

/-- The cells of a release, those that it frees before those that keep a count. -/
def Dev.releasedCells (d : Dev) (f : Frame) (cells : List Nat) (whole : Bool) : List Nat × List Nat :=
  (f.held.filter (fun i => cells.contains i)).partition (fun i => whole || decide ((d.buf 0 i).2 ≤ 1))

/-- What a frame still holds when some of its cells are gone, and nothing where it holds none. -/
def Frame.without (f : Frame) (gone : List Nat) : Option Frame :=
  let left := f.held.filter (fun i => !gone.contains i)
  if left.isEmpty then none else some { f with held := left }

/-- The device with cells freed and others counted down, short of the ingress limit and its flow control. -/
def Dev.withReleased (d : Dev) (n : Nat) (f : Frame) (gone rest : List Nat) : Dev :=
  let e := gone.foldl (fun d i => d.setBuf 0 i (freeBuf 0)) d
  let e := rest.foldl (fun d i => d.setBuf 0 i ((d.buf 0 i).1, (d.buf 0 i).2 - 1)) e
  (e.setFrame n (f.without gone)).addTo (M.CNT_POOL_FREE 0) gone.length

theorem Dev.withReleased_keepsQueues (d : Dev) (n : Nat) (f : Frame) (gone rest : List Nat) : d.KeepsQueues (d.withReleased n f gone rest) :=
  have hfreed := Dev.KeepsQueues.foldl (fun e i => e.setBuf_keepsQueues 0 i (freeBuf 0)) gone d
  have hcounted := Dev.KeepsQueues.foldl (fun e i => e.setBuf_keepsQueues 0 i ((e.buf 0 i).1, (e.buf 0 i).2 - 1)) rest _
  hfreed.trans (hcounted.trans ((Dev.setFrame_keepsQueues ..).trans (Dev.addTo_keepsQueues ..)))

theorem Dev.withReleased_frame (d : Dev) (n : Nat) (f : Frame) (gone rest : List Nat) :
    (d.withReleased n f gone rest).frame n = f.without gone := SMap.get_set_same ..

/-- What a release of a frame's cells leaves: the frame's class gives back as many of its ingress limit as are gone, and flow control
may follow. -/
theorem releaseCells_of_frame (now : BellSt) {d : Dev} {n : Nat} {f : Frame} (h : d.frame n = some f) (cells : List Nat) (whole : Bool) :
    (releaseCells now d n cells whole).2 =
      let gone := d.releasedCells f cells whole
      let e := d.withReleased n f gone.1 gone.2
      if f.limited then pfcCheck now (e.setIngress f.port f.cls (e.ingressHeld f.port f.cls - gone.1.length)) f.port f.cls else e := by
  unfold releaseCells
  rw [h]
  rfl

theorem releaseCells_keepsQueues (now : BellSt) (d : Dev) (n : Nat) (cells : List Nat) (whole : Bool) :
    d.KeepsQueues (releaseCells now d n cells whole).2 := by
  cases h : d.frame n with
  | none =>
    unfold releaseCells
    rw [h]
    exact .refl d
  | some f =>
    rw [releaseCells_of_frame now h]
    dsimp only
    split
    · exact (d.withReleased_keepsQueues n f _ _).trans ((Dev.setIngress_keepsQueues ..).trans (pfcCheck_keepsQueues ..))
    · exact d.withReleased_keepsQueues n f _ _

theorem releaseCells_frame (now : BellSt) {d : Dev} {n : Nat} {f : Frame} (h : d.frame n = some f) (cells : List Nat) (whole : Bool) :
    (releaseCells now d n cells whole).2.frame n = f.without (d.releasedCells f cells whole).1 := by
  rw [releaseCells_of_frame now h, ← d.withReleased_frame n f _ (d.releasedCells f cells whole).2]
  dsimp only
  split
  · exact pfcCheck_frame ..
  · rfl

theorem freeFrame_keepsQueues (now : BellSt) (d : Dev) (n : Nat) : d.KeepsQueues (freeFrame now d n) := releaseCells_keepsQueues ..

theorem releaseFrame_keepsQueues (now : BellSt) (d : Dev) (n : Nat) : d.KeepsQueues (releaseFrame now d n) := releaseCells_keepsQueues ..

/-! ## Tags and descriptors (R507, R547, R548) -/

theorem tagWrite_keepsQueues (d : Dev) (t : Option Tag) (fate drop : Nat) : d.KeepsQueues (tagWrite d t fate drop) := by
  unfold tagWrite
  split
  · exact .refl d
  · dsimp only
    split
    all_goals exact of_switch rfl rfl (List.prefix_refl _)

theorem tagStage_keepsQueues (now : BellSt) (d : Dev) (t : Option Tag) (lo : Nat) : d.KeepsQueues (tagStage now d t lo).2 := by
  cases t <;> exact of_switch rfl rfl (List.prefix_refl _)

theorem finishDropped_keepsQueues (d : Dev) (c : Copy) : d.KeepsQueues (finishDropped d c) := by
  unfold finishDropped
  split <;> exact of_switch rfl rfl (List.prefix_refl _)

theorem goesQuiet_keepsQueues (d : Dev) (port t : Nat) : d.KeepsQueues (goesQuiet d port t) := by
  unfold goesQuiet
  split <;> exact of_switch rfl rfl (List.prefix_refl _)

end Sys2Proof.Machine

/-! Links, low-power idle, and the wake patterns of a port. -/

namespace Sys2Proof.Machine

variable {d : Dev} {now : BellSt} {port : Nat}

/-! ## Block areas: what a byte reads after a write (R130) -/

theorem writeOver_get_outside (dflt : Nat → Byte) (m : SMap Byte) {a x : Nat} (bs : Bytes) (h : x < a ∨ a + bs.length ≤ x) :
    SMap.get dflt (writeOver dflt m a bs) x = SMap.get dflt m x := by
  induction bs generalizing m a with
  | nil => rfl
  | cons b r ih =>
    rw [List.length_cons] at h
    rw [writeOver, ih _ (by omega), SMap.get_set_other _ _ _ _ _ (by omega)]

theorem writeOver_get_inside (dflt : Nat → Byte) (m : SMap Byte) (a : Nat) {i : Nat} (bs : Bytes) (h : i < bs.length) :
    SMap.get dflt (writeOver dflt m a bs) (a + i) = bs[i] := by
  induction bs generalizing m a i with
  | nil => exact absurd h (Nat.not_lt_zero i)
  | cons b r ih =>
    cases i with
    | zero => exact (writeOver_get_outside _ _ _ (.inl (Nat.lt_succ_self a))).trans (SMap.get_set_same ..)
    | succ i =>
      rw [show a + (i + 1) = a + 1 + i by omega]
      exact ih _ _ (Nat.lt_of_succ_lt_succ h)

theorem Dev.ab_awr_outside (d : Dev) {a x : Nat} (bs : Bytes) (h : x < a ∨ a + bs.length ≤ x) : (d.awr a bs).ab x = d.ab x :=
  writeOver_get_outside _ _ _ h

theorem Dev.ab_awr_inside (d : Dev) (a : Nat) {i : Nat} {bs : Bytes} (h : i < bs.length) : (d.awr a bs).ab (a + i) = bs[i] :=
  writeOver_get_inside _ _ _ _ h

theorem Dev.aread_awr (d : Dev) (a : Nat) {n : Nat} {bs : Bytes} (h : n ≤ bs.length) : (d.awr a bs).aread a n = bs.take n := by
  refine List.ext_getElem (by simp [Dev.aread, h]) fun i hi _ => ?_
  have hin : i < n := by simpa [Dev.aread] using hi
  simpa [Dev.aread] using d.ab_awr_inside a (bs := bs) (hin.trans_le h)

theorem Dev.aread_congr {e : Dev} {a n : Nat} (h : ∀ i < n, e.ab (a + i) = d.ab (a + i)) : e.aread a n = d.aread a n :=
  List.map_congr_left fun i hi => h i (List.mem_range.mp hi)

/-! ## Wake patterns (R215, R216) -/

/-- The check value of a wake pattern's masked bytes. -/
def Dev.patternCheck (d : Dev) (port k : Nat) : Nat :=
  crc16 ((maskedBytes d (patternAddr port k)).map (fun i => d.ab (patternAddr port k + i)))

/-- PORT_WAKE_PREPARE of one pattern. -/
def prepareWake (port : Nat) (d : Dev) (k : Nat) : Dev := d.awr (patternAddr port k + 0x92) (toLE 2 (d.patternCheck port k) ++ [0])

theorem portWakePrepare_eq (port v : Nat) (d : Dev) : portWakePrepare port v d = (St.OK, (List.range 16).foldl (prepareWake port) d) := rfl

theorem prepareWake_reg (d : Dev) (k : Nat) : (prepareWake port d k).reg = d.reg := rfl

/-- Only bytes 0x92 to 0x94 of its own pattern are written. -/
theorem prepareWake_ab (d : Dev) {k x : Nat} (h : x < patternAddr port k + 0x92 ∨ patternAddr port k + 0x95 ≤ x) :
    (prepareWake port d k).ab x = d.ab x := Dev.ab_awr_outside _ _ (by simpa [length_toLE] using h)

/-- A pattern's mask and window stand below its check value, and so does no other pattern's check value. -/
theorem prepareWake_patternCheck (d : Dev) (j k : Nat) : (prepareWake port d j).patternCheck port k = d.patternCheck port k := by
  have hbytes {i : Nat} (hi : i < 0x92) : (prepareWake port d j).ab (patternAddr port k + i) = d.ab (patternAddr port k + i) :=
    prepareWake_ab _ (by unfold patternAddr; omega)
  have hmask : maskedBytes (prepareWake port d j) (patternAddr port k) = maskedBytes d (patternAddr port k) := by
    refine List.filter_congr fun i hi => ?_
    rw [Nat.add_assoc, hbytes (by have := List.mem_range.mp hi; omega)]
  unfold Dev.patternCheck
  rw [hmask]
  refine congrArg crc16 (List.map_congr_left fun i hi => hbytes ?_)
  have := List.mem_range.mp (List.mem_filter.mp hi).1
  omega

/-- CHECK of a pattern is that of its masked bytes, and STALE is clear. -/
def Dev.Prepared (d : Dev) (port k : Nat) : Prop :=
  d.ab (patternAddr port k + 0x94) = 0 ∧ d.ale (patternAddr port k + 0x92) 2 = d.patternCheck port k % 2 ^ 16

theorem prepareWake_prepared (d : Dev) (k : Nat) : (prepareWake port d k).Prepared port k := by
  unfold Dev.Prepared
  rw [prepareWake_patternCheck]
  refine ⟨d.ab_awr_inside (patternAddr port k + 0x92) (i := 2) (bs := toLE 2 (d.patternCheck port k) ++ [0]) (by simp [length_toLE]), ?_⟩
  unfold Dev.ale prepareWake
  rw [Dev.aread_awr _ _ (by simp [length_toLE]), List.take_left' (length_toLE ..), leVal_toLE]
  rfl

theorem Dev.Prepared.prepareWake {k : Nat} (h : d.Prepared port k) (j : Nat) : (prepareWake port d j).Prepared port k := by
  obtain rfl | hne := eq_or_ne j k
  · exact prepareWake_prepared d j
  · have hbytes {i : Nat} (hi : i < 0x100) : (Machine.prepareWake port d j).ab (patternAddr port k + i) = d.ab (patternAddr port k + i) :=
      prepareWake_ab _ (by unfold patternAddr; omega)
    obtain ⟨hstale, hcheck⟩ := h
    refine ⟨(hbytes (by decide)).trans hstale, ?_⟩
    rw [prepareWake_patternCheck, ← hcheck]
    exact congrArg leVal (Dev.aread_congr fun i hi => by rw [Nat.add_assoc, hbytes (by omega)])

theorem portWakePrepare_prepared (d : Dev) {k : Nat} (hk : k < 16) : ((List.range 16).foldl (prepareWake port) d).Prepared port k :=
  foldl_of_mem (P := fun e : Dev => e.Prepared port k) (fun _ j h => Dev.Prepared.prepareWake h j) (fun e => prepareWake_prepared e k) (List.mem_range.mpr hk) d

theorem portWakePrepare_patternCheck (d : Dev) (k : Nat) :
    ((List.range 16).foldl (prepareWake port) d).patternCheck port k = d.patternCheck port k :=
  List.foldlRecOn (List.range 16) (prepareWake port) (motive := fun e : Dev => e.patternCheck port k = d.patternCheck port k) rfl
    fun e he j _ => (prepareWake_patternCheck e j k).trans he

theorem portWakePrepare_reg (d : Dev) : ((List.range 16).foldl (prepareWake port) d).reg = d.reg :=
  List.foldlRecOn (List.range 16) (prepareWake port) (motive := fun e : Dev => e.reg = d.reg) rfl
    fun e he j _ => (prepareWake_reg e j).trans he

/-! ## A link rises (R196, R197) -/

/-- The device with a port's link up, short of the signal of its lanes. -/
def Dev.linked (d : Dev) (port : Nat) : Dev := d.wr (M.PORT_LINK port) 1

/-- A lane with signal. -/
def Dev.lit (d : Dev) (l : Nat) : Dev := d.wr (M.LANE_SIGNAL l) 1

theorem linkUp_of_trained (hport : port < 256) (hdown : d.on (M.PORT_LINK port) = false) (hmode : d.rd (M.PORT_MODE port) ≠ 0)
    (hadmin : d.on (M.PORT_ADMIN port) = true) (hready : d.pins.ready = true) (hpipe : d.gated (pipeOf port) = false)
    (hlanes : (d.lanesOf port).all (fun l => !d.ports.badLanes.contains l) = true) :
    linkUp port d = (d.lanesOf port).foldl Dev.lit (d.linked port) :=
  if_pos ⟨hport, hdown, hmode, hadmin, .inl hready, hpipe, hlanes⟩

theorem foldl_lit_frame (d : Dev) (ls : List Nat) : (ls.foldl Dev.lit d).switch = d.switch ∧ (ls.foldl Dev.lit d).ports = d.ports :=
  List.foldlRecOn ls Dev.lit (motive := fun e : Dev => e.switch = d.switch ∧ e.ports = d.ports) ⟨rfl, rfl⟩ fun _ he _ _ => he

theorem foldl_lit_rd_link (d : Dev) (ls : List Nat) (p : Nat) : (ls.foldl Dev.lit d).rd (M.PORT_LINK p) = d.rd (M.PORT_LINK p) :=
  List.foldlRecOn ls Dev.lit (motive := fun e : Dev => e.rd (M.PORT_LINK p) = d.rd (M.PORT_LINK p)) rfl
    fun _ he _ _ => (Dev.rd_wr_other _ _ _ _ (by grind)).trans he

theorem foldl_lit_rd_signal (d : Dev) {ls : List Nat} {l : Nat} (hl : l ∈ ls) : (ls.foldl Dev.lit d).rd (M.LANE_SIGNAL l) = 1 := by
  refine foldl_of_mem (P := fun e : Dev => e.rd (M.LANE_SIGNAL l) = 1) (fun e k he => ?_) (fun e => Dev.rd_wr_same ..) hl d
  obtain rfl | hne := eq_or_ne l k
  · exact Dev.rd_wr_same ..
  · exact (Dev.rd_wr_other _ _ _ _ (by grind)).trans he

/-! ## A link falls (R390) -/

theorem Dev.queue_setQueue_same (d : Dev) (q : Nat) (cs : List Copy) : (d.setQueue q cs).queue q = cs := SMap.get_set_same ..

theorem Dev.queue_setQueue_other (d : Dev) {q k : Nat} (cs : List Copy) (h : k ≠ q) : (d.setQueue q cs).queue k = d.queue k :=
  SMap.get_set_other _ _ _ _ _ h

theorem Dev.macq_setMacq_same (d : Dev) (port q : Nat) (cs : List Copy) : (d.setMacq port q cs).macq port q = cs := SMap.get_set_same ..

theorem Dev.macq_setMacq_other (d : Dev) {port q p k : Nat} (cs : List Copy) (h : p * 8 + k ≠ port * 8 + q) :
    (d.setMacq port q cs).macq p k = d.macq p k := SMap.get_set_other _ _ _ _ _ h

theorem Dev.setQueueRow_switch (d : Dev) (q v : Nat) : (d.setQueueRow q v).switch = d.switch := by
  unfold Dev.setQueueRow
  split <;> rfl

/-- What a queue holds for other ports. -/
def Dev.queueLeft (d : Dev) (port q : Nat) : List Copy := (d.queue q).filter (fun c => c.port != port)

theorem unlinkQueue_of_kept {q : Nat} (h : (d.queueLeft port q).length = (d.queue q).length) : unlinkQueue port d q = d := if_pos h

theorem unlinkQueue_switch {q : Nat} (h : (d.queueLeft port q).length ≠ (d.queue q).length) :
    (unlinkQueue port d q).switch = (d.setQueue q (d.queueLeft port q)).switch := by
  unfold Dev.queueLeft at h ⊢
  unfold unlinkQueue
  dsimp only
  rw [if_neg h]
  split
  · rfl
  · split
    · exact Dev.setQueueRow_switch ..
    · split <;> exact Dev.setQueueRow_switch ..

/-- Of the queues, unlinking changes its own alone, and leaves in it what goes to other ports. -/
theorem unlinkQueue_queue (d : Dev) (port q k : Nat) :
    (unlinkQueue port d q).queue k = if k = q then d.queueLeft port q else d.queue k := by
  by_cases h : (d.queueLeft port q).length = (d.queue q).length
  · rw [unlinkQueue_of_kept h, show d.queueLeft port q = d.queue q from List.filter_sublist.eq_of_length h]
    split
    case isTrue hk => rw [hk]
    case isFalse => rfl
  · rw [show (unlinkQueue port d q).queue k = (d.setQueue q (d.queueLeft port q)).queue k from
      congrArg (fun w : Switch => SMap.get (fun _ => []) w.queues k) (unlinkQueue_switch h)]
    split
    case isTrue hk => rw [hk, Dev.queue_setQueue_same]
    case isFalse hk => exact Dev.queue_setQueue_other _ _ hk

/-- No copy in a queue goes to a port. -/
def Dev.QueueFreeOf (d : Dev) (port q : Nat) : Prop := ∀ c ∈ d.queue q, c.port ≠ port

theorem unlinkQueue_frees (d : Dev) (port q : Nat) : (unlinkQueue port d q).QueueFreeOf port q := by
  intro c hc
  rw [unlinkQueue_queue, if_pos rfl] at hc
  simpa using (List.mem_filter.mp hc).2

theorem Dev.QueueFreeOf.unlinkQueue {k : Nat} (h : d.QueueFreeOf port k) (q : Nat) : (unlinkQueue port d q).QueueFreeOf port k := by
  obtain rfl | hne := eq_or_ne k q
  · exact unlinkQueue_frees d port k
  · intro c hc
    rw [unlinkQueue_queue, if_neg hne] at hc
    exact h c hc

theorem SMap.find_of_not_mem {α : Type} {m : SMap α} {k : Nat} (h : k ∉ m.map Prod.fst) : SMap.find m k = none := by
  induction m with
  | nil => rfl
  | cons x r ih =>
    rw [List.map_cons, List.mem_cons, not_or] at h
    unfold SMap.find
    rw [if_neg (Ne.symm h.1), ih h.2]

/-- Once every listed queue is unlinked, no queue holds a copy to the port; a queue that is not listed is empty. -/
theorem foldl_unlinkQueue_frees (d : Dev) (port q : Nat) :
    ((d.switch.queues.map Prod.fst).foldl (unlinkQueue port) d).QueueFreeOf port q := by
  by_cases hq : q ∈ d.switch.queues.map Prod.fst
  · exact foldl_of_mem (P := fun e : Dev => e.QueueFreeOf port q) (fun _ k h => h.unlinkQueue k) (fun e => unlinkQueue_frees e port q) hq d
  · have hempty : d.queue q = [] := by
      unfold Dev.queue SMap.get
      rw [SMap.find_of_not_mem hq]
      rfl
    exact List.foldlRecOn _ (unlinkQueue port) (motive := fun e : Dev => e.QueueFreeOf port q) (by simp [Dev.QueueFreeOf, hempty])
      fun _ h k _ => h.unlinkQueue k

/-- Emptying one MAC transmit queue. -/
def Dev.clearMacq (port : Nat) (d : Dev) (q : Nat) : Dev := d.setMacq port q []

/-- Every listed queue is unlinked and every MAC transmit queue emptied, once the copies of the port are counted; where there are none,
that changes nothing. -/
theorem unlinkPort_eq (d : Dev) (port : Nat) : ∃ e : Dev, unlinkPort d port = (List.range 8).foldl (Dev.clearMacq port)
    ((e.switch.queues.map Prod.fst).foldl (unlinkQueue port) e) ∧
    (d.switch.queues = [] → (∀ q, q < 8 → d.macq port q = []) → e = d) := by
  unfold unlinkPort
  extract_lets waiting e f
  refine ⟨e, rfl, fun hqueues hmacq => ?_⟩
  have hnone : (List.range 8).flatMap (fun q => (d.macq port q).map (fun c => ((none : Option Nat), c))) = [] :=
    List.flatMap_eq_nil_iff.mpr fun q hq => by rw [hmacq q (List.mem_range.mp hq), List.map_nil]
  have hwaiting : waiting = [] := by
    rw [show waiting = _ ++ _ from rfl, hqueues, hnone]
    rfl
  exact congrArg (List.foldl _ d) hwaiting

theorem unlinkPort_queue (d : Dev) (port q : Nat) : (unlinkPort d port).QueueFreeOf port q := by
  obtain ⟨e, heq, _⟩ := unlinkPort_eq d port
  rw [heq]
  exact List.foldlRecOn (List.range 8) (Dev.clearMacq port) (motive := fun e : Dev => e.QueueFreeOf port q)
    (foldl_unlinkQueue_frees e port q) fun _ h _ _ => h

theorem unlinkPort_macq (d : Dev) (port : Nat) {q : Nat} (hq : q < 8) : (unlinkPort d port).macq port q = [] := by
  obtain ⟨e, heq, _⟩ := unlinkPort_eq d port
  rw [heq]
  refine foldl_of_mem (P := fun e : Dev => e.macq port q = []) (f := Dev.clearMacq port) (fun e k h => ?_) (fun e => e.macq_setMacq_same port q [])
    (List.mem_range.mpr hq) _
  by_cases hk : port * 8 + q = port * 8 + k
  · obtain rfl : q = k := by omega
    exact e.macq_setMacq_same port q []
  · exact (e.macq_setMacq_other [] hk).trans h

/-- A port with nothing queued has nothing to unlink. -/
theorem unlinkPort_reg_of_empty (hqueues : d.switch.queues = []) (hmacq : ∀ q, q < 8 → d.macq port q = []) :
    (unlinkPort d port).reg = d.reg := by
  obtain ⟨e, heq, hsame⟩ := unlinkPort_eq d port
  rw [heq, hsame hqueues hmacq, hqueues]
  exact List.foldlRecOn (List.range 8) (Dev.clearMacq port) (motive := fun e : Dev => e.reg = d.reg) rfl fun _ h _ _ => h

theorem goesQuiet_switch (d : Dev) (port t : Nat) : (goesQuiet d port t).switch = d.switch := by
  unfold goesQuiet
  split <;> rfl

/-- A port goes down with its queues unlinked, whatever else happens to it. -/
theorem portDown_switch (now : BellSt) (d : Dev) (port : Nat) : ∃ e, (portDown now d port).switch = (unlinkPort e port).switch := by
  unfold portDown
  extract_lets e f g
  split
  · exact ⟨g, rfl⟩
  · exact ⟨(Dev.stamp now g).2, goesQuiet_switch ..⟩

/-- A port whose link has just fallen, short of its queues. -/
def Dev.linkLost (d : Dev) (port : Nat) : Dev :=
  let e := (d.wr (M.PORT_LINK port) 0).bump (M.CNT_LINK_DOWN port)
  { e with ports := { e.ports with lpi := e.ports.lpi.filter (· != port) } }

/-- A port that is no Buddy port and has nothing to send just goes down. -/
theorem portDown_of_idle (hport : port < 256) (hlink : d.on (M.PORT_LINK port) = true) (hbuddy : d.buddyPort port = false)
    (hmacq : ∀ q, q < 8 → d.macq port q = []) : portDown now d port = unlinkPort (d.linkLost port) port := by
  have hbuddy' : ((d.wr (M.PORT_LINK port) 0).bump (M.CNT_LINK_DOWN port)).buddyPort port = false := by
    rw [← hbuddy]
    unfold Dev.buddyPort Dev.on
    rw [Dev.rd_bump_other _ _ _ (by grind), Dev.rd_bump_other _ _ _ (by grind), Dev.rd_bump_other _ _ _ (by grind),
      Dev.rd_wr_other _ _ _ _ (by grind), Dev.rd_wr_other _ _ _ _ (by grind), Dev.rd_wr_other _ _ _ _ (by grind)]
  unfold portDown
  dsimp only
  rw [if_pos hlink, show buddyPortDown now _ port = _ from if_pos hbuddy']
  refine if_pos (List.all_eq_true.mpr fun q hq => ?_)
  exact List.isEmpty_iff.mpr (hmacq q (List.mem_range.mp hq))

theorem linkLost_rd_link (d : Dev) (port : Nat) : (d.linkLost port).rd (M.PORT_LINK port) = 0 :=
  (Dev.rd_bump_other _ _ _ (by grind)).trans (Dev.rd_wr_same ..)

theorem linkLost_rd_count (d : Dev) (port : Nat) :
    (d.linkLost port).rd (M.CNT_LINK_DOWN port) = (d.rd (M.CNT_LINK_DOWN port) + 1) % 2 ^ 64 := by
  refine (Dev.rd_bump_same ..).trans ?_
  rw [Dev.rd_wr_other _ _ _ _ (by grind)]

/-! ## Low-power idle (R211) -/

/-- A sleeping transmitter. -/
def Dev.sleeping (d : Dev) (port : Nat) : Dev := { d with ports := { d.ports with lpi := port :: d.ports.lpi } }

theorem lpiEnter_of_quiet (henable : d.on (M.PORT_LPI_ENABLE port) = true) (hmode : [1, 2, 4].contains (d.rd (M.PORT_MODE port)) = true)
    (hlink : d.on (M.PORT_LINK port) = true) (hawake : d.ports.lpi.contains port = false) (hmacq : ∀ q, q < 8 → d.macq port q = [])
    (hquiet : d.rd (M.PORT_LPI_IDLE port) * 1000 ≤ ((Dev.stamp now d).1 + 2 ^ 32 - SMap.get zeroAt d.ports.quiet port % 2 ^ 32) % 2 ^ 32) :
    lpiEnter port now d = ((Dev.stamp now d).2.sleeping port).bump (M.CNT_LPI_ENTRY port) :=
  if_pos ⟨henable, hmode, hlink, hawake, List.all_eq_true.mpr fun q hq => List.isEmpty_iff.mpr (hmacq q (List.mem_range.mp hq)), hquiet⟩

/-- A transmitter on its way out of sleep, whose link partner will have woken at an instant. -/
def Dev.wakingUntil (d : Dev) (port at_ : Nat) : Dev :=
  { d with ports := { d.ports with
      lpi := d.ports.lpi.filter (· != port)
      waking := SMap.set (fun _ => none) d.ports.waking port (some at_) } }

theorem wakingUntil_waking (d : Dev) (port at_ : Nat) :
    SMap.get (fun _ => none) (d.wakingUntil port at_).ports.waking port = some at_ :=
  SMap.get_set_same (fun _ => none) d.ports.waking port (some at_)

theorem lpiExit_of_waiting {q : Nat} (hq : q < 8) (hmacq : d.macq port q ≠ []) (hasleep : d.ports.lpi.contains port = true) :
    lpiExit port now d = (Dev.stamp now d).2.wakingUntil port (((Dev.stamp now d).1 + d.rd (M.PORT_LPI_TW_TX port) * 1000) % 2 ^ 32) := by
  have hany : (List.range 8).any (fun q => !(d.macq port q).isEmpty) = true :=
    List.any_eq_true.mpr ⟨q, List.mem_range.mpr hq, by simpa using hmacq⟩
  unfold lpiExit leaveLpi
  rw [if_pos hany, if_neg (by rw [hasleep]; decide)]
  rfl

/-! ## The return engine (R390, R393) -/

theorem Frame.without_held (f : Frame) : f.without f.held = none := by
  unfold Frame.without
  rw [show f.held.filter (fun i => !f.held.contains i) = [] from List.filter_eq_nil_iff.mpr fun i hi => by simp [hi]]
  rfl

/-- A frame none of whose cells another copy uses is gone with them. -/
theorem releaseCells_all_frame {n : Nat} {f : Frame} (h : d.frame n = some f) (hlast : ∀ i ∈ f.held, (d.buf 0 i).2 ≤ 1) :
    (releaseCells now d n f.held false).2.frame n = none := by
  have hmine : f.held.filter (fun i => f.held.contains i) = f.held := List.filter_eq_self.mpr fun i hi => by simp [hi]
  have hgone : (d.releasedCells f f.held false).1 = f.held := by
    unfold Dev.releasedCells
    rw [hmine, List.partition_eq_filter_filter]
    exact List.filter_eq_self.mpr fun i hi => by simp [hlast i hi]
  rw [releaseCells_frame now h, hgone, f.without_held]

/-- The device with nothing waiting for the return engine. -/
def Dev.withoutFlush (d : Dev) : Dev := { d with switch := { d.switch with flush := [] } }

theorem portFlushReturn_of_one {n : Nat} {cells : List Nat} (hflush : d.switch.flush = [(port, n, cells)]) (hlen : cells.length ≤ 4096) :
    portFlushReturn now d = ((releaseCells now d n cells false).2.addTo (M.CNT_PORT_FLUSH_CELLS port)
      (releaseCells now d n cells false).1).withoutFlush := by
  unfold portFlushReturn
  rw [hflush, List.length_singleton]
  unfold flushCells
  rw [hflush]
  dsimp only
  rw [if_neg (Nat.not_lt.mpr hlen), List.take_of_length_le hlen]
  rfl

theorem segReap_of_none (h : d.segs = []) : segReap d = d := by
  have hd : d = { d with segs := [] } := by rw [← h]
  rw [hd]
  rfl

/-! ## Commands -/

theorem linkUp_gives (port : Nat) {s : State} (h : s.dev.dieRuns = true) : Gives (.linkUp port) s s.bell (linkUp port s.dev) :=
  gives_of_onDie (f := fun _ => linkUp port) rfl h

theorem linkDown_gives {s : State} (h : s.dev.dieRuns = true) (hlink : s.dev.on (M.PORT_LINK port) = true) :
    Gives (.linkDown port) s s.bell (portDown s.bell s.dev port) := by
  have hgives := gives_of_onDie (c := .linkDown port) (f := linkDown port) rfl h
  rwa [show linkDown port s.bell s.dev = _ from if_pos hlink] at hgives

theorem lpiEnter_gives (port : Nat) {s : State} (h : s.dev.dieRuns = true) : Gives (.lpiEnter port) s s.bell (lpiEnter port s.bell s.dev) :=
  gives_of_onDie (f := lpiEnter port) rfl h

theorem lpiExit_gives (port : Nat) {s : State} (h : s.dev.dieRuns = true) : Gives (.lpiExit port) s s.bell (lpiExit port s.bell s.dev) :=
  gives_of_onDie (f := lpiExit port) rfl h

theorem portWakePrepare_gives {a : Acc} {s : State} (h : Passes s.dev a (M.PORT_WAKE_PREPARE port)) :
    Gives (.portWakePrepare port a) s s.bell ((List.range 16).foldl (prepareWake port) s.dev) :=
  gives_of_onDev (f := fun _ d => (d.trigger a (M.PORT_WAKE_PREPARE port) (portWakePrepare port)).2) rfl
    (Dev.trigger_ok h (portWakePrepare_eq ..))

theorem portFlushReturn_gives {s : State} (h : s.dev.dieRuns = true) :
    Gives .portFlushReturn s s.bell (segReap (portFlushReturn s.bell s.dev)) :=
  gives_of_onDie (f := fun now d => segReap (portFlushReturn now d)) rfl h

end Sys2Proof.Machine

namespace Sys2Proof

open Sys2Proof.Machine

/-- Settles O30, clause by clause. That LINK_UP gives each lane of the port its signal is log 180, and the instant of a command within
its period is open by log 1. -/
theorem linksAndIdle : Obligations.LinksAndIdle := by
  refine ⟨fun port s hruns hport hdown hmode hadmin hready hpipe hlanes => ?_, fun port s hruns hlink => ?_,
    fun port s hruns hport hlink hbuddy hqueues hmacq => ?_, fun port s hruns henable hmode hlink hawake hmacq hquiet => ?_,
    fun port q s hruns hq hmacq hasleep => ?_, fun port a s hport hpass => ?_,
    fun port n f s hruns hflush hlen hframe hlast hsegs => ?_⟩
  · have hgives := linkUp_gives port hruns
    rw [linkUp_of_trained hport hdown hmode hadmin hready hpipe hlanes] at hgives
    obtain ⟨hswitch, hports⟩ := foldl_lit_frame (s.dev.linked port) (s.dev.lanesOf port)
    refine ⟨_, hgives, (foldl_lit_rd_link ..).trans (Dev.rd_wr_same ..), fun l hl => foldl_lit_rd_signal _ hl, hswitch, hports,
      fun p _ hne => (foldl_lit_rd_link ..).trans (Dev.rd_wr_other _ _ _ _ (by grind))⟩
  · obtain ⟨e, hswitch⟩ := portDown_switch s.bell s.dev port
    refine ⟨_, linkDown_gives hruns hlink, fun q hq => ?_, fun q c hc => unlinkPort_queue e port q c ?_⟩
    · rw [← unlinkPort_macq e port hq]
      exact congrArg (fun w : Switch => SMap.get (fun _ => []) w.macq (port * 8 + q)) hswitch
    · rwa [Dev.queue, hswitch] at hc
  · have hgives := linkDown_gives hruns hlink
    rw [portDown_of_idle hport hlink hbuddy hmacq] at hgives
    have hreg := Dev.rd_of_reg (unlinkPort_reg_of_empty (d := s.dev.linkLost port) hqueues hmacq)
    exact ⟨_, hgives, (hreg _).trans (linkLost_rd_link ..), (hreg _).trans (linkLost_rd_count ..)⟩
  · have hgives := lpiEnter_gives port hruns
    rw [lpiEnter_of_quiet henable hmode hlink hawake hmacq hquiet] at hgives
    exact ⟨_, hgives, rfl, Dev.rd_bump_same .., fun id hid => Dev.rd_bump_other _ _ _ hid⟩
  · have hgives := lpiExit_gives port hruns
    rw [lpiExit_of_waiting hq hmacq hasleep] at hgives
    exact ⟨_, hgives, rfl, rfl, rfl, wakingUntil_waking ..⟩
  · refine ⟨_, portWakePrepare_gives hpass, portWakePrepare_reg _, fun k hk => ?_⟩
    obtain ⟨hstale, hcheck⟩ := portWakePrepare_prepared (port := port) s.dev hk
    exact ⟨hstale, hcheck.trans (congrArg (· % 2 ^ 16) (portWakePrepare_patternCheck s.dev k))⟩
  · have hgives := portFlushReturn_gives hruns
    have hkept := releaseCells_keepsQueues s.bell s.dev n f.held false
    have hnone : (((releaseCells s.bell s.dev n f.held false).2.addTo (M.CNT_PORT_FLUSH_CELLS port)
      (releaseCells s.bell s.dev n f.held false).1).withoutFlush).segs = [] := hkept.segs.trans hsegs
    rw [portFlushReturn_of_one hflush hlen, segReap_of_none hnone] at hgives
    exact ⟨_, hgives, rfl, releaseCells_all_frame hframe hlast⟩

end Sys2Proof

/-! The timetable's selection, its gates, and the MAC's transmission. -/

namespace Sys2Proof.Machine

variable {d : Dev} {now : BellSt} {port cls sub q v : Nat}

/-! ## Rows of the timetable (R424, R425) -/

theorem fld_leVal_toLE (x : Nat) {n lo w : Nat} (h : lo + w ≤ 8 * n) : fld (leVal (toLE n x)) lo w = fld x lo w := by
  rw [leVal_toLE, show (256 : Nat) = 2 ^ 8 from rfl, ← Nat.pow_mul, fld_mod_two_pow x h]

theorem Dev.fld_subRow_setSubRow (d : Dev) (i x : Nat) {lo w : Nat} (h : lo + w ≤ 512) :
    fld ((d.setSubRow i x).subRow i) lo w = fld x lo w := by
  unfold Dev.subRow Dev.setSubRow
  dsimp only
  rw [Dev.row_setRow_same]
  exact fld_leVal_toLE x h

theorem Dev.queueRow_setSubRow (d : Dev) (x : Nat) (hsub : sub < 2 ^ 32) : (d.setSubRow sub x).queueRow q = d.queueRow q := by
  unfold Dev.queueRow Dev.setSubRow
  dsimp only
  rw [Dev.row_setRow_other _ _ (by unfold queueKey subKey subKey.rowKey6; omega)]

theorem Dev.setQueueRow_reg (d : Dev) (i x : Nat) : (d.setQueueRow i x).reg = d.reg := by
  unfold Dev.setQueueRow
  split <;> rfl

/-! ## Selection (R410, R411, R413) -/

/-- A refill of a subscriber's buckets changes no field of its row but the tokens and their stamp, and nothing else of the device but
the row. -/
structure Dev.Refilled (d e : Dev) (sub : Nat) : Prop where
  switch : e.switch = d.switch
  reg : e.reg = d.reg
  area : e.area = d.area
  queueRow : ∀ q, e.queueRow q = d.queueRow q
  subRow : ∀ lo w, lo + w ≤ 288 ∨ 384 ≤ lo ∧ lo + w ≤ 512 → fld (e.subRow sub) lo w = fld (d.subRow sub) lo w

theorem refillSub_refilled (cur p : Nat) (d : Dev) (hsub : sub < 2 ^ 32) : d.Refilled (refillSub cur p d sub) sub := by
  unfold refillSub
  extract_lets r cir pir at_ el tc tp
  split
  · exact ⟨rfl, rfl, rfl, fun _ => rfl, fun _ _ _ => rfl⟩
  · refine ⟨rfl, rfl, rfl, fun q => d.queueRow_setSubRow _ hsub, fun lo w h => ?_⟩
    rw [Dev.fld_subRow_setSubRow _ _ _ (by omega), fld_setFld_other _ _ (by omega), fld_setFld_other _ _ (by omega),
      fld_setFld_other _ _ (by omega)]

/-- A child whose turn it is and whose deficit covers its head supplies the next frame (R411). -/
theorem drr_of_due {fuel k : Nat} {kids : List Nat} {len quantum : Nat → Nat} {df : SMap Nat} (hfuel : 0 < fuel)
    (hkid : kids.contains k = true) (hdue : len k ≤ SMap.get zeroAt df k) :
    drr fuel kids (some k) len quantum df = some (k, SMap.set zeroAt df k (SMap.get zeroAt df k - len k)) := by
  obtain ⟨n, rfl⟩ := Nat.exists_eq_succ_of_ne_zero hfuel.ne'
  unfold drr
  dsimp only
  rw [if_pos ⟨hkid, hdue⟩]

/-- What the choice of a queue leaves of the device: the queues' deficits and the turn are new. -/
theorem pickQueue_of_due (hturn : SMap.get (fun _ => none) d.switch.queueTurn (sub * 8 + cls) = some q)
    (hdue : d.headLen q ≤ fld (d.queueRow q) 35 21) :
    ∃ e, pickQueue d sub cls [q] = some (q, e) ∧ e.switch.queues = d.switch.queues ∧ e.switch.macq = d.switch.macq ∧ e.reg = d.reg := by
  unfold pickQueue
  dsimp only
  rw [hturn, drr_of_due (by simp) (by simp) (by simpa using hdue)]
  refine ⟨_, rfl, ?_, ?_, Dev.setQueueRow_reg ..⟩
  · show (Dev.setQueueRow d q _).switch.queues = _
    rw [Dev.setQueueRow_switch]
  · show (Dev.setQueueRow d q _).switch.macq = _
    rw [Dev.setQueueRow_switch]

theorem subBand_of_unrated {r : Nat} (hcir : fld r 443 24 = 0) (hpir : fld r 419 24 = 0) : subBand r = 2 := by
  unfold subBand
  rw [hcir, hpir]
  simp

/-- The choice of a subscriber without rates, whose turn it is and whose deficit covers its head. -/
theorem pickSub_of_due {len : Nat → Nat} (hsub : sub < 2 ^ 32) (hcir : fld (d.subRow sub) 443 24 = 0) (hpir : fld (d.subRow sub) 419 24 = 0)
    (hturn : SMap.get (fun _ => none) d.switch.subTurn (v * 2 + 1) = some sub) (hdue : len sub ≤ fld (d.subRow sub) 256 32) :
    ∃ e, pickSub d v [sub] len = some (sub, e) ∧ e.switch.queues = d.switch.queues ∧ e.switch.macq = d.switch.macq ∧
      e.switch.queueTurn = d.switch.queueTurn ∧ e.reg = d.reg ∧ ∀ q, e.queueRow q = d.queueRow q := by
  have hband : subBand (d.subRow sub) = 2 := subBand_of_unrated hcir hpir
  unfold pickSub
  dsimp only
  rw [show [sub].filter (fun s => subBand (d.subRow s) == 1) = [] by simp [hband],
    show [sub].filter (fun s => subBand (d.subRow s) == 2) = [sub] by simp [hband]]
  rw [if_pos (show ([] : List Nat).isEmpty = true from rfl)]
  dsimp only
  rw [hturn, drr_of_due (by simp) (by simp) (by simpa using hdue)]
  exact ⟨_, rfl, rfl, rfl, rfl, rfl, fun q => d.queueRow_setSubRow _ hsub⟩

/-- The head of a queue moves to the MAC transmit queue of its class (R410). -/
theorem takeHead_moves (v s : Nat) {c : Copy} {rest : List Copy} (hqueue : d.queue q = c :: rest) (htag : c.tag = none) :
    let e := takeHead now d port cls v s q
    e.macq port cls = d.macq port cls ++ [c] ∧ e.queue q = rest ∧ (∀ k, k ≠ q → e.queue k = d.queue k) ∧ e.reg = d.reg := by
  have hcopy : { c with tag := none } = c := by rw [← htag]
  unfold takeHead
  rw [hqueue]
  dsimp only
  rw [htag]
  unfold tagStage
  dsimp only
  rw [hcopy]
  refine ⟨?_, Dev.queue_setQueue_same .., fun k hk => ?_, ?_⟩
  · refine (Dev.macq_setMacq_same ..).trans (congrArg (· ++ [c]) ?_)
    unfold Dev.macq Dev.setQueue
    dsimp only
    rw [Dev.setQueueRow_switch]
    rfl
  · refine (Dev.queue_setQueue_other _ _ hk).trans ?_
    unfold Dev.queue
    rw [Dev.setQueueRow_switch]
    rfl
  · exact Dev.setQueueRow_reg ..

theorem refillPort_of_unrated (cur p : Nat) (h : d.rd (M.TT_PORT_RATE port) = 0) : refillPort cur p d port = d := if_pos h

theorem refillService_of_unrated (cur p : Nat) (h : svcRate (d.service v) = 0) : refillService cur p d v = d := if_pos h

theorem Dev.service_of_area {e : Dev} (h : e.area = d.area) (i : Nat) : e.service i = d.service i := by
  unfold Dev.service Dev.ale Dev.aread Dev.ab
  rw [h]

theorem Dev.svcEligible_of_unrated (h : svcRate (d.service v) = 0) : d.svcEligible v = true := by
  unfold Dev.svcEligible
  rw [h]
  rfl

theorem Dev.headLen_of_queues {e : Dev} (h : e.switch.queues = d.switch.queues) (q : Nat) : e.headLen q = d.headLen q := by
  unfold Dev.headLen Dev.queue
  rw [h]

theorem nextAfter_singleton (x : Nat) (cur : Option Nat) : nextAfter [x] cur = some x := by
  unfold nextAfter
  rw [List.mergeSort_singleton]
  grind

/-- With one queue to choose, no rate set and deficits that cover its head, that queue is chosen (R410, R411, R414). -/
theorem ttSelect_of_due (hcls : cls < 8) (hsub : sub < 2 ^ 32) (hroom : (d.macq port cls).length < 2) (hrate : d.rd (M.TT_PORT_RATE port) = 0)
    (hoffers : d.offers port cls = [(q, sub, v)]) (hsvc : svcRate (d.service v) = 0) (hcir : fld (d.subRow sub) 443 24 = 0)
    (hpir : fld (d.subRow sub) 419 24 = 0) (hqueueTurn : SMap.get (fun _ => none) d.switch.queueTurn (sub * 8 + cls) = some q)
    (hsubTurn : SMap.get (fun _ => none) d.switch.subTurn (v * 2 + 1) = some sub) (hqueueDue : d.headLen q ≤ fld (d.queueRow q) 35 21)
    (hsubDue : d.headLen q ≤ fld (d.subRow sub) 256 32) :
    ∃ e, ttSelect port cls now d = takeHead now e port cls v sub q ∧ e.switch.queues = d.switch.queues ∧ e.switch.macq = d.switch.macq ∧
      e.reg = d.reg := by
  unfold ttSelect
  rw [if_neg (by omega)]
  extract_lets p d₁ offers d₂ d₃ open_ key
  have hd₁ : d₁ = d := refillPort_of_unrated _ _ hrate
  have hoffers₁ : offers = [(q, sub, v)] := (congrArg (fun e : Dev => e.offers port cls) hd₁).trans hoffers
  have hd₂ : d₂ = d := by
    show ((offers.map (fun o => o.2.2)).eraseDups).foldl (refillService p p) d₁ = d
    rw [hoffers₁, hd₁]
    exact refillService_of_unrated _ _ hsvc
  have hfilled : d.Refilled d₃ sub := by
    show d.Refilled (((offers.map (fun o => o.2.1)).eraseDups).foldl (refillSub p p) d₂) sub
    rw [hoffers₁, hd₂]
    exact refillSub_refilled p p d hsub
  have hd₁rate : d₁.rd (M.TT_PORT_RATE port) = 0 := by rw [hd₁, hrate]
  rw [if_neg (fun h => h.1 hd₁rate)]
  clear_value d₃
  obtain ⟨hswitch, hreg, harea, hqueueRow, hsubRow⟩ := hfilled
  have hcir₃ : fld (d₃.subRow sub) 443 24 = 0 := by rw [hsubRow _ _ (by omega), hcir]
  have hpir₃ : fld (d₃.subRow sub) 419 24 = 0 := by rw [hsubRow _ _ (by omega), hpir]
  have hopen : open_ = [(q, sub, v)] := by
    have hband : subBand (d₃.subRow sub) = 2 := subBand_of_unrated hcir₃ hpir₃
    have heligible : d₃.svcEligible v = true := Dev.svcEligible_of_unrated (by rw [Dev.service_of_area harea, hsvc])
    show offers.filter _ = _
    rw [hoffers₁]
    exact List.filter_cons_of_pos (by simp [hband, heligible])
  clear_value open_
  subst hopen
  rw [show ([(q, sub, v)].map (fun o => o.2.2)).eraseDups = [v] from rfl, nextAfter_singleton]
  dsimp -zeta only
  extract_lets mine lenOf
  have hmine : mine = [(q, sub, v)] := List.filter_cons_of_pos (by simp)
  have hqueues : (mine.filter (fun o => o.2.1 == sub)).map (fun o => o.1) = [q] := by
    rw [hmine, List.filter_cons_of_pos (by simp)]
    rfl
  have hhead : d₃.headLen q = d.headLen q := Dev.headLen_of_queues (congrArg Switch.queues hswitch) q
  have hlen : lenOf sub = d.headLen q := by
    obtain ⟨e, hpick, _⟩ := pickQueue_of_due (d := d₃) (hswitch ▸ hqueueTurn) (by rw [hhead, hqueueRow]; exact hqueueDue)
    show (match pickQueue d₃ sub cls ((mine.filter (fun o => o.2.1 == sub)).map (fun o => o.1)) with | some (q, _) => _ | none => _) = _
    rw [hqueues, hpick]
    exact hhead
  obtain ⟨e, hpick, hequeues, hemacq, heturn, hereg, herow⟩ := pickSub_of_due (d := d₃) (len := lenOf) hsub hcir₃ hpir₃ (hswitch ▸ hsubTurn)
    (by rw [hlen, hsubRow _ _ (by omega)]; exact hsubDue)
  rw [show (mine.map (fun o => o.2.1)).eraseDups = [sub] by rw [hmine]; rfl, hpick]
  dsimp only
  have hehead : e.headLen q = d.headLen q := (Dev.headLen_of_queues hequeues q).trans hhead
  obtain ⟨f, hpick', hfqueues, hfmacq, hfreg⟩ := pickQueue_of_due (d := e) (sub := sub) (cls := cls) (q := q)
    (by rw [heturn, hswitch, hqueueTurn]) (by rw [hehead, herow, hqueueRow]; exact hqueueDue)
  rw [hqueues, hpick']
  exact ⟨_, rfl, by rw [hfqueues, hequeues, hswitch], by rw [hfmacq, hemacq, hswitch], by rw [hfreg, hereg, hreg]⟩

/-! ## A copy leaves a MAC transmit queue (R393, R411, R418, R419) -/

theorem Dev.egressHeld_setEgress_same (d : Dev) (port cls n : Nat) : (d.setEgress port cls n).egressHeld port cls = n :=
  SMap.get_set_same ..

/-- Dropping a copy takes its cells off the egress count of its port and class, and leaves the queues. -/
theorem dropCopy_leaves (now : BellSt) (d : Dev) (c : Copy) (counter : Nat) :
    (dropCopy now d c counter).egressHeld c.port c.cls = d.egressHeld c.port c.cls - c.cells ∧
      (dropCopy now d c counter).switch.queues = d.switch.queues ∧ ∀ p k, (dropCopy now d c counter).macq p k = d.macq p k := by
  have hkept : (d.setEgress c.port c.cls (d.egressHeld c.port c.cls - c.cells)).KeepsQueues (dropCopy now d c counter) :=
    (finishDropped_keepsQueues _ c).trans ((tagWrite_keepsQueues ..).trans (releaseFrame_keepsQueues ..))
  exact ⟨(hkept.egressHeld_eq ..).trans (Dev.egressHeld_setEgress_same ..), hkept.queues, hkept.macq_eq⟩

/-- The device once a copy held for a full cycle is off its queue, short of what its drop does. -/
def Dev.oversized (d : Dev) (port cls t : Nat) (rest : List Copy) : Dev :=
  goesQuiet ((d.setMacq port cls rest).bump (M.CNT_TT_GATE_OVERSIZE port)) port t

theorem Dev.oversized_kept (d : Dev) (port cls t : Nat) (rest : List Copy) : (d.setMacq port cls rest).KeepsQueues (d.oversized port cls t rest) :=
  (Dev.bump_keepsQueues ..).trans (goesQuiet_keepsQueues ..)

theorem gateOversizeDrop_of_held {t h : Nat} {c : Copy} {rest : List Copy} (hmacq : d.macq port cls = c :: rest) (hheld : c.heldAt = some h)
    (hpause : d.paused port cls = false) (hfits : d.gateFits port cls t (c.bytes.length + 4) = false)
    (hcycle : d.gateCycle port ≤ nsBetween h (wideNs now t)) :
    gateOversizeDrop port cls t now d = dropCopy now (d.oversized port cls t rest) c (M.CNT_TT_GATE_OVERSIZE port) := by
  unfold gateOversizeDrop
  rw [hmacq]
  dsimp only
  rw [hheld]
  exact if_pos ⟨hpause, hfits, hcycle⟩

/-! ## The MAC starts a frame (R204, R418) -/

/-- The highest queue that holds a frame is the one whose frame starts, where nothing keeps it. -/
theorem pickMac_of_highest {t : Nat} {c : Copy} {rest : List Copy} (hmacq : d.macq port q = c :: rest) (hpause : d.paused port q = false)
    (hfits : d.gateFits port q t (c.bytes.length + 4) = true) {above below : List Nat} (habove : ∀ k ∈ above, d.macq port k = []) :
    pickMac now d port t (above ++ q :: below) = (some q, d) := by
  induction above with
  | nil =>
    rw [List.nil_append]
    unfold pickMac
    rw [hmacq]
    dsimp only
    rw [if_neg (by rw [hpause]; decide), if_pos hfits]
  | cons k ks ih =>
    rw [List.cons_append]
    unfold pickMac
    rw [habove k (List.mem_cons_self ..)]
    exact ih fun j hj => habove j (List.mem_cons_of_mem _ hj)

/-- The eight classes of a port from the highest down, split at one of them. -/
theorem classes_split : ∀ q < 8, [7, 6, 5, 4, 3, 2, 1, 0] = [7, 6, 5, 4, 3, 2, 1, 0].take (7 - q) ++ q :: [7, 6, 5, 4, 3, 2, 1, 0].drop (8 - q) ∧
    ∀ k ∈ [7, 6, 5, 4, 3, 2, 1, 0].take (7 - q), q < k ∧ k < 8 := by decide

/-- The device once a frame is out on a port, the copy's queue left with the rest. -/
def Dev.sentOn (d : Dev) (port q held : Nat) (rest : List Copy) (bytes : Bytes) : Dev :=
  ((((d.setMacq port q rest).raiseTo (M.TT_GATE_HOLD_MAX port) held).emit (.frame port bytes)).bump (M.CNT_TX_FRAMES port)).addTo
    (M.CNT_TX_BYTES port) bytes.length

/-- What follows a frame's start: the copy's tag record, its share of the egress limit and its cells. -/
def Dev.concluded (now : BellSt) (d : Dev) (port t : Nat) (c : Copy) : Dev :=
  let staged := tagStage now d c.tag 24
  let e := tagWrite staged.2 staged.1 1 0
  releaseFrame now (goesQuiet ((e.setEgress c.port c.cls (e.egressHeld c.port c.cls - c.cells)).awoken port) port t) c.frame

theorem Dev.raiseTo_switch (d : Dev) (id x : Nat) : (d.raiseTo id x).switch = d.switch := by
  unfold Dev.raiseTo
  split <;> rfl

theorem Dev.raiseTo_emit_keepsQueues (d : Dev) (id x : Nat) (o : Out) : (d.emit o).KeepsQueues ((d.raiseTo id x).emit o) := by
  unfold Dev.raiseTo
  split <;> exact Dev.KeepsQueues.of_switch rfl rfl (List.prefix_refl _)

theorem Dev.sentOn_kept (d : Dev) (port q held : Nat) (rest : List Copy) (bytes : Bytes) :
    ((d.setMacq port q rest).emit (.frame port bytes)).KeepsQueues (d.sentOn port q held rest bytes) :=
  (Dev.raiseTo_emit_keepsQueues ..).trans ((Dev.bump_keepsQueues ..).trans (Dev.addTo_keepsQueues ..))

/-- The end of a transmission takes the copy's cells off the egress count, and keeps the queues, the requests and what has left. -/
theorem concluded_leaves (now : BellSt) (d : Dev) (port t : Nat) (c : Copy) :
    (d.concluded now port t c).egressHeld c.port c.cls = d.egressHeld c.port c.cls - c.cells ∧
      (∀ p k, (d.concluded now port t c).macq p k = d.macq p k) ∧ (d.concluded now port t c).segs = d.segs ∧
      d.out <+: (d.concluded now port t c).out := by
  unfold Dev.concluded
  extract_lets staged e
  have hbefore : d.KeepsQueues e := (tagStage_keepsQueues ..).trans (tagWrite_keepsQueues ..)
  have hafter := (goesQuiet_keepsQueues ((e.setEgress c.port c.cls (e.egressHeld c.port c.cls - c.cells)).awoken port) port t).trans
    (releaseFrame_keepsQueues now _ c.frame)
  refine ⟨(hafter.egressHeld_eq ..).trans ((Dev.egressHeld_setEgress_same ..).trans (by rw [hbefore.egressHeld_eq])), fun p k => (hafter.macq_eq p k).trans (hbefore.macq_eq p k),
    hafter.segs.trans hbefore.segs, hbefore.out.trans hafter.out⟩

theorem macTxStart_of_head {ps : Nat} {c : Copy} {rest : List Copy} {f : Frame} (hlink : d.on (M.PORT_LINK port) = true)
    (hlpi : d.ports.lpi.contains port = false) (hwaking : d.stillWaking port (ps / 1000 % 2 ^ 32) = false) (hq : q < 8)
    (habove : ∀ k, q < k → k < 8 → d.macq port k = []) (hmacq : d.macq port q = c :: rest) (hpause : d.paused port q = false)
    (hfits : d.gateFits port q (ps / 1000 % 2 ^ 32) (c.bytes.length + 4) = true) (hframe : d.frame c.frame = some f) (hgood : f.bad = [])
    (hring : c.ring = none) (hptp : ptpPlace c.bytes = none) :
    ∃ held, macTxStart port ps now d =
      (d.sentOn port q held rest (c.bytes ++ toLE 4 (crcEth c.bytes))).concluded now port (ps / 1000 % 2 ^ 32) c := by
  obtain ⟨hsplit, hhigh⟩ := classes_split q hq
  have hpick : pickMac now d port (ps / 1000 % 2 ^ 32) [7, 6, 5, 4, 3, 2, 1, 0] = (some q, d) := by
    rw [hsplit]
    exact pickMac_of_highest hmacq hpause hfits fun k hk => habove k (hhigh k hk).1 (hhigh k hk).2
  unfold macTxStart
  extract_lets t
  have hasleep : ¬ (d.on (M.PORT_LINK port) = false ∨ d.ports.lpi.contains port = true ∨ d.stillWaking port t = true) := by
    rw [hlink, hlpi, show d.stillWaking port t = false from hwaking]
    decide
  rw [if_neg hasleep, hpick]
  dsimp -zeta only
  rw [hmacq]
  dsimp -zeta only
  extract_lets e held e'
  have hframe' : e'.frame c.frame = some f := by
    unfold Dev.frame
    rw [show e'.switch = _ from Dev.raiseTo_switch ..]
    exact hframe
  obtain ⟨ns, hptp'⟩ : ∃ ns, ptpTransmit e' port ps c.bytes f.source f.rxNs = (c.bytes, ns, e') := by
    unfold ptpTransmit
    rw [hptp]
    exact ⟨_, rfl⟩
  rw [hframe']
  dsimp -zeta only
  rw [if_neg (by rw [hgood]; decide), hptp', hring]
  exact ⟨held, rfl⟩

/-! ## Commands -/

theorem ttSelect_gives (port cls : Nat) {s : State} (h : s.dev.dieRuns = true) : Gives (.ttSelect port cls) s s.bell (ttSelect port cls s.bell s.dev) :=
  gives_of_onDie (f := ttSelect port cls) rfl h

theorem gateEntryChange_gives (port t : Nat) {s : State} (h : s.dev.dieRuns = true) :
    Gives (.gateEntryChange port t) s s.bell (gateEntryChange port t s.dev) :=
  gives_of_onDie (f := fun _ => gateEntryChange port t) rfl h

theorem gateOversizeDrop_gives (port cls t : Nat) {s : State} (h : s.dev.dieRuns = true) :
    Gives (.gateOversizeDrop port cls t) s s.bell (gateOversizeDrop port cls t s.bell s.dev) :=
  gives_of_onDie (f := gateOversizeDrop port cls t) rfl h

theorem macTxStart_gives (port ps : Nat) {s : State} (h : s.dev.dieRuns = true) :
    Gives (.macTxStart port ps) s s.bell (segReap (macTxStart port ps s.bell s.dev)) :=
  gives_of_onDie (f := fun now d => segReap (macTxStart port ps now d)) rfl h

end Sys2Proof.Machine

namespace Sys2Proof

open Sys2Proof.Machine

/-- Settles O31, clause by clause. That the frame goes out whole, as the step list has it, is log 28. -/
theorem framesAreScheduledAndSent : Obligations.FramesAreScheduledAndSent := by
  refine ⟨fun port cls q sub v c rest s hruns hcls hsub hroom hrate hoffers hsvc hcir hpir hqueue htag hqueueTurn hsubTurn hqueueDue hsubDue => ?_,
    fun port t s hruns => gateEntryChange_gives port t hruns,
    fun port cls t h c rest s hruns hmacq hheld hpause hfits hcycle => ?_,
    fun port ps q c rest f s hruns hlink hlpi hwaking hq habove hmacq hpause hfits hframe hgood hring hptp hsegs => ?_⟩
  · have hhead : s.dev.headLen q = c.bytes.length + 4 := by unfold Dev.headLen; rw [hqueue]
    obtain ⟨e, hselect, hqueues, hmacq, hreg⟩ := ttSelect_of_due (now := s.bell) hcls hsub hroom hrate hoffers hsvc hcir hpir hqueueTurn hsubTurn
      (hhead ▸ hqueueDue) (hhead ▸ hsubDue)
    have hequeue (k : Nat) : e.queue k = s.dev.queue k := congrArg (fun m => SMap.get (fun _ => []) m k) hqueues
    have hemacq : e.macq port cls = s.dev.macq port cls := congrArg (fun m => SMap.get (fun _ => []) m (port * 8 + cls)) hmacq
    obtain ⟨hsent, htaken, hothers, hkept⟩ := takeHead_moves (now := s.bell) (port := port) (cls := cls) v sub ((hequeue q).trans hqueue) htag
    have hgives := ttSelect_gives port cls hruns
    rw [hselect] at hgives
    exact ⟨_, hgives, hsent.trans (by rw [hemacq]), htaken, fun k hk => (hothers k hk).trans (hequeue k), hkept.trans hreg⟩
  · have hgives := gateOversizeDrop_gives port cls t hruns
    rw [gateOversizeDrop_of_held hmacq hheld hpause hfits hcycle] at hgives
    obtain ⟨hegress, hqueues, hleft⟩ := dropCopy_leaves s.bell (s.dev.oversized port cls t rest) c (M.CNT_TT_GATE_OVERSIZE port)
    have hkept := s.dev.oversized_kept port cls t rest
    exact ⟨_, hgives, (hleft ..).trans ((hkept.macq_eq ..).trans (Dev.macq_setMacq_same ..)), hegress.trans (by rw [hkept.egressHeld_eq]; rfl),
      hqueues.trans hkept.queues⟩
  · have hgives := macTxStart_gives port ps hruns
    obtain ⟨held, hstart⟩ := macTxStart_of_head (now := s.bell) hlink hlpi hwaking hq habove hmacq hpause hfits hframe hgood hring hptp
    have hkept := s.dev.sentOn_kept port q held rest (c.bytes ++ toLE 4 (crcEth c.bytes))
    obtain ⟨hegress, hleft, hrequests, hout⟩ :=
      concluded_leaves s.bell (s.dev.sentOn port q held rest (c.bytes ++ toLE 4 (crcEth c.bytes))) port (ps / 1000 % 2 ^ 32) c
    rw [hstart, segReap_of_none (hrequests.trans (hkept.segs.trans hsegs))] at hgives
    obtain ⟨more, hmore⟩ := hkept.out.trans hout
    exact ⟨_, hgives, (hleft ..).trans ((hkept.macq_eq ..).trans (Dev.macq_setMacq_same s.dev port q rest)),
      ⟨more, hmore.symm.trans (List.append_assoc ..)⟩, hegress.trans (by rw [hkept.egressHeld_eq]; rfl)⟩

end Sys2Proof

/-! The segmentation engine: what its operations leave of the requests, and how far a fetched chunk takes one. -/

namespace Sys2Proof.Machine

variable {d : Dev} {now : BellSt}

/-! ## Operations that leave the requests (R386, R387, R408, R440) -/

theorem Dev.unitAccess_segs (d : Dev) (port : Nat) (write : Bool) (t : Nat) (us : List ((Nat × Nat) × Option Bool)) :
    (d.unitAccess port write t us).segs = d.segs := by
  obtain ⟨channels, h⟩ := d.unitAccess_channels port write t us
  rw [h]

theorem Dev.lockerWrite_segs (d : Dev) (a : Nat) (bs : Bytes) (t : Nat) : (d.lockerWrite a bs t).segs = d.segs := by
  unfold Dev.lockerWrite Dev.regionUpdate Dev.regionAccess
  dsimp only
  split
  · rw [Dev.unitAccess_segs, Dev.unitAccess_segs]
  · rw [Dev.unitAccess_segs]

theorem Dev.cellsMin_keepsQueues (d : Dev) : d.KeepsQueues d.cellsMin := by
  unfold Dev.cellsMin Dev.poolMin
  dsimp only
  split_ifs <;> exact Dev.KeepsQueues.of_switch rfl rfl (List.prefix_refl _)

theorem writeCells_keepsQueues (now : BellSt) (d : Dev) (n : Nat) (f : Frame) : d.KeepsQueues (writeCells now d n f) := by
  have hcells := (Dev.KeepsQueues.foldl (fun e i => e.setBuf_keepsQueues 0 i (pipeOf f.port, 1)) (d.freeCells f.cells) d).trans
    (Dev.setFrame_keepsQueues _ n (some { f with held := d.freeCells f.cells }))
  unfold writeCells
  dsimp only
  split
  · exact hcells.trans ((Dev.setIngress_keepsQueues ..).trans ((pfcCheck_keepsQueues ..).trans
      ((Dev.addTo_keepsQueues ..).trans (Dev.cellsMin_keepsQueues _))))
  · exact hcells.trans ((Dev.addTo_keepsQueues ..).trans (Dev.cellsMin_keepsQueues _))

theorem takeCells_segs (now : BellSt) (d : Dev) (f : Frame) : (takeCells now d f).2.2.segs = d.segs := by
  unfold takeCells
  extract_lets room n fits
  split
  · exact ((writeCells_keepsQueues ..).trans (freeFrame_keepsQueues ..)).segs
  · exact (writeCells_keepsQueues now d n f).segs

theorem Dev.bumpIf_segs (d : Dev) (b : Bool) (id : Nat) : (d.bumpIf b id).segs = d.segs := by cases b <;> rfl

theorem subDrop_segs (d : Dev) (s : Nat) : (subDrop d s).segs = d.segs := rfl

theorem Dev.setQueueRow_segs (d : Dev) (i x : Nat) : (d.setQueueRow i x).segs = d.segs := by
  unfold Dev.setQueueRow
  split <;> rfl

theorem chooseSub_segs (d : Dev) (port : Nat) (ep : Option Nat) : (chooseSub d port ep).2.segs = d.segs := by
  unfold chooseSub
  dsimp only
  repeat' split
  all_goals rfl

theorem enqueueAt_segs (now : BellSt) (d : Dev) (f : Frame) (c : Copy) (ep : Option Nat) (multi : Bool) :
    (enqueueAt now d f c ep multi).2.segs = d.segs := by
  unfold enqueueAt
  extract_lets full
  split
  · rfl
  · rw [← chooseSub_segs d c.port ep]
    generalize chooseSub d c.port ep = chosen
    dsimp only
    split_ifs
    · rfl
    · rw [subDrop_segs, Dev.bumpIf_segs, Dev.bump_segs]
    · rw [subDrop_segs, Dev.bumpIf_segs, Dev.bump_segs]
    · exact (Dev.setQueueRow_segs ..).trans (tagStage_keepsQueues ..).segs

theorem enqueue_segs (now : BellSt) (d : Dev) (f : Frame) (c : Copy) (ep : Option Nat) (multi : Bool) :
    (enqueue now d f c ep multi).2.segs = d.segs := by
  unfold enqueue
  dsimp only
  split_ifs
  · exact enqueueAt_segs ..
  · exact enqueueAt_segs ..
  · rfl

theorem segSend_segs (now : BellSt) (d : Dev) (s : SegReq) : (segSend now d s).2.2.segs = d.segs := by
  unfold segSend
  extract_lets n len pay bytes f
  dsimp -zeta only
  extract_lets e
  have htaken : (takeCells now e f).2.2.segs = d.segs := (takeCells_segs ..).trans (Dev.unitAccess_segs ..)
  generalize takeCells now e f = taken at htaken ⊢
  obtain ⟨_ | i, why, g⟩ := taken
  · exact htaken
  · have hqueued : (enqueue now g f (copyOf i f bytes s.port s.cls false none) none false).2.segs = d.segs := (enqueue_segs ..).trans htaken
    dsimp only
    generalize enqueue now g f (copyOf i f bytes s.port s.cls false none) none false = ended at hqueued ⊢
    obtain ⟨_ | _, h⟩ := ended
    · exact hqueued
    · exact (releaseFrame_keepsQueues now h i).segs.trans hqueued

/-! ## The segments of a request (R213) -/

theorem SegReq.lt_count {s : SegReq} (hmss : 0 < s.mss) {k : Nat} (h : k * s.mss < s.payLen) : k < s.count := by
  refine (Nat.le_div_iff_mul_le hmss).mpr ?_
  rw [Nat.succ_mul]
  omega

/-- `t` is the request `s` once the segments that its fetched bytes hold are made. -/
structure SegReq.MadeFrom (s t : SegReq) : Prop where
  ring : t.ring = s.ring
  index : t.index = s.index
  mss : t.mss = s.mss
  payLen : t.payLen = s.payLen
  done : t.done = s.done
  made : t.seq * s.mss ≤ s.done
  next : s.done < (t.seq + 1) * s.mss

/-- Segments are made as long as the fetched bytes hold the next, and the requests of the device stay as they are. -/
theorem segMake_made {s : SegReq} {fuel : Nat} (hmss : 0 < s.mss) (hmore : s.done < s.payLen) (hseq : s.seq * s.mss ≤ s.done)
    (hfuel : s.count < fuel + s.seq) : s.MadeFrom (segMake fuel now s d).1 ∧ (segMake fuel now s d).2.segs = d.segs := by
  induction fuel generalizing s d with
  | zero => exact absurd (SegReq.lt_count hmss (hseq.trans_lt hmore)) (by omega)
  | succ fuel ih =>
    unfold segMake
    have hcount : s.seq < s.count := SegReq.lt_count hmss (hseq.trans_lt hmore)
    by_cases hnext : (s.seq + 1) * s.mss ≤ s.done
    · rw [if_pos ⟨hcount, (Nat.min_le_left ..).trans hnext⟩]
      have hsent := segSend_segs now d s
      generalize segSend now d s = sent at hsent ⊢
      dsimp -zeta only
      extract_lets lo hi chunks
      obtain ⟨⟨hring, hindex, hmss', hpayLen, hdone, hmade, hleft⟩, hsegs⟩ := ih (d := sent.2.2)
        (s := { s with seq := s.seq + 1, dropped := s.dropped || sent.1, chunks }) hmss hmore hnext (show s.count < fuel + (s.seq + 1) by omega)
      exact ⟨⟨hring, hindex, hmss', hpayLen, hdone, hmade, hleft⟩, hsegs.trans hsent⟩
    · rw [if_neg (fun h => by omega)]
      exact ⟨⟨rfl, rfl, rfl, rfl, rfl, hseq, Nat.lt_of_not_le hnext⟩, rfl⟩

/-! ## Requests whose chunks are still read (R214) -/

/-- Requests that have segments left stay, whatever becomes of their chunks. -/
theorem segReap_segs_of_unfinished {t : SegReq} (hsegs : d.segs = [t]) (ht : t.seq ≠ t.count) :
    ∃ chunks, (segReap d).segs = [{ t with chunks }] := by
  unfold segReap
  extract_lets d₁ free gone d₂ d₃
  have hfreed : d₂.segs = d₁.segs := by
    obtain ⟨reg, pools, h⟩ := foldl_poolFree_frame gone 0x21 (fun b => 3 * 2 ^ 61 + b * 16384) d₁
    rw [show d₂ = _ from h]
  have hleft : d₃.segs = _ := (congrArg (List.map _) (hfreed.trans (congrArg (List.map _) hsegs)))
  show ∃ chunks, d₃.segs.filter _ = _
  rw [hleft]
  refine ⟨_, List.filter_cons_of_pos ?_⟩
  show (!(t.seq == t.count && _)) = true
  rw [beq_false_of_ne ht]
  rfl

theorem Dev.withSegs_self {segs : List SegReq} (h : segs = d.segs) : { d with segs } = d := by rw [h]

/-- A request that holds no chunk has none to free. -/
theorem segReap_of_unfetched {r : SegReq} (hsegs : d.segs = [r]) (hchunks : r.chunks = []) (hr : r.seq ≠ r.count) : segReap d = d := by
  have hkept (f : Nat × List Nat → Nat × List Nat) : { r with chunks := r.chunks.map f } = r := by
    rw [hchunks, List.map_nil, ← hchunks]
  have hmap (f : Nat × List Nat → Nat × List Nat) : d.segs.map (fun s => { s with chunks := s.chunks.map f }) = d.segs := by
    rw [hsegs, List.map_singleton, hkept]
  unfold segReap
  extract_lets d₁ free gone d₂ d₃
  have hd₁ : d₁ = d := Dev.withSegs_self (hmap _)
  have hgone : gone = [] := by
    show d₁.segs.flatMap _ = []
    rw [hd₁, hsegs, List.flatMap_singleton, hchunks]
    rfl
  have hd₂ : d₂ = d := by
    show gone.foldl _ d₁ = d
    rw [hgone, hd₁, List.foldl_nil]
  have hd₃ : d₃ = d := by
    show { d₂ with segs := d₂.segs.map _ } = d
    rw [hd₂]
    exact Dev.withSegs_self (hmap _)
  rw [hd₃]
  refine Dev.withSegs_self ?_
  rw [hsegs]
  refine List.filter_cons_of_pos ?_
  rw [beq_false_of_ne hr]
  rfl

/-! ## The first chunk (R213, R214, R401) -/

/-- A request that has fetched a full chunk into a buffer of the reserve, short of the segments this allows. -/
def SegReq.fetched (r : SegReq) (b : Nat) : SegReq := { r with done := r.done + 16384, chunks := r.chunks ++ [(b, [])] }

theorem segChunkFetch_first {data : Bytes} {r : SegReq} {b : Nat} {e : Dev} (hsegs : d.segs = [r]) (hseq : r.seq = 0) (hdone : r.done = 0)
    (hchunks : r.chunks = []) (hmss : 0 < r.mss) (hlong : 16384 < r.payLen) (halloc : segAlloc d = some (b, e)) (hesegs : e.segs = d.segs) :
    ∃ t, (segChunkFetch data now d).segs = [t] ∧ t.ring = r.ring ∧ t.index = r.index ∧ t.done = 16384 ∧ t.seq < t.count ∧
      t.seq * r.mss ≤ 16384 ∧ 16384 < (t.seq + 1) * r.mss := by
  have hcount : r.seq < r.count := SegReq.lt_count hmss (by rw [hseq]; omega)
  have hserved : d.segs.find? (fun s => decide (s.seq < s.count)) = some r := by
    rw [hsegs]
    exact List.find?_cons_of_pos (decide_eq_true hcount)
  unfold segChunkFetch
  extract_lets d₀
  rw [show d₀ = d from segReap_of_unfetched hsegs hchunks hcount.ne, hserved]
  dsimp -zeta only
  rw [halloc]
  dsimp -zeta only
  extract_lets n f g
  have hn : n = 16384 := Nat.min_eq_left (by omega)
  clear_value n
  subst hn
  obtain ⟨⟨hring, hindex, hmss', hpayLen, hfetched, hmade, hnext⟩, hkept⟩ := segMake_made (now := now) (d := f) (s := r.fetched b)
    (fuel := r.count + 1) hmss (show r.done + 16384 < r.payLen by omega) (show r.seq * r.mss ≤ r.done + 16384 by rw [hseq]; omega)
    (show r.count < r.count + 1 + r.seq by omega)
  have hdone' : (r.fetched b).done = 16384 := show r.done + 16384 = 16384 by omega
  have hfsegs : f.segs = [r] := (Dev.lockerWrite_segs ..).trans (hesegs.trans hsegs)
  have hgsegs : g.segs = [(segMake (r.count + 1) now (r.fetched b) f).1] := by
    show (segMake (r.count + 1) now (r.fetched b) f).2.segs.map _ = _
    rw [hkept, hfsegs, List.map_singleton, if_pos ⟨rfl, rfl⟩]
    rfl
  rw [hdone'] at hmade hnext hfetched
  have hleft : (segMake (r.count + 1) now (r.fetched b) f).1.seq < (segMake (r.count + 1) now (r.fetched b) f).1.count := by
    refine SegReq.lt_count (by rw [hmss']; exact hmss) ?_
    rw [hmss', hpayLen]
    exact hmade.trans_lt hlong
  obtain ⟨chunks, hreaped⟩ := segReap_segs_of_unfinished hgsegs hleft.ne
  exact ⟨_, (congrArg Dev.segs (if_neg hleft.ne)).trans hreaped, hring, hindex, hfetched, hleft, hmade, hnext⟩

/-! ## The command -/

theorem segChunkFetch_gives (data : Bytes) {s : State} (h : s.dev.dieRuns = true) :
    Gives (.segChunkFetch data) s s.bell (segChunkFetch data s.bell s.dev) :=
  gives_of_onDie (f := segChunkFetch data) rfl h

end Sys2Proof.Machine

namespace Sys2Proof

open Sys2Proof.Machine

/-- Settles O32: the segments whose bytes are fetched are made in order, and the fetch of 16 KiB (R213, R214) into a buffer of the
reserve (R401) leaves some to make. -/
theorem segmentationFetchesChunks : Obligations.SegmentationFetchesChunks :=
  fun data _ _ _ _ hruns hsegs hseq hdone hchunks hmss hlong halloc hkept =>
    ⟨_, segChunkFetch_gives data hruns, segChunkFetch_first hsegs hseq hdone hchunks hmss hlong halloc hkept⟩

end Sys2Proof

/-! The entries of descriptor rings, as they start. -/

namespace Sys2Proof.Machine

variable {d : Dev} {now : BellSt} {r : Nat} {e : REntry}

/-! ## Position 0 of a completed entry (R467, R473) -/

theorem fld_donePos (pos : Bytes) (st : Nat) {lo w : Nat} (h : lo + w ≤ 128) :
    fld (leVal (donePos pos st)) lo w = fld (setFld (setFld (leVal (fit 16 pos)) 17 1 1) 48 16 st) lo w := by
  unfold donePos
  rw [leVal_toLE, show (256 : Nat) ^ 16 = 2 ^ 128 by norm_num, fld_mod_two_pow _ h]

theorem donePos_done (pos : Bytes) (st : Nat) : fld (leVal (donePos pos st)) 17 1 = 1 := by
  rw [fld_donePos _ _ (by decide), fld_setFld_other _ _ (by decide), fld_setFld_same]
  rfl

theorem donePos_status (pos : Bytes) {st : Nat} (h : st < 65536) : fld (leVal (donePos pos st)) 48 16 = st := by
  rw [fld_donePos _ _ (by decide), fld_setFld_same]
  exact Nat.mod_eq_of_lt h

/-- Every field of position 0 but DONE and STATUS is kept. -/
theorem donePos_other (pos : Bytes) (st : Nat) {lo w : Nat} (hin : lo + w ≤ 128) (hdone : lo + w ≤ 17 ∨ 18 ≤ lo)
    (hstatus : lo + w ≤ 48 ∨ 64 ≤ lo) : fld (leVal (donePos pos st)) lo w = fld (leVal (fit 16 pos)) lo w := by
  rw [fld_donePos _ _ hin, fld_setFld_other _ _ hstatus, fld_setFld_other _ _ hdone]

/-! ## One entry changes (R473) -/

theorem Ring.amend_map {β : Type} (x : Ring) (i : Nat) {f : REntry → REntry} {g : REntry → β} (hg : ∀ e, g (f e) = g e) :
    (x.amend i f).entries.map g = x.entries.map g := by
  unfold Ring.amend
  rw [List.map_map]
  refine List.map_congr_left fun e _ => ?_
  rw [Function.comp_apply]
  split
  · exact hg e
  · rfl

/-- The entries of an amended ring: the one at its index is changed, and every other is as it was. -/
theorem Ring.mem_amend {x : Ring} {i : Nat} {f : REntry → REntry} {y : REntry} (hy : y ∈ (x.amend i f).entries)
    (hf : ∀ e, (f e).index = e.index) : if y.index = i then ∃ e, y = f e else y ∈ x.entries := by
  obtain ⟨e, he, rfl⟩ := List.mem_map.mp hy
  by_cases hi : e.index = i
  · rw [if_pos hi, if_pos ((hf e).trans hi)]
    exact ⟨e, rfl⟩
  · rw [if_neg hi, if_neg hi]
    exact he

theorem finishEntry_ring (d : Dev) (r i st : Nat) : (finishEntry d r i st).ring r =
    (d.ring r).amend i (fun e => { e with started := true, fin := some (st, donePos e.bytes st) }) := Dev.ring_setRing_same ..

theorem Dev.started_ring (d : Dev) (r i : Nat) : (d.started r i).ring r = (d.ring r).amend i (fun e => { e with started := true }) :=
  Dev.ring_setRing_same ..

theorem finishEntry_entry {i st : Nat} {y : REntry} (hy : y ∈ ((finishEntry d r i st).ring r).entries) :
    if y.index = i then y.started = true ∧ y.fin = some (st, donePos y.bytes st) else y ∈ (d.ring r).entries := by
  rw [finishEntry_ring] at hy
  have hmem := Ring.mem_amend hy fun _ => rfl
  split at hmem
  case isTrue hi =>
    obtain ⟨e, rfl⟩ := hmem
    exact (if_pos hi).mpr ⟨rfl, rfl⟩
  case isFalse hi => exact (if_neg hi).mpr hmem

theorem Dev.started_entry {i : Nat} {y : REntry} (hy : y ∈ ((d.started r i).ring r).entries) :
    if y.index = i then y.started = true else y ∈ (d.ring r).entries := by
  rw [Dev.started_ring] at hy
  have hmem := Ring.mem_amend hy fun _ => rfl
  split at hmem
  case isTrue hi =>
    obtain ⟨e, rfl⟩ := hmem
    exact (if_pos hi).mpr rfl
  case isFalse hi => exact (if_neg hi).mpr hmem

/-! ## NOP and RX_BUF (R468, R472) -/

theorem ringNop_of_next (h : d.nextEntry r 0 = some e) : ringNop r d = finishEntry d r e.index St.OK := by
  unfold ringNop
  rw [h]

theorem rxBuf_of_next (h : d.nextEntry r 0x10 = some e) : rxBuf r d = d.started r e.index := by
  unfold rxBuf
  rw [h]

/-! ## TX_FRAME (R469) -/

theorem txFrame_of_length {data : Bytes} (h : d.nextEntry r 1 = some e) (hready : d.pins.ready = true) (hbusy : d.segBusy r = false)
    (hlen : txLength e.bytes < 60 ∨ d.rd (M.PORT_MAX_FRAME (fld (posAt e.bytes 1) 16 8)) < txLength e.bytes + 4) :
    txFrame r data now d = finishEntry d r e.index St.RANGE := by
  unfold txFrame
  rw [h]
  dsimp only
  rw [if_neg (by simp [hready, hbusy]), if_pos hlen]

/-- The bytes of a TX_FRAME: inline, or what its buffers hold. -/
def REntry.frameBytes (e : REntry) (data : Bytes) : Bytes :=
  if bitOf (posAt e.bytes 1) 11 then slice e.bytes 32 (txLength e.bytes) else fit (txLength e.bytes) data

theorem txFrame_of_direct {data : Bytes} (h : d.nextEntry r 1 = some e) (hready : d.pins.ready = true) (hbusy : d.segBusy r = false)
    (hdirect : bitOf (posAt e.bytes 1) 12 = false) (hmin : 60 ≤ txLength e.bytes)
    (hmax : txLength e.bytes + 4 ≤ d.rd (M.PORT_MAX_FRAME (fld (posAt e.bytes 1) 16 8))) :
    txFrame r data now d = txCopy now d r e.index (fld (posAt e.bytes 1) 16 8) (fld (posAt e.bytes 1) 13 3) (e.frameBytes data) := by
  unfold txFrame
  rw [h]
  dsimp only
  rw [if_neg (by simp [hready, hbusy]), if_neg (by omega), if_neg (by simp [hdirect])]
  rfl

/-- The frame that the host's bytes become in the packet buffer. -/
def hostFrame (port cls : Nat) (bytes : Bytes) : Frame :=
  { bytes, port, cls, rxNs := 0, cells := cellsOf (bytes.length + 4), limited := false, lossless := false, source := 1, held := [], bad := [] }

/-- A frame that is no event message and finds room in the packet buffer and in its queue ends its descriptor as it is queued. -/
theorem txCopy_of_queued {i port cls n why : Nat} {bytes : Bytes} {d1 d2 : Dev} (hptp : ptpPlace bytes = none)
    (hcells : takeCells now d (hostFrame port cls bytes) = (some n, why, d1))
    (hqueued : enqueue now d1 (hostFrame port cls bytes) (copyOf n (hostFrame port cls bytes) bytes port cls false none) none false =
      (.queued, d2)) : txCopy now d r i port cls bytes = finishEntry d2 r i St.OK := by
  unfold hostFrame copyOf at hqueued
  unfold hostFrame at hcells
  unfold txCopy copyOf
  dsimp only at hcells hqueued ⊢
  rw [hcells, hptp]
  simp only [Option.isSome_none, Bool.false_and, Bool.false_eq_true, if_false, hqueued]

/-! ## TX_SEG (R212, R470) -/

/-- The segmentation request of a TX_SEG with a header. -/
def REntry.segReq (r : Nat) (e : REntry) (hdr : Bytes) : SegReq :=
  { ring := r, index := e.index, port := fld (posAt e.bytes 1) 16 8, cls := fld (posAt e.bytes 1) 13 3, mss := fld (posAt e.bytes 1) 48 16,
    hdr := fit (pos0BufLen e.bytes) hdr, payAddr := pos0Addr e.bytes, payLen := fld (posAt e.bytes 1) 28 19, done := 0, seq := 0,
    dropped := false, chunks := [] }

theorem txSeg_of_badHeader {hdr : Bytes} (h : d.nextEntry r 2 = some e) (hready : d.pins.ready = true)
    (hbad : pos0BufLen e.bytes = 0 ∨ 256 < pos0BufLen e.bytes ∨ segHeaderOk (fit (pos0BufLen e.bytes) hdr) = false) :
    txSeg r hdr d = segRefused d r (fld (posAt e.bytes 1) 16 8) e.index St.PORT_SEG_HEADER := by
  unfold txSeg
  rw [h]
  dsimp only
  rw [if_neg (by simp [hready]), if_pos hbad]

theorem txSeg_of_badSize {hdr : Bytes} (h : d.nextEntry r 2 = some e) (hready : d.pins.ready = true)
    (hmin : 1 ≤ pos0BufLen e.bytes) (hmax : pos0BufLen e.bytes ≤ 256) (hok : segHeaderOk (fit (pos0BufLen e.bytes) hdr) = true)
    (hsize : fld (posAt e.bytes 1) 48 16 = 0 ∨
      d.rd (M.PORT_MAX_FRAME (fld (posAt e.bytes 1) 16 8)) < pos0BufLen e.bytes + fld (posAt e.bytes 1) 48 16 + 4) :
    txSeg r hdr d = segRefused d r (fld (posAt e.bytes 1) 16 8) e.index St.PORT_SEG_SIZE := by
  unfold txSeg
  rw [h]
  dsimp only
  rw [if_neg (by simp [hready]), if_neg (by simp [hok]; omega), if_pos hsize]

theorem txSeg_of_ok {hdr : Bytes} (h : d.nextEntry r 2 = some e) (hready : d.pins.ready = true)
    (hmin : 1 ≤ pos0BufLen e.bytes) (hmax : pos0BufLen e.bytes ≤ 256) (hok : segHeaderOk (fit (pos0BufLen e.bytes) hdr) = true)
    (hmss : fld (posAt e.bytes 1) 48 16 ≠ 0)
    (hsize : pos0BufLen e.bytes + fld (posAt e.bytes 1) 48 16 + 4 ≤ d.rd (M.PORT_MAX_FRAME (fld (posAt e.bytes 1) 16 8))) :
    txSeg r hdr d = { d.started r e.index with segs := d.segs ++ [e.segReq r hdr] } := by
  unfold txSeg
  rw [h]
  dsimp only
  rw [if_neg (by simp [hready]), if_neg (by simp [hok]; omega), if_neg (by omega)]
  rfl

/-! ## TASK (R471) -/

/-- The task of a TASK descriptor. -/
def REntry.task (r : Nat) (e : REntry) : TaskRec :=
  { TaskRec.new (pos0Addr e.bytes % 16) 9 (fld (pos0Addr e.bytes) 8 3) with word := slice e.bytes 16 32, host := some (r, e.index) }

theorem ringTask_of_ready {n : Nat} {d1 : Dev} (h : d.nextEntry r 3 = some e) (hrun : d.gated (pos0Addr e.bytes % 16) = false)
    (hmade : makeReady now d (e.task r) = (some n, d1)) : ringTask r now d = fetchWaiting (d1.started r e.index) r := by
  unfold REntry.task at hmade
  unfold ringTask
  rw [h]
  dsimp only at hmade ⊢
  rw [if_neg (by simp [hrun]), hmade]

theorem ringTask_of_gated (h : d.nextEntry r 3 = some e) (hgated : d.gated (pos0Addr e.bytes % 16) = true) :
    ringTask r now d = finishEntry d r e.index St.NOT_ALLOWED := by
  unfold ringTask
  rw [h]
  exact if_pos hgated

/-! ## Commands -/

/-- A ring whose next entry has another operation, or that is not enabled, starts nothing. -/
theorem ring_starts_nothing (r : Nat) (data : Bytes) (s : State) :
    (s.dev.nextEntry r 0 = none → exec (.ringNop r) s = .next s) ∧ (s.dev.nextEntry r 0x10 = none → exec (.rxBuf r) s = .next s) ∧
    (s.dev.nextEntry r 1 = none → exec (.txFrame r data) s = .next s) ∧ (s.dev.nextEntry r 2 = none → exec (.txSeg r data) s = .next s) ∧
    (s.dev.nextEntry r 3 = none → exec (.ringTask r) s = .next s) := by
  refine ⟨fun h => exec_of_onDie_keeps (f := fun _ => ringNop r) rfl ?_, fun h => exec_of_onDie_keeps (f := fun _ => rxBuf r) rfl ?_,
    fun h => exec_of_onDie_keeps (f := txFrame r data) rfl ?_, fun h => exec_of_onDie_keeps (f := fun _ => txSeg r data) rfl ?_,
    fun h => exec_of_onDie_keeps (f := ringTask r) rfl ?_⟩
  · unfold ringNop
    rw [h]
  · unfold rxBuf
    rw [h]
  · unfold txFrame
    rw [h]
  · unfold txSeg
    rw [h]
  · unfold ringTask
    rw [h]

theorem ringNop_gives (r : Nat) {s : State} (h : s.dev.dieRuns = true) : Gives (.ringNop r) s s.bell (ringNop r s.dev) :=
  gives_of_onDie (f := fun _ => ringNop r) rfl h

theorem rxBuf_gives (r : Nat) {s : State} (h : s.dev.dieRuns = true) : Gives (.rxBuf r) s s.bell (rxBuf r s.dev) :=
  gives_of_onDie (f := fun _ => rxBuf r) rfl h

theorem txFrame_gives (r : Nat) (data : Bytes) {s : State} (h : s.dev.dieRuns = true) :
    Gives (.txFrame r data) s s.bell (txFrame r data s.bell s.dev) := gives_of_onDie (f := txFrame r data) rfl h

theorem txSeg_gives (r : Nat) (hdr : Bytes) {s : State} (h : s.dev.dieRuns = true) :
    Gives (.txSeg r hdr) s s.bell (txSeg r hdr s.dev) := gives_of_onDie (f := fun _ => txSeg r hdr) rfl h

theorem ringTask_gives (r : Nat) {s : State} (h : s.dev.dieRuns = true) :
    Gives (.ringTask r) s s.bell (ringTask r s.bell s.dev) := gives_of_onDie (f := ringTask r) rfl h

end Sys2Proof.Machine

namespace Sys2Proof

open Sys2Proof.Machine

/-- Settles O52, clause by clause. That a TX_FRAME ends with ST_OK as its frame is queued is log 57. -/
theorem ringEntriesStart : Obligations.RingEntriesStart := by
  refine ⟨fun pos st hst => ⟨length_toLE .., donePos_done .., donePos_status _ hst, donePos_other _ _ (by decide) (by decide) (by decide),
      donePos_other _ _ (by decide) (by decide) (by decide)⟩, ring_starts_nothing,
    fun r e s hruns hnext => ?_, fun r e s hruns hnext => ?_, fun r data e s hruns hnext hready hbusy hlen => ?_,
    fun r n b data e d1 d2 s hruns hnext hready hbusy hdirect hmin hmax hptp hcells hqueued => ?_,
    fun r hdr e s hruns hnext hready hmin hmax hok hmss hsize => ?_, fun r hdr e s hruns hnext hready hbad => ?_,
    fun r hdr e s hruns hnext hready hmin hmax hok hsize => ?_, fun r n e d1 s hruns hnext hrun hmade => ?_,
    fun r e s hruns hnext hgated => ?_⟩
  · have hgives := ringNop_gives r hruns
    rw [ringNop_of_next hnext] at hgives
    exact ⟨_, hgives, rfl, finishEntry_ring .. ▸ Ring.amend_map _ _ fun _ => rfl, fun _ => finishEntry_entry⟩
  · have hgives := rxBuf_gives r hruns
    rw [rxBuf_of_next hnext] at hgives
    exact ⟨_, hgives, rfl, Dev.started_ring .. ▸ Ring.amend_map _ _ fun _ => rfl, fun _ => Dev.started_entry⟩
  · have hgives := txFrame_gives r data hruns
    rwa [txFrame_of_length hnext hready hbusy hlen] at hgives
  · have hgives := txFrame_gives r data hruns
    rwa [txFrame_of_direct hnext hready hbusy hdirect hmin hmax, txCopy_of_queued (bytes := e.frameBytes data) hptp hcells hqueued] at hgives
  · have hgives := txSeg_gives r hdr hruns
    rw [txSeg_of_ok hnext hready hmin hmax hok hmss hsize] at hgives
    refine ⟨_, hgives, rfl, fun x hx hi => ?_⟩
    exact (if_pos hi).mp (Dev.started_entry hx)
  · have hgives := txSeg_gives r hdr hruns
    rwa [txSeg_of_badHeader hnext hready hbad] at hgives
  · have hgives := txSeg_gives r hdr hruns
    rwa [txSeg_of_badSize hnext hready hmin hmax hok hsize] at hgives
  · have hgives := ringTask_gives r hruns
    rwa [ringTask_of_ready hnext hrun hmade] at hgives
  · have hgives := ringTask_gives r hruns
    rwa [ringTask_of_gated hnext hgated] at hgives

end Sys2Proof

/-! What a packet's tag, its cells and pause frames leave of the parser, and what a malformed packet and a new station's notice do. -/

namespace Sys2Proof.Machine

variable {d e : Dev} {now : BellSt}

/-- `e` has the descriptors, the packets that wait to be parsed and the members of the parser (class 20) of `d`. -/
structure Dev.KeepsParser (d e : Dev) : Prop where
  descs : e.descs = d.descs
  arrivals : e.ports.arrivals = d.ports.arrivals
  rd : ∀ id, id / 2 ^ 24 = 0x20 → e.rd id = d.rd id

namespace Dev.KeepsParser

theorem of_reg (hdescs : e.descs = d.descs) (harrivals : e.ports.arrivals = d.ports.arrivals) (hreg : e.reg = d.reg) : d.KeepsParser e :=
  ⟨hdescs, harrivals, fun id _ => Dev.rd_of_reg hreg id⟩

theorem refl (d : Dev) : d.KeepsParser d := of_reg rfl rfl rfl

theorem trans {f : Dev} (h : d.KeepsParser e) (h' : e.KeepsParser f) : d.KeepsParser f :=
  ⟨h'.descs.trans h.descs, h'.arrivals.trans h.arrivals, fun id hid => (h'.rd id hid).trans (h.rd id hid)⟩

theorem foldl {α : Type} {f : Dev → α → Dev} (h : ∀ d a, Dev.KeepsParser d (f d a)) (as : List α) (d : Dev) : d.KeepsParser (as.foldl f d) :=
  List.foldlRecOn as f (motive := fun e : Dev => d.KeepsParser e) (refl d) fun e he a _ => he.trans (h e a)

theorem emit (h : d.KeepsParser e) {o : Out} : d.KeepsParser (e.emit o) := h.trans (of_reg rfl rfl rfl)

/-- A member of another class is stored. -/
theorem wr (h : d.KeepsParser e) {id v : Nat} (hid : id / 2 ^ 24 ≠ 0x20) : d.KeepsParser (e.wr id v) :=
  h.trans ⟨rfl, rfl, fun _ hk => Dev.rd_wr_other _ _ _ _ fun heq => hid (heq ▸ hk)⟩

theorem addTo (h : d.KeepsParser e) {id n : Nat} (hid : id / 2 ^ 24 ≠ 0x20) : d.KeepsParser (e.addTo id n) := h.wr hid

theorem bump (h : d.KeepsParser e) {id : Nat} (hid : id / 2 ^ 24 ≠ 0x20) : d.KeepsParser (e.bump id) := h.addTo hid

theorem bumpIf (h : d.KeepsParser e) {c : Bool} {id : Nat} (hid : id / 2 ^ 24 ≠ 0x20) : d.KeepsParser (e.bumpIf c id) := by
  cases c
  · exact h
  · exact h.bump hid

end Dev.KeepsParser

open Dev.KeepsParser (of_reg)

/-! ## Pause frames and cells (R389, R393) -/

theorem leaveLpi_keepsParser (now : BellSt) (d : Dev) (port : Nat) : d.KeepsParser (leaveLpi now d port) := by
  unfold leaveLpi
  split
  · exact .refl d
  · exact of_reg rfl rfl rfl

theorem sendPause_keepsParser (now : BellSt) (d : Dev) {port counter : Nat} (cls quanta : Nat) (hport : port < 256)
    (hcounter : counter / 2 ^ 24 ≠ 0x20) : d.KeepsParser (sendPause now d port cls quanta counter) := by
  unfold sendPause macSends
  split
  · exact .refl d
  · have hmade : d.KeepsParser (pauseFrame d port cls quanta).2 := of_reg rfl rfl rfl
    have hawake := hmade.trans (leaveLpi_keepsParser now _ port)
    exact .bump (.addTo (.bump hawake.emit (by grind)) (by grind)) hcounter

theorem pfcCheck_keepsParser (now : BellSt) (d : Dev) {port : Nat} (cls : Nat) (hport : port < 256) :
    d.KeepsParser (pfcCheck now d port cls) := by
  have hsend (e : Dev) (quanta : Nat) : e.KeepsParser (sendPause now e port cls quanta (M.CNT_PFC_TX port)) :=
    sendPause_keepsParser now e cls quanta hport (by grind)
  have hxoff (e : Dev) (xoff : List (Nat × Nat)) : e.KeepsParser (e.withXoff xoff) := of_reg rfl rfl rfl
  unfold pfcCheck
  dsimp only
  split_ifs
  · exact .refl d
  · exact (hsend d _).trans (hxoff _ _)
  · exact hxoff d _
  · exact (hxoff d _).trans (hsend _ _)
  · exact .refl d

theorem Dev.withReleased_keepsParser (d : Dev) (n : Nat) (f : Frame) (gone rest : List Nat) : d.KeepsParser (d.withReleased n f gone rest) := by
  have hfreed := Dev.KeepsParser.foldl (f := fun e i => e.setBuf 0 i (freeBuf 0)) (fun _ _ => of_reg rfl rfl rfl) gone d
  have hcounted := Dev.KeepsParser.foldl (f := fun e i => e.setBuf 0 i ((e.buf 0 i).1, (e.buf 0 i).2 - 1)) (fun _ _ => of_reg rfl rfl rfl) rest
  have hframe (e : Dev) : e.KeepsParser (e.setFrame n (f.without gone)) := of_reg rfl rfl rfl
  exact (hfreed.trans ((hcounted _).trans (hframe _))).addTo (by decide)

theorem freeFrame_keepsParser (now : BellSt) {n : Nat} {f : Frame} (h : d.frame n = some f) (hport : f.port < 256) :
    d.KeepsParser (freeFrame now d n) := by
  have hreleased (gone rest : List Nat) := d.withReleased_keepsParser n f gone rest
  have hingress (e : Dev) (k : Nat) : e.KeepsParser (e.setIngress f.port f.cls k) := of_reg rfl rfl rfl
  unfold freeFrame
  rw [releaseCells_of_frame now h]
  dsimp only
  split
  · exact (hreleased _ _).trans ((hingress _ _).trans (pfcCheck_keepsParser now _ f.cls hport))
  · exact hreleased _ _

/-- A frame whose cells are freed, whatever copies of it are left, is gone. -/
theorem freeFrame_frame (now : BellSt) {n : Nat} {f : Frame} (h : d.frame n = some f) : (freeFrame now d n).frame n = none := by
  have hgone : (d.releasedCells f f.held true).1 = f.held := by
    unfold Dev.releasedCells
    rw [List.partition_eq_filter_filter, List.filter_filter]
    exact List.filter_eq_self.mpr fun i hi => by simp [hi]
  unfold freeFrame Dev.cellsOfFrame
  rw [h]
  dsimp only
  rw [releaseCells_frame now h, hgone, f.without_held]

/-! ## Tags (R545 to R548) -/

theorem tagPick_keepsParser (d : Dev) (p : Nat) : d.KeepsParser (tagPick d p).2 := by
  have hstepped : d.KeepsParser (d.setLfsr p (lfsrStep (d.lfsr p))) := of_reg rfl rfl rfl
  exact hstepped.bumpIf (by grind)

theorem tagPick_switch (d : Dev) (p : Nat) : (tagPick d p).2.switch = d.switch := by
  unfold tagPick Dev.bumpIf
  dsimp only
  split <;> rfl

theorem tagWrite_keepsParser (d : Dev) (t : Option Tag) (fate drop : Nat) : d.KeepsParser (tagWrite d t fate drop) := by
  cases t with
  | none => exact .refl d
  | some x =>
    have hnoted (perf : Perf) : d.KeepsParser { d with perf } := of_reg rfl rfl rfl
    unfold tagWrite
    dsimp only
    split
    · exact .bump (.refl d) (by grind)
    · exact ((hnoted _).wr (by grind)).bump (by grind)

theorem tagWrite_switch (d : Dev) (t : Option Tag) (fate drop : Nat) : (tagWrite d t fate drop).switch = d.switch := by
  cases t with
  | none => rfl
  | some x =>
    unfold tagWrite
    dsimp only
    split <;> rfl

theorem Desc.stamp_keepsParser (now : BellSt) (d : Dev) (x : Desc) (lo : Nat) : d.KeepsParser (x.stamp_ now d lo).2 := by
  unfold Desc.stamp_ tagStage
  cases x.tag <;> exact of_reg rfl rfl rfl

theorem Desc.stamp_switch (now : BellSt) (d : Dev) (x : Desc) (lo : Nat) : (x.stamp_ now d lo).2.switch = d.switch := by
  unfold Desc.stamp_ tagStage
  cases x.tag <;> rfl

/-! ## A packet dropped in its pipe (R226, R393) -/

theorem dropPacket_keepsParser (now : BellSt) {x : Desc} {f : Frame} (counter : Nat) (hframe : d.frame x.frame = some f)
    (hport : f.port < 256) : d.KeepsParser (dropPacket now d x counter) := by
  have hcounted : d.KeepsParser (d.bump (M.PERF_SLOT_WASTED x.pipe)) := (Dev.KeepsParser.refl d).bump (by grind)
  have hwritten := hcounted.trans (tagWrite_keepsParser _ (x.tagBit 383 1 1).tag 5 counter)
  refine hwritten.trans (freeFrame_keepsParser now ?_ hport)
  rw [Dev.frame, tagWrite_switch]
  exact hframe

theorem dropPacket_frame (now : BellSt) {x : Desc} {f : Frame} (counter : Nat) (hframe : d.frame x.frame = some f) :
    (dropPacket now d x counter).frame x.frame = none := by
  refine freeFrame_frame now (f := f) ?_
  rw [Dev.frame, tagWrite_switch]
  exact hframe

/-! ## A pass of a malformed packet (R223 to R226) -/

/-- The counters of the malformed causes stand from member 0x10 up in their class. -/
theorem malformedCounter_member (code pipe : Nat) : 16 ≤ malformedCounter code pipe % 256 := by
  unfold malformedCounter
  split <;> grind

theorem malformedPass_of_drop {x : Desc} (h : d.rd M.PARSER_MALFORMED_ACTION = 0) :
    malformedPass now d x =
      dropPacket now ((d.bump (malformedCounter x.hdr.malformed x.pipe)).bump (M.CNT_MALFORMED x.pipe)) x
        (malformedCounter x.hdr.malformed x.pipe) := by
  have hmember := malformedCounter_member x.hdr.malformed x.pipe
  have haction : ((d.bump (malformedCounter x.hdr.malformed x.pipe)).bump (M.CNT_MALFORMED x.pipe)).rd M.PARSER_MALFORMED_ACTION = 0 := by
    rw [Dev.rd_bump_other _ _ _ (by grind), Dev.rd_bump_other _ _ _ (by grind), h]
  unfold malformedPass
  dsimp only
  rw [haction, if_neg (by decide), if_neg (by decide)]

/-- What a malformed packet leaves with action DROP: it is counted, its frame is gone, and the packets that wait stay. -/
theorem malformedPass_leaves {x : Desc} {f : Frame} (hframe : d.frame x.frame = some f) (hport : f.port < 256)
    (haction : d.rd M.PARSER_MALFORMED_ACTION = 0) (hpipe : x.pipe < 16) :
    let e := malformedPass now d x
    e.descs = d.descs ∧ e.ports.arrivals = d.ports.arrivals ∧ e.frame x.frame = none ∧
      e.rd (M.CNT_PARSED x.pipe) = d.rd (M.CNT_PARSED x.pipe) ∧
      e.rd (M.CNT_MALFORMED x.pipe) = (d.rd (M.CNT_MALFORMED x.pipe) + 1) % 2 ^ 64 := by
  let c := malformedCounter x.hdr.malformed x.pipe
  let counted := (d.bump c).bump (M.CNT_MALFORMED x.pipe)
  have hmember : 16 ≤ c % 256 := malformedCounter_member ..
  have hcounted : counted.frame x.frame = some f := hframe
  have hdropped : counted.KeepsParser (dropPacket now counted x c) := dropPacket_keepsParser now c hcounted hport
  rw [malformedPass_of_drop haction]
  refine ⟨hdropped.descs, hdropped.arrivals, dropPacket_frame now c hcounted, ?_, ?_⟩
  · rw [hdropped.rd _ (by grind), Dev.rd_bump_other _ _ _ (by grind), Dev.rd_bump_other _ _ _ (by grind)]
  · rw [hdropped.rd _ (by grind), Dev.rd_bump_same, Dev.rd_bump_other _ _ _ (by grind)]

/-- A descriptor with the header vector of its frame, and a new tag where its pass is tagged. -/
def Desc.parsed (x : Desc) (now : BellSt) (f : Frame) (tagged : Bool) : Desc :=
  let y := { x with hdr := parseFrame x.bytes f.port f.cls }
  { y with tag := if tagged then some (passTag now y f.rxNs) else none }

theorem parsePass_of_malformed {x : Desc} {f : Frame} (tagged : Bool) (hframe : d.frame x.frame = some f)
    (hbad : (parseFrame x.bytes f.port f.cls).malformed ≠ 0) :
    let r := (x.parsed now f tagged).stamp_ now (d.bump (M.CNT_PARSED x.pipe)) 312
    parsePass now d x tagged = malformedPass now r.2 r.1 := by
  have hstamped : ((x.parsed now f tagged).stamp_ now (d.bump (M.CNT_PARSED x.pipe)) 312).1.hdr.malformed ≠ 0 := hbad
  unfold parsePass
  rw [hframe]
  exact if_pos hstamped

/-- What a pass of a malformed packet leaves with action DROP. -/
theorem parsePass_leaves {x : Desc} {f : Frame} (tagged : Bool) (hframe : d.frame x.frame = some f) (hport : f.port < 256)
    (hbad : (parseFrame x.bytes f.port f.cls).malformed ≠ 0) (haction : d.rd M.PARSER_MALFORMED_ACTION = 0) (hpipe : x.pipe < 16) :
    let e := parsePass now d x tagged
    e.descs = d.descs ∧ e.ports.arrivals = d.ports.arrivals ∧ e.frame x.frame = none ∧
      e.rd (M.CNT_PARSED x.pipe) = (d.rd (M.CNT_PARSED x.pipe) + 1) % 2 ^ 64 ∧
      e.rd (M.CNT_MALFORMED x.pipe) = (d.rd (M.CNT_MALFORMED x.pipe) + 1) % 2 ^ 64 := by
  let counted := d.bump (M.CNT_PARSED x.pipe)
  let r := (x.parsed now f tagged).stamp_ now counted 312
  have hstamped : counted.KeepsParser r.2 := (x.parsed now f tagged).stamp_keepsParser now counted 312
  have hpass : parsePass now d x tagged = malformedPass now r.2 r.1 := parsePass_of_malformed tagged hframe hbad
  have hsame : r.1.pipe = x.pipe ∧ r.1.frame = x.frame := ⟨rfl, rfl⟩
  have hframe' : r.2.frame x.frame = some f := by
    rw [Dev.frame, Desc.stamp_switch]
    exact hframe
  clear_value r
  obtain ⟨hpipe', hnumber⟩ := hsame
  have haction' : r.2.rd M.PARSER_MALFORMED_ACTION = 0 := by
    rw [hstamped.rd _ (by decide), Dev.rd_bump_other _ _ _ (by grind), haction]
  have hleft := malformedPass_leaves (now := now) (hnumber ▸ hframe') hport haction' (hpipe'.trans_lt hpipe)
  rw [hpipe', hnumber, hstamped.rd _ (by grind), hstamped.rd _ (by grind), Dev.rd_bump_same, Dev.rd_bump_other _ _ _ (by grind)] at hleft
  obtain ⟨hdescs, harrivals, hgone, hparsed, hmalformed⟩ := hleft
  rw [hpass]
  exact ⟨hdescs.trans hstamped.descs, harrivals.trans hstamped.arrivals, hgone, hparsed, hmalformed⟩

/-! ## The oldest arrival enters its pipe (R223) -/

/-- The device as a packet's first pass begins: the packet is off the arrivals, its slot is counted, its tag drawn and its number taken. -/
def Dev.enters (d : Dev) (pipe : Nat) (arrivals : List (Nat × Nat)) : Dev :=
  let e : Dev := { d with ports := { d.ports with arrivals } }
  let e := (tagPick (e.setPipe pipe { d.pipe pipe with entered := (d.pipe pipe).entered + 1 }) pipe).2
  { e with nextDesc := e.nextDesc + 1 }

theorem Dev.enters_keepsParser (d : Dev) (pipe : Nat) (arrivals : List (Nat × Nat)) :
    Dev.KeepsParser { d with ports := { d.ports with arrivals } } (d.enters pipe arrivals) := by
  let taken : Dev := { d with ports := { d.ports with arrivals } }
  let slotted := taken.setPipe pipe { d.pipe pipe with entered := (d.pipe pipe).entered + 1 }
  have hslotted : taken.KeepsParser slotted := of_reg rfl rfl rfl
  have hpicked := hslotted.trans (tagPick_keepsParser slotted pipe)
  exact hpicked.trans (of_reg rfl rfl rfl)

theorem Dev.enters_frame (d : Dev) (pipe : Nat) (arrivals : List (Nat × Nat)) (n : Nat) : (d.enters pipe arrivals).frame n = d.frame n :=
  congrArg (fun s : Switch => SMap.get (fun _ => none) s.frames n) (tagPick_switch ..)

theorem packetParse_of_arrival {pipe n : Nat} {f : Frame} (hready : d.pins.ready = true) (hpipe : pipe < 16) (hgated : d.gated pipe = false)
    (hrecirc : ∀ x ∈ d.descs, x.wait ≠ .recirc) (harrivals : d.ports.arrivals = [(pipe, n)]) (hframe : d.frame n = some f) :
    ∃ x tagged, packetParse pipe now d = parsePass now (d.enters pipe []) x tagged ∧ x.pipe = pipe ∧ x.frame = n ∧ x.bytes = f.bytes := by
  have hnone : d.descs.find? (fun x => x.pipe == pipe && x.wait == .recirc) = none :=
    List.find?_eq_none.mpr fun x hx => by simp [hrecirc x hx]
  have herased : [(pipe, n)].erase (pipe, n) = [] := by simp
  have htaken : Dev.frame { d with ports := { d.ports with arrivals := [] } } n = some f := hframe
  unfold packetParse
  rw [if_neg (by simp [hready, hgated]; omega), hnone, harrivals]
  dsimp only
  rw [List.find?_cons_of_pos (by simp)]
  dsimp only
  rw [herased, htaken]
  exact ⟨_, _, rfl, rfl, rfl, rfl⟩

/-! ## A notice told on an event ring leaves the tables and the pipes (R477 to R480) -/

theorem Dev.writeRecord_tables (d : Dev) (r : Nat) (x : EvRec) (isEvent : Bool) :
    (d.writeRecord r x isEvent).tabs = d.tabs ∧ (d.writeRecord r x isEvent).pipes = d.pipes := by
  unfold Dev.writeRecord
  dsimp only
  split <;> exact ⟨rfl, rfl⟩

theorem writeEvents_tables (n : Nat) (d : Dev) : (writeEvents n d).tabs = d.tabs ∧ (writeEvents n d).pipes = d.pipes := by
  induction n generalizing d with
  | zero => exact ⟨rfl, rfl⟩
  | succ n ih =>
    unfold writeEvents
    split
    · split
      · exact ⟨rfl, rfl⟩
      · obtain ⟨htabs, hpipes⟩ := ih (Dev.writeRecord _ _ _ true)
        exact ⟨htabs.trans (Dev.writeRecord_tables ..).1, hpipes.trans (Dev.writeRecord_tables ..).2⟩
    · exact ⟨rfl, rfl⟩

theorem Dev.notice_tables (d : Dev) (now : BellSt) (cat code object detail : Nat) :
    (d.notice now cat code object detail).tabs = d.tabs ∧ (d.notice now cat code object detail).pipes = d.pipes := by
  unfold Dev.notice
  split
  · exact ⟨rfl, rfl⟩
  · rename_i r _
    extract_lets e eventWaits need
    have he : e.tabs = d.tabs ∧ e.pipes = d.pipes := by
      unfold e
      split
      · exact writeEvents_tables ..
      · exact ⟨rfl, rfl⟩
    clear_value e
    split
    · exact he
    · exact ⟨(Dev.writeRecord_tables ..).1.trans he.1, (Dev.writeRecord_tables ..).2.trans he.2⟩

/-! ## A new station's notice is installed (R253, R257) -/

variable {pipe i : Nat} {n : Learn}

/-- The entry of a new station: dynamic, unlocked, and not yet moved. -/
def Learn.entry (n : Learn) : L2Entry :=
  { mac := n.mac, vlan := n.vlan, port := n.port, static := false, router := false, locked := false,
    lastSeen := n.lesson, moves := 0, learned := n.period % 65536 }

/-- The device with a new station's entry at its place. -/
def Dev.learns (d : Dev) (pipe i : Nat) (n : Learn) : Dev :=
  d.setRow (rowKey tL2 0 pipe i) (some { data := n.entry.toBytes, win := Window.stable, valid := true })

/-- A notice for a key that the table does not hold places its entry, and is told on the learn ring or not. -/
theorem installNotice_of_new (hkind : n.kind ≠ 4) (hnone : l2Versions d.tabs pipe n.mac n.vlan = [])
    (hplace : d.l2Take pipe n.mac n.vlan = some i) :
    installNotice now pipe d n = d.learns pipe i n ∨
      ∃ detail, installNotice now pipe d n = (d.learns pipe i n).notice now 1 Ev.NOTICE_LEARN (oid 0x23 0) detail := by
  have hsettled : d.l2Unsettled pipe n.mac n.vlan = false := by
    unfold Dev.l2Unsettled
    rw [hnone]
    rfl
  unfold installNotice
  dsimp only
  rw [hsettled, if_neg (by decide), hnone]
  dsimp only
  rw [if_neg hkind, hplace]
  dsimp only
  split_ifs
  · exact .inl rfl
  · exact .inr ⟨_, rfl⟩
  · exact .inl rfl

theorem installNotice_tables (hkind : n.kind ≠ 4) (hnone : l2Versions d.tabs pipe n.mac n.vlan = [])
    (hplace : d.l2Take pipe n.mac n.vlan = some i) :
    (installNotice now pipe d n).tabs = (d.learns pipe i n).tabs ∧ (installNotice now pipe d n).pipes = d.pipes := by
  have hpipes : (d.learns pipe i n).pipes = d.pipes := Dev.setRow_pipes ..
  obtain h | ⟨detail, h⟩ := installNotice_of_new (now := now) hkind hnone hplace
  · rw [h]
    exact ⟨rfl, hpipes⟩
  · obtain ⟨htabs, hkept⟩ := (d.learns pipe i n).notice_tables now 1 Ev.NOTICE_LEARN (oid 0x23 0) detail
    rw [h]
    exact ⟨htabs, hkept.trans hpipes⟩

theorem learnInstall_of_next {v : Nat} {rest : List Nat} (hnext : (d.pipe pipe).learned = v :: rest) (hgated : d.gated pipe = false) :
    learnInstall pipe now d = installNotice now pipe (d.setPipe pipe { d.pipe pipe with learned := rest }) (Learn.ofNat v) := by
  unfold learnInstall
  rw [hnext]
  exact if_neg (by simp [hgated])

/-! ## Commands -/

theorem packetParse_gives (pipe : Nat) {s : State} (h : s.dev.dieRuns = true) :
    Gives (.packetParse pipe) s s.bell (packetParse pipe s.bell s.dev) := gives_of_onDie (f := packetParse pipe) rfl h

theorem learnNoticeInstall_gives (pipe : Nat) {s : State} (h : s.dev.dieRuns = true) :
    Gives (.learnNoticeInstall pipe) s s.bell (learnInstall pipe s.bell s.dev) := gives_of_onDie (f := learnInstall pipe) rfl h

end Sys2Proof.Machine

namespace Sys2Proof

open Sys2Proof.Machine

/-- Settles O33, clause by clause. That a new entry takes the place the part chooses is log 9, and that its LAST_SEEN is the lesson of
the notice's placement is log 239. -/
theorem packetsAreParsedAndLearned : Obligations.PacketsAreParsedAndLearned := by
  refine ⟨fun pipe n f s hruns hready hpipe hgated hrecirc harrivals hframe hport hbad haction => ?_,
    fun pipe v i rest s hruns hgated hnext hkind hnone hplace => ?_⟩
  · have hkept := s.dev.enters_keepsParser pipe []
    obtain ⟨x, tagged, hparse, rfl, hnumber, hbytes⟩ := packetParse_of_arrival (now := s.bell) hready hpipe hgated hrecirc harrivals hframe
    have hframe' : (s.dev.enters x.pipe []).frame x.frame = some f := by rw [Dev.enters_frame, hnumber, hframe]
    obtain ⟨hdescs, hleft, hgone, hparsed, hmalformed⟩ := parsePass_leaves (now := s.bell) tagged hframe' hport (hbytes ▸ hbad)
      ((hkept.rd _ (by decide)).trans haction) hpipe
    have hgives := packetParse_gives x.pipe hruns
    rw [hparse] at hgives
    rw [hkept.rd _ (by grind)] at hparsed hmalformed
    exact ⟨_, hgives, hleft.trans hkept.arrivals, hnumber ▸ hgone, hdescs.trans hkept.descs, hparsed, hmalformed⟩
  · let taken := s.dev.setPipe pipe { s.dev.pipe pipe with learned := rest }
    obtain ⟨htabs, hpipes⟩ := installNotice_tables (d := taken) (now := s.bell) hkind hnone hplace
    have hgives := learnNoticeInstall_gives pipe hruns
    rw [learnInstall_of_next hnext hgated] at hgives
    have hrow (k : Nat) : (installNotice s.bell pipe taken (Learn.ofNat v)).row k = (taken.learns pipe i (Learn.ofNat v)).row k :=
      congrArg (fun m => SMap.get tabDefault m k) htabs
    refine ⟨_, hgives, ?_, fun k hk => (hrow k).trans (Dev.row_setRow_other _ _ hk), _, (hrow _).trans (Dev.row_setRow_same ..), rfl, rfl, rfl⟩
    have hpipe : (installNotice s.bell pipe taken (Learn.ofNat v)).pipe pipe = taken.pipe pipe :=
      congrArg (fun m => SMap.get (fun _ => Pipe.init) m pipe) hpipes
    exact congrArg Pipe.learned (hpipe.trans (SMap.get_set_same ..))

end Sys2Proof

/-! Reads and writes of the Roll: how an access that was made ends at its controller, and what a read or a write that has ended
leaves of the Front Row. -/

namespace Sys2Proof.Machine

variable {d e : Dev} {now : BellSt} {pipe slot : Nat}

/-! ## What counters and requests leave of the Front Row -/

/-- The members by which the Front Row and the memory behind it are found and counted: the palette in force, the first member of each
unit, which a memory channel's state is, and those of the Front Row (class 31). -/
def frontMember (id : Nat) : Prop := id = M.PALETTE_ACTIVE ∨ id % 256 = 1 ∨ id / 2 ^ 24 = 0x31

/-- `e` has the Front Row, the memory behind it, the pair's state and the members of both of `d`. -/
structure Dev.KeepsFront (d e : Dev) : Prop where
  roll : e.roll = d.roll
  buddy : e.buddy = d.buddy
  slots : e.memories.roll = d.memories.roll
  endpoints : e.memories.endpoints = d.memories.endpoints
  rd : ∀ id, frontMember id → e.rd id = d.rd id

namespace Dev.KeepsFront

theorem refl (d : Dev) : d.KeepsFront d := ⟨rfl, rfl, rfl, rfl, fun _ _ => rfl⟩

theorem trans {f : Dev} (h : d.KeepsFront e) (h' : e.KeepsFront f) : d.KeepsFront f :=
  ⟨h'.roll.trans h.roll, h'.buddy.trans h.buddy, h'.slots.trans h.slots, h'.endpoints.trans h.endpoints,
    fun id hid => (h'.rd id hid).trans (h.rd id hid)⟩

/-- Any other member is stored. -/
theorem wr (h : d.KeepsFront e) {id v : Nat} (hid : ¬frontMember id) : d.KeepsFront (e.wr id v) :=
  h.trans ⟨rfl, rfl, rfl, rfl, fun _ hk => Dev.rd_wr_other _ _ _ _ fun heq => hid (heq ▸ hk)⟩

theorem bumpIf (h : d.KeepsFront e) {c : Bool} {id : Nat} (hid : ¬frontMember id) : d.KeepsFront (e.bumpIf c id) := by
  cases c
  · exact h
  · exact h.wr hid

theorem raiseTo (h : d.KeepsFront e) {id v : Nat} (hid : ¬frontMember id) : d.KeepsFront (e.raiseTo id v) := by
  unfold Dev.raiseTo
  split
  · exact h.wr hid
  · exact h

theorem palette_eq (h : d.KeepsFront e) : e.palette = d.palette := h.rd _ (.inl rfl)

theorem chServes_eq (h : d.KeepsFront e) (ch : Nat) : e.chServes ch = d.chServes ch := by
  unfold Dev.chServes
  rw [h.rd _ (by grind [frontMember])]

theorem placeOf_eq (h : d.KeepsFront e) (slot : Nat) : e.placeOf slot = d.placeOf slot := by
  simp only [Dev.placeOf, Dev.endpointPlace, Dev.slotPlace, Dev.rollChannels, h.palette_eq]

theorem readable_eq (h : d.KeepsFront e) (slot : Nat) : e.readable slot = d.readable slot := by
  simp only [Dev.readable, h.placeOf_eq, h.chServes_eq, h.buddy]

theorem stored_eq (h : d.KeepsFront e) (slot : Nat) : e.stored slot = d.stored slot := by
  simp only [Dev.stored, h.slots, h.endpoints]

theorem findLine_eq (h : d.KeepsFront e) (slot : Nat) : e.findLine slot = d.findLine slot := by
  simp only [Dev.findLine, Dev.setOf, Dev.line, h.palette_eq, h.roll]

theorem lineVal_eq (h : d.KeepsFront e) (slot : Nat) : e.lineVal slot = d.lineVal slot := by
  simp only [Dev.lineVal, h.findLine_eq]

theorem buffered_eq (h : d.KeepsFront e) (slot : Nat) : e.buffered slot = d.buffered slot := by
  simp only [Dev.buffered, Dev.lateData, Dev.wbData, h.roll]

end Dev.KeepsFront

theorem Dev.setPipe_keepsFront (d : Dev) (p : Nat) (x : Pipe) : d.KeepsFront (d.setPipe p x) := ⟨rfl, rfl, rfl, rfl, fun _ _ => rfl⟩

theorem Dev.pipe_setPipe_same (d : Dev) (p : Nat) (x : Pipe) : (d.setPipe p x).pipe p = x := SMap.get_set_same ..

theorem Dev.pipe_of_pipes (h : e.pipes = d.pipes) (p : Nat) : e.pipe p = d.pipe p := by
  unfold Dev.pipe
  rw [h]

@[simp] theorem Dev.bumpIf_pipes (d : Dev) (c : Bool) (id : Nat) : (d.bumpIf c id).pipes = d.pipes := by cases c <;> rfl

@[simp] theorem Dev.bumpIf_descs (d : Dev) (c : Bool) (id : Nat) : (d.bumpIf c id).descs = d.descs := by cases c <;> rfl

@[simp] theorem Dev.raiseTo_pipes (d : Dev) (id v : Nat) : (d.raiseTo id v).pipes = d.pipes := by
  unfold Dev.raiseTo
  split <;> rfl

@[simp] theorem Dev.raiseTo_descs (d : Dev) (id v : Nat) : (d.raiseTo id v).descs = d.descs := by
  unfold Dev.raiseTo
  split <;> rfl

/-! ## How an access ends at its controller (R437, R439, R444) -/

/-- The oldest request to a unit is the one of its port and kind, and has issued, or no request to the unit is left and none of the
port's reads of it has been found uncorrectable. -/
def Dev.AccessEnds (d : Dev) (ch unit port : Nat) (write : Bool) : Prop :=
  (d.channel ch).oldest unit = none ∧ (write = false → (d.channel ch).badReads.contains (port, unit) = false) ∨
    ∃ q, (d.channel ch).oldest unit = some q ∧ q.port = port ∧ q.write = write ∧ q.corrective = false ∧ q.issued = true

/-- Clean code words change nothing. -/
theorem eccRead_of_clean (now : BellSt) (d : Dev) (ch unit t : Nat) (overtaken : Bool) :
    eccRead now d ch unit t overtaken (.clean, .clean) = d := by
  simp [eccRead, countWord, unitBad]

/-- A request that ends clean leaves its channel's queue and is counted. -/
theorem endReq_keepsFront (now : BellSt) (d : Dev) (ch : Nat) (q : MemReq) (t : Nat) :
    d.KeepsFront (endReq now d ch q t (.clean, .clean)) := by
  have hasked : d.KeepsFront (d.setChannel ch { d.channel ch with reqs := (d.channel ch).reqs.erase q }) :=
    ⟨rfl, rfl, rfl, rfl, fun _ _ => rfl⟩
  have hlate : ∀ age, d.KeepsFront (((d.setChannel ch { d.channel ch with reqs := (d.channel ch).reqs.erase q }).bumpIf
      (decide (d.memTarget q.port < age)) (M.CNT_MEMCH_LATE ch)).raiseTo (M.MEMCH_LATENCY_MAX ch) age) := fun _ =>
    (hasked.bumpIf (by grind [frontMember])).raiseTo (by grind [frontMember])
  unfold endReq
  dsimp only
  rw [eccRead_of_clean]
  split
  · exact (hlate _).wr (by grind [frontMember])
  · exact ((hlate _).wr (by grind [frontMember])).bumpIf (by grind [frontMember])

theorem endReq_packets (now : BellSt) (d : Dev) (ch : Nat) (q : MemReq) (t : Nat) :
    (endReq now d ch q t (.clean, .clean)).pipes = d.pipes ∧ (endReq now d ch q t (.clean, .clean)).descs = d.descs := by
  unfold endReq
  dsimp only
  rw [eccRead_of_clean]
  split
  · rw [Dev.addTo_pipes, Dev.raiseTo_pipes, Dev.bumpIf_pipes, Dev.setChannel_pipes, Dev.addTo_descs, Dev.raiseTo_descs, Dev.bumpIf_descs,
      Dev.setChannel_descs]
    exact ⟨rfl, rfl⟩
  · rw [Dev.bumpIf_pipes, Dev.addTo_pipes, Dev.raiseTo_pipes, Dev.bumpIf_pipes, Dev.setChannel_pipes, Dev.bumpIf_descs, Dev.addTo_descs,
      Dev.raiseTo_descs, Dev.bumpIf_descs, Dev.setChannel_descs]
    exact ⟨rfl, rfl⟩

/-- The oldest request to a unit is the request that its requester looks for, where that one's port and kind are its own. -/
theorem find?_request {reqs : List MemReq} {unit : Nat} {q : MemReq} (h : reqs.find? (fun q => q.unit == unit) = some q)
    (hcorrective : q.corrective = false) :
    reqs.find? (fun x => x.unit == unit && x.port == q.port && x.write == q.write && !x.corrective) = some q := by
  obtain ⟨hunit, before, after, rfl, hbefore⟩ := List.find?_eq_some_iff_append.mp h
  refine List.find?_eq_some_iff_append.mpr ⟨by simp_all, before, after, rfl, fun x hx => ?_⟩
  simp_all

/-- An access that ends clean at its controller answers so, and leaves the Front Row and the packets. -/
theorem endAccess_of_ends {ch unit port : Nat} {write : Bool} (h : d.AccessEnds ch unit port write) :
    ∃ e, endAccess now d ch unit port write .ok = some (.ok, e) ∧ d.KeepsFront e ∧ e.pipes = d.pipes ∧ e.descs = d.descs := by
  obtain ⟨hnone, hgood⟩ | ⟨q, hq, rfl, rfl, hcorrective, hissued⟩ := h
  · refine ⟨d, ?_, .refl d, rfl, rfl⟩
    have hfind : (d.channel ch).reqs.find? (fun q => q.unit == unit && q.port == port && q.write == write && !q.corrective) = none := by
      have hunit : ∀ q ∈ (d.channel ch).reqs, ¬(q.unit == unit) = true := List.find?_eq_none.mp hnone
      exact List.find?_eq_none.mpr fun q hq => by simp [hunit q hq]
    unfold endAccess
    dsimp only
    rw [hfind]
    exact if_neg fun ⟨hbad, hread⟩ => Bool.false_ne_true ((hgood hread).symm.trans hbad)
  · have hstamped : d.KeepsFront (Dev.stamp now d).2 := ⟨rfl, rfl, rfl, rfl, fun _ _ => rfl⟩
    obtain ⟨hpipes, hdescs⟩ := endReq_packets now (Dev.stamp now d).2 ch q (Dev.stamp now d).1
    refine ⟨_, ?_, hstamped.trans (endReq_keepsFront now _ ch q (Dev.stamp now d).1), hpipes, hdescs⟩
    unfold endAccess
    dsimp only
    rw [find?_request hq hcorrective]
    simp [hq, hissued]

/-! ## A write that has ended (R280) -/

theorem eraseFirst_head (l : WbLine) (rest : List WbLine) : eraseFirst l.slot (l :: rest) = rest := if_pos rfl

theorem Dev.stored_of_memories (h : e.memories = d.memories) (slot : Nat) : e.stored slot = d.stored slot := by
  unfold Dev.stored
  rw [h]

theorem Dev.stored_store_same (d : Dev) (slot v : Nat) : (d.store slot v).stored slot = v % 2 ^ 512 := by
  unfold Dev.stored Dev.store
  split
  · exact SMap.get_set_same ..
  · exact SMap.get_set_same ..

theorem Dev.stored_store_other (d : Dev) {slot k : Nat} (v : Nat) (h : k ≠ slot) : (d.store slot v).stored k = d.stored k := by
  unfold Dev.stored Dev.store
  by_cases hslot : epSlotBase ≤ slot <;> by_cases hk : epSlotBase ≤ k <;> simp only [hslot, hk, if_true, if_false]
  · exact SMap.get_set_other _ _ _ _ _ (by omega)
  · exact SMap.get_set_other _ _ _ _ _ h

/-- A write-buffer line whose write has ended leaves the buffer and stands in memory. -/
def Dev.writtenBack (d : Dev) (l : WbLine) (rest : List WbLine) : Dev :=
  let e := (d.store l.slot l.data.toNat).bump M.CNT_FR_WRITEBACK
  { e with roll := { e.roll with wb := rest } }

theorem Dev.store_reg (d : Dev) (slot v : Nat) : (d.store slot v).reg = d.reg := by
  unfold Dev.store
  split <;> rfl

theorem Dev.store_roll (d : Dev) (slot v : Nat) : (d.store slot v).roll = d.roll := by
  unfold Dev.store
  split <;> rfl

theorem Dev.writtenBack_rd_count (d : Dev) (l : WbLine) (rest : List WbLine) :
    (d.writtenBack l rest).rd M.CNT_FR_WRITEBACK = (d.rd M.CNT_FR_WRITEBACK + 1) % 2 ^ 64 := by
  rw [← Dev.rd_of_reg (d.store_reg l.slot l.data.toNat)]
  exact Dev.rd_bump_same ..

theorem Dev.writtenBack_lines (d : Dev) (l : WbLine) (rest : List WbLine) : (d.writtenBack l rest).roll.lines = d.roll.lines := by
  rw [← d.store_roll l.slot l.data.toNat]
  rfl

theorem Dev.writtenBack_memories (d : Dev) (l : WbLine) (rest : List WbLine) :
    (d.writtenBack l rest).memories = (d.store l.slot l.data.toNat).memories := rfl

theorem wbWriteDone_of_oldest {l : WbLine} {rest : List WbLine} (hwb : d.roll.wb = l :: rest) (hissued : l.issued = true)
    (h : d.AccessEnds (d.placeOf l.slot).1 (d.placeOf l.slot).2 6 true) :
    ∃ e, wbWriteDone l.slot .ok now d = e.writtenBack l rest ∧ d.KeepsFront e := by
  obtain ⟨e, hend, hkept, -, -⟩ := endAccess_of_ends (now := now) h
  refine ⟨e, ?_, hkept⟩
  have hfind : d.roll.wb.find? (fun x => x.slot == l.slot) = some l := by simp [hwb]
  have hrest : eraseFirst l.slot ((e.store l.slot l.data.toNat).bump M.CNT_FR_WRITEBACK).roll.wb = rest := by
    rw [Dev.bump_roll, Dev.store_roll, hkept.roll, hwb, eraseFirst_head]
  unfold wbWriteDone
  rw [hfind]
  simp only [hissued, Bool.true_eq_false, false_and, if_false, reduceCtorEq, hend, hrest]
  rfl

/-! ## A read that has ended (R18, R282) -/

theorem recTwoSlots_mod (v : Nat) : recTwoSlots (v % 2 ^ 512) = recTwoSlots v := by
  unfold recTwoSlots recKind recV6
  rw [fld_mod_two_pow v (by decide), bitOf_mod_two_pow v (by decide)]

/-- A device whose line of a slot holds the slot's copy in memory, as a fill leaves it. -/
def Dev.fill (d : Dev) (now : BellSt) (slot k : Nat) : Dev :=
  (d.setLine k (some { slot, data := BitVec.ofNat 512 (d.stored slot), dirty := false, pending := false, referenced := false,
                       updated := now.period.toNat })).bump M.CNT_FR_FILL

/-- The count of fills leaves the lines. -/
theorem Dev.lineVal_bump_fill (d : Dev) (slot : Nat) : (d.bump M.CNT_FR_FILL).lineVal slot = d.lineVal slot := by
  have hpalette : (d.bump M.CNT_FR_FILL).palette = d.palette := Dev.rd_bump_other _ _ _ (by decide)
  simp only [Dev.lineVal, Dev.findLine, Dev.setOf, hpalette]
  rfl

theorem Dev.fill_lineVal {k : Nat} {l : Line} (hline : d.findLine slot = some (k, l)) :
    (d.fill now slot k).lineVal slot = some (d.stored slot % 2 ^ 512) := by
  unfold Dev.fill
  rw [Dev.lineVal_bump_fill]
  unfold Dev.lineVal
  rw [Dev.findLine_setLine_of_some hline rfl, ← BitVec.toNat_ofNat]
  rfl

theorem Dev.fill_chServes (d : Dev) (now : BellSt) (slot k ch : Nat) : (d.fill now slot k).chServes ch = d.chServes ch := by
  have hstate : (d.fill now slot k).rd (M.MEMCH_STATE ch) = d.rd (M.MEMCH_STATE ch) := Dev.rd_bump_other _ _ _ (by grind)
  unfold Dev.chServes
  rw [hstate]

theorem Dev.fill_pipe (d : Dev) (now : BellSt) (slot k p : Nat) : (d.fill now slot k).pipe p = d.pipe p := rfl

theorem Dev.fill_rd_count (d : Dev) (now : BellSt) (slot k : Nat) :
    (d.fill now slot k).rd M.CNT_FR_FILL = (d.rd M.CNT_FR_FILL + 1) % 2 ^ 64 :=
  Dev.rd_bump_same ..

theorem installFill_of_pending {k : Nat} {l : Line} (hline : d.findLine slot = some (k, l)) (hpending : l.pending = true)
    (hbuffered : d.buffered slot = false) : installFill now d slot = some (d.fill now slot k) := by
  obtain ⟨hlate, hwb⟩ : d.lateData slot = none ∧ d.wbData slot = none := by simpa [Dev.buffered] using hbuffered
  have hval : d.lineVal slot = none := by simp [Dev.lineVal, hline, hpending]
  simp [installFill, hval, hlate, hwb, placeLine, hline, Dev.fill]

theorem lacksTail_of_oneSlot {v : Nat} (hval : d.lineVal slot = some (v % 2 ^ 512)) (htwo : recTwoSlots v = false) :
    d.lacksTail slot = false := by
  unfold Dev.lacksTail
  rw [Dev.current_of_lineVal hval]
  simp only [recTwoSlots_mod, htwo, Bool.and_false, Bool.false_and]

theorem wakeFill_of_none (h : ∀ x ∈ d.descs, x.wait ≠ .fetch slot) : wakeFill now d slot = d := by
  have hnone : d.descs.filter (fun x => x.wait == .fetch slot) = [] := by simpa using h
  unfold wakeFill
  dsimp only
  rw [hnone]
  rfl

/-- The end of a read is noted in its pipe. -/
theorem endRead_keepsFront (d : Dev) (pipe slot : Nat) : d.KeepsFront (endRead d pipe slot) := Dev.setPipe_keepsFront ..

theorem endRead_reads (d : Dev) (pipe slot : Nat) : ((endRead d pipe slot).pipe pipe).reads = (d.pipe pipe).reads.erase slot := by
  unfold endRead
  rw [Dev.pipe_setPipe_same]

/-- A read of a pipe ends at its controller and finds its slot's line pending, no newer value of the slot, a record of one slot, and no
packet that waits for it. -/
structure Dev.ReadReturns (d : Dev) (pipe slot k : Nat) (l : Line) : Prop where
  outstanding : (d.pipe pipe).reads.contains slot = true
  here : d.buddy.awaiting.any (fun a => a.2 == some slot) = false
  readable : d.readable slot = true
  newest : d.buffered slot = false
  ends : d.AccessEnds (d.placeOf slot).1 (d.placeOf slot).2 0 false
  line : d.findLine slot = some (k, l)
  pending : l.pending = true
  oneSlot : recTwoSlots (d.stored slot) = false
  noPacket : ∀ x ∈ d.descs, x.wait ≠ .fetch slot

/-- A read that ends leaves its slot with the line filled, and its pipe without the read. -/
theorem rollFetchComplete_of_returns {k : Nat} {l : Line} (h : d.ReadReturns pipe slot k l) :
    ∃ e, rollFetchComplete pipe slot .ok now d = endRead (e.fill now slot k) pipe slot ∧ d.KeepsFront e ∧ e.pipes = d.pipes := by
  obtain ⟨e, hend, hkept, hpipes, hdescs⟩ := endAccess_of_ends (now := now) h.ends
  refine ⟨e, ?_, hkept, hpipes⟩
  have hline : e.findLine slot = some (k, l) := (hkept.findLine_eq slot).trans h.line
  have hfilled : installFill now e slot = some (e.fill now slot k) :=
    installFill_of_pending hline h.pending ((hkept.buffered_eq slot).trans h.newest)
  have htail : (e.fill now slot k).lacksTail slot = false :=
    lacksTail_of_oneSlot (Dev.fill_lineVal hline) (by rw [hkept.stored_eq, h.oneSlot])
  have hwoken : wakeFill now (endRead (e.fill now slot k) pipe slot) slot = endRead (e.fill now slot k) pipe slot :=
    wakeFill_of_none (show ∀ x ∈ e.descs, _ from hdescs ▸ h.noPacket)
  unfold rollFetchComplete
  rw [if_neg (by rw [h.outstanding, h.here]; simp), hend]
  dsimp only
  rw [if_pos ⟨(hkept.readable_eq slot).trans h.readable, rfl⟩, hfilled, Option.bind_some, htail, if_neg Bool.false_ne_true, hwoken]

theorem Dev.placeOf_lt (d : Dev) (slot : Nat) : (d.placeOf slot).1 < 16 := by
  unfold Dev.placeOf Dev.endpointPlace Dev.slotPlace Dev.rollChannels
  split <;> split <;> dsimp only <;> omega

/-- With every channel in service, no fetch is left unserved. -/
theorem endLost_of_serving (h : ∀ c, c < 16 → d.chServes c = true) : endLost now d = d := by
  refine List.foldl_fixed' (fun p => ?_) _
  have hnone : (d.pipe p).reads.filter (fun s => !d.chServes (d.placeOf s).1 && !d.buddy.awaiting.any (fun a => a.2 == some s)) = [] := by
    simp [h _ (d.placeOf_lt _)]
  rw [hnone]
  rfl

/-! ## A read that issues (R279, R282, R288) -/

/-- A slot takes the first free way of its set (R279). -/
theorem placeLine_of_free {w data : Nat} {dirty pending : Bool} (hn : d.findLine slot = none)
    (hw : (List.range 16).find? (fun w => (d.line (d.setOf slot * 16 + w)).isNone) = some w) :
    placeLine now d slot data dirty pending = some (d.setLine (d.setOf slot * 16 + w)
      (some { slot, data := BitVec.ofNat 512 data, dirty, pending, referenced := false, updated := now.period.toNat })) := by
  simp [placeLine, hn, hw]

theorem outcomeCounter_delay {code port : Nat} (hcode : code = 3 ∨ code = 4) (hport : port < 256) :
    ¬frontMember (outcomeCounter code port) := by
  unfold frontMember outcomeCounter
  obtain rfl | rfl := hcode
  · grind
  · grind

/-- The packets of a read take their outcomes, which are counted by port. -/
theorem takeMiss_keepsFront (now : BellSt) (read : Bool) (pipe slot : Nat) (hports : ∀ x ∈ d.descs, x.hdr.port < 256) :
    d.KeepsFront (takeMiss now read d pipe slot) := by
  unfold takeMiss
  dsimp only
  refine Dev.KeepsFront.trans (e := List.foldl _ d _) ?_ ⟨rfl, rfl, rfl, rfl, fun _ _ => rfl⟩
  refine List.foldlRecOn _ _ (motive := fun e : Dev => d.KeepsFront e) (.refl d) fun e he x hx => ?_
  exact he.wr (outcomeCounter_delay (by split <;> simp) (hports x (List.mem_filter.mp hx).1))

theorem takeMiss_pipes (now : BellSt) (read : Bool) (d : Dev) (pipe slot : Nat) : (takeMiss now read d pipe slot).pipes = d.pipes :=
  List.foldlRecOn (motive := fun e : Dev => e.pipes = d.pipes) _ _ rfl fun _ he _ _ => he

theorem countFalse_keepsFront (d : Dev) (pipe slot : Nat) : d.KeepsFront (countFalse d pipe slot) := by
  unfold countFalse
  split
  · exact (Dev.KeepsFront.refl d).bumpIf (by unfold frontMember; decide)
  · exact .refl d

theorem countFalse_pipes (d : Dev) (pipe slot : Nat) : (countFalse d pipe slot).pipes = d.pipes := by
  unfold countFalse
  split
  · exact Dev.bumpIf_pipes ..
  · rfl

/-- The charge of a read is counted by pipe. -/
theorem chargeRead_keepsFront (d : Dev) (slot n : Nat) (hpipe : pipe < 16) : d.KeepsFront (chargeRead d pipe slot n) :=
  (d.setPipe_keepsFront pipe _).wr (by grind [frontMember])

theorem chargeRead_pipe (d : Dev) (pipe slot n : Nat) : (chargeRead d pipe slot n).pipe pipe = { d.pipe pipe with
    missQueue := (d.pipe pipe).missQueue.drop 1
    remote := (d.pipe pipe).remote.filter (· != slot)
    unitsUsed := (d.pipe pipe).unitsUsed + n } := Dev.pipe_setPipe_same ..

/-- A read that reaches its channel leaves the Front Row and the pipes. -/
theorem requestSlot_keepsFront (now : BellSt) (d : Dev) (slot port : Nat) :
    d.KeepsFront (requestSlot now d slot port) ∧ (requestSlot now d slot port).pipes = d.pipes := by
  unfold requestSlot readSlot
  obtain ⟨channels, h⟩ := memRequest_channels (Dev.stamp now d).2 (d.placeOf slot).1
    { MemReq.new port (d.placeOf slot).2 false (decide (slot < epSlotBase)) (Dev.stamp now d).1 with known := none }
  dsimp only
  rw [h]
  exact ⟨⟨rfl, rfl, rfl, rfl, fun _ _ => rfl⟩, rfl⟩

/-- A device in which the packets of a pipe's oldest queued read have their outcomes, and the read is charged. -/
def Dev.charged (d : Dev) (now : BellSt) (pipe slot n : Nat) : Dev :=
  chargeRead (countFalse (takeMiss now true d pipe slot) pipe slot) pipe slot n

theorem Dev.charged_keepsFront (d : Dev) (now : BellSt) (slot n : Nat) (hpipe : pipe < 16) (hports : ∀ x ∈ d.descs, x.hdr.port < 256) :
    d.KeepsFront (d.charged now pipe slot n) :=
  (takeMiss_keepsFront now true pipe slot hports).trans ((countFalse_keepsFront ..).trans (chargeRead_keepsFront _ slot n hpipe))

theorem Dev.charged_pipe (d : Dev) (now : BellSt) (pipe slot n : Nat) : (d.charged now pipe slot n).pipe pipe = { d.pipe pipe with
    missQueue := (d.pipe pipe).missQueue.drop 1
    remote := (d.pipe pipe).remote.filter (· != slot)
    unitsUsed := (d.pipe pipe).unitsUsed + n } := by
  unfold Dev.charged
  rw [chargeRead_pipe, Dev.pipe_of_pipes (countFalse_pipes ..), Dev.pipe_of_pipes (takeMiss_pipes ..)]

/-- A device with one more read of a pipe outstanding. -/
def Dev.withRead (d : Dev) (pipe slot : Nat) : Dev := d.setPipe pipe { d.pipe pipe with reads := (d.pipe pipe).reads ++ [slot] }

/-- The oldest queued read of a pipe is one of memory here, has neither a line nor a newer value, and finds units left and a free line. -/
structure Dev.ReadIssues (d : Dev) (pipe slot w : Nat) (rest : List Nat) : Prop where
  queue : (d.pipe pipe).missQueue = slot :: rest
  record : slot < askSlot 0
  noLine : d.findLine slot = none
  newest : d.buffered slot = false
  here : d.remoteRead pipe slot = false
  units : (d.pipe pipe).unitsUsed + d.readUnits slot ≤ 150
  pipe_lt : pipe < 16
  readable : d.readable slot = true
  ports : ∀ x ∈ d.descs, x.hdr.port < 256
  free : (List.range 16).find? (fun w => (d.line (d.setOf slot * 16 + w)).isNone) = some w

/-- A device in which a way of a slot's set has been taken by the slot's pending line. -/
def Dev.placed (d : Dev) (now : BellSt) (slot w : Nat) : Dev :=
  d.setLine (d.setOf slot * 16 + w)
    (some { slot, data := BitVec.ofNat 512 0, dirty := false, pending := true, referenced := false, updated := now.period.toNat })

theorem Dev.placed_readable (d : Dev) (now : BellSt) (slot w k : Nat) : (d.placed now slot w).readable k = d.readable k := rfl

theorem Dev.placed_findLine {w : Nat} (hn : d.findLine slot = none) (hw : w < 16) :
    ∃ l, (d.placed now slot w).findLine slot = some (d.setOf slot * 16 + w, l) ∧ l.pending = true :=
  ⟨_, Dev.findLine_setLine_of_sameSlots (.refl d) hn hw rfl, rfl⟩

/-- A read that issues is charged, takes its line and goes to its channel. -/
theorem rollFetchIssue_of_issues {w : Nat} {rest : List Nat} (h : d.ReadIssues pipe slot w rest) : rollFetchIssue pipe now d =
    requestSlot now (((d.placed now slot w).charged now pipe slot (d.readUnits slot)).withRead pipe slot) slot 0 := by
  have hplaced : placeLine now d slot 0 false true = some (d.placed now slot w) := placeLine_of_free h.noLine h.free
  have hserved : ((d.placed now slot w).charged now pipe slot (d.readUnits slot)).readable slot = true := by
    rw [((d.placed now slot w).charged_keepsFront now slot (d.readUnits slot) h.pipe_lt h.ports).readable_eq, Dev.placed_readable, h.readable]
  have hrecord := h.record
  have hunits := h.units
  unfold rollFetchIssue
  rw [h.queue]
  dsimp only
  rw [if_neg (by omega), if_neg (by simp [Dev.lineVal_eq_none h.noLine, h.newest])]
  unfold issueRead
  rw [h.here]
  dsimp only
  rw [if_neg Bool.false_ne_true, if_neg (by omega), hplaced]
  dsimp only
  rw [if_neg Bool.false_ne_true]
  exact if_pos hserved

/-- Past the placement of its line, a read that issues leaves the Front Row, and its pipe with the charge and the read outstanding. -/
theorem rollFetchIssue_leaves {w : Nat} {rest : List Nat} (h : d.ReadIssues pipe slot w rest) :
    (d.placed now slot w).KeepsFront (rollFetchIssue pipe now d) ∧ (rollFetchIssue pipe now d).pipe pipe = { d.pipe pipe with
      missQueue := rest, reads := (d.pipe pipe).reads ++ [slot], remote := (d.pipe pipe).remote.filter (· != slot),
      unitsUsed := (d.pipe pipe).unitsUsed + d.readUnits slot } := by
  let charged := (d.placed now slot w).charged now pipe slot (d.readUnits slot)
  have hcharged : (d.placed now slot w).KeepsFront charged := Dev.charged_keepsFront _ now slot _ h.pipe_lt h.ports
  obtain ⟨hasked, hpipes⟩ := requestSlot_keepsFront now (charged.withRead pipe slot) slot 0
  have hpipe : (d.placed now slot w).pipe pipe = d.pipe pipe := rfl
  rw [rollFetchIssue_of_issues h]
  refine ⟨hcharged.trans ((Dev.setPipe_keepsFront ..).trans hasked), ?_⟩
  rw [Dev.pipe_of_pipes hpipes, Dev.withRead, Dev.pipe_setPipe_same, Dev.charged_pipe, hpipe, h.queue]
  rfl

/-! ## ROLL_PROBE (R272, R295) -/

/-- The hashes, buckets and tag of a key block. -/
def Dev.probed (d : Dev) (b : Bytes) : Dev :=
  let h1 := seededHash d.roll.seed1 b
  let h2 := seededHash d.roll.seed2 b
  let h3 := seededHash d.roll.seed3 b
  let buckets := bucketsOf (rollBuckets d.palette) h1 h2
  (((((d.wr M.ROLL_PROBE_H1 h1).wr M.ROLL_PROBE_H2 h2).wr M.ROLL_PROBE_H3 h3).wr M.ROLL_PROBE_HOME buckets.1).wr M.ROLL_PROBE_SECOND buckets.2).wr
    M.ROLL_PROBE_TAG (tagOf h3)

theorem Dev.probed_roll (d : Dev) (b : Bytes) : (d.probed b).roll = d.roll := by
  unfold Dev.probed
  rw [Dev.wr_roll, Dev.wr_roll, Dev.wr_roll, Dev.wr_roll, Dev.wr_roll, Dev.wr_roll]

theorem rollProbe_eq (v : Nat) (d : Dev) : rollProbe v d = (St.OK, d.probed (d.aread 0x08210000 40)) := rfl

/-! ## Commands -/

theorem rollFetchIssue_gives (pipe : Nat) {s : State} (h : s.dev.dieRuns = true) :
    Gives (.rollFetchIssue pipe) s s.bell (rollFetchIssue pipe s.bell s.dev) := gives_of_onDie (f := rollFetchIssue pipe) rfl h

theorem rollFetchComplete_gives (pipe slot : Nat) (o : MemOutcome) {s : State} (h : s.dev.dieRuns = true) :
    Gives (.rollFetchComplete pipe slot o) s s.bell (endLost s.bell (rollFetchComplete pipe slot o s.bell s.dev)) :=
  gives_of_onDie (f := fun now d => endLost now (rollFetchComplete pipe slot o now d)) rfl h

theorem frWbWriteDone_gives (slot : Nat) (o : MemOutcome) {s : State} (h : s.dev.dieRuns = true) :
    Gives (.frWbWriteDone slot o) s s.bell (wbWriteDone slot o s.bell s.dev) := gives_of_onDie (f := wbWriteDone slot o) rfl h

theorem rollProbe_gives {a : Acc} {s : State} (h : Passes s.dev a M.ROLL_PROBE) :
    Gives (.rollProbe a) s s.bell (s.dev.probed (s.dev.aread 0x08210000 40)) :=
  gives_of_onDev (f := fun _ d => (d.trigger a M.ROLL_PROBE rollProbe).2) rfl (Dev.trigger_ok h (rollProbe_eq ..))

end Sys2Proof.Machine

namespace Sys2Proof

open Sys2Proof.Machine

/-- Settles O35, clause by clause. That a requester's own command ends its request at the controller, or learns how it has ended there,
is log 64. -/
theorem rollReadsAndWrites : Obligations.RollReadsAndWrites := by
  refine ⟨fun pipe slot w rest s hruns hqueue hrecord hn hbuffered hlocal hunits hpipe hreadable hports hw => ?_,
    fun pipe slot k l s hruns hreads hhere hreadable hbuffered hserves hends hline hpending htwo hnone => ?_,
    fun slot l rest s hruns hwb hslot hissued hends => ?_, fun a s hpass => ⟨_, rollProbe_gives hpass, Dev.probed_roll .., ?_⟩⟩
  · have hissues : s.dev.ReadIssues pipe slot w rest := ⟨hqueue, hrecord, hn, hbuffered, hlocal, hunits, hpipe, hreadable, hports, hw⟩
    obtain ⟨hkept, hpipe⟩ := rollFetchIssue_leaves (now := s.bell) hissues
    obtain ⟨l, hline, hpending⟩ := Dev.placed_findLine (now := s.bell) hn (List.mem_range.mp (List.mem_of_find?_eq_some hw))
    exact ⟨_, rollFetchIssue_gives pipe hruns, hpipe, ⟨l, (hkept.findLine_eq slot).trans hline, hpending⟩,
      (congrArg RollSt.wb hkept.roll).trans rfl, hkept.slots⟩
  · have hends : s.dev.AccessEnds (s.dev.placeOf slot).1 (s.dev.placeOf slot).2 0 false := hends.imp_left fun ⟨h, hgood⟩ => ⟨h, fun _ => hgood⟩
    obtain ⟨e, hfill, hkept, hpipes⟩ := rollFetchComplete_of_returns (now := s.bell)
      ⟨hreads, hhere, hreadable, hbuffered, hends, hline, hpending, htwo, hnone⟩
    have hended : (e.fill s.bell slot k).KeepsFront (endRead (e.fill s.bell slot k) pipe slot) := endRead_keepsFront ..
    have hstill (c : Nat) (hc : c < 16) : (endRead (e.fill s.bell slot k) pipe slot).chServes c = true := by
      rw [hended.chServes_eq, Dev.fill_chServes, hkept.chServes_eq, hserves c hc]
    have hgives := rollFetchComplete_gives pipe slot .ok hruns
    rw [hfill, endLost_of_serving hstill] at hgives
    refine ⟨_, hgives, ?_, ?_, hkept.slots, hkept.endpoints, ?_⟩
    · rw [hended.lineVal_eq, Dev.fill_lineVal ((hkept.findLine_eq slot).trans hline), hkept.stored_eq]
    · rw [endRead_reads, Dev.fill_pipe, Dev.pipe_of_pipes hpipes]
    · rw [hended.rd _ (.inr (.inr rfl)), Dev.fill_rd_count, hkept.rd _ (.inr (.inr rfl))]
  · subst hslot
    have hends : s.dev.AccessEnds (s.dev.placeOf l.slot).1 (s.dev.placeOf l.slot).2 6 true := hends.imp_left fun h => ⟨h, fun h => by cases h⟩
    obtain ⟨e, hdone, hkept⟩ := wbWriteDone_of_oldest (now := s.bell) hwb hissued hends
    have hgives := frWbWriteDone_gives l.slot .ok hruns
    rw [hdone] at hgives
    refine ⟨_, hgives, rfl, ?_, ?_, ?_, fun k hk => ?_⟩
    · rw [Dev.stored_of_memories (e.writtenBack_memories l rest), Dev.stored_store_same, BitVec.toNat_mod_cancel]
    · rw [← hkept.rd M.CNT_FR_WRITEBACK (.inr (.inr rfl))]
      exact e.writtenBack_rd_count l rest
    · rw [← hkept.roll]
      exact e.writtenBack_lines l rest
    · rw [Dev.stored_of_memories (e.writtenBack_memories l rest), Dev.stored_store_other _ _ hk, hkept.stored_eq]
  · simp [Dev.probed, Dev.rd_wr_other]

end Sys2Proof

/-! Packets and updates that wait for a line, and packets that wait behind another. -/

namespace Sys2Proof.Machine

variable {d e : Dev} {now : BellSt}

/-! ## What an update that takes its line leaves waiting (R279, R280) -/

/-- `e` has the descriptors of `d`, and the buckets that wait to be rebuilt. -/
structure Dev.KeepsWaits (d e : Dev) : Prop where
  descs : e.descs = d.descs
  rebuild : e.roll.rebuild = d.roll.rebuild

namespace Dev.KeepsWaits

theorem refl (d : Dev) : d.KeepsWaits d := ⟨rfl, rfl⟩

theorem trans {f : Dev} (h : d.KeepsWaits e) (h' : e.KeepsWaits f) : d.KeepsWaits f :=
  ⟨h'.descs.trans h.descs, h'.rebuild.trans h.rebuild⟩

theorem foldl {α : Type} {f : Dev → α → Dev} (h : ∀ d a, Dev.KeepsWaits d (f d a)) (as : List α) (d : Dev) : d.KeepsWaits (as.foldl f d) :=
  List.foldlRecOn as f (motive := fun e : Dev => d.KeepsWaits e) (refl d) fun e he a _ => he.trans (h e a)

theorem setLine (h : d.KeepsWaits e) (k : Nat) (l : Option Line) : d.KeepsWaits (e.setLine k l) := h.trans ⟨rfl, rfl⟩

theorem setHands (h : d.KeepsWaits e) (hands : SMap Nat) : d.KeepsWaits { e with roll := { e.roll with hands } } := h.trans ⟨rfl, rfl⟩

end Dev.KeepsWaits

theorem requestWrite_keepsWaits (now : BellSt) (d : Dev) (slot : Nat) : d.KeepsWaits (requestWrite now d slot) := by
  unfold requestWrite
  obtain ⟨channels, h⟩ := memRequest_channels (Dev.stamp now d).2 (d.placeOf slot).1
    (MemReq.new 6 (d.placeOf slot).2 true (decide (slot < epSlotBase)) (Dev.stamp now d).1)
  dsimp only
  rw [h]
  exact ⟨rfl, rfl⟩

theorem wbPush_keepsWaits (now : BellSt) (d : Dev) (slot : Nat) (data : BitVec 512) : d.KeepsWaits (wbPush now d slot data) := by
  unfold wbPush
  dsimp only
  split
  · exact .refl d
  · split
    · refine Dev.KeepsWaits.trans ?_ (requestWrite_keepsWaits ..)
      exact ⟨rfl, rfl⟩
    · exact ⟨rfl, rfl⟩

theorem clearReferenced_keepsWaits (set : Nat) (d : Dev) (w : Nat) : d.KeepsWaits (clearReferenced set d w) := by
  unfold clearReferenced
  split
  · exact (Dev.KeepsWaits.refl d).setLine ..
  · exact .refl d

/-- A slot that takes a line leaves what waits, whatever line gives way. -/
theorem placeLine_keepsWaits {slot data : Nat} {dirty pending : Bool} (h : placeLine now d slot data dirty pending = some e) :
    d.KeepsWaits e := by
  unfold placeLine at h
  dsimp only at h
  split at h
  case h_1 =>
    cases h
    exact (Dev.KeepsWaits.refl d).setLine ..
  case h_2 =>
    split at h
    case h_1 =>
      cases h
      exact (Dev.KeepsWaits.refl d).setLine ..
    case h_2 =>
      split at h
      · cases h
      · rename_i cleared v _
        cases h
        have hcleared := Dev.KeepsWaits.foldl (clearReferenced_keepsWaits (d.setOf slot)) cleared d
        refine Dev.KeepsWaits.setLine (.setHands (hcleared.trans ?_) _) ..
        split
        · split
          · exact (wbPush_keepsWaits ..).trans ⟨rfl, rfl⟩
          · exact .refl _
        · exact .refl _

theorem writeSlot_keepsWaits {slot v : Nat} (h : writeSlot now d slot v = some e) : d.KeepsWaits e := by
  unfold writeSlot at h
  obtain ⟨p, hp, rfl⟩ := Option.map_eq_some_iff.mp h
  have hplaced : d.KeepsWaits p := by
    split at hp
    · cases hp
      exact (Dev.KeepsWaits.refl d).setLine ..
    · exact placeLine_keepsWaits hp
  exact hplaced.trans ⟨rfl, rfl⟩

/-! ## FR_PLACEMENT_RETRY (R279) -/

theorem retryRebuild_of_none (h : d.roll.rebuild = []) : retryRebuild now d = d := by
  unfold retryRebuild
  rw [h]

theorem retryLate_of_none (h : d.roll.late = []) : retryLate now d = d := by
  unfold retryLate
  rw [h]

/-- The oldest update that takes its line is written there. -/
theorem retryLate_of_placed {slot : Nat} {v : BitVec 512} {rest : List (Nat × BitVec 512)} (h : d.roll.late = (slot, v) :: rest)
    (hplaced : writeSlot now d slot v.toNat = some e) : retryLate now d = e := by
  unfold retryLate
  rw [h]
  dsimp only
  unfold putSlot
  rw [hplaced]

theorem frPlacementRetry_of_packet {pipe : Nat} {x : Desc} (hlate : d.roll.late = []) (hrebuild : d.roll.rebuild = [])
    (hx : d.descs.find? (fun x => x.pipe == pipe && x.wait == .place) = some x) :
    frPlacementRetry pipe now d = resume now (d.unpark x.id) x := by
  unfold frPlacementRetry
  dsimp only
  rw [retryLate_of_none hlate, retryRebuild_of_none hrebuild, hx]

theorem frPlacementRetry_of_update {pipe slot : Nat} {v : BitVec 512} {rest : List (Nat × BitVec 512)} (hlate : d.roll.late = (slot, v) :: rest)
    (hrebuild : d.roll.rebuild = []) (hnone : ∀ x ∈ d.descs, x.wait ≠ .place) (hplaced : writeSlot now d slot v.toNat = some e) :
    frPlacementRetry pipe now d = e := by
  have hkept := writeSlot_keepsWaits hplaced
  have hfind : e.descs.find? (fun x => x.pipe == pipe && x.wait == .place) = none := by
    rw [hkept.descs]
    exact List.find?_eq_none.mpr fun x hx => by simp [hnone x hx]
  unfold frPlacementRetry
  dsimp only
  rw [retryLate_of_placed hlate hplaced, retryRebuild_of_none (hkept.rebuild.trans hrebuild), hfind]

/-! ## ROLL_HOLD_RELEASE (R284, R287) -/

theorem rollHoldRelease_of_mayRelease {pipe : Nat} {x : Desc} (hx : d.descs.find? (fun x => x.pipe == pipe && d.mayRelease x) = some x) :
    rollHoldRelease pipe now d = resume now (d.unpark x.id) x := by
  unfold rollHoldRelease
  rw [hx]

/-- A packet behind another of its flow, or one in the Roll stage whose record is PENDING, does not go. -/
theorem mayRelease_of_behind {x : Desc} (h : (d.ahead x).isSome = true ∨ x.stage = 7 ∧ d.hitsPending x = true) : d.mayRelease x = false := by
  unfold Dev.mayRelease
  obtain hahead | ⟨hstage, hpending⟩ := h
  · rw [Option.isNone_eq_false_iff.mpr hahead, Bool.and_false, Bool.false_and]
  · rw [hstage, hpending]
    exact Bool.and_false _

theorem rollHoldRelease_of_none {pipe : Nat} (h : ∀ x ∈ d.descs, x.pipe = pipe → d.mayRelease x = false) : rollHoldRelease pipe now d = d := by
  have hfind : d.descs.find? (fun x => x.pipe == pipe && d.mayRelease x) = none := by
    refine List.find?_eq_none.mpr fun x hx hgoes => ?_
    obtain ⟨hpipe, hmay⟩ := Bool.and_eq_true_iff.mp hgoes
    exact Bool.false_ne_true ((h x hx (eq_of_beq hpipe)).symm.trans hmay)
  unfold rollHoldRelease
  rw [hfind]

/-! ## Commands -/

theorem frPlacementRetry_gives (pipe : Nat) {s : State} (h : s.dev.dieRuns = true) :
    Gives (.frPlacementRetry pipe) s s.bell (frPlacementRetry pipe s.bell s.dev) := gives_of_onDie (f := frPlacementRetry pipe) rfl h

theorem rollHoldRelease_gives (pipe : Nat) {s : State} (h : s.dev.dieRuns = true) :
    Gives (.rollHoldRelease pipe) s s.bell (rollHoldRelease pipe s.bell s.dev) := gives_of_onDie (f := rollHoldRelease pipe) rfl h

end Sys2Proof.Machine

namespace Sys2Proof

open Sys2Proof.Machine

/-- Settles O36, clause by clause: FR_PLACEMENT_RETRY with nothing but packets, and with nothing but updates, that wait; ROLL_HOLD_RELEASE
with a packet that may go, and with none. -/
theorem waitingPacketsGoOn : Obligations.WaitingPacketsGoOn := by
  refine ⟨fun pipe x s hruns hlate hrebuild hx => ?_, fun pipe slot v rest e s hruns hlate hrebuild hnone hplaced => ?_,
    fun pipe x s hruns hx => ?_, fun pipe s hbehind => ?_⟩
  · have hgives := frPlacementRetry_gives pipe hruns
    rwa [frPlacementRetry_of_packet hlate hrebuild hx] at hgives
  · have hgives := frPlacementRetry_gives pipe hruns
    rwa [frPlacementRetry_of_update hlate hrebuild hnone hplaced] at hgives
  · have hgives := rollHoldRelease_gives pipe hruns
    rwa [rollHoldRelease_of_mayRelease hx] at hgives
  · exact exec_of_onDie_keeps (f := rollHoldRelease pipe) rfl
      (rollHoldRelease_of_none fun x hx hpipe => mayRelease_of_behind (hbehind x hx hpipe))

end Sys2Proof

/-! A step runs the command at the front of the queue. -/

namespace Sys2Proof

open Sys2Proof.Machine

/-- Settles O1: both clauses are the two branches of `step`; that an empty queue changes nothing is the model's choice (log 4). -/
theorem stepRunsFrontCommand : Obligations.StepRunsFrontCommand := by
  refine ⟨fun c rest s => rfl, fun s hempty => ?_⟩
  unfold step
  rw [hempty]

end Sys2Proof

/-! The slots of a period. -/

namespace Sys2Proof.Machine

/-! ## What is counted of a pipe's slots (R542 to R544) -/

/-- The five slot counts that pipe `p` keeps of slots without a pass, added up. -/
def Dev.starvedSlots (d : Dev) (p : Nat) : Nat :=
  d.rd (M.PERF_SLOT_FRONT p) + d.rd (M.PERF_SLOT_BACK_STEAL p) + d.rd (M.PERF_SLOT_BACK_BUFFER p) +
    d.rd (M.PERF_SLOT_BACK_CORRIDOR p) + d.rd (M.PERF_SLOT_BACK_SAG p)

/-- Six counts of slots: all of them, and the five kinds of slots without a pass. -/
structure SlotShare where
  total : Nat
  front : Nat
  steal : Nat
  buffer : Nat
  corridor : Nat
  sag : Nat

/-- The device after a pipe has counted `x`. -/
def Dev.countSlots (d : Dev) (p : Nat) (x : SlotShare) : Dev :=
  (((((d.addTo (M.PERF_SLOT_TOTAL p) x.total).addTo (M.PERF_SLOT_FRONT p) x.front).addTo (M.PERF_SLOT_BACK_STEAL p) x.steal).addTo
    (M.PERF_SLOT_BACK_BUFFER p) x.buffer).addTo (M.PERF_SLOT_BACK_CORRIDOR p) x.corridor).addTo (M.PERF_SLOT_BACK_SAG p) x.sag

theorem Dev.countSlots_rd_total (d : Dev) (p : Nat) (x : SlotShare) :
    (d.countSlots p x).rd (M.PERF_SLOT_TOTAL p) = (d.rd (M.PERF_SLOT_TOTAL p) + x.total) % 2 ^ 64 := by
  unfold Dev.countSlots
  simp (disch := grind) only [Dev.rd_addTo_same, Dev.rd_addTo_other]

theorem Dev.countSlots_starvedSlots (d : Dev) (p : Nat) (x : SlotShare) : (d.countSlots p x).starvedSlots p % 2 ^ 64 =
    (d.starvedSlots p + (x.front + x.steal + x.buffer + x.corridor + x.sag)) % 2 ^ 64 := by
  unfold Dev.starvedSlots Dev.countSlots
  simp (disch := grind) only [Dev.rd_addTo_same, Dev.rd_addTo_other]
  omega

/-- A closing period counts shares of which the starved ones and the passes that entered make up the total (R543, R544). -/
theorem slotCounts_eq (i : BellIn) (d : Dev) (p : Nat) : ∃ x : SlotShare, slotCounts i d p = d.countSlots p x ∧
    x.front + x.steal + x.buffer + x.corridor + x.sag + (d.pipe p).entered = x.total := by
  unfold slotCounts
  rcases i.slots.find? (fun (x : Nat × Nat × Nat) => x.1 == p) with _ | ⟨_, front, buffer⟩ <;> cases i.waiting.contains p
  all_goals
    refine ⟨⟨_, _, _, _, _, _⟩, rfl, ?_⟩
    simp only [Bool.false_eq_true, reduceIte]
    omega

end Sys2Proof.Machine

namespace Sys2Proof

open Sys2Proof.Machine

/-- Settles O9: what a closing period counts as starved, with the passes that entered, is what it adds to the total. -/
theorem slotCountersAddUp : Obligations.SlotCountersAddUp := by
  intro i d p _ sum
  obtain ⟨x, hx, hshare⟩ := slotCounts_eq i d p
  have hstarved := d.countSlots_starvedSlots p x
  have htotal := d.countSlots_rd_total p x
  change ((slotCounts i d p).starvedSlots p + (d.pipe p).entered + d.rd (M.PERF_SLOT_TOTAL p)) % 2 ^ 64 =
    (d.starvedSlots p + (slotCounts i d p).rd (M.PERF_SLOT_TOTAL p)) % 2 ^ 64
  rw [hx, htotal]
  omega

end Sys2Proof

/-! Offsets, steps and anchors of the time base, and the PPS pins. -/

namespace Sys2Proof.Machine

variable {d : Dev} {now : BellSt} {c : Instr} {s : State}

/-! ## Writes and triggers as commands (R120 to R123) -/

/-- A write that passes every earlier check, and whose chapter answers ST_OK, leaves what its chapter left. -/
theorem gives_of_accept_ok {a : Acc} {id : Nat} {f : BellSt → Nat → Dev → Nat × Dev} {e : Dev}
    (hexec : exec c s = s.onDev fun now d => (d.accept a id (f now)).2) (h : Admits s.dev a id)
    (hf : f s.bell (storedValue id a.val) s.dev = (St.OK, e)) : Gives c s s.bell e := by
  unfold Gives
  rw [hexec, State.onDev_eq, Dev.accept_admits _ h, hf, Dev.answer_ok]

/-- A trigger that passes every earlier check is answered as its chapter says. -/
theorem gives_of_trigger {a : Acc} {id : Nat} {f : BellSt → Nat → Dev → Nat × Dev} {r : Nat × Dev}
    (hexec : exec c s = s.onDev fun now d => (d.trigger a id (f now)).2) (h : Passes s.dev a id)
    (hf : f s.bell (storedValue id a.val) s.dev = r) : Gives c s s.bell (Dev.answer a.who id r) := by
  unfold Gives
  rw [hexec, State.onDev_eq, Dev.trigger_passes _ h, hf]

/-- A trigger that passes every earlier check, and whose chapter answers ST_OK, leaves what its chapter left. -/
theorem gives_of_trigger_ok {a : Acc} {id : Nat} {f : BellSt → Nat → Dev → Nat × Dev} {e : Dev}
    (hexec : exec c s = s.onDev fun now d => (d.trigger a id (f now)).2) (h : Passes s.dev a id)
    (hf : f s.bell (storedValue id a.val) s.dev = (St.OK, e)) : Gives c s s.bell e := by
  simpa only [Dev.answer_ok] using gives_of_trigger hexec h hf

/-! ## What an event leaves -/

theorem Dev.raise_time (d : Dev) (now : BellSt) (code object detail : Nat) : (d.raise now code object detail).time = d.time := by
  rw [Dev.raise_frame]

/-! ## The servo's state (R501, R502) -/

theorem servoGoes_rd_state (now : BellSt) (d : Dev) {new : Nat} (hnew : new < 2 ^ 64) :
    (servoGoes now d new).rd M.TIME_SERVO_STATE = new := by
  unfold servoGoes
  dsimp only
  split
  · assumption
  · rw [Dev.raise_rd _ _ _ _ _ _ (by decide), Dev.rd_wr_same, Nat.mod_eq_of_lt hnew]

theorem servoGoes_rd_drift (now : BellSt) (d : Dev) (new : Nat) : (servoGoes now d new).rd M.TIME_DRIFT = d.rd M.TIME_DRIFT := by
  unfold servoGoes
  dsimp only
  split
  · rfl
  · rw [Dev.raise_rd _ _ _ _ _ _ (by decide), Dev.rd_wr_other _ _ _ _ (by decide)]

theorem servoGoes_time (now : BellSt) (d : Dev) (new : Nat) : (servoGoes now d new).time = d.time := by
  unfold servoGoes
  dsimp only
  split
  · rfl
  · rw [Dev.raise_time, Dev.wr_time]

theorem servoHoldover_of_idle (h1 : d.rd M.TIME_SERVO_STATE ≠ 1) (h2 : d.rd M.TIME_SERVO_STATE ≠ 2) : servoHoldover now d = d :=
  if_neg fun h => h.1.elim h1 h2

/-- The output in holdover keeps the drift term alone (R502). -/
def Dev.heldOver (d : Dev) : Dev := { d with time := { d.time with servo := d.rdS 32 M.TIME_DRIFT, run := 0 } }

theorem servoHoldover_of_due (hstate : d.rd M.TIME_SERVO_STATE = 1 ∨ d.rd M.TIME_SERVO_STATE = 2)
    (hlate : d.rd M.TIME_HOLDOVER_LESSONS ≤ (now.lesson.toNat + 2 ^ 24 - d.time.lastStep % 2 ^ 24) % 2 ^ 24)
    (hpast : (now.lesson.toNat + 2 ^ 24 - d.time.lastStep % 2 ^ 24) % 2 ^ 24 < 2 ^ 23) :
    servoHoldover now d = servoGoes now d.heldOver 3 := if_pos ⟨hstate, hlate, hpast⟩

/-! ## PPS (R504, R505) -/

theorem ppsOutRise_of_second {t : Nat} (hon : d.on M.TIME_PPS_OUT_ENABLE = true)
    (hsecond : ((d.ptpNs t : Int) - d.rdS 32 M.TIME_PPS_OUT_OFFSET) % 10 ^ 9 = 0) : ppsOutRise t d =
      if d.anchorStale t then d.bump M.CNT_TIME_ANCHOR_STALE
      else { d with pins := { d.pins with ppsOut := true }, time := { d.time with ppsRise := t } } := if_pos ⟨hon, hsecond⟩

theorem ppsOutFall_of_width {t : Nat} (h : (t + 2 ^ 32 - d.time.ppsRise % 2 ^ 32) % 2 ^ 32 = d.rd M.TIME_PPS_OUT_WIDTH) :
    ppsOutFall t d = { d with pins := { d.pins with ppsOut := false } } := if_pos (.inr h)

theorem ppsInEdge_rd_stamp (d : Dev) {t : Nat} (ht : t < 2 ^ 32) : (ppsInEdge t d).rd M.TIME_PPS_IN_STAMP = t := by
  unfold ppsInEdge
  rw [Dev.rd_bump_other _ _ _ (by decide), Dev.rd_wr_same, Nat.mod_eq_of_lt ht, Nat.mod_eq_of_lt (by omega)]

theorem ppsInEdge_rd_count (d : Dev) (t : Nat) : (ppsInEdge t d).rd M.CNT_PPS_IN = (d.rd M.CNT_PPS_IN + 1) % 2 ^ 64 := by
  unfold ppsInEdge
  rw [Dev.rd_bump_same, Dev.rd_wr_other _ _ _ _ (by decide)]

theorem ppsInEdge_rd_other (d : Dev) (t : Nat) {k : Nat} (hstamp : k ≠ M.TIME_PPS_IN_STAMP) (hcount : k ≠ M.CNT_PPS_IN) :
    (ppsInEdge t d).rd k = d.rd k := (Dev.rd_bump_other _ _ _ hcount).trans (Dev.rd_wr_other _ _ _ _ hstamp)

end Sys2Proof.Machine

namespace Sys2Proof

open Sys2Proof.Machine

/-- Settles O57, clause by clause: the four members, SERVO_HOLDOVER and the three PPS events. -/
theorem timeInputsAndPps : Obligations.TimeInputsAndPps := by
  refine ⟨fun a s h => ?_, fun a s h => ?_, fun a s h => ?_, fun a s h => ?_, fun s hruns hstate hlate hpast => ?_, fun s h1 h2 => ?_,
    fun t s hruns hon hsecond => ?_, fun t s hruns hwidth => ?_, fun t s hruns ht => ?_⟩
  · refine ⟨_, gives_of_accept_ok (f := fun _ => timeOffsetIn) rfl h rfl, Dev.rd_wr_same .., rfl, ?_⟩
    exact (Dev.rd_wr_other _ _ _ _ (by decide)).trans (Dev.rd_bumpIf_same ..)
  · exact gives_of_trigger_ok (f := fun _ => timeStep) rfl h rfl
  · refine ⟨_, gives_of_trigger_ok (f := timeServoReset) rfl h rfl, ?_, servoGoes_rd_state _ _ (by decide), ?_, ?_⟩
    · exact (servoGoes_rd_drift ..).trans (s.dev.rd_wr_same M.TIME_DRIFT 0)
    · exact congrArg Time.servo (servoGoes_time ..)
    · exact congrArg Time.slew (servoGoes_time ..)
  · exact ⟨_, gives_of_accept_ok (f := fun _ => timeAnchorNs) rfl h rfl, rfl, rfl⟩
  · have hgives : Gives .servoHoldover s s.bell (servoHoldover s.bell s.dev) := gives_of_onDie rfl hruns
    rw [servoHoldover_of_due hstate hlate hpast] at hgives
    exact ⟨_, hgives, servoGoes_rd_state _ _ (by decide), congrArg Time.servo (servoGoes_time ..)⟩
  · exact exec_of_onDie_keeps (f := servoHoldover) rfl (servoHoldover_of_idle h1 h2)
  · rw [← ppsOutRise_of_second hon hsecond]
    exact gives_of_onDie (f := fun _ => ppsOutRise t) rfl hruns
  · rw [← ppsOutFall_of_width hwidth]
    exact gives_of_onDie (f := fun _ => ppsOutFall t) rfl hruns
  · exact ⟨_, gives_of_onDie (f := fun _ => ppsInEdge t) rfl hruns, ppsInEdge_rd_stamp _ ht, ppsInEdge_rd_count .., rfl,
      fun k hstamp hcount => ppsInEdge_rd_other _ _ hstamp hcount⟩

end Sys2Proof

/-! Octet strings: big-endian numbers, and the parts of a string that is put together. -/

namespace Sys2Proof.Machine

/-! ## Parts of a string -/

@[simp] theorem length_slice (bs : Bytes) (off n : Nat) : (slice bs off n).length = n := by simp [slice]

theorem slice_append_left {x : Bytes} {off n : Nat} (h : off + n ≤ x.length) (y : Bytes) : slice (x ++ y) off n = slice x off n := by
  refine List.map_congr_left fun i hi => ?_
  have := List.mem_range.mp hi
  exact List.getD_append _ _ _ _ (by omega)

theorem slice_append_right {x : Bytes} {off : Nat} (h : x.length ≤ off) (y : Bytes) (n : Nat) :
    slice (x ++ y) off n = slice y (off - x.length) n := by
  refine List.map_congr_left fun i _ => ?_
  rw [List.getD_append_right _ _ _ _ (by omega), show off + i - x.length = off - x.length + i by omega]

/-! ## Big-endian numbers (R7) -/

@[simp] theorem length_toBE (n v : Nat) : (toBE n v).length = n := by simp [toBE]

theorem beVal_append (x y : Bytes) : beVal (x ++ y) = beVal x * 256 ^ y.length + beVal y := by
  unfold beVal
  rw [List.foldl_append]
  generalize x.foldl (fun a b => a * 256 + b.toNat) 0 = v
  induction y using List.reverseRecOn with
  | nil => simp
  | append_singleton y b ih =>
    simp only [List.foldl_append, List.foldl_cons, List.foldl_nil, List.length_append, List.length_cons, List.length_nil] at ih ⊢
    rw [ih, pow_add]
    ring

theorem toBE_succ (n v : Nat) : toBE (n + 1) v = toBE n (v / 256) ++ [toByte v] := by
  unfold toBE
  rw [List.range_succ, List.map_append]
  congr 1
  · refine List.map_congr_left fun i hi => ?_
    have := List.mem_range.mp hi
    rw [Nat.div_div_eq_div_mul, ← pow_succ', show n + 1 - 1 - i = n - 1 - i + 1 by omega]
  · simp

theorem beVal_toBE (n v : Nat) : beVal (toBE n v) = v % 256 ^ n := by
  induction n generalizing v with
  | zero => simp [toBE, beVal, Nat.mod_one]
  | succ n ih =>
    have hbyte : beVal [toByte v] = v % 256 := by simp [beVal, toByte]
    rw [toBE_succ, beVal_append, ih, hbyte, pow_succ', Nat.mod_mul]
    simp only [List.length_cons, List.length_nil]
    omega

theorem beAt_append_left {x : Bytes} {off n : Nat} (h : off + n ≤ x.length) (y : Bytes) : beAt (x ++ y) off n = beAt x off n :=
  congrArg beVal (slice_append_left h y)

theorem beAt_append_right {x : Bytes} {off : Nat} (h : x.length ≤ off) (y : Bytes) (n : Nat) :
    beAt (x ++ y) off n = beAt y (off - x.length) n := congrArg beVal (slice_append_right h y n)

theorem beAt_toBE (n v : Nat) : beAt (toBE n v) 0 n = v % 256 ^ n := by
  have hall := slice_zero_length (toBE n v)
  rw [length_toBE] at hall
  rw [beAt, hall, beVal_toBE]

end Sys2Proof.Machine

/-! Tag seeds and modes, snapshots, EXPORT_NS, and the messages of exported records. -/

namespace Sys2Proof.Machine

variable {d : Dev} {now : BellSt}

/-! ## Tags and snapshots (R540, R541, R545, R548) -/

theorem lfsrStep_lt (n : Nat) : lfsrStep n < 2 ^ 32 := by
  unfold lfsrStep
  dsimp only
  split
  · exact Nat.xor_lt_two_pow (Nat.mod_lt _ (by decide)) (by decide)
  · exact Nat.mod_lt _ (by decide)

/-- A register that is not zero stays so: where its top bit leaves, the polynomial sets bit 0, and where it does not, the rest moves up whole. -/
theorem lfsrStep_pos {n : Nat} (hpos : 0 < n) (hlt : n < 2 ^ 32) : 0 < lfsrStep n := by
  unfold lfsrStep
  dsimp only
  split
  · refine Nat.pos_of_ne_zero fun hzero => ?_
    have hbit : (n * 2 % 2 ^ 32 ^^^ 0x00400007).testBit 0 = true := by
      rw [Nat.testBit_xor, Nat.testBit_zero, show n * 2 % 2 ^ 32 % 2 = 0 by omega]
      decide
    rw [hzero] at hbit
    exact absurd hbit (by decide)
  · next htop =>
    have hdiv : n / 2 ^ 31 % 2 = 0 := by
      have : ¬ n / 2 ^ 31 % 2 = 1 := by simpa [bitOf, Nat.testBit_eq_decide_div_mod_eq] using htop
      omega
    omega

@[simp] theorem Dev.lfsr_setLfsr_same (d : Dev) (p v : Nat) : (d.setLfsr p v).lfsr p = v := SMap.get_set_same ..

theorem Dev.lfsr_setLfsr_other (d : Dev) (v : Nat) {p q : Nat} (h : q ≠ p) : (d.setLfsr p v).lfsr q = d.lfsr q := SMap.get_set_other _ _ _ _ _ h

/-! ## Template sets (R346, R347) -/

/-- The template records that are sent, by whether an enterprise number is set. -/
def templateRecords (pen : Nat) : List Bytes := (List.range (if pen = 0 then 4 else 10)).map fun k => templateRecord pen (256 + k)

theorem templateRecords_lengths (pen : Nat) : (templateRecords pen).map List.length =
    if pen = 0 then [60, 76, 60, 68] else [60, 76, 60, 68, 84, 100, 84, 92, 40, 40] := by
  by_cases h : pen = 0
  · subst h
    decide
  · simp [h, templateRecords, List.range_succ, templateRecord, templateFields, templateField, reversePen]

theorem templateRecords_bounds (pen : Nat) : templateRecords pen ≠ [] ∧ (∀ r ∈ templateRecords pen, r ≠ [] ∧ r.length ≤ 100) ∧
    ((templateRecords pen).map List.length).sum ≤ 704 ∧ (templateRecords pen).length ≤ 10 := by
  have hlengths := templateRecords_lengths pen
  have hmem (r : Bytes) (hr : r ∈ templateRecords pen) : r.length ∈ (templateRecords pen).map List.length := List.mem_map_of_mem hr
  have hcount : (templateRecords pen).length = ((templateRecords pen).map List.length).length := (List.length_map ..).symm
  rw [hlengths] at hmem hcount
  rw [hlengths]
  refine ⟨fun hnil => ?_, fun r hr => ⟨fun hnil => ?_, ?_⟩, ?_, ?_⟩
  · rw [hnil] at hlengths
    split at hlengths <;> exact absurd hlengths (by decide)
  · have := hmem r hr
    subst hnil
    split at this <;> exact absurd this (by decide)
  · have := hmem r hr
    split at this <;> simp at this <;> omega
  · split <;> decide
  · rw [hcount]
    split <;> decide

variable {room : Nat} {cur : Bytes} {rs : List Bytes}

/-! ## Packing whole records into messages (R345) -/

theorem packTemplates_cons (room : Nat) (cur r : Bytes) (rest : List Bytes) : packTemplates room cur (r :: rest) =
    if cur.isEmpty ∨ cur.length + r.length ≤ room then packTemplates room (cur ++ r) rest else cur :: packTemplates room r rest := rfl

theorem packTemplates_length_sum (room : Nat) (cur : Bytes) (rs : List Bytes) :
    ((packTemplates room cur rs).map List.length).sum = cur.length + (rs.map List.length).sum := by
  induction rs generalizing cur with
  | nil => cases cur <;> rfl
  | cons r rest ih =>
    rw [packTemplates_cons]
    split <;> simp [ih, Nat.add_assoc]

theorem packTemplates_length_le (room : Nat) (cur : Bytes) (rs : List Bytes) : (packTemplates room cur rs).length ≤ rs.length + 1 := by
  induction rs generalizing cur with
  | nil => cases cur <;> simp [packTemplates]
  | cons r rest ih =>
    rw [packTemplates_cons]
    split
    · exact (ih (cur ++ r)).trans (by simp)
    · simpa using ih r

/-- Records that each fit a message are packed into messages that hold no more than their room. -/
theorem packTemplates_fits (hrs : ∀ r ∈ rs, r.length ≤ room) (hcur : cur.length ≤ room) : ∀ c ∈ packTemplates room cur rs, c.length ≤ room := by
  induction rs generalizing cur with
  | nil =>
    intro c hc
    cases cur <;> simp [packTemplates] at hc
    exact hc ▸ hcur
  | cons r rest ih =>
    have hr : r.length ≤ room := hrs r List.mem_cons_self
    have hrest : ∀ x ∈ rest, x.length ≤ room := fun x hx => hrs x (List.mem_cons_of_mem _ hx)
    rw [packTemplates_cons]
    split
    · next hjoin =>
      refine ih hrest ?_
      rcases hjoin with hempty | hle
      · simpa [List.isEmpty_iff.mp hempty] using hr
      · simpa using hle
    · intro c hc
      rcases List.mem_cons.mp hc with rfl | hc
      · exact hcur
      · exact ih hrest hr c hc

theorem packTemplates_ne_nil (hcur : cur ≠ []) : packTemplates room cur rs ≠ [] := by
  induction rs generalizing cur with
  | nil => simp [packTemplates, hcur]
  | cons r rest ih =>
    rw [packTemplates_cons]
    split
    · exact ih (by simp [hcur])
    · simp

/-- The template sets are not empty, fit the message limit, and together with their headers take no more than 1,024 bytes. -/
theorem templateBodies_bounds {bytes : Nat} (pen : Nat) (h : 512 ≤ bytes) : templateBodies pen bytes ≠ [] ∧
    (∀ b ∈ templateBodies pen bytes, 16 + b.length ≤ bytes) ∧ ((templateBodies pen bytes).map fun b => 16 + b.length).sum ≤ 1024 := by
  obtain ⟨hne, heach, hsum, hcount⟩ := templateRecords_bounds pen
  have hbodies : templateBodies pen bytes = (packTemplates (bytes - 20) [] (templateRecords pen)).map fun ts => toBE 2 2 ++ toBE 2 (4 + ts.length) ++ ts := rfl
  rw [hbodies]
  refine ⟨?_, ?_, ?_⟩
  · obtain ⟨r, rest, hcons⟩ := List.exists_cons_of_ne_nil hne
    have hr : r ≠ [] := (heach r (hcons ▸ List.mem_cons_self)).1
    rw [hcons, packTemplates_cons, if_pos (.inl rfl), Ne, List.map_eq_nil_iff]
    exact packTemplates_ne_nil hr
  · intro b hb
    obtain ⟨ts, hts, rfl⟩ := List.mem_map.mp hb
    have hfits := packTemplates_fits (room := bytes - 20) (cur := []) (fun r hr => (heach r hr).2.trans (by omega)) (by simp) ts hts
    simp only [List.length_append, length_toBE]
    omega
  · have htotal := packTemplates_length_sum (bytes - 20) [] (templateRecords pen)
    have hmessages := packTemplates_length_le (bytes - 20) [] (templateRecords pen)
    have hheads (cs : List Bytes) : ((cs.map fun ts => toBE 2 2 ++ toBE 2 (4 + ts.length) ++ ts).map fun b => 16 + b.length).sum =
        20 * cs.length + (cs.map List.length).sum := by
      induction cs with
      | nil => rfl
      | cons c cs ih =>
        simp only [List.map_cons, List.sum_cons, List.length_append, length_toBE, List.length_cons] at ih ⊢
        omega
    rw [hheads, htotal]
    simp only [List.length_nil]
    omega

/-! ## Messages that join the ring (R345, R346) -/

/-- A message of exported records: its header states its length, version 10 and the sequence number. -/
structure ExportMessage (m : Bytes) (limit seq : Nat) : Prop where
  states : m.length = beAt m 2 2
  fits : m.length ≤ limit
  version : beAt m 0 2 = 10
  number : beAt m 8 4 = seq % 2 ^ 32

/-- The message made of a body. -/
def Dev.message (d : Dev) (body : Bytes) : Bytes := d.messageHead (16 + body.length) ++ body

theorem Dev.message_exportMessage (d : Dev) {body : Bytes} {limit : Nat} (hlt : 16 + body.length < 65536) (hfits : 16 + body.length ≤ limit) :
    ExportMessage (d.message body) limit d.services.exportSeq := by
  have hlength : (d.message body).length = 16 + body.length := by
    simp only [Dev.message, Dev.messageHead, List.length_append, length_toBE]
  refine ⟨?_, hlength ▸ hfits, ?_, ?_⟩
  · rw [hlength]
    simp (disch := simp) only [Dev.message, Dev.messageHead, List.append_assoc, beAt_append_right, beAt_append_left, length_toBE, Nat.sub_self, beAt_toBE]
    omega
  · simp (disch := simp) only [Dev.message, Dev.messageHead, List.append_assoc, beAt_append_left, beAt_toBE]
    rfl
  · simp (disch := simp) only [Dev.message, Dev.messageHead, List.append_assoc, beAt_append_right, beAt_append_left, length_toBE, Nat.reduceSub, beAt_toBE]
    omega

theorem Dev.regionAccess_channels (d : Dev) (port : Nat) (write : Bool) (t : Nat) (bs : List RegionByte) :
    ∃ channels, d.regionAccess port write t bs = { d with memories := { d.memories with channels } } := Dev.unitAccess_channels ..

/-- An access of the ring of exported messages asks its channels, and changes nothing else but the model's own counter. -/
theorem Dev.exportAccess_channels (d : Dev) (now : BellSt) (write : Bool) (a n : Nat) :
    ∃ channels, d.exportAccess now write a n = { d with memories := { d.memories with channels }, free := d.free + 1 } :=
  Dev.regionAccess_channels ..

theorem pushMessage_services (now : BellSt) (d : Dev) (records : Nat) (body : Bytes) : ∃ exportAt, (pushMessage now d records body).services =
    { d.services with exportAt, exportPending := d.services.exportPending ++ [(records, d.message body)],
                      exportSeq := (d.services.exportSeq + records) % 2 ^ 32 } := by
  obtain ⟨channels, h⟩ := d.exportAccess_channels now true d.services.exportAt (d.message body).length
  unfold Dev.message at h
  simp only [pushMessage, Dev.exportGrows, h]
  exact ⟨_, rfl⟩

/-- The messages of several bodies without data records join the ring in order, under one sequence number. -/
theorem foldl_pushMessage {limit : Nat} {bs : List Bytes} (hlt : ∀ b ∈ bs, 16 + b.length < 65536) (hfits : ∀ b ∈ bs, 16 + b.length ≤ limit) (d : Dev) :
    ∃ ms : List Bytes, ms.length = bs.length ∧
      (bs.foldl (fun d b => pushMessage now d 0 b) d).services.exportPending = d.services.exportPending ++ ms.map (fun m => (0, m)) ∧
      (∀ m ∈ ms, ExportMessage m limit d.services.exportSeq) ∧
      (bs.foldl (fun d b => pushMessage now d 0 b) d).services.exportSeq =
        if bs = [] then d.services.exportSeq else d.services.exportSeq % 2 ^ 32 := by
  induction bs generalizing d with
  | nil => exact ⟨[], rfl, by simp, by simp, rfl⟩
  | cons b bs ih =>
    obtain ⟨exportAt, hpush⟩ := pushMessage_services now d 0 b
    obtain ⟨ms, hcount, hpending, hmessages, hseq⟩ := ih (fun x hx => hlt x (List.mem_cons_of_mem _ hx))
      (fun x hx => hfits x (List.mem_cons_of_mem _ hx)) (pushMessage now d 0 b)
    simp only [hpush, Nat.add_zero] at hpending hmessages hseq
    refine ⟨d.message b :: ms, by simp [hcount], by simpa using hpending, fun m hm => ?_, ?_⟩
    · rcases List.mem_cons.mp hm with rfl | hm
      · exact d.message_exportMessage (hlt b List.mem_cons_self) (hfits b List.mem_cons_self)
      · obtain ⟨hstates, hlimit, hversion, hnumber⟩ := hmessages m hm
        exact ⟨hstates, hlimit, hversion, by omega⟩
    · rw [List.foldl_cons, hseq, if_neg (List.cons_ne_nil b bs)]
      split
      · rfl
      · omega

theorem sendTemplates_of_room (hmode : d.rd M.EXPORT_MODE ≠ 0) (hbytes : 512 ≤ d.rd M.EXPORT_MSG_BYTES)
    (hroom : d.exportRingUsed + 1024 ≤ exportRingBytes d.palette) : sendTemplates now d =
      let e := (templateBodies (d.rd M.EXPORT_PEN) (d.rd M.EXPORT_MSG_BYTES)).foldl (fun d b => pushMessage now d 0 b) d
      { e with services := { e.services with templateLesson := now.lesson.toNat } } := by
  obtain ⟨_, _, hsum⟩ := templateBodies_bounds (d.rd M.EXPORT_PEN) hbytes
  exact if_neg (not_or.mpr ⟨hmode, by omega⟩)

theorem sendTemplates_keeps (h : d.rd M.EXPORT_MODE = 0 ∨ exportRingBytes d.palette < d.exportRingUsed) : sendTemplates now d = d :=
  if_pos (h.imp_right fun hfull => by omega)

theorem exportTemplateSend_of_due (hready : d.pins.ready = true)
    (hdue : d.rd M.EXPORT_TEMPLATE_INTERVAL ≤ lessonsSince now.lesson.toNat d.services.templateLesson) :
    exportTemplateSend now d = sendTemplates now d := if_pos ⟨hready, hdue⟩

theorem exportTemplateSend_keeps (h : d.pins.ready = false ∨ d.rd M.EXPORT_TEMPLATE_INTERVAL > lessonsSince now.lesson.toNat d.services.templateLesson ∨
    d.rd M.EXPORT_MODE = 0 ∨ exportRingBytes d.palette < d.exportRingUsed) : exportTemplateSend now d = d := by
  unfold exportTemplateSend
  split
  · next hdue => exact sendTemplates_keeps (by rcases h with h | h | h <;> grind)
  · rfl

/-- What template sets that are sent leave of the services that EXPORT_MODE turns on. -/
theorem sendTemplates_services (hmode : d.rd M.EXPORT_MODE ≠ 0) (hbytes : 512 ≤ d.rd M.EXPORT_MSG_BYTES)
    (hroom : d.exportRingUsed + 1024 ≤ exportRingBytes d.palette) : ∃ ms : List Bytes, ms ≠ [] ∧
      (sendTemplates now d).services.exportPending = d.services.exportPending ++ ms.map (fun m => (0, m)) ∧
      (∀ m ∈ ms, ExportMessage m (d.rd M.EXPORT_MSG_BYTES) d.services.exportSeq) ∧
      (sendTemplates now d).services.exportSeq = d.services.exportSeq % 2 ^ 32 ∧
      (sendTemplates now d).services.templateLesson = now.lesson.toNat := by
  obtain ⟨hne, hfits, hsum⟩ := templateBodies_bounds (d.rd M.EXPORT_PEN) hbytes
  have hlt : ∀ b ∈ templateBodies (d.rd M.EXPORT_PEN) (d.rd M.EXPORT_MSG_BYTES), 16 + b.length < 65536 := fun b hb =>
    (List.le_sum_of_mem (List.mem_map_of_mem (f := fun b : Bytes => 16 + b.length) hb)).trans_lt (by omega)
  obtain ⟨ms, hcount, hpending, hmessages, hseq⟩ := foldl_pushMessage (now := now) hlt hfits d
  rw [if_neg hne] at hseq
  rw [sendTemplates_of_room hmode hbytes hroom]
  refine ⟨ms, fun hnil => hne ?_, hpending, hmessages, hseq, rfl⟩
  exact List.length_eq_zero_iff.mp (by rw [← hcount, hnil]; rfl)

/-! ## Messages that leave (R346, R472) -/

theorem exportTask_of_empty (h : d.services.exportQueue = []) : exportTask now d = d := if_pos (.inl (by rw [h]; rfl))

theorem deliver_of_disabled {r : Nat} (h : d.rd (M.RING_STATE r) ≠ 1) (m : Meta) (item : Bytes) :
    deliver now d r m item = d.bump (M.CNT_RING_RX_DROP r) := if_pos (.inl h)

theorem exportMessageSend_keeps (h : d.services.exportPending = [] ∨ d.rd M.EXPORT_MODE = 0 ∨ d.pins.ready = false) :
    exportMessageSend now d = d := by
  unfold exportMessageSend
  split
  · rfl
  · next hpending => exact if_pos (by rcases h with h | h | h <;> simp_all)

/-- The oldest message has left the ring and is counted with its records. -/
def Dev.messageLeft (d : Dev) (n : Nat) (rest : List (Nat × Bytes)) : Dev :=
  ({ d with services := { d.services with exportPending := rest } }.bump M.CNT_EXPORT_MESSAGES).addTo M.CNT_EXPORT_RECORDS n

theorem Dev.messageLeft_rd_other (d : Dev) (n : Nat) (rest : List (Nat × Bytes)) {k : Nat} (hmessages : k ≠ M.CNT_EXPORT_MESSAGES)
    (hrecords : k ≠ M.CNT_EXPORT_RECORDS) : (d.messageLeft n rest).rd k = d.rd k :=
  (Dev.rd_addTo_other _ _ _ _ hrecords).trans (Dev.rd_bump_other _ _ _ hmessages)

/-- Where a message that has left the ring goes: to its port in mode 1, and to the host ring otherwise. -/
def messageGoes (now : BellSt) (d : Dev) (m : Bytes) : Dev :=
  if d.rd M.EXPORT_MODE = 1 then
    let (f, d) := d.exportFrame m
    (sendOwn now d f (d.rd M.EXPORT_PORT) (d.ale 0x0837000F 1 % 8)).2
  else
    let (ns, d) := Dev.stamp now d
    deliver now d (d.rd M.EXPORT_HOST_RING) { ns, parse := 0, user := 0, port := 0, cause := 6, cls := 0 } m

theorem messageGoes_of_disabled {m : Bytes} (hmode : d.rd M.EXPORT_MODE ≠ 1) (hring : d.rd (M.RING_STATE (d.rd M.EXPORT_HOST_RING)) ≠ 1) :
    messageGoes now d m = { d with free := d.free + 1 }.bump (M.CNT_RING_RX_DROP (d.rd M.EXPORT_HOST_RING)) :=
  (if_neg hmode).trans (deliver_of_disabled (d := { d with free := d.free + 1 }) hring _ _)

theorem exportMessageSend_of_pending {n : Nat} {m : Bytes} {rest : List (Nat × Bytes)} (hpending : d.services.exportPending = (n, m) :: rest)
    (hwhole : beAt m 2 2 ≤ m.length) (hready : d.pins.ready = true) (hmode : d.rd M.EXPORT_MODE ≠ 0) :
    ∃ channels, exportMessageSend now d = messageGoes now
      (exportTask now { d.messageLeft n rest with memories := { d.memories with channels }, free := d.free + 1 }) m := by
  obtain ⟨channels, haccess⟩ := d.exportAccess_channels now false
    ((d.services.exportAt + exportRingBytes d.palette - d.exportRingUsed % exportRingBytes d.palette) % exportRingBytes d.palette) m.length
  refine ⟨channels, ?_⟩
  unfold exportMessageSend
  simp only [hpending]
  rw [if_neg (by simpa [hmode, hready] using hwhole), haccess]
  rfl

/-- In mode 2 the oldest message goes to the host ring, whose delivery drops it where the ring is not enabled. -/
theorem exportMessageSend_of_disabled {n : Nat} {m : Bytes} {rest : List (Nat × Bytes)} (hpending : d.services.exportPending = (n, m) :: rest)
    (hwhole : beAt m 2 2 ≤ m.length) (hready : d.pins.ready = true) (hmode : d.rd M.EXPORT_MODE = 2) (hqueue : d.services.exportQueue = [])
    (hring : d.rd (M.RING_STATE (d.rd M.EXPORT_HOST_RING)) ≠ 1) : ∃ memories free, exportMessageSend now d =
      { (d.messageLeft n rest).bump (M.CNT_RING_RX_DROP (d.rd M.EXPORT_HOST_RING)) with memories, free } := by
  obtain ⟨channels, hsend⟩ := exportMessageSend_of_pending (now := now) hpending hwhole hready (by omega)
  let e : Dev := { d.messageLeft n rest with memories := { d.memories with channels }, free := d.free + 1 }
  have hrd {k : Nat} (hmessages : k ≠ M.CNT_EXPORT_MESSAGES) (hrecords : k ≠ M.CNT_EXPORT_RECORDS) : e.rd k = d.rd k :=
    d.messageLeft_rd_other n rest hmessages hrecords
  have hmode' : e.rd M.EXPORT_MODE ≠ 1 := by rw [hrd (by decide) (by decide), hmode]; decide
  have hhost : e.rd M.EXPORT_HOST_RING = d.rd M.EXPORT_HOST_RING := hrd (by decide) (by decide)
  have hstate : e.rd (M.RING_STATE (e.rd M.EXPORT_HOST_RING)) ≠ 1 := by rwa [hhost, hrd (by grind) (by grind)]
  have hidle : exportTask now e = e := exportTask_of_empty hqueue
  have hgoes := hsend.trans ((congrArg (messageGoes now · m) hidle).trans (messageGoes_of_disabled hmode' hstate))
  rw [hhost] at hgoes
  exact ⟨_, _, hgoes⟩

theorem Dev.messageLeft_rd_messages (d : Dev) (n : Nat) (rest : List (Nat × Bytes)) :
    (d.messageLeft n rest).rd M.CNT_EXPORT_MESSAGES = (d.rd M.CNT_EXPORT_MESSAGES + 1) % 2 ^ 64 :=
  (Dev.rd_addTo_other _ _ _ _ (by decide)).trans (Dev.rd_bump_same ..)

theorem Dev.messageLeft_rd_records (d : Dev) (n : Nat) (rest : List (Nat × Bytes)) :
    (d.messageLeft n rest).rd M.CNT_EXPORT_RECORDS = (d.rd M.CNT_EXPORT_RECORDS + n) % 2 ^ 64 := by
  unfold Dev.messageLeft
  rw [Dev.rd_addTo_same, Dev.rd_bump_other _ _ _ (by decide)]
  rfl

end Sys2Proof.Machine

namespace Sys2Proof

open Sys2Proof.Machine

/-- Settles O58, clause by clause. The messages that wait with EXPORT_MODE 0 are log 65's, and template sets that wait for room log 223's. -/
theorem tagsSnapshotsAndExport : Obligations.TagsSnapshotsAndExport := by
  refine ⟨fun n hpos hlt => ⟨lfsrStep_pos hpos hlt, lfsrStep_lt n⟩, fun p a s hp h => ?_, fun p a s hp h => ?_, fun a s h => ?_,
    fun a s h => ?_, fun s hruns hready hdue hmode hbytes hroom => ?_, fun s h => ?_, fun s h => ?_,
    fun n m rest s hruns hpending hwhole hready hmode hqueue hring hhost => ?_⟩
  · exact ⟨_, gives_of_accept_ok (f := fun _ => perfTagSeed p) rfl h rfl, Dev.lfsr_setLfsr_same .., fun q hq => Dev.lfsr_setLfsr_other _ _ hq,
      Dev.rd_wr_same ..⟩
  · exact ⟨_, gives_of_accept_ok (f := fun _ => perfTagMode p) rfl h rfl, Dev.rd_wr_same ..,
      (Dev.rd_wr_other _ _ _ _ (by grind)).trans (Dev.rd_wr_same ..), rfl⟩
  · refine ⟨_, gives_of_accept_ok (f := fun _ => perfSnapEnable) rfl h rfl, ?_⟩
    split
    · exact ⟨Dev.rd_wr_same .., rfl, rfl⟩
    · exact ⟨Dev.rd_wr_same .., rfl, rfl⟩
  · exact gives_of_accept_ok (f := fun _ => exportNs) rfl h rfl
  · have hgives : Gives .exportTemplateSend s s.bell (exportTemplateSend s.bell s.dev) := gives_of_onDie rfl hruns
    obtain ⟨ms, hne, hpending, hmessages, hseq, hlesson⟩ := sendTemplates_services (now := s.bell) hmode hbytes hroom
    rw [exportTemplateSend_of_due hready hdue] at hgives
    refine ⟨_, hgives, ms, hne, hpending, fun m hm => ?_, hseq, hlesson⟩
    obtain ⟨hstates, hfits, hversion, hnumber⟩ := hmessages m hm
    exact ⟨hstates, hfits, hversion, hnumber⟩
  · exact exec_of_onDie_keeps (f := exportTemplateSend) rfl (exportTemplateSend_keeps h)
  · exact exec_of_onDie_keeps (f := exportMessageSend) rfl (exportMessageSend_keeps h)
  · have hgives : Gives .exportMessageSend s s.bell (exportMessageSend s.bell s.dev) := gives_of_onDie rfl hruns
    obtain ⟨memories, free, hsend⟩ := exportMessageSend_of_disabled (now := s.bell) hpending hwhole hready hmode hqueue hring
    rw [hsend] at hgives
    refine ⟨_, hgives, rfl, ?_, ?_, ?_⟩
    · exact (Dev.rd_bump_other _ _ _ (by grind)).trans (Dev.messageLeft_rd_messages ..)
    · exact (Dev.rd_bump_other _ _ _ (by grind)).trans (Dev.messageLeft_rd_records ..)
    · exact (Dev.rd_bump_same ..).trans (by rw [Dev.messageLeft_rd_other _ _ _ (by grind) (by grind)])

end Sys2Proof

/-! Tutors: what a word that issues does to its tutor, and the words with an ALU operation. -/

namespace Sys2Proof.Machine

variable {d e : Dev} {now : BellSt} {u w next : Nat} {t : TaskRec}

/-! ## Tutors of the device (R354) -/

@[simp] theorem Dev.tutor_setTutor_same (d : Dev) (u : Nat) (x : Tutor) : (d.setTutor u x).tutor u = x := SMap.get_set_same ..

theorem Dev.tutor_setTutor_other (d : Dev) (x : Tutor) {u v : Nat} (h : v ≠ u) : (d.setTutor u x).tutor v = d.tutor v :=
  SMap.get_set_other _ _ _ _ _ h

theorem Dev.tutor_setTutor (d : Dev) (u v : Nat) (x : Tutor) : (d.setTutor u x).tutor v = if v = u then x else d.tutor v := by
  split
  · next h => rw [h, Dev.tutor_setTutor_same]
  · next h => exact d.tutor_setTutor_other x h

theorem Dev.tutor_of_tutors (h : e.tutors = d.tutors) (u : Nat) : e.tutor u = d.tutor u := by unfold Dev.tutor; rw [h]

@[simp] theorem Dev.tutor_bump (d : Dev) (id u : Nat) : (d.bump id).tutor u = d.tutor u := rfl

@[simp] theorem Dev.tutor_wr (d : Dev) (id v u : Nat) : (d.wr id v).tutor u = d.tutor u := rfl

@[simp] theorem Dev.taskRec_setTutor (d : Dev) (u : Nat) (x : Tutor) (pipe slot : Nat) : (d.setTutor u x).taskRec pipe slot = d.taskRec pipe slot := rfl

/-- Two devices that differ at most in how the tutors' map is written: each tutor reads the same. -/
structure Dev.SameTutors (d e : Dev) : Prop where
  frame : ∃ tutors, e = { d with tutors := { d.tutors with tutors } }
  tutor : ∀ v, e.tutor v = d.tutor v

theorem Dev.SameTutors.refl (d : Dev) : d.SameTutors d := ⟨⟨_, rfl⟩, fun _ => rfl⟩

theorem Dev.setTutor_sameTutors (d : Dev) (u : Nat) : d.SameTutors (d.setTutor u (d.tutor u)) := by
  refine ⟨⟨_, rfl⟩, fun v => ?_⟩
  rw [Dev.tutor_setTutor]
  split
  · next h => rw [h]
  · rfl

namespace Dev.SameTutors

variable (h : d.SameTutors e)
include h

theorem reg : e.reg = d.reg := by obtain ⟨_, rfl⟩ := h.frame; rfl
theorem rd (k : Nat) : e.rd k = d.rd k := Dev.rd_of_reg h.reg k
theorem tasks : e.tutors.tasks = d.tutors.tasks := by obtain ⟨_, rfl⟩ := h.frame; rfl
theorem descs : e.descs = d.descs := by obtain ⟨_, rfl⟩ := h.frame; rfl

end Dev.SameTutors

/-! ## The word boundary (R358, R362, R366, R372) -/

/-- Nothing waits for the end of the tutor's word: no WAIT, no double fault, no trap that may be taken and no pre-emption. -/
structure Tutor.Quiet (x : Tutor) : Prop where
  waiting : x.waiting = false
  double : x.double = false
  due : x.trapping = true ∨ x.due = []
  preempt : x.preempt = none

theorem settleTutor_of_busy (h : (d.tutor u).ops ≠ [] ∨ (d.tutor u).task = none) : settleTutor now d u = d :=
  if_pos (h.imp (by simp) (by simp))

theorem settleTutor_of_quiet (h : (d.tutor u).Quiet) : d.SameTutors (settleTutor now d u) := by
  by_cases hbusy : (d.tutor u).ops ≠ [] ∨ (d.tutor u).task = none
  · rw [settleTutor_of_busy hbusy]
    exact .refl d
  · have hdue : (if (d.tutor u).trapping = true then [] else (d.tutor u).due) = [] := by
      rcases h.due with htrapping | hdue
      · rw [if_pos htrapping]
      · rw [hdue, ite_self]
    have hsettle : settleTutor now d u = d.setTutor u (d.tutor u) := by
      unfold settleTutor
      dsimp only
      rw [if_neg (by simpa using hbusy)]
      simp [h.waiting, h.double, hdue, h.preempt]
    rw [hsettle]
    exact d.setTutor_sameTutors u

/-- A trap that waits is taken at a word boundary with nothing outstanding, unless one is being handled. -/
theorem settleTutor_of_due {cause info pc : Nat} {rest : List (Nat × Nat × Nat)} (hops : (d.tutor u).ops = []) (htask : (d.tutor u).task.isSome = true)
    (hwaiting : (d.tutor u).waiting = false) (hdouble : (d.tutor u).double = false) (htrapping : (d.tutor u).trapping = false)
    (hdue : (d.tutor u).due = (cause, info, pc) :: rest) : settleTutor now d u =
      takeTrap ((d.setTutor u (d.tutor u)).setTutor u { d.tutor u with due := rest }) u cause info pc := by
  unfold settleTutor
  dsimp only
  rw [if_neg (by simp [hops, Option.isNone_iff_eq_none, Option.isSome_iff_ne_none.mp htask])]
  simp [hwaiting, hdouble, htrapping, hdue]

/-! ## The ALU operation of a word (R357, R360) -/

theorem Tutor.setG_eq (x : Tutor) (i v : Nat) : x.setG i v = { x with regs := (x.setG i v).regs } := by
  unfold Tutor.setG
  split <;> rfl

theorem Tutor.g_setG_same (x : Tutor) {i : Nat} (v : Nat) (h0 : i ≠ 0) (h31 : i ≠ 31) : (x.setG i v).g i = v % 2 ^ 64 := by
  simp [Tutor.g, Tutor.setG, h0, h31]

theorem Tutor.g_setG_other (x : Tutor) {i k : Nat} (v : Nat) (h : k ≠ i) : (x.setG i v).g k = x.g k := by
  unfold Tutor.setG
  split
  · rfl
  · simp [Tutor.g, SMap.get_set_other _ _ _ _ _ h]

/-- A write to G0 and G31 is discarded, and no other write reaches them. -/
theorem Tutor.g_setG_fixed (x : Tutor) {i k : Nat} (v : Nat) (h : k = 0 ∨ k = 31) : (x.setG i v).g k = x.g k := by
  by_cases hk : k = i
  · subst hk
    rw [Tutor.setG, if_pos h]
  · exact x.g_setG_other v hk

/-- The register an ALU operation writes and the flags are all it changes. -/
theorem aluApply_eq (x : Tutor) (w : Nat) : aluApply x w = { x with
    regs := (aluApply x w).regs, z := (aluRun x w).z, n := (aluRun x w).n, c := (aluRun x w).c, v := (aluRun x w).v } := by
  unfold aluApply
  dsimp only
  split
  · rw [Tutor.setG_eq]
  · rfl

theorem aluApply_regs (x : Tutor) (w : Nat) :
    (aluApply x w).regs = if (aluRun x w).writes = true then (x.setG (wDst w) (aluRun x w).res).regs else x.regs := by
  unfold aluApply
  dsimp only
  split <;> rfl

theorem aluApply_g (x : Tutor) (w i : Nat) :
    (aluApply x w).g i = if (aluRun x w).writes = true then (x.setG (wDst w) (aluRun x w).res).g i else x.g i := by
  have hstatus : (x.setG (wDst w) (aluRun x w).res).status = x.status := by rw [Tutor.setG_eq]
  unfold Tutor.g
  rw [aluApply_regs, aluApply_eq]
  cases (aluRun x w).writes <;> simp [hstatus]

theorem aluRun_of_nop (x : Tutor) (h : wAlu w = 0) : aluRun x w = { res := 0, writes := false, z := x.z, n := x.n, c := x.c, v := x.v } := if_pos h

theorem aluRun_of_op (x : Tutor) (h : wAlu w ≠ 0) : aluRun x w =
    let b := widthBits (wWidth w)
    let a := x.g (wSrcA w) % 2 ^ (if wAlu w = 0x12 then 32 else b)
    let c := (if wBImm w then wImm w else x.g (wSrcB w)) % 2 ^ b
    let r := aluResult (wAlu w) b a c (wFpos w) (wFlen w) (x.g (wDst w) % 2 ^ b)
    { res := r, writes := wAlu w != 0xC, z := flagZ (resultBits (wAlu w) b) r, n := flagN (resultBits (wAlu w) b) r,
      c := (wAlu w == 1 && addCarry b a c) || ((wAlu w == 2 || wAlu w == 0xC) && subNotBorrow a c),
      v := (wAlu w == 1 && addOverflow b a c) || ((wAlu w == 2 || wAlu w == 0xC) && subOverflow b a c) } := if_neg h

theorem aluRun_writes (x : Tutor) (w : Nat) : (aluRun x w).writes = (wAlu w != 0 && wAlu w != 0xC) := by
  by_cases h : wAlu w = 0
  · simp [aluRun_of_nop x h, h]
  · simp [aluRun_of_op x h, h]

theorem aluApply_of_nop (x : Tutor) (h : wAlu w = 0) : aluApply x w = x := by
  unfold aluApply
  rw [aluRun_of_nop x h]
  rfl

/-! ## A word that issues (R355 to R358) -/

/-- A tutor after the word's ALU operation, its memory operation and its sequencer operation. -/
def Tutor.issued (x : Tutor) (w next : Nat) : Tutor :=
  let y := aluApply x w
  let ops := if wMem w = 0 then y.ops else y.ops ++ [memOpOf y w]
  let waits := wSeq w == 5 && !ops.isEmpty && wSys w != 1 && wSys w != 4
  { y with ops, stack := nextStack x w, pc := if waits then x.pc else next, waiting := waits }

/-- The device as a word has issued, before its SYS operation. -/
def Dev.issued (d : Dev) (now : BellSt) (u w next : Nat) : Dev :=
  tdRequest now ((d.setTutor u ((d.tutor u).issued w next)).bump (M.CNT_TUTOR_WORDS u)) (memOpOf (aluApply (d.tutor u) w) w)

theorem Dev.regionUpdate_channels (d : Dev) (port : Nat) (part : Bool) (t : Nat) (bs : List RegionByte) :
    ∃ channels, d.regionUpdate port part t bs = { d with memories := { d.memories with channels } } := by
  cases part
  · exact d.regionAccess_channels port true t bs
  · obtain ⟨channels, hread⟩ := d.regionAccess_channels port false t bs
    unfold Dev.regionUpdate
    rw [if_pos rfl, hread]
    exact Dev.regionAccess_channels ..

/-- The requests of an operation stand in the channels, and change nothing else but the model's own counter. -/
theorem tdRequest_channels (now : BellSt) (d : Dev) (m : MemOp) :
    ∃ channels free, tdRequest now d m = { d with memories := { d.memories with channels }, free } := by
  unfold tdRequest
  split
  · exact ⟨_, _, rfl⟩
  · dsimp only
    split
    · obtain ⟨channels, h⟩ := (Dev.stamp now d).2.regionAccess_channels 1 false (Dev.stamp now d).1 ((List.range m.width).map fun i => .tutor (m.addr + i))
      exact ⟨_, _, h⟩
    · obtain ⟨channels, h⟩ := (Dev.stamp now d).2.regionUpdate_channels 1 true (Dev.stamp now d).1 ((List.range m.width).map fun i => .tutor (m.addr + i))
      exact ⟨_, _, h⟩

theorem Dev.issued_frame (d : Dev) (now : BellSt) (u w next : Nat) : ∃ channels free, d.issued now u w next =
    { (d.setTutor u ((d.tutor u).issued w next)).bump (M.CNT_TUTOR_WORDS u) with memories := { d.memories with channels }, free } :=
  tdRequest_channels ..

@[simp] theorem Dev.issued_tutors (d : Dev) (now : BellSt) (u w next : Nat) :
    (d.issued now u w next).tutors = (d.setTutor u ((d.tutor u).issued w next)).tutors := by
  obtain ⟨_, _, h⟩ := d.issued_frame now u w next
  rw [h]
  rfl

theorem Dev.issued_tutor (d : Dev) (now : BellSt) (u w next v : Nat) :
    (d.issued now u w next).tutor v = if v = u then (d.tutor u).issued w next else d.tutor v := by
  rw [Dev.tutor_of_tutors (d.issued_tutors now u w next), Dev.tutor_setTutor]

@[simp] theorem Dev.issued_tutor_same (d : Dev) (now : BellSt) (u w next : Nat) :
    (d.issued now u w next).tutor u = (d.tutor u).issued w next := by
  rw [Dev.issued_tutor, if_pos rfl]

@[simp] theorem Dev.issued_reg (d : Dev) (now : BellSt) (u w next : Nat) : (d.issued now u w next).reg = (d.bump (M.CNT_TUTOR_WORDS u)).reg := by
  obtain ⟨_, _, h⟩ := d.issued_frame now u w next
  rw [h]
  rfl

theorem Dev.issued_rd_words (d : Dev) (now : BellSt) (u w next : Nat) :
    (d.issued now u w next).rd (M.CNT_TUTOR_WORDS u) = (d.rd (M.CNT_TUTOR_WORDS u) + 1) % 2 ^ 64 := by
  rw [Dev.rd_of_reg (d.issued_reg now u w next), Dev.rd_bump_same]

/-- A word that neither ends its task nor releases it goes on to its SYS operation and to the word boundary. -/
theorem wordRun_of_continues (hsys : wSys w ≠ 1) (hseq : wSeq w ≠ 6) :
    wordRun now d t u w next = settleTutor now (sysRun now (d.issued now u w next) u w next) u := if_neg (by simp [hsys, hseq])

theorem sysRun_of_none (h : wSys w = 0) : sysRun now d u w next = d := by
  unfold sysRun
  simp only [h]

/-- What a tutor that issues has waiting: nothing. -/
theorem Tutor.issues_iff (x : Tutor) : x.issues = true ↔
    x.task.isSome = true ∧ (x.due = [] ∨ x.trapping = true) ∧ x.double = false ∧ x.preempt = none ∧ x.waiting = false := by
  simp [Tutor.issues, and_assoc]

theorem Tutor.issued_eq (x : Tutor) (w next : Nat) : x.issued w next = { aluApply x w with
    ops := (x.issued w next).ops, stack := nextStack x w, pc := (x.issued w next).pc, waiting := (x.issued w next).waiting } := rfl

/-- A tutor whose word issued without a WAIT is as quiet after it as before. -/
theorem Tutor.issued_quiet {x : Tutor} (hissues : x.issues = true) (hwaiting : (x.issued w next).waiting = false) : (x.issued w next).Quiet := by
  obtain ⟨_, hdue, hdouble, hpreempt, _⟩ := x.issues_iff.mp hissues
  rw [Tutor.issued_eq, aluApply_eq] at *
  exact ⟨hwaiting, hdouble, hdue.symm, hpreempt⟩

theorem Tutor.issued_of_continues {x : Tutor} (hseq : wSeq w ≠ 5) : x.issued w next = { aluApply x w with
    ops := if wMem w = 0 then x.ops else x.ops ++ [memOpOf (aluApply x w) w], stack := nextStack x w, pc := next, waiting := false } := by
  have hops : (aluApply x w).ops = x.ops := by rw [aluApply_eq]
  have hno : (wSeq w == 5) = false := by simpa using hseq
  unfold Tutor.issued
  simp only [hno, Bool.false_and, hops]
  rfl

theorem nextStack_of_stays (x : Tutor) (hcall : wSeq w ≠ 2) (hreturn : wSeq w ≠ 3) : nextStack x w = x.stack := by
  unfold nextStack
  simp [hcall, hreturn]

/-- A word without a jump goes on to the next. -/
theorem nextAddr_inc {x : Tutor} (hseq : wSeq w = 0 ∨ wSeq w = 5) (hsys : wSys w ≠ 1) (hreturn : wSys w ≠ 4) (h : nextAddr x w = .inl next) :
    next = x.pc + 1 := by
  unfold nextAddr at h
  rw [if_neg (by simp [hsys, hreturn])] at h
  have hinc : (if 32768 ≤ x.pc + 1 then .inr (2, x.pc + 1) else .inl (x.pc + 1) : Nat ⊕ (Nat × Nat)) = .inl next := by
    rcases hseq with hseq | hseq <;> simpa only [hseq] using h
  split at hinc
  · exact absurd hinc (by simp)
  · exact (Sum.inl.inj hinc).symm

/-- A custom image meets a bad word only where one stands (R356). -/
theorem badWord_of_good {pc : Nat} (h : d.tutors.storeBad.contains (clusterOf u * 32768 + pc) = false) : badWord d u pc false = (none, d) := by
  unfold badWord
  rw [if_neg Bool.false_ne_true, h, if_neg Bool.false_ne_true]

end Sys2Proof.Machine

namespace Sys2Proof

open Sys2Proof.Machine

/-- A word that a command names, and whose tutor issues it, runs. -/
theorem Issues.runs {d : Dev} {u w next : Nat} (h : Issues d u w next) {holds : Nat → Bool} (hw : holds w = true) (ends : Bool) (now : BellSt) :
    ∃ t, d.running u = some t ∧ issueWord holds ends u now d = wordRun now d t u w next := by
  obtain ⟨_, hawake, t, im, hrunning, himage, hnative, hissues, hgood, hword, hstalls, htrap, hnext⟩ := h
  refine ⟨t, hrunning, ?_⟩
  unfold issueWord
  simp only [hawake, Bool.false_eq_true, if_false, hrunning, hissues, himage, hnative, badWord_of_good hgood, hword, hw, hstalls, htrap, hnext]
  simp

end Sys2Proof

/-! Words with an ALU operation, and words with a memory operation. -/

namespace Sys2Proof.Machine

variable {d : Dev} {now : BellSt} {u w next : Nat} {t : TaskRec}

/-! ## A word without a SYS operation (R357, R358) -/

theorem sysRun_settles_of_none (hissues : (d.tutor u).issues = true) (hsys : wSys w = 0) (hwaiting : ((d.tutor u).issued w next).waiting = false) :
    (d.issued now u w next).SameTutors (settleTutor now (sysRun now (d.issued now u w next) u w next) u) := by
  rw [sysRun_of_none hsys]
  exact settleTutor_of_quiet (by rw [Dev.issued_tutor_same]; exact Tutor.issued_quiet hissues hwaiting)

/-- A word that only goes on leaves what its issue left. -/
theorem wordRun_of_plain (hissues : (d.tutor u).issues = true) (hsys : wSys w = 0) (hwait : wSeq w ≠ 5) (hend : wSeq w ≠ 6) :
    (d.issued now u w next).SameTutors (wordRun now d t u w next) := by
  rw [wordRun_of_continues (by omega) hend]
  exact sysRun_settles_of_none hissues hsys (by rw [Tutor.issued_of_continues hwait])

theorem Tutor.waiting_of_issues {x : Tutor} (h : x.issues = true) : x.waiting = false := by
  obtain ⟨_, _, _, _, hwaiting⟩ := x.issues_iff.mp h
  exact hwaiting

theorem aluApply_ops (x : Tutor) (w : Nat) : (aluApply x w).ops = x.ops := by rw [aluApply_eq]

/-- A word without a sequencer or SYS operation goes on to the next address, with its memory operation outstanding. -/
theorem Tutor.issued_of_plain {x : Tutor} (hissues : x.issues = true) (hsys : wSys w = 0) (hseq : wSeq w = 0) (hnext : nextAddr x w = .inl next) :
    x.issued w next =
      { aluApply x w with pc := x.pc + 1, ops := if wMem w = 0 then x.ops else x.ops ++ [memOpOf (aluApply x w) w] } := by
  rw [Tutor.issued_of_continues (by omega), nextStack_of_stays _ (by omega) (by omega), nextAddr_inc (.inl hseq) (by omega) (by omega) hnext,
    aluApply_eq, Tutor.waiting_of_issues hissues]

theorem Dev.issued_descs (d : Dev) (now : BellSt) (u w next : Nat) : (d.issued now u w next).descs = d.descs := by
  obtain ⟨_, _, h⟩ := d.issued_frame now u w next
  rw [h]
  rfl

theorem Dev.issued_tasks (d : Dev) (now : BellSt) (u w next : Nat) : (d.issued now u w next).tutors.tasks = d.tutors.tasks := by
  rw [Dev.issued_tutors]
  rfl

/-! ## The 21 ALU operations (R360) -/

/-- The commands that issue a word with an ALU operation, by the operation's code. -/
def aluCommands : List (Nat × (Nat → Instr)) :=
  [(0x00, Instr.aluNop), (0x01, Instr.aluAdd), (0x02, Instr.aluSub), (0x03, Instr.aluAnd), (0x04, Instr.aluOr), (0x05, Instr.aluXor),
    (0x06, Instr.aluShl), (0x07, Instr.aluShr), (0x08, Instr.aluSar), (0x09, Instr.aluMov), (0x0A, Instr.aluExtract), (0x0B, Instr.aluInsert),
    (0x0C, Instr.aluCmp), (0x0D, Instr.aluMinu), (0x0E, Instr.aluMaxu), (0x0F, Instr.aluClz), (0x10, Instr.aluMul), (0x11, Instr.aluMulhu),
    (0x12, Instr.aluCrc), (0x13, Instr.aluBswap), (0x14, Instr.aluPopcnt)]

theorem exec_alu {p : Nat × (Nat → Instr)} (hp : p ∈ aluCommands) (u : Nat) (s : State) : exec (p.2 u) s = s.onDie (issueAlu p.1 u) := by
  fin_cases hp <;> rfl

/-- The commands that issue a word with a memory operation, by the operation's code. -/
def memCommands : List (Nat × (Nat → Instr)) :=
  [(0x01, Instr.memLocalRead), (0x02, Instr.memLocalWrite), (0x03, Instr.memHvRead), (0x04, Instr.memRecRead), (0x05, Instr.memRecWrite),
    (0x06, Instr.memEpRead), (0x07, Instr.memEpWrite), (0x08, Instr.memTdRead), (0x09, Instr.memTdWrite), (0x0A, Instr.memTdAdd),
    (0x0B, Instr.memPktRead), (0x0C, Instr.memPktWrite), (0x0D, Instr.memTable), (0x0E, Instr.memDictRead), (0x0F, Instr.memDictWrite),
    (0x10, Instr.memPoolAlloc), (0x11, Instr.memPoolFree), (0x12, Instr.memRingWrite), (0x13, Instr.memSend)]

theorem exec_mem {p : Nat × (Nat → Instr)} (hp : p ∈ memCommands) (u : Nat) (s : State) : exec (p.2 u) s = s.onDie (issueMem p.1 u) := by
  fin_cases hp <;> rfl

theorem op_ne_zero_of_mem_memCommands {p : Nat × (Nat → Instr)} (hp : p ∈ memCommands) : p.1 ≠ 0 := by
  have hall : ∀ op ∈ memCommands.map Prod.fst, op ≠ 0 := by decide
  exact hall _ (List.mem_map_of_mem hp)

end Sys2Proof.Machine

namespace Sys2Proof

open Sys2Proof.Machine

theorem Issues.issues {d : Dev} {u w next : Nat} (h : Issues d u w next) : (d.tutor u).issues = true := by
  obtain ⟨_, _, _, _, _, _, _, hissues, _⟩ := h
  exact hissues

theorem Issues.next {d : Dev} {u w next : Nat} (h : Issues d u w next) : nextAddr (d.tutor u) w = .inl next := by
  obtain ⟨_, _, _, _, _, _, _, _, _, _, _, _, hnext⟩ := h
  exact hnext

/-- A command that issues a word of its own leaves what the word leaves. -/
theorem Issues.gives {c : Instr} {s : State} {u w next : Nat} (h : Issues s.dev u w next) {holds : Nat → Bool} {ends : Bool}
    (hexec : exec c s = s.onDie (issueWord holds ends u)) (hw : holds w = true) :
    ∃ t, s.dev.running u = some t ∧ Gives c s s.bell (wordRun s.bell s.dev t u w next) := by
  obtain ⟨t, hrunning, hrun⟩ := h.runs hw ends s.bell
  exact ⟨t, hrunning, hrun ▸ gives_of_onDie hexec h.1⟩

/-- Settles O37. A word that issues its ALU operation and nothing else leaves its tutor with that operation and the next address. -/
theorem aluWordsRun : Obligations.AluWordsRun := by
  refine ⟨fun p hp u w next s h ⟨hmem, hsys, hseq⟩ halu => ?_, fun x w => ⟨?_, ?_, fun i hi => ?_, fun hop => ?_, fun h0 h31 hwrites => ?_⟩⟩
  · obtain ⟨t, -, hgives⟩ := h.gives (holds := fun w => wAlu w == p.1) (exec_alu hp u s) (by simpa using halu)
    have hrun := wordRun_of_plain (now := s.bell) (next := next) (t := t) h.issues hsys (by omega) (by omega)
    refine ⟨_, hgives, ?_, fun v hv => ?_, ?_, ?_, ?_⟩
    · rw [hrun.tutor, Dev.issued_tutor_same, Tutor.issued_of_plain h.issues hsys hseq h.next, if_pos hmem, ← aluApply_ops _ w]
    · rw [hrun.tutor, Dev.issued_tutor, if_neg hv]
    · rw [hrun.tasks, Dev.issued_tasks]
    · rw [hrun.descs, Dev.issued_descs]
    · rw [hrun.rd, Dev.issued_rd_words]
  · rw [aluApply_g, Tutor.g_setG_fixed _ _ (.inl rfl), ite_self]
    rfl
  · rw [aluApply_g, Tutor.g_setG_fixed _ _ (.inr rfl), ite_self]
  · rw [aluApply_g, Tutor.g_setG_other _ _ hi, ite_self]
  · rw [aluApply_regs, if_neg (by rw [aluRun_writes]; rcases hop with hop | hop <;> simp [hop])]
  · rw [aluApply_g, if_pos hwrites, Tutor.g_setG_same _ _ h0 h31]

/-- Settles O40. The memory operation takes its registers after the ALU operation of its word (log 121), and what issues with it are
requests at the channels. -/
theorem memoryWordsIssue : Obligations.MemoryWordsIssue := by
  intro p hp u w next s h ⟨hsys, hseq⟩ hmem
  have hop : wMem w ≠ 0 := hmem ▸ op_ne_zero_of_mem_memCommands hp
  obtain ⟨t, -, hgives⟩ := h.gives (holds := fun w => wMem w == p.1) (exec_mem hp u s) (by simpa using hmem)
  have hrun := wordRun_of_plain (now := s.bell) (next := next) (t := t) h.issues hsys (by omega) (by omega)
  obtain ⟨channels, free, hissued⟩ := s.dev.issued_frame s.bell u w next
  obtain ⟨tutors, hframe⟩ := hrun.frame
  refine ⟨_, hgives, ?_, ?_⟩
  · rw [hrun.tutor, Dev.issued_tutor_same, Tutor.issued_of_plain h.issues hsys hseq h.next, if_neg hop]
  · rw [hframe, hissued]
    exact ⟨rfl, rfl, rfl, rfl, rfl, rfl, rfl, rfl, rfl, rfl⟩

end Sys2Proof

/-! Results and flags of the ALU (R360). -/

namespace Sys2Proof.Machine

variable {b a c : Nat}

/-! ## Signed values -/

theorem sgn_eq_toInt (hb : 0 < b) (v : Nat) : sgn b v = (BitVec.ofNat b v).toInt := by
  have hpow : 2 ^ b = 2 ^ (b - 1) * 2 := by rw [← pow_succ, Nat.sub_add_cancel hb]
  have hparts : v % 2 ^ b = v % 2 ^ (b - 1) + 2 ^ (b - 1) * (v / 2 ^ (b - 1) % 2) := by rw [hpow, Nat.mod_mul]
  have hlow : v % 2 ^ (b - 1) < 2 ^ (b - 1) := Nat.mod_lt _ (by positivity)
  have htop : fld v (b - 1) 1 = v / 2 ^ (b - 1) % 2 := by rw [fld, pow_one]
  have hall : fld v 0 b = v % 2 ^ b := by rw [fld, pow_zero, Nat.div_one]
  rw [sgn, htop, hall, BitVec.toInt_eq_toNat_cond, BitVec.toNat_ofNat]
  rcases Nat.mod_two_eq_zero_or_one (v / 2 ^ (b - 1)) with h | h <;> rw [h] at hparts ⊢
  · rw [if_neg (by decide), if_pos (by omega)]
  · rw [if_pos rfl, if_neg (by omega)]
    norm_num

theorem unsgn_eq_ofInt (b : Nat) (i : Int) : unsgn b i = (BitVec.ofInt b i).toNat := by
  rw [unsgn, BitVec.toNat_ofInt]
  norm_num

/-- A signed number is changed by its reduction to `b` bits exactly where it lies outside their range. -/
theorem bmod_ne_self_iff (hb : 0 < b) (s : Int) : s.bmod (2 ^ b) ≠ s ↔ 2 ^ (b - 1) ≤ s ∨ s < -2 ^ (b - 1) := by
  have hpow : ((2 ^ b : Nat) : Int) = 2 * 2 ^ (b - 1) := by
    rw [← pow_succ', Nat.sub_add_cancel hb]
    norm_num
  have hlt := Int.bmod_lt (x := s) (m := 2 ^ b) (by positivity)
  have hle := Int.le_bmod (x := s) (m := 2 ^ b) (by positivity)
  have heq := Int.bmod_eq_of_le (n := s) (m := 2 ^ b)
  rw [hpow] at hlt hle heq
  generalize (2 : Int) ^ (b - 1) = q at *
  constructor
  · intro hne
    by_contra hin
    exact hne (heq (by omega) (by omega))
  · intro hout hself
    omega

/-! ## Sums and differences -/

theorem aluResult_add (x y o : Nat) : aluResult 0x01 b a c x y o = (BitVec.ofNat b a + BitVec.ofNat b c).toNat := by
  simp [aluResult]

theorem sub_eq_toNat (hc : c < 2 ^ b) : (a + 2 ^ b - c) % 2 ^ b = (BitVec.ofNat b a - BitVec.ofNat b c).toNat := by
  rw [BitVec.toNat_sub, BitVec.toNat_ofNat, BitVec.toNat_ofNat, Nat.mod_eq_of_lt hc, Nat.add_mod_mod]
  congr 1
  omega

theorem addCarry_eq (ha : a < 2 ^ b) (hc : c < 2 ^ b) : addCarry b a c = BitVec.uaddOverflow (BitVec.ofNat b a) (BitVec.ofNat b c) := by
  simp [addCarry, BitVec.uaddOverflow, Nat.mod_eq_of_lt ha, Nat.mod_eq_of_lt hc]

theorem addOverflow_eq (hb : 0 < b) (a c : Nat) : addOverflow b a c = BitVec.saddOverflow (BitVec.ofNat b a) (BitVec.ofNat b c) := by
  have hsum : sgn b ((a + c) % 2 ^ b) = (sgn b a + sgn b c).bmod (2 ^ b) := by
    rw [sgn_eq_toInt hb, sgn_eq_toInt hb, sgn_eq_toInt hb, ← BitVec.toInt_add, ← BitVec.ofNat_add]
    congr 1
    exact BitVec.eq_of_toNat_eq (by simp)
  rw [addOverflow, hsum, BitVec.saddOverflow, ← sgn_eq_toInt hb, ← sgn_eq_toInt hb, ← Bool.decide_or]
  exact decide_eq_decide.mpr (bmod_ne_self_iff hb _)

theorem subNotBorrow_eq (ha : a < 2 ^ b) (hc : c < 2 ^ b) :
    subNotBorrow a c = !BitVec.usubOverflow (BitVec.ofNat b a) (BitVec.ofNat b c) := by
  simp [subNotBorrow, BitVec.usubOverflow, Nat.mod_eq_of_lt ha, Nat.mod_eq_of_lt hc, ← decide_not]

theorem subOverflow_eq (hb : 0 < b) (hc : c < 2 ^ b) : subOverflow b a c = BitVec.ssubOverflow (BitVec.ofNat b a) (BitVec.ofNat b c) := by
  have hdiff : sgn b ((a + 2 ^ b - c) % 2 ^ b) = (sgn b a - sgn b c).bmod (2 ^ b) := by
    rw [sgn_eq_toInt hb, sgn_eq_toInt hb, sgn_eq_toInt hb, ← BitVec.toInt_sub]
    congr 1
    exact BitVec.eq_of_toNat_eq (by rw [BitVec.toNat_ofNat, Nat.mod_mod, sub_eq_toNat hc])
  rw [subOverflow, hdiff, BitVec.ssubOverflow, ← sgn_eq_toInt hb, ← sgn_eq_toInt hb, ← Bool.decide_or]
  exact decide_eq_decide.mpr (bmod_ne_self_iff hb _)

/-! ## Shifts, bytes and leading zeros -/

theorem aluResult_shl (ha : a < 2 ^ b) (c x y o : Nat) : aluResult 0x06 b a c x y o = (BitVec.ofNat b a <<< (c % 64)).toNat := by
  rw [BitVec.toNat_shiftLeft, BitVec.toNat_ofNat, Nat.mod_eq_of_lt ha, Nat.shiftLeft_eq]
  rfl

theorem aluResult_shr (ha : a < 2 ^ b) (c x y o : Nat) : aluResult 0x07 b a c x y o = (BitVec.ofNat b a >>> (c % 64)).toNat := by
  rw [BitVec.toNat_ushiftRight, BitVec.toNat_ofNat, Nat.mod_eq_of_lt ha, Nat.shiftRight_eq_div_pow]
  rfl

theorem aluResult_sar (hb : 0 < b) (a c x y o : Nat) : aluResult 0x08 b a c x y o = ((BitVec.ofNat b a).sshiftRight (c % 64)).toNat := by
  rw [BitVec.sshiftRight, ← unsgn_eq_ofInt, ← sgn_eq_toInt hb, Int.shiftRight_eq_div_pow]
  simp [aluResult, shiftArith]

theorem beVal_eq_leVal_reverse (bs : Bytes) : beVal bs = leVal bs.reverse := by
  rw [beVal, leVal, List.foldr_reverse]

theorem leVal_lt (bs : Bytes) : leVal bs < 256 ^ bs.length := by
  induction bs with
  | nil => simp [leVal]
  | cons x bs ih =>
    have hx := x.isLt
    have hcons : leVal (x :: bs) = leVal bs * 256 + x.toNat := rfl
    rw [hcons, List.length_cons, pow_succ]
    omega

theorem toLE_leVal (bs : Bytes) : toLE bs.length (leVal bs) = bs := by
  induction bs with
  | nil => rfl
  | cons x bs ih =>
    have hx := x.isLt
    have hcons : leVal (x :: bs) = leVal bs * 256 + x.toNat := rfl
    rw [List.length_cons, toLE_succ, hcons, show (leVal bs * 256 + x.toNat) / 256 = leVal bs by omega, ih]
    congr 1
    exact BitVec.eq_of_toNat_eq (by simp only [toByte, BitVec.toNat_ofNat]; omega)

theorem toLE_byteSwap (b a : Nat) : toLE (b / 8) (byteSwap b a) = (toLE (b / 8) a).reverse := by
  have h := toLE_leVal (toLE (b / 8) a).reverse
  rwa [List.length_reverse, length_toLE, ← beVal_eq_leVal_reverse] at h

/-- The leading zeros of a number tell between which powers of two it lies. -/
theorem leadingZeros_bounds (ha : a < 2 ^ b) (hne : a ≠ 0) : 2 ^ (b - 1 - leadingZeros b a) ≤ a ∧ a < 2 ^ (b - leadingZeros b a) := by
  have hlog : a.log2 < b := (Nat.log2_lt hne).mpr ha
  have hzeros : leadingZeros b a = b - 1 - a.log2 := by rw [leadingZeros, Nat.mod_eq_of_lt ha, if_neg hne]
  rw [hzeros, show b - 1 - (b - 1 - a.log2) = a.log2 by omega, show b - (b - 1 - a.log2) = a.log2 + 1 by omega]
  exact ⟨Nat.log2_self_le hne, Nat.lt_log2_self⟩

/-! ## Bit fields and products -/

theorem bitOf_extract (b a c x y o j : Nat) : bitOf (aluResult 0x0A b a c x y o) j = (decide (j ≤ y) && bitOf a (x + j)) := by
  have h := testBit_fld a x (y + 1) j
  rwa [decide_eq_decide.mpr Nat.lt_succ_iff] at h

theorem bitOf_insert {j : Nat} (hj : j < b) (a c x y o : Nat) :
    bitOf (aluResult 0x0B b a c x y o) j = if x ≤ j ∧ j ≤ x + y then bitOf c (j - x) else bitOf o j := by
  have h := testBit_setFld o x (y + 1) c j
  rw [← bitOf, ← bitOf_mod_two_pow _ hj] at h
  simp only [← Nat.add_assoc, Nat.lt_succ_iff] at h
  exact h

theorem mulhu_mul (b a c x y o : Nat) : aluResult 0x11 b a c x y o * 2 ^ 64 + aluResult 0x10 b a c x y o = a * c := by
  rw [Nat.mul_comm]
  exact Nat.div_add_mod ..

/-- Only ADD, SUB and CMP set C or V (R360). -/
theorem aluRun_clears (x : Tutor) {w : Nat} (h : wAlu w ∉ [0x00, 0x01, 0x02, 0x0C]) : (aluRun x w).c = false ∧ (aluRun x w).v = false := by
  simp only [List.mem_cons, List.not_mem_nil, or_false, not_or] at h
  obtain ⟨hnop, hadd, hsub, hcmp⟩ := h
  rw [aluRun_of_op x hnop]
  simp [hadd, hsub, hcmp]

end Sys2Proof.Machine

namespace Sys2Proof

open Sys2Proof.Machine

/-- Settles O38: each operation against the operation on bit vectors, bytes or bits that its name says. -/
theorem aluResultsAreExact : Obligations.AluResultsAreExact := by
  have hpos {b : Nat} (hb : b ∈ [8, 16, 32, 64]) : 0 < b := by fin_cases hb <;> decide
  refine ⟨fun b a c x y o hb ha hc => ?_, fun b a c x y o hb ha hc => ?_, fun b a c x y o j hb ha hc ho hj => ?_,
    fun b a c x y o ha hc => mulhu_mul b a c x y o, fun x w h => aluRun_clears x h⟩
  · exact ⟨aluResult_add x y o, sub_eq_toNat hc, sub_eq_toNat hc, addCarry_eq ha hc, addOverflow_eq (hpos hb) a c, subNotBorrow_eq ha hc,
      subOverflow_eq (hpos hb) hc⟩
  · exact ⟨aluResult_shl ha c x y o, aluResult_shr ha c x y o, aluResult_sar (hpos hb) a c x y o, toLE_byteSwap b a, leadingZeros_bounds ha⟩
  · exact ⟨bitOf_extract b a c x y o j, bitOf_insert hj a c x y o⟩

end Sys2Proof

/-! The trap frame (R366). -/

namespace Sys2Proof.Machine

/-! ## Bytes read back from a memory -/

theorem Memory.readBytes_writeBytes {bs : Bytes} {off n : Nat} (h : off + n ≤ bs.length) (m : List Host.Cell) (a : Nat) :
    Memory.readBytes (Memory.writeBytes m a bs) (a + off) n = slice bs off n := by
  refine List.map_congr_left fun i hi => ?_
  have := List.mem_range.mp hi
  rw [Nat.add_assoc]
  exact Memory.read_writeBytes_inside _ _ _ _ (by omega)

theorem Memory.readBytes_writeBytes_all (m : List Host.Cell) (a : Nat) (bs : Bytes) :
    Memory.readBytes (Memory.writeBytes m a bs) a bs.length = bs := by
  have h := Memory.readBytes_writeBytes (bs := bs) (off := 0) (n := bs.length) (by omega) m a
  rwa [Nat.add_zero, slice_zero_length] at h

theorem slice_toLE (n v : Nat) : slice (toLE n v) 0 n = toLE n v := by
  have h := slice_zero_length (toLE n v)
  rwa [length_toLE] at h

/-- A string of pieces of one length holds each at its place. -/
theorem slice_flatMap_range {f : Nat → Bytes} {k n i : Nat} (hf : ∀ i, (f i).length = k) (hi : i < n) :
    slice ((List.range n).flatMap f) (k * i) k = f i := by
  have hlength (n : Nat) : ((List.range n).flatMap f).length = k * n := by simp [List.length_flatMap, hf, Nat.mul_comm]
  induction n with
  | zero => omega
  | succ n ih =>
    rw [List.range_succ, List.flatMap_append, List.flatMap_singleton]
    rcases Nat.lt_succ_iff_lt_or_eq.mp hi with hlt | rfl
    · have hle : k * i + k ≤ k * n := by
        rw [← Nat.mul_succ]
        exact Nat.mul_le_mul_left _ hlt
      rw [slice_append_left (by rw [hlength]; exact hle), ih hlt]
    · rw [slice_append_right (hlength i).le, hlength, Nat.sub_self]
      conv_lhs => rw [← hf i]
      exact slice_zero_length _

theorem SMap.get_foldl_set_range {α : Type} [DecidableEq α] (d : Nat → α) (f : Nat → α) (m : SMap α) (n k : Nat) :
    SMap.get d ((List.range n).foldl (fun m i => SMap.set d m (i + 1) (f i)) m) k = if 1 ≤ k ∧ k ≤ n then f (k - 1) else SMap.get d m k := by
  induction n with
  | zero => rw [if_neg (by omega)]; rfl
  | succ n ih =>
    rw [List.range_succ, List.foldl_append, List.foldl_cons, List.foldl_nil]
    by_cases hk : k = n + 1
    · subst hk
      rw [SMap.get_set_same, if_pos (by omega), Nat.add_sub_cancel]
    · rw [SMap.get_set_other _ _ _ _ _ hk, ih]
      exact if_congr (by omega) rfl rfl

/-! ## The parts of the frame -/

variable (x : Tutor) (cause info pc : Nat)

/-- HEADER of the frame. -/
def trapHeader : Nat :=
  cause % 256 * 2 ^ 56 + pc % 2 ^ 15 * 2 ^ 41 + b2n x.z * 2 ^ 40 + b2n x.n * 2 ^ 39 + b2n x.c * 2 ^ 38 + b2n x.v * 2 ^ 37 +
    x.stack.length % 32 * 2 ^ 32 + x.task.getD 0 % 2 ^ 13

/-- The stack of the frame, oldest entry first, and its registers G1 to G30. -/
def trapStack : Bytes := (List.range 16).flatMap fun i => toLE 2 (x.stack.reverse.getD i 0)

def trapRegs : Bytes := (List.range 30).flatMap fun i => toLE 8 (x.g (i + 1))

theorem trapFrame_eq : trapFrame x cause info pc =
    toLE 8 (trapHeader x cause pc) ++ (toLE 8 info ++ (trapStack x ++ (trapRegs x ++ (toLE 8 (x.g 31) ++ List.replicate 216 0)))) := by
  simp only [← List.append_assoc]
  rfl

@[simp] theorem length_trapStack : (trapStack x).length = 32 := by simp [trapStack, List.length_flatMap, length_toLE]

@[simp] theorem length_trapRegs : (trapRegs x).length = 240 := by simp [trapRegs, List.length_flatMap, length_toLE]

theorem length_trapFrame : (trapFrame x cause info pc).length = 512 := by
  rw [trapFrame_eq]
  simp only [List.length_append, length_toLE, length_trapStack, length_trapRegs, List.length_replicate]

theorem slice_trapFrame_header : slice (trapFrame x cause info pc) 0 8 = toLE 8 (trapHeader x cause pc) := by
  rw [trapFrame_eq, slice_append_left (by rw [length_toLE]), slice_toLE]

theorem slice_trapFrame_stack {i : Nat} (hi : i < 16) : slice (trapFrame x cause info pc) (0x10 + 2 * i) 2 = toLE 2 (x.stack.reverse.getD i 0) := by
  rw [trapFrame_eq, slice_append_right (by rw [length_toLE]; omega), slice_append_right (by simp only [length_toLE]; omega),
    slice_append_left (by simp only [length_toLE, length_trapStack]; omega), length_toLE, length_toLE,
    show 0x10 + 2 * i - 8 - 8 = 2 * i by omega]
  exact slice_flatMap_range (fun _ => length_toLE ..) hi

theorem slice_trapFrame_regs {i : Nat} (hi : i < 30) : slice (trapFrame x cause info pc) (0x30 + 8 * i) 8 = toLE 8 (x.g (i + 1)) := by
  rw [trapFrame_eq, slice_append_right (by rw [length_toLE]; omega), slice_append_right (by simp only [length_toLE]; omega),
    slice_append_right (by simp only [length_toLE, length_trapStack]; omega),
    slice_append_left (by simp only [length_toLE, length_trapStack, length_trapRegs]; omega), length_toLE, length_toLE, length_trapStack,
    show 0x30 + 8 * i - 8 - 8 - 32 = 8 * i by omega]
  exact slice_flatMap_range (fun _ => length_toLE ..) hi

theorem slice_trapFrame_status : slice (trapFrame x cause info pc) 0x120 8 = toLE 8 (x.g 31) := by
  rw [trapFrame_eq, slice_append_right (by simp [length_toLE]), slice_append_right (by simp [length_toLE]),
    slice_append_right (by simp [length_toLE]), slice_append_right (by simp [length_toLE]), slice_append_left (by simp [length_toLE])]
  simp only [length_toLE, length_trapStack, length_trapRegs]
  exact slice_toLE ..

theorem Tutor.g_lt (i : Nat) : x.g i < 2 ^ 64 := by
  unfold Tutor.g
  split
  · positivity
  · split
    · omega
    · exact BitVec.isLt _

/-! ## What TRAP_RETURN reads (R366) -/

/-- The tutor in the handler of a trap. -/
def Tutor.trapped : Tutor :=
  { x with localMem := Memory.writeBytes x.localMem trapBase (trapFrame x cause info pc), masked := true, trapping := true }

theorem Tutor.trapped_localMem :
    (x.trapped cause info pc).localMem = Memory.writeBytes x.localMem trapBase (trapFrame x cause info pc) := by
  simp only [Tutor.trapped]

theorem Tutor.trapped_reads {off n : Nat} (h : off + n ≤ 512) :
    Memory.readBytes (x.trapped cause info pc).localMem (trapBase + off) n = slice (trapFrame x cause info pc) off n := by
  have hin : off + n ≤ (trapFrame x cause info pc).length := by rwa [length_trapFrame]
  rw [Tutor.trapped_localMem, Memory.readBytes_writeBytes hin]

theorem Tutor.trapped_header : leVal (Memory.readBytes (x.trapped cause info pc).localMem (trapBase + 0) 8) = trapHeader x cause pc := by
  have hz := b2n_le_one x.z
  have hn := b2n_le_one x.n
  have hc := b2n_le_one x.c
  have hv := b2n_le_one x.v
  rw [x.trapped_reads cause info pc (by decide), slice_trapFrame_header, leVal_toLE]
  refine Nat.mod_eq_of_lt ?_
  unfold trapHeader
  omega

theorem Tutor.trapped_stack {i : Nat} (hi : i < 16) :
    leVal (Memory.readBytes (x.trapped cause info pc).localMem (trapBase + (0x10 + 2 * i)) 2) = x.stack.reverse.getD i 0 % 2 ^ 16 := by
  rw [x.trapped_reads cause info pc (by omega), slice_trapFrame_stack _ _ _ _ hi, leVal_toLE]
  rfl

theorem Tutor.trapped_reg {i : Nat} (hi : i < 30) :
    leVal (Memory.readBytes (x.trapped cause info pc).localMem (trapBase + (0x30 + 8 * i)) 8) = x.g (i + 1) := by
  rw [x.trapped_reads cause info pc (by omega), slice_trapFrame_regs _ _ _ _ hi, leVal_toLE]
  exact Nat.mod_eq_of_lt (x.g_lt _)

theorem Tutor.trapped_status : leVal (Memory.readBytes (x.trapped cause info pc).localMem (trapBase + 0x120) 8) = x.g 31 := by
  rw [x.trapped_reads cause info pc (by decide), slice_trapFrame_status, leVal_toLE]
  exact Nat.mod_eq_of_lt (x.g_lt _)

theorem trapHeader_pc (h : pc < 2 ^ 15) : fld (trapHeader x cause pc) 41 15 = pc := by
  have hz := b2n_le_one x.z
  have hn := b2n_le_one x.n
  have hc := b2n_le_one x.c
  have hv := b2n_le_one x.v
  unfold fld trapHeader
  omega

theorem trapHeader_depth (h : x.stack.length ≤ 16) : fld (trapHeader x cause pc) 32 5 = x.stack.length := by
  have hz := b2n_le_one x.z
  have hn := b2n_le_one x.n
  have hc := b2n_le_one x.c
  have hv := b2n_le_one x.v
  unfold fld trapHeader
  omega

theorem bitOf_eq (v i : Nat) : bitOf v i = decide (v / 2 ^ i % 2 = 1) := Nat.testBit_eq_decide_div_mod_eq

theorem trapHeader_flags : bitOf (trapHeader x cause pc) 40 = x.z ∧ bitOf (trapHeader x cause pc) 39 = x.n ∧
    bitOf (trapHeader x cause pc) 38 = x.c ∧ bitOf (trapHeader x cause pc) 37 = x.v := by
  have hz := b2n_le_one x.z
  have hn := b2n_le_one x.n
  have hc := b2n_le_one x.c
  have hv := b2n_le_one x.v
  have hbit (b : Bool) {n : Nat} (h : n = b2n b) : decide (n = 1) = b := by subst h; cases b <;> rfl
  simp only [bitOf_eq]
  refine ⟨hbit _ ?_, hbit _ ?_, hbit _ ?_, hbit _ ?_⟩
  all_goals
    unfold trapHeader
    omega

/-- The stack of the frame, read back to the depth that the header gives. -/
theorem trapReturn_stack (hdepth : x.stack.length ≤ 16) (hstack : ∀ p ∈ x.stack, p < 2 ^ 16) :
    (trapReturn (x.trapped cause info pc)).stack = x.stack := by
  unfold trapReturn
  simp only [Tutor.trapped_header, trapHeader_depth _ _ _ hdepth, min_eq_right hdepth]
  rw [List.reverse_eq_iff]
  refine List.ext_getElem (by simp) fun i hi hi' => ?_
  have hlt : i < x.stack.length := by simpa using hi
  have hmem : x.stack.reverse.getD i 0 ∈ x.stack := by
    rw [List.getD_eq_getElem _ _ hi', ← List.mem_reverse]
    exact List.getElem_mem _
  rw [List.getElem_map, List.getElem_range, Tutor.trapped_stack _ _ _ _ (by omega), Nat.mod_eq_of_lt (hstack _ hmem),
    List.getD_eq_getElem _ _ hi']

theorem trapReturn_g {i : Nat} (hi : i < 32) : (trapReturn (x.trapped cause info pc)).g i = x.g i := by
  have hregs : (trapReturn (x.trapped cause info pc)).regs = (List.range 30).foldl (fun m i => SMap.set zeroReg m (i + 1)
      (BitVec.ofNat 64 (leVal (Memory.readBytes (x.trapped cause info pc).localMem (trapBase + (0x30 + 8 * i)) 8)))) [] := by
    simp only [trapReturn]
  have hstatus : (trapReturn (x.trapped cause info pc)).status = x.g 31 := by
    simp only [trapReturn, Tutor.trapped_status]
  rw [Tutor.g, hregs, hstatus, SMap.get_foldl_set_range]
  split
  · next h0 => subst h0; rfl
  · split
    · next h31 => subst h31; exact Nat.mod_mod ..
    · rw [if_pos (by omega), Tutor.trapped_reg _ _ _ _ (by omega), Nat.sub_add_cancel (by omega), BitVec.toNat_ofNat, Nat.mod_eq_of_lt (x.g_lt i)]

end Sys2Proof.Machine

namespace Sys2Proof

open Sys2Proof.Machine

/-- Settles O43: every part of the frame is read back where it was written. -/
theorem trapFrameRestoresTutor : Obligations.TrapFrameRestoresTutor := by
  intro x cause info pc hpc hdepth hstack
  have hheader := x.trapped_header cause info pc
  obtain ⟨hz, hn, hc, hv⟩ := trapHeader_flags x cause pc
  refine ⟨?_, ?_, ?_, ?_, ?_, trapReturn_stack x cause info pc hdepth hstack, fun i hi => trapReturn_g x cause info pc hi, rfl, rfl⟩
  · exact (congrArg (fld · 41 15) hheader).trans (trapHeader_pc x cause pc hpc)
  · exact (congrArg (bitOf · 40) hheader).trans hz
  · exact (congrArg (bitOf · 39) hheader).trans hn
  · exact (congrArg (bitOf · 38) hheader).trans hc
  · exact (congrArg (bitOf · 37) hheader).trans hv

end Sys2Proof

/-! Words with a sequencer operation, and words with a SYS operation. -/

namespace Sys2Proof.Machine

variable {d e f : Dev} {now : BellSt} {u w next p : Nat} {t : TaskRec}

/-! ## Trace records and slots (R368, R372, R376, R379) -/

/-- `e` is `d` but for trace records of pipe `p`, their count, and open values. -/
structure Dev.Traced (d e : Dev) (p : Nat) : Prop where
  frame : ∃ reg trace free, e = { d with reg, free, tutors := { d.tutors with trace } }
  rd : ∀ k, k ≠ M.CNT_TASK_TRACE p → e.rd k = d.rd k

namespace Dev.Traced

theorem refl (d : Dev) (p : Nat) : d.Traced d p := ⟨⟨_, _, _, rfl⟩, fun _ _ => rfl⟩

variable (h : d.Traced e p)
include h

theorem trans (h' : e.Traced f p) : d.Traced f p := by
  obtain ⟨_, _, _, rfl⟩ := h.frame
  obtain ⟨_, _, _, rfl⟩ := h'.frame
  exact ⟨⟨_, _, _, rfl⟩, fun k hk => (h'.rd k hk).trans (h.rd k hk)⟩

theorem runners : e.tutors.tutors = d.tutors.tutors := by obtain ⟨_, _, _, rfl⟩ := h.frame; rfl
theorem tasks : e.tutors.tasks = d.tutors.tasks := by obtain ⟨_, _, _, rfl⟩ := h.frame; rfl
theorem ready : e.tutors.ready = d.tutors.ready := by obtain ⟨_, _, _, rfl⟩ := h.frame; rfl
theorem descs : e.descs = d.descs := by obtain ⟨_, _, _, rfl⟩ := h.frame; rfl
theorem services : e.services = d.services := by obtain ⟨_, _, _, rfl⟩ := h.frame; rfl
theorem roll : e.roll = d.roll := by obtain ⟨_, _, _, rfl⟩ := h.frame; rfl

end Dev.Traced

theorem Dev.record_traced (d : Dev) (p k r free : Nat) :
    d.Traced ({ d with free, tutors := { d.tutors with trace := SMap.set zeroAt d.tutors.trace k r } }.bump (M.CNT_TASK_TRACE p)) p :=
  ⟨⟨_, _, _, rfl⟩, fun _ hk => Dev.rd_bump_other _ _ _ hk⟩

theorem Dev.bump_free_traced (d : Dev) (id n p : Nat) : (d.bump id).Traced ({ d with free := n }.bump id) p := ⟨⟨_, _, _, rfl⟩, fun _ _ => rfl⟩

theorem traceTask_traced (now : BellSt) (d : Dev) (kind : Nat) (t : TaskRec) (tutor info : Nat) :
    d.Traced (traceTask now d kind t tutor info) t.pipe := by
  unfold traceTask
  dsimp only [Dev.fresh_eq]
  split
  · exact .refl d _
  · exact Dev.record_traced ..

/-- The tutors and the descriptors are as they were. -/
structure Dev.KeepsRunners (d e : Dev) : Prop where
  runners : e.tutors.tutors = d.tutors.tutors
  descs : e.descs = d.descs

namespace Dev.KeepsRunners

theorem refl (d : Dev) : d.KeepsRunners d := ⟨rfl, rfl⟩

theorem trans (h : d.KeepsRunners e) (h' : e.KeepsRunners f) : d.KeepsRunners f :=
  ⟨h'.runners.trans h.runners, h'.descs.trans h.descs⟩

theorem tutor (h : d.KeepsRunners e) (u : Nat) : e.tutor u = d.tutor u := by unfold Dev.tutor; rw [h.runners]

end Dev.KeepsRunners

theorem Dev.Traced.keepsRunners (h : d.Traced e p) : d.KeepsRunners e := ⟨h.runners, h.descs⟩

theorem makeReady_of_free {s : Nat} (h : d.freeSlot t.pipe t.kind = some s) (hkind : reservedKind t.kind = true) :
    makeReady now d t = (some (t.pipe * 8192 + s),
      traceTask now ({ d with tutors := { d.tutors with
        tasks := d.tutors.tasks ++ [{ t with slot := s, readied := now.period.toNat }], ready := d.tutors.ready ++ [t.pipe * 8192 + s] } }.bump
          (M.CNT_TASK_READY t.pipe)) 1 { t with slot := s, readied := now.period.toNat } 0 0) := by
  unfold makeReady
  rw [h]
  dsimp only
  rw [if_neg (by simp [hkind])]
  rfl

theorem makeReady_keepsRunners (now : BellSt) (d : Dev) (t : TaskRec) : d.KeepsRunners (makeReady now d t).2 := by
  unfold makeReady
  dsimp only
  split
  · exact .refl d
  · have hready (x : TaskRec) (ready : List Nat) : d.KeepsRunners ({ d with tutors := { d.tutors with tasks := d.tutors.tasks ++ [x], ready } }.bump
        (M.CNT_TASK_READY t.pipe)) := ⟨rfl, rfl⟩
    split
    · exact ((hready _ _).trans (traceTask_traced ..).keepsRunners).trans (traceTask_traced ..).keepsRunners
    · exact (hready _ _).trans (traceTask_traced ..).keepsRunners

theorem exportTask_keepsRunners (now : BellSt) (d : Dev) : d.KeepsRunners (exportTask now d) := by
  unfold exportTask
  split
  · exact .refl d
  · exact makeReady_keepsRunners ..

theorem natReleaseRetry_of_none (h : d.services.natRelease = []) :
    natReleaseRetry now d = { d with services := { d.services with natRelease := [] } } := by
  unfold natReleaseRetry
  rw [h]
  rfl

/-- A task's slot is free, and its update is no longer noted as stale. -/
def Dev.slotFreed (d : Dev) (t : TaskRec) : Dev :=
  { d.freeTask t.pipe t.slot with roll := { d.roll with stale := d.roll.stale.filter (fun x => x.1 != t.handle) } }

theorem endSlot_of_noHost {st : Nat} (hhost : t.host = none) (hrelease : d.services.natRelease = []) :
    ∃ e, (d.slotFreed t).Traced e t.pipe ∧
      endSlot now d t st = exportTask now { e with services := { e.services with natRelease := [] } } := by
  have htraced : (d.slotFreed t).Traced (if d.generalFull t.pipe && !(d.slotFreed t).generalFull t.pipe
      then traceTask now (d.slotFreed t) 12 t 0 0 else d.slotFreed t) t.pipe := by
    split
    · exact traceTask_traced ..
    · exact .refl ..
  refine ⟨_, htraced, ?_⟩
  have hnone : (if d.generalFull t.pipe && !(d.slotFreed t).generalFull t.pipe
      then traceTask now (d.slotFreed t) 12 t 0 0 else d.slotFreed t).services.natRelease = [] := by rw [htraced.services]; exact hrelease
  rw [← natReleaseRetry_of_none (now := now) hnone]
  unfold endSlot
  rw [hhost]
  rfl

theorem wakeSlots_of_none (fuel : Nat) {pipe : Nat} (h : ∀ x ∈ d.descs, x.wait ≠ .slot) : wakeSlots fuel now d pipe = d := by
  cases fuel with
  | zero => rfl
  | succ fuel =>
    have hnone : d.descs.find? (fun x => x.pipe == pipe && x.wait == .slot) = none :=
      List.find?_eq_none.mpr fun x hx => by simp [h x hx]
    unfold wakeSlots
    rw [hnone]
    exact ite_self d

/-! ## The end of a task with nothing to put back (R367, R368, R373) -/

theorem stampTask_of_noDesc {lo : Nat} (h : t.desc = none) : stampTask now d t lo = d := by
  unfold stampTask Dev.taskDesc
  rw [h]
  rfl

/-- A release of a task without a packet is counted and traced, and frees its slot. -/
theorem makeRelease_of_noDesc {tutor v : Nat} (hdesc : t.desc = none) : ∃ e, (d.bump (M.CNT_TASK_RELEASE t.pipe)).Traced e t.pipe ∧
    makeRelease now d t tutor v = wakeSlots 4096 now (endSlot now e t St.OK) t.pipe := by
  have hfree (n : Nat) (info : Nat) : (d.bump (M.CNT_TASK_RELEASE t.pipe)).Traced
      (traceTask now ({ d with free := n }.bump (M.CNT_TASK_RELEASE t.pipe)) 6 t tutor info) t.pipe :=
    (d.bump_free_traced ..).trans (traceTask_traced ..)
  have hnone : d.taskDesc t = none := by unfold Dev.taskDesc; rw [hdesc]; rfl
  unfold makeRelease
  simp only [stampTask_of_noDesc hdesc, hnone]
  cases t.state
  case held => exact ⟨_, hfree (d.free + 1) _, rfl⟩
  all_goals exact ⟨_, hfree d.free _, rfl⟩

theorem endTask_of_bare {tutor v : Nat} (hrec : t.recSlot = none) (hep : t.epIndex = none) (horder : t.order = none) (hlive : t.cancelled = false) :
    endTask now d t tutor v = makeRelease now (d.idleTutor tutor) t tutor v := by
  unfold endTask applyEndpoint applyRecord
  simp [hrec, hep, horder, hlive]

/-- A task that works on nothing and holds nothing: what its end leaves is its tutor without a task. -/
structure TaskRec.Bare (t : TaskRec) : Prop where
  record : t.recSlot = none
  endpoint : t.epIndex = none
  desc : t.desc = none
  order : t.order = none
  host : t.host = none
  live : t.cancelled = false

theorem makeRelease_keepsRunners {tutor v : Nat} (hdesc : t.desc = none) (hhost : t.host = none) (hrelease : d.services.natRelease = [])
    (hslots : ∀ x ∈ d.descs, x.wait ≠ .slot) : d.KeepsRunners (makeRelease now d t tutor v) := by
  obtain ⟨e, hcounted, hmade⟩ := makeRelease_of_noDesc (now := now) (d := d) (tutor := tutor) (v := v) hdesc
  obtain ⟨f, hfreed, hend⟩ := endSlot_of_noHost (now := now) (d := e) (st := St.OK) hhost (by rw [hcounted.services]; exact hrelease)
  have hruns : d.KeepsRunners (endSlot now e t St.OK) := by
    rw [hend]
    refine .trans ?_ (exportTask_keepsRunners ..)
    exact ⟨hfreed.runners.trans hcounted.runners, hfreed.descs.trans hcounted.descs⟩
  rw [hmade, wakeSlots_of_none _ (by rw [hruns.descs]; exact hslots)]
  exact hruns

theorem endTask_tutor {tutor v : Nat} (hbare : t.Bare) (hrelease : d.services.natRelease = []) (hslots : ∀ x ∈ d.descs, x.wait ≠ .slot) (k : Nat) :
    (endTask now d t tutor v).tutor k = (d.idleTutor tutor).tutor k := by
  have hkeeps : (d.idleTutor tutor).KeepsRunners (makeRelease now (d.idleTutor tutor) t tutor v) :=
    makeRelease_keepsRunners hbare.desc hbare.host hrelease hslots
  rw [endTask_of_bare hbare.record hbare.endpoint hbare.order hbare.live, hkeeps.tutor]

/-! ## The sequencer (R358) -/

theorem nextAddr_of_sys {x : Tutor} (h : wSys w = 1 ∨ wSys w = 4) : nextAddr x w = .inl x.pc := if_pos h

/-- A word without an ALU operation and without a memory operation changes the address, the stack and the WAIT of its tutor alone. -/
theorem Tutor.issued_of_only {x : Tutor} (halu : wAlu w = 0) (hmem : wMem w = 0) (hwait : wSeq w ≠ 5) (hissues : x.issues = true) :
    x.issued w next = { x with pc := next, stack := nextStack x w } := by
  rw [Tutor.issued_of_continues hwait, if_pos hmem, aluApply_of_nop _ halu, Tutor.waiting_of_issues hissues]

end Sys2Proof.Machine

/-! Words with a sequencer operation: where they go on, and the end of a task. -/

namespace Sys2Proof.Machine

variable {d e : Dev} {now : BellSt} {u w next : Nat} {t : TaskRec} {x : Tutor}

/-! ## Addresses (R358) -/

theorem next_of_le {a b : Nat} (h : (if 32768 ≤ a then .inr (2, a) else .inl b : Nat ⊕ (Nat × Nat)) = .inl next) : next = b := by
  split at h
  · exact absurd h (by simp)
  · exact (Sum.inl.inj h).symm

theorem next_of_jump (hsys : wSys w = 0) (hseq : wSeq w = 1) (h : nextAddr x w = .inl next) :
    next = if condHolds (wCond w) x = true then wTarget w else x.pc + 1 := by
  unfold nextAddr at h
  rw [if_neg (by omega)] at h
  simp only [hseq] at h
  split at h
  · next hcond => rw [if_pos hcond, Sum.inl.inj h]
  · next hcond => rw [if_neg hcond, next_of_le h]

theorem next_of_call (hsys : wSys w = 0) (hseq : wSeq w = 2) (hcond : condHolds (wCond w) x = true) (h : nextAddr x w = .inl next) :
    next = wTarget w := by
  unfold nextAddr at h
  rw [if_neg (by omega)] at h
  simp only [hseq, hcond, Bool.true_eq_false, if_false] at h
  split at h
  · exact absurd h (by simp)
  · exact next_of_le h

theorem next_of_return {p : Nat} {r : List Nat} (hsys : wSys w = 0) (hseq : wSeq w = 3) (hstack : x.stack = p :: r) (h : nextAddr x w = .inl next) :
    next = p := by
  unfold nextAddr at h
  rw [if_neg (by omega)] at h
  simp only [hseq, hstack] at h
  exact (Sum.inl.inj h).symm

theorem next_of_dispatch (hsys : wSys w = 0) (hseq : wSeq w = 4) (h : nextAddr x w = .inl next) :
    next = wTarget w + ((x.g (wSrcA w) % 256) &&& (wImm w % 256)) := by
  unfold nextAddr at h
  rw [if_neg (by omega)] at h
  simp only [hseq] at h
  exact next_of_le h

theorem nextStack_of_call (hsys : wSys w = 0) (hseq : wSeq w = 2) (hcond : condHolds (wCond w) x = true) :
    nextStack x w = (x.pc + 1) :: x.stack := by
  unfold nextStack
  rw [if_neg (by omega), if_pos ⟨hseq, hcond⟩]

theorem nextStack_of_return (hsys : wSys w = 0) (hseq : wSeq w = 3) : nextStack x w = x.stack.drop 1 := by
  unfold nextStack
  rw [if_neg (by omega), if_neg (by omega), if_pos hseq]

/-! ## The end of a task (R358, R367, log 41) -/

theorem drainOps_of_none (fuel : Nat) (h : (d.tutor u).ops = []) : drainOps fuel now d u = d := by
  cases fuel with
  | zero => rfl
  | succ fuel =>
    unfold drainOps
    rw [h]

theorem Tutor.issued_task (x : Tutor) (w next : Nat) : (x.issued w next).task = x.task := by rw [Tutor.issued_eq, aluApply_eq]

theorem Dev.issued_running (d : Dev) (now : BellSt) (u w next : Nat) : (d.issued now u w next).running u = d.running u := by
  unfold Dev.running Dev.taskRec
  rw [Dev.issued_tutor_same, Tutor.issued_task, Dev.issued_tasks]

theorem Dev.issued_services (d : Dev) (now : BellSt) (u w next : Nat) : (d.issued now u w next).services = d.services := by
  obtain ⟨_, _, h⟩ := d.issued_frame now u w next
  rw [h]
  rfl

theorem Tutor.issued_ops_of_noMem (x : Tutor) (hmem : wMem w = 0) : (x.issued w next).ops = x.ops := by
  have hops : (x.issued w next).ops = if wMem w = 0 then (aluApply x w).ops else (aluApply x w).ops ++ [memOpOf (aluApply x w) w] := rfl
  rw [hops, if_pos hmem, aluApply_eq]

/-- A word that ends or releases its task, with nothing outstanding, ends it. -/
theorem wordRun_of_ends (hends : wSys w = 1 ∨ wSys w = 0 ∧ wSeq w = 6) (hmem : wMem w = 0) (hops : (d.tutor u).ops = [])
    (hrunning : d.running u = some t) : ∃ v, wordRun now d t u w next = endTask now (d.issued now u w next) t u v := by
  have hnone : ((d.issued now u w next).tutor u).ops = [] := by rw [Dev.issued_tutor_same, Tutor.issued_ops_of_noMem _ hmem, hops]
  have hdrain : drainOps 9 now (if wSys w = 1 then d.issued now u w next else sysRun now (d.issued now u w next) u w next) u =
      d.issued now u w next := by
    rcases hends with hsys | ⟨hsys, -⟩
    · rw [if_pos hsys, drainOps_of_none 9 hnone]
    · rw [if_neg (by omega), sysRun_of_none hsys, drainOps_of_none 9 hnone]
  refine ⟨if wSys w = 1 then ((d.tutor u).issued w next).g (wSysReg w) else 0, ?_⟩
  have hended (e : Dev) (he : drainOps 9 now (if wSys w = 1 then d.issued now u w next else sysRun now (d.issued now u w next) u w next) u = e) :
      wordRun now d t u w next = endTask now e ((e.running u).getD t) u (if wSys w = 1 then ((d.tutor u).issued w next).g (wSysReg w) else 0) := by
    subst he
    exact if_pos (hends.imp id And.right)
  rw [hended _ hdrain, Dev.issued_running, hrunning]
  rfl

/-- The tutor of a task that ended has none. -/
theorem Dev.idleTutor_tutor_same (d : Dev) (u : Nat) : ((d.idleTutor u).tutor u).task = none ∧ ((d.idleTutor u).tutor u).masked = false := by
  unfold Dev.idleTutor
  dsimp only
  rw [Dev.tutor_setTutor_same]
  exact ⟨rfl, rfl⟩

theorem wordRun_ends_bare (hends : wSys w = 1 ∨ wSys w = 0 ∧ wSeq w = 6) (hmem : wMem w = 0) (hops : (d.tutor u).ops = [])
    (hrunning : d.running u = some t) (hbare : t.Bare) (hrelease : d.services.natRelease = []) (hslots : ∀ x ∈ d.descs, x.wait ≠ .slot) :
    ((wordRun now d t u w next).tutor u).task = none ∧ ((wordRun now d t u w next).tutor u).masked = false := by
  obtain ⟨v, hrun⟩ := wordRun_of_ends (now := now) (next := next) hends hmem hops hrunning
  rw [hrun, endTask_tutor hbare (by rw [Dev.issued_services]; exact hrelease) (by rw [Dev.issued_descs]; exact hslots)]
  exact Dev.idleTutor_tutor_same ..

/-! ## WAIT (R358) -/

theorem Tutor.issued_of_wait (halu : wAlu w = 0) (hmem : wMem w = 0) (hsys : wSys w = 0) (hseq : wSeq w = 5) (hissues : x.issues = true)
    (hnext : nextAddr x w = .inl next) : x.issued w next = if x.ops = [] then { x with pc := x.pc + 1 } else { x with waiting := true } := by
  have hwaiting := Tutor.waiting_of_issues hissues
  unfold Tutor.issued
  rw [nextStack_of_stays _ (by omega) (by omega), nextAddr_inc (.inr hseq) (by omega) (by omega) hnext, aluApply_of_nop _ halu]
  cases hops : x.ops with
  | nil =>
    simp [hmem, hops]
    rw [hwaiting]
  | cons m ms =>
    simp [hmem, hseq, hsys, hops]

theorem wordRun_of_wait (halu : wAlu w = 0) (hmem : wMem w = 0) (hsys : wSys w = 0) (hseq : wSeq w = 5) (hissues : (d.tutor u).issues = true)
    (hnext : nextAddr (d.tutor u) w = .inl next) : (d.issued now u w next).SameTutors (wordRun now d t u w next) := by
  have hissued := Tutor.issued_of_wait halu hmem hsys hseq hissues hnext
  rw [wordRun_of_continues (by omega) (by omega)]
  by_cases hops : (d.tutor u).ops = []
  · rw [if_pos hops] at hissued
    exact sysRun_settles_of_none hissues hsys (by rw [hissued]; exact Tutor.waiting_of_issues hissues)
  · rw [sysRun_of_none hsys, settleTutor_of_busy (.inl (by rw [Dev.issued_tutor_same, Tutor.issued_ops_of_noMem _ hmem]; exact hops))]
    exact .refl _

/-- The commands that issue a word with a sequencer operation, by the operation's code. -/
def seqCommands : List (Nat × (Nat → Instr)) :=
  [(0, Instr.seqNext), (1, Instr.seqJump), (2, Instr.seqCall), (3, Instr.seqReturn), (4, Instr.seqDispatch), (5, Instr.seqWait), (6, Instr.seqEnd)]

theorem exec_seq {p : Nat × (Nat → Instr)} (hp : p ∈ seqCommands) (u : Nat) (s : State) : exec (p.2 u) s = s.onDie (issueSeq p.1 u) := by
  fin_cases hp <;> rfl

end Sys2Proof.Machine

namespace Sys2Proof

open Sys2Proof.Machine

/-- A word with a sequencer operation that goes on leaves the next address and the stack after it. -/
theorem reaches_of_seq {p : Nat × (Nat → Instr)} {u w next : Nat} {s : State} (hp : p ∈ seqCommands) (h : Issues s.dev u w next) (honly : OnlySeq w)
    (hseq : wSeq w = p.1) (hwait : p.1 ≠ 5) (hend : p.1 ≠ 6) {y : Tutor}
    (hy : y = { s.dev.tutor u with pc := next, stack := nextStack (s.dev.tutor u) w }) : Reaches (p.2 u) s (fun d => d.tutor u = y) := by
  obtain ⟨halu, hmem, hsys⟩ := honly
  obtain ⟨t, -, hgives⟩ := h.gives (exec_seq hp u s) (by simpa using hseq)
  have hrun := wordRun_of_plain (now := s.bell) (next := next) (t := t) h.issues hsys (by omega) (by omega)
  refine ⟨_, hgives, (hrun.tutor u).trans ?_⟩
  rw [Dev.issued_tutor_same, Tutor.issued_of_only halu hmem (by omega) h.issues, hy]

/-- Settles O39. A word of one sequencer operation leaves its address and stack, and a task with nothing to put back leaves its tutor idle. -/
theorem sequencerWordsRun : Obligations.SequencerWordsRun := by
  refine ⟨fun u w next s h honly hseq => ?_, fun u w next s h honly hseq => ?_, fun u w next s h honly hseq hcond => ?_,
    fun u w next s h honly hseq p r hstack => ?_, fun u w next s h honly hseq => ?_, fun u w next s h honly hseq => ?_,
    fun u w next t s h honly hseq hops hrunning hrec hep hdesc horder hhost hlive hrelease hslots => ?_⟩
  all_goals have ⟨halu, hmem, hsys⟩ := honly
  · refine reaches_of_seq (p := (0, Instr.seqNext)) (by simp [seqCommands]) h honly hseq (by decide) (by decide) ?_
    rw [nextStack_of_stays _ (by omega) (by omega), nextAddr_inc (.inl hseq) (by omega) (by omega) h.next]
  · refine reaches_of_seq (p := (1, Instr.seqJump)) (by simp [seqCommands]) h honly hseq (by decide) (by decide) ?_
    rw [nextStack_of_stays _ (by omega) (by omega), next_of_jump hsys hseq h.next]
  · refine reaches_of_seq (p := (2, Instr.seqCall)) (by simp [seqCommands]) h honly hseq (by decide) (by decide) ?_
    rw [nextStack_of_call hsys hseq hcond, next_of_call hsys hseq hcond h.next]
  · refine reaches_of_seq (p := (3, Instr.seqReturn)) (by simp [seqCommands]) h honly hseq (by decide) (by decide) ?_
    rw [nextStack_of_return hsys hseq, next_of_return hsys hseq hstack h.next, hstack, List.drop_one, List.tail_cons]
  · refine reaches_of_seq (p := (4, Instr.seqDispatch)) (by simp [seqCommands]) h honly hseq (by decide) (by decide) ?_
    rw [nextStack_of_stays _ (by omega) (by omega), next_of_dispatch hsys hseq h.next]
  · obtain ⟨t, -, hgives⟩ := h.gives (exec_seq (p := (5, Instr.seqWait)) (by simp [seqCommands]) u s) (by simpa using hseq)
    have hrun := wordRun_of_wait (now := s.bell) (t := t) halu hmem hsys hseq h.issues h.next
    refine ⟨_, hgives, (hrun.tutor u).trans ?_⟩
    rw [Dev.issued_tutor_same, Tutor.issued_of_wait halu hmem hsys hseq h.issues h.next]
  · obtain ⟨t', hrunning', hgives⟩ := h.gives (exec_seq (p := (6, Instr.seqEnd)) (by simp [seqCommands]) u s) (by simpa using hseq)
    obtain rfl : t = t' := Option.some.inj (hrunning.symm.trans hrunning')
    exact ⟨_, hgives, wordRun_ends_bare (.inr ⟨hsys, hseq⟩) hmem hops hrunning ⟨hrec, hep, hdesc, horder, hhost, hlive⟩ hrelease hslots⟩

end Sys2Proof

/-! Words with a SYS operation. -/

namespace Sys2Proof.Machine

variable {d e : Dev} {now : BellSt} {u w next reg : Nat} {t : TaskRec} {x : Tutor}

/-! ## A word with a SYS operation alone (R357, R362) -/

theorem issued_of_sys (honly : OnlySys w) (hissues : x.issues = true) (hnext : nextAddr x w = .inl next) (hends : wSys w ≠ 1) (hreturn : wSys w ≠ 4) :
    x.issued w next = { x with pc := x.pc + 1 } := by
  obtain ⟨halu, hmem, hseq⟩ := honly
  rw [Tutor.issued_of_only halu hmem (by omega) hissues, nextAddr_inc (.inl hseq) hends hreturn hnext, nextStack_of_stays _ (by omega) (by omega)]

theorem issued_of_trapReturn (honly : OnlySys w) (hissues : x.issues = true) (hnext : nextAddr x w = .inl next) (hreturn : wSys w = 4) :
    x.issued w next = x := by
  obtain ⟨halu, hmem, hseq⟩ := honly
  have hpc : next = x.pc := by
    rw [nextAddr_of_sys (.inr hreturn)] at hnext
    exact (Sum.inl.inj hnext).symm
  rw [Tutor.issued_of_only halu hmem (by omega) hissues, hpc, nextStack_of_stays _ (by omega) (by omega)]

theorem wordRun_of_sys (honly : OnlySys w) (hends : wSys w ≠ 1) :
    wordRun now d t u w next = settleTutor now (sysRun now (d.issued now u w next) u w next) u :=
  wordRun_of_continues hends (by obtain ⟨-, -, hseq⟩ := honly; omega)

/-- A tutor that issues is quiet. -/
theorem Tutor.quiet_of_issues (h : x.issues = true) : x.Quiet := by
  obtain ⟨-, hdue, hdouble, hpreempt, hwaiting⟩ := x.issues_iff.mp h
  exact ⟨hwaiting, hdouble, hdue.symm, hpreempt⟩

/-! ## The operations (R362, R366, R374) -/

theorem sysCancel_of_gone (h : d.taskRec (fld ((d.tutor u).g reg) 13 5) (fld ((d.tutor u).g reg) 0 13) = none) :
    sysCancel now d u reg = d.setTutor u { d.tutor u with status := St.TASK_GONE } := by
  unfold sysCancel cancelTask
  simp only [h, Dev.taskRec_setTutor]

/-- The task that MAKE_READY makes from the word at an address of its tutor. -/
def madeTask (x : Tutor) (u reg : Nat) : TaskRec :=
  let word := Memory.readBytes x.localMem (x.g reg) 32
  { TaskRec.new (clusterOf u) (10 + Config.taskWordKind word % 54) (byteAt word 0 % 8) with word }

theorem Dev.freeSlot_reserved {pipe k k' : Nat} (h : reservedKind k = true) (h' : reservedKind k' = true) : d.freeSlot pipe k = d.freeSlot pipe k' := by
  unfold Dev.freeSlot
  rw [h, h']

theorem madeTask_reserved (x : Tutor) (u reg : Nat) : reservedKind (madeTask x u reg).kind = true := by
  have hkind : 10 ≤ (madeTask x u reg).kind := Nat.le_add_right ..
  simp [reservedKind, hkind]

/-- MAKE_READY into a free slot: the task joins its pipe's list, and its handle is returned. -/
theorem sysMakeReady_of_free {slot : Nat} (h : d.freeSlot (clusterOf u) 10 = some slot) :
    ∃ e : Dev, e.tutors.tutors = d.tutors.tutors ∧ e.tutors.tasks.length = d.tutors.tasks.length + 1 ∧
      e.tutors.ready = d.tutors.ready ++ [clusterOf u * 8192 + slot] ∧
      sysMakeReady now d u reg = e.setTutor u ((d.tutor u).setG reg (clusterOf u * 8192 + slot)) := by
  have hfree : d.freeSlot (madeTask (d.tutor u) u reg).pipe (madeTask (d.tutor u) u reg).kind = some slot :=
    (d.freeSlot_reserved (madeTask_reserved ..) (by decide)).trans h
  have hmade := makeReady_of_free (now := now) hfree (madeTask_reserved ..)
  have htraced := traceTask_traced now ({ d with tutors := { d.tutors with
      tasks := d.tutors.tasks ++ [{ madeTask (d.tutor u) u reg with slot, readied := now.period.toNat }],
      ready := d.tutors.ready ++ [clusterOf u * 8192 + slot] } }.bump (M.CNT_TASK_READY (clusterOf u))) 1
    { madeTask (d.tutor u) u reg with slot, readied := now.period.toNat } 0 0
  have hkeep (e : Dev) (he : makeReady now d (madeTask (d.tutor u) u reg) = (some (clusterOf u * 8192 + slot), e)) :
      sysMakeReady now d u reg = e.setTutor u ((e.tutor u).setG reg (clusterOf u * 8192 + slot)) := by
    unfold sysMakeReady
    exact congrArg (fun r : Option Nat × Dev => match r with
      | (some h, d) => d.setTutor u ((d.tutor u).setG reg h)
      | (none, d) => d.setTutor u { d.tutor u with status := St.TASK_FULL }) he
  refine ⟨_, htraced.runners, ?_, htraced.ready, (hkeep _ hmade).trans ?_⟩
  · rw [htraced.tasks]
    exact List.length_append ..
  · have htutor := (htraced.keepsRunners).tutor u
    exact congrArg (fun x : Tutor => Dev.setTutor _ u (x.setG reg (clusterOf u * 8192 + slot))) htutor

theorem raise_of_empty (d : Dev) (now : BellSt) (code object detail : Nat) (h : d.rings.events = []) : ∃ e,
    (d.raise now code object detail).rings.events = [e] ∧ e.code = code ∧ e.object = object ∧ e.detail = detail ∧ e.period = now.period.toNat := by
  refine ⟨{ code, period := now.period.toNat, ns := (Dev.stamp now d).1, object, detail, repeats := 0 }, ?_, rfl, rfl, rfl, rfl⟩
  unfold Dev.raise Dev.queueEvent
  have hevents : (Dev.stamp now d).2.rings.events = [] := h
  have hfew : ¬ (eventCodes.length + unreservedUsed [] ≥ 4096) := by decide
  simp only [hevents, hfew, false_and, if_false, List.nil_append]

theorem raise_tutor (d : Dev) (now : BellSt) (code object detail v : Nat) : (d.raise now code object detail).tutor v = d.tutor v := by
  rw [Dev.raise_frame]
  rfl

theorem Dev.issued_taskRec (d : Dev) (now : BellSt) (u w next pipe slot : Nat) : (d.issued now u w next).taskRec pipe slot = d.taskRec pipe slot := by
  unfold Dev.taskRec
  rw [Dev.issued_tasks]

theorem Dev.issued_freeSlot (d : Dev) (now : BellSt) (u w next pipe kind : Nat) :
    (d.issued now u w next).freeSlot pipe kind = d.freeSlot pipe kind := by
  unfold Dev.freeSlot Dev.usedSlots
  rw [Dev.issued_tasks]

theorem Dev.issued_rings (d : Dev) (now : BellSt) (u w next : Nat) : (d.issued now u w next).rings = d.rings := by
  obtain ⟨_, _, h⟩ := d.issued_frame now u w next
  rw [h]
  rfl

/-- A tutor written quiet is left as it is at the word boundary. -/
theorem settleTutor_setTutor_of_quiet (h : x.Quiet) : (d.setTutor u x).SameTutors (settleTutor now (d.setTutor u x) u) :=
  settleTutor_of_quiet (by rwa [Dev.tutor_setTutor_same])

/-! ## Traps (R366) -/

/-- A trap that is taken masks its tutor at its cause's word, over the frame that keeps the rest. -/
theorem takeTrap_tutor (d : Dev) (u cause info pc : Nat) : ∃ localMem, (takeTrap d u cause info pc).tutor u =
    { d.tutor u with localMem, masked := true, trapping := true, preempt := none, pc := cause, budget := (d.tutor u).budget || cause == 8 } := by
  unfold takeTrap
  dsimp only
  rw [Dev.tutor_wr, Dev.tutor_bump, Dev.tutor_setTutor_same]
  exact ⟨_, rfl⟩

theorem takeTrap_rd_lastTrap (d : Dev) (u cause info pc : Nat) : (takeTrap d u cause info pc).rd (M.TUTOR_LAST_TRAP u) = cause % 2 ^ 64 := Dev.rd_wr_same ..

/-- The commands that issue a word with a SYS operation, by the operation's code. -/
def sysCommands : List (Nat × (Nat → Instr)) :=
  [(1, Instr.sysRelease), (2, Instr.sysCancel), (3, Instr.sysMakeReady), (4, Instr.sysTrapReturn), (5, Instr.sysMask), (6, Instr.sysUnmask),
    (7, Instr.sysFault), (8, Instr.sysEvent)]

theorem exec_sys {p : Nat × (Nat → Instr)} (hp : p ∈ sysCommands) (u : Nat) (s : State) : exec (p.2 u) s = s.onDie (issueSys p.1 u) := by
  fin_cases hp <;> rfl

end Sys2Proof.Machine

namespace Sys2Proof

open Sys2Proof.Machine

/-- A word with a SYS operation leaves what that operation leaves at the word boundary. -/
theorem gives_of_sys {p : Nat × (Nat → Instr)} {u w next : Nat} {s : State} (hp : p ∈ sysCommands) (h : Issues s.dev u w next) (honly : OnlySys w)
    (hsys : wSys w = p.1) (hends : p.1 ≠ 1) :
    Gives (p.2 u) s s.bell (settleTutor s.bell (sysRun s.bell (s.dev.issued s.bell u w next) u w next) u) := by
  obtain ⟨t, -, hgives⟩ := h.gives (exec_sys hp u s) (by simpa using hsys)
  rwa [wordRun_of_sys honly (by omega)] at hgives

/-- An operation that writes its own tutor and leaves it quiet leaves the device with it. -/
theorem reaches_of_sys_writes {p : Nat × (Nat → Instr)} {u w next : Nat} {s : State} {e : Dev} {y : Tutor} (hp : p ∈ sysCommands)
    (h : Issues s.dev u w next) (honly : OnlySys w) (hsys : wSys w = p.1) (hends : p.1 ≠ 1)
    (hrun : sysRun s.bell (s.dev.issued s.bell u w next) u w next = e.setTutor u y) (hy : y.Quiet) : Reaches (p.2 u) s (e.setTutor u y).SameTutors := by
  have hgives := gives_of_sys hp h honly hsys hends
  rw [hrun] at hgives
  exact ⟨_, hgives, settleTutor_setTutor_of_quiet hy⟩

theorem Reaches.imp {c : Instr} {s : State} {p q : Dev → Prop} (h : Reaches c s p) (hpq : ∀ d, p d → q d) : Reaches c s q := by
  obtain ⟨d, hgives, hp⟩ := h
  exact ⟨d, hgives, hpq d hp⟩

section

variable {u w next : Nat} {s : State} (h : Issues s.dev u w next) (honly : OnlySys w)
include h honly

theorem issued_of_sys_next (hends : wSys w ≠ 1) (hreturn : wSys w ≠ 4) :
    (s.dev.issued s.bell u w next).tutor u = { s.dev.tutor u with pc := (s.dev.tutor u).pc + 1 } := by
  rw [Dev.issued_tutor_same, issued_of_sys honly h.issues h.next hends hreturn]

theorem reaches_sysRelease {t : TaskRec} (hsys : wSys w = 1) (hops : (s.dev.tutor u).ops = []) (hrunning : s.dev.running u = some t) (hbare : t.Bare)
    (hrelease : s.dev.services.natRelease = []) (hslots : ∀ x ∈ s.dev.descs, x.wait ≠ .slot) :
    Reaches (.sysRelease u) s (fun d => (d.tutor u).task = none ∧ (d.tutor u).masked = false) := by
  obtain ⟨-, hmem, -⟩ := honly
  obtain ⟨t', hrunning', hgives⟩ := h.gives (exec_sys (p := (1, Instr.sysRelease)) (by simp [sysCommands]) u s) (by simpa using hsys)
  obtain rfl : t = t' := Option.some.inj (hrunning.symm.trans hrunning')
  exact ⟨_, hgives, wordRun_ends_bare (.inl hsys) hmem hops hrunning hbare hrelease hslots⟩

theorem reaches_sysCancel_of_gone (hsys : wSys w = 2)
    (hgone : s.dev.taskRec (fld ((s.dev.tutor u).g (wSysReg w)) 13 5) (fld ((s.dev.tutor u).g (wSysReg w)) 0 13) = none) :
    Reaches (.sysCancel u) s (fun d => d.tutor u = { s.dev.tutor u with pc := (s.dev.tutor u).pc + 1, status := St.TASK_GONE } ∧
      d.tutors.tasks = s.dev.tutors.tasks) := by
  obtain ⟨hwaiting, hdouble, hdues, hpreempt⟩ := Tutor.quiet_of_issues h.issues
  have hissued := issued_of_sys_next h honly (by omega) (by omega)
  have hrun : sysRun s.bell (s.dev.issued s.bell u w next) u w next = (s.dev.issued s.bell u w next).setTutor u
      { s.dev.tutor u with pc := (s.dev.tutor u).pc + 1, status := St.TASK_GONE } := by
    unfold sysRun
    simp only [hsys]
    rw [sysCancel_of_gone (by rw [hissued, Dev.issued_taskRec]; exact hgone), hissued]
  exact (reaches_of_sys_writes (p := (2, Instr.sysCancel)) (by simp [sysCommands]) h honly hsys (by decide) hrun
    ⟨hwaiting, hdouble, hdues, hpreempt⟩).imp fun d hd => ⟨(hd.tutor u).trans (Dev.tutor_setTutor_same ..), hd.tasks.trans (Dev.issued_tasks ..)⟩

theorem reaches_sysMakeReady {slot : Nat} (hsys : wSys w = 3) (h0 : wSysReg w ≠ 0) (h31 : wSysReg w ≠ 31)
    (hfree : s.dev.freeSlot (clusterOf u) 10 = some slot) :
    Reaches (.sysMakeReady u) s (fun d => (d.tutor u).g (wSysReg w) = (clusterOf u * 8192 + slot) % 2 ^ 64 ∧
      d.tutors.tasks.length = s.dev.tutors.tasks.length + 1 ∧ d.tutors.ready = s.dev.tutors.ready ++ [clusterOf u * 8192 + slot] ∧
      (d.tutor u).pc = (s.dev.tutor u).pc + 1) := by
  obtain ⟨hwaiting, hdouble, hdues, hpreempt⟩ := Tutor.quiet_of_issues h.issues
  have hissued := issued_of_sys_next h honly (by omega) (by omega)
  obtain ⟨e, -, htasks, hready, hmade⟩ := sysMakeReady_of_free (d := s.dev.issued s.bell u w next) (now := s.bell) (u := u)
    (reg := wSysReg w) (slot := slot) (by rw [Dev.issued_freeSlot]; exact hfree)
  have hrun : sysRun s.bell (s.dev.issued s.bell u w next) u w next = sysMakeReady s.bell (s.dev.issued s.bell u w next) u (wSysReg w) := by
    unfold sysRun
    simp only [hsys]
  rw [hmade, hissued, Tutor.setG_eq] at hrun
  refine (reaches_of_sys_writes (p := (3, Instr.sysMakeReady)) (by simp [sysCommands]) h honly hsys (by decide) hrun
    ⟨hwaiting, hdouble, hdues, hpreempt⟩).imp fun d hd => ?_
  obtain ⟨_, rfl⟩ := hd.frame
  refine ⟨?_, htasks.trans (by rw [Dev.issued_tasks]), hready.trans (by rw [Dev.issued_tutors]; rfl), ?_⟩
  · rw [hd.tutor, Dev.tutor_setTutor_same, ← Tutor.setG_eq, Tutor.g_setG_same _ _ h0 h31]
  · rw [hd.tutor, Dev.tutor_setTutor_same]

theorem reaches_sysTrapReturn (hsys : wSys w = 4) (hdue : (s.dev.tutor u).due = []) :
    Reaches (.sysTrapReturn u) s (fun d => d.tutor u = trapReturn (s.dev.tutor u)) := by
  obtain ⟨hwaiting, hdouble, -, hpreempt⟩ := Tutor.quiet_of_issues h.issues
  have hrun : sysRun s.bell (s.dev.issued s.bell u w next) u w next = (s.dev.issued s.bell u w next).setTutor u (trapReturn (s.dev.tutor u)) := by
    unfold sysRun
    simp only [hsys]
    rw [Dev.issued_tutor_same, issued_of_trapReturn honly h.issues h.next hsys]
  exact (reaches_of_sys_writes (p := (4, Instr.sysTrapReturn)) (by simp [sysCommands]) h honly hsys (by decide) hrun
    ⟨hwaiting, hdouble, .inr hdue, hpreempt⟩).imp fun d hd => (hd.tutor u).trans (Dev.tutor_setTutor_same ..)

/-- MASK and UNMASK. -/
theorem reaches_sysMask {p : Nat × (Nat → Instr)} {masked : Bool} (hp : p = (5, Instr.sysMask) ∧ masked = true ∨ p = (6, Instr.sysUnmask) ∧ masked = false)
    (hsys : wSys w = p.1) : Reaches (p.2 u) s (fun d => d.tutor u = { s.dev.tutor u with pc := (s.dev.tutor u).pc + 1, masked }) := by
  obtain ⟨hwaiting, hdouble, hdues, hpreempt⟩ := Tutor.quiet_of_issues h.issues
  have hrun : sysRun s.bell (s.dev.issued s.bell u w next) u w next = (s.dev.issued s.bell u w next).setTutor u
      { s.dev.tutor u with pc := (s.dev.tutor u).pc + 1, masked } := by
    unfold sysRun
    obtain ⟨rfl, rfl⟩ | ⟨rfl, rfl⟩ := hp
    all_goals
      simp only [hsys]
      rw [issued_of_sys_next h honly (by omega) (by omega)]
  have hcommand : p ∈ sysCommands ∧ p.1 ≠ 1 := by
    obtain ⟨rfl, -⟩ | ⟨rfl, -⟩ := hp <;> simp [sysCommands]
  exact (reaches_of_sys_writes hcommand.1 h honly hsys hcommand.2 hrun
    ⟨hwaiting, hdouble, hdues, hpreempt⟩).imp fun d hd => (hd.tutor u).trans (Dev.tutor_setTutor_same ..)

theorem reaches_sysFault (hsys : wSys w = 7) (hops : (s.dev.tutor u).ops = []) (htrapping : (s.dev.tutor u).trapping = false) :
    Reaches (.sysFault u) s (fun d => (d.tutor u).pc = 6 ∧ (d.tutor u).masked = true ∧ (d.tutor u).trapping = true ∧
      (d.tutor u).regs = (s.dev.tutor u).regs ∧ d.rd (M.TUTOR_LAST_TRAP u) = 6) := by
  obtain ⟨htask, hdue, hdouble, -, hwaiting⟩ := (s.dev.tutor u).issues_iff.mp h.issues
  have hnone : (s.dev.tutor u).due = [] := hdue.resolve_right (by simp [htrapping])
  have hrun : sysRun s.bell (s.dev.issued s.bell u w next) u w next = (s.dev.issued s.bell u w next).setTutor u
      { s.dev.tutor u with pc := (s.dev.tutor u).pc + 1, due := [(6, (s.dev.tutor u).g (wSysReg w), next)] } := by
    unfold sysRun
    simp only [hsys]
    rw [issued_of_sys_next h honly (by omega) (by omega)]
    unfold Tutor.trapDue
    rw [if_neg (by simp [htrapping]), hnone]
    rfl
  have hgives := gives_of_sys (p := (7, Instr.sysFault)) (by simp [sysCommands]) h honly hsys (by decide)
  rw [hrun, settleTutor_of_due (cause := 6) (info := (s.dev.tutor u).g (wSysReg w)) (pc := next) (rest := [])
    (by rw [Dev.tutor_setTutor_same]; exact hops) (by rw [Dev.tutor_setTutor_same]; exact htask) (by rw [Dev.tutor_setTutor_same]; exact hwaiting)
    (by rw [Dev.tutor_setTutor_same]; exact hdouble) (by rw [Dev.tutor_setTutor_same]; exact htrapping) (by rw [Dev.tutor_setTutor_same])] at hgives
  refine ⟨_, hgives, ?_⟩
  beta_reduce
  rw [takeTrap_rd_lastTrap]
  obtain ⟨_, htrap⟩ := takeTrap_tutor _ u 6 ((s.dev.tutor u).g (wSysReg w)) next
  rw [htrap]
  exact ⟨rfl, rfl, rfl, by simp only [Dev.tutor_setTutor_same], rfl⟩

theorem reaches_sysEvent (hsys : wSys w = 8) (hevents : s.dev.rings.events = []) :
    Reaches (.sysEvent u) s (fun d => d.tutor u = { s.dev.tutor u with pc := (s.dev.tutor u).pc + 1 } ∧ ∃ e, d.rings.events = [e] ∧
      e.code = Ev.TUTOR_USER ∧ e.object = oid 0x40 u ∧ e.detail = (s.dev.tutor u).g (wSysReg w) ∧ e.period = s.bell.period.toNat) := by
  obtain ⟨hwaiting, hdouble, hdues, hpreempt⟩ := Tutor.quiet_of_issues h.issues
  have hissued := issued_of_sys_next h honly (by omega) (by omega)
  have hrun : sysRun s.bell (s.dev.issued s.bell u w next) u w next =
      (s.dev.issued s.bell u w next).raise s.bell Ev.TUTOR_USER (oid 0x40 u) ((s.dev.tutor u).g (wSysReg w)) := by
    unfold sysRun
    simp only [hsys]
    rw [hissued]
    rfl
  have hsettled := settleTutor_of_quiet (now := s.bell) (d := (s.dev.issued s.bell u w next).raise s.bell Ev.TUTOR_USER (oid 0x40 u)
    ((s.dev.tutor u).g (wSysReg w))) (u := u) (by rw [raise_tutor, hissued]; exact ⟨hwaiting, hdouble, hdues, hpreempt⟩)
  have hgives := gives_of_sys (p := (8, Instr.sysEvent)) (by simp [sysCommands]) h honly hsys (by decide)
  rw [hrun] at hgives
  obtain ⟨e, hqueue, hevent⟩ := raise_of_empty (s.dev.issued s.bell u w next) s.bell Ev.TUTOR_USER (oid 0x40 u)
    ((s.dev.tutor u).g (wSysReg w)) (by rw [Dev.issued_rings]; exact hevents)
  refine ⟨_, hgives, (hsettled.tutor u).trans ((raise_tutor ..).trans hissued), e, ?_, hevent⟩
  obtain ⟨_, hframe⟩ := hsettled.frame
  rw [hframe]
  exact hqueue

end

/-- Settles O42. Each operation writes its tutor or adds to the device, and the word boundary after it takes the trap of FAULT alone. -/
theorem systemWordsRun : Obligations.SystemWordsRun := by
  refine ⟨fun u w next t s h honly hsys hops hrunning hrec hep hdesc horder hhost hlive hrelease hslots => ?_,
    fun u w next s h honly hsys _ hgone => reaches_sysCancel_of_gone h honly hsys hgone,
    fun u w next slot s h honly hsys _ h0 h31 hfree => reaches_sysMakeReady h honly hsys h0 h31 hfree,
    fun u w next s h honly hsys _ hdue => reaches_sysTrapReturn h honly hsys hdue,
    fun u w next s h honly hsys => reaches_sysMask h honly (.inl ⟨rfl, rfl⟩) hsys,
    fun u w next s h honly hsys => reaches_sysMask h honly (.inr ⟨rfl, rfl⟩) hsys,
    fun u w next s h honly hsys hops htrapping => reaches_sysFault h honly hsys hops htrapping,
    fun u w next s h honly hsys hevents => reaches_sysEvent h honly hsys hevents⟩
  exact reaches_sysRelease h honly hsys hops hrunning ⟨hrec, hep, hdesc, horder, hhost, hlive⟩ hrelease hslots

end Sys2Proof

/-! The scheduler: dispatch, pre-emption, resumption and held releases. -/

namespace Sys2Proof.Machine

variable {d e : Dev} {now : BellSt} {u v pipe : Nat} {t : TaskRec}

/-! ## The start of a task (R365, R367, R374) -/

theorem tagStage_tutors (now : BellSt) (d : Dev) (tag : Option Tag) (lo : Nat) : (tagStage now d tag lo).2.tutors = d.tutors := by
  unfold tagStage
  split <;> rfl

theorem stampTask_tutors (now : BellSt) (d : Dev) (t : TaskRec) (lo : Nat) : (stampTask now d t lo).tutors = d.tutors := by
  unfold stampTask
  split
  · exact tagStage_tutors ..
  · rfl

theorem Dev.tutor_of_runners (h : e.tutors.tutors = d.tutors.tutors) (v : Nat) : e.tutor v = d.tutor v := by unfold Dev.tutor; rw [h]

/-- The address a kind of task starts at. -/
def Dev.entryOf (d : Dev) (kind : Nat) : Nat := match d.tutors.image with | some i => i.entry.getD kind 0 | none => 0

/-- A tutor that starts a task: every field of the word's machine is that of a start, and what was pre-empted on it stays saved. -/
def Dev.startedTutor (d : Dev) (t : TaskRec) (u : Nat) : Tutor :=
  { d.tutor u with task := some t.slot, pc := d.entryOf t.kind, z := false, n := false, c := false, v := false, stack := [], regs := startRegs d t,
                   status := 0, masked := false, trapping := false, due := [], double := false, budget := false, ops := [],
                   preempt := none, waiting := false }

/-- A task's start leaves its tutor, its pipe's list and its trace; one cancelled before it takes its trap there. -/
theorem startTask_eq (now : BellSt) (d : Dev) (t : TaskRec) (u : Nat) :
    ∃ e, startTask now d t u = (if t.cancelled = true then takeTrap e u 9 0 (d.entryOf t.kind) else e) ∧
      (∀ v, e.tutor v = (d.setTutor u (d.startedTutor t u)).tutor v) ∧ e.tutors.ready = d.tutors.ready.filter (fun h => h != t.handle) := by
  unfold startTask
  dsimp only
  refine ⟨_, rfl, fun v => Dev.tutor_of_runners ?_ v, ?_⟩
  · rw [(traceTask_traced ..).runners, stampTask_tutors]
    rfl
  · rw [(traceTask_traced ..).ready, stampTask_tutors]
    rfl

theorem startTask_of_live (hlive : t.cancelled = false) :
    (∀ v, (startTask now d t u).tutor v = if v = u then d.startedTutor t u else d.tutor v) ∧
      (startTask now d t u).tutors.ready = d.tutors.ready.filter (fun h => h != t.handle) := by
  obtain ⟨e, hstart, htutors, hready⟩ := startTask_eq now d t u
  rw [hstart, if_neg (by simp [hlive])]
  exact ⟨fun v => (htutors v).trans (Dev.tutor_setTutor ..), hready⟩

/-- Cancelled or not, the task runs on its tutor, over what was pre-empted there. -/
theorem startTask_tutor_task (now : BellSt) (d : Dev) (t : TaskRec) (u : Nat) :
    ((startTask now d t u).tutor u).task = some t.slot ∧ ((startTask now d t u).tutor u).levels = (d.tutor u).levels := by
  obtain ⟨e, hstart, htutors, -⟩ := startTask_eq now d t u
  have hstarted : (e.tutor u).task = some t.slot ∧ (e.tutor u).levels = (d.tutor u).levels := by
    rw [htutors, Dev.tutor_setTutor_same]
    exact ⟨rfl, rfl⟩
  rw [hstart]
  split
  · obtain ⟨_, htrap⟩ := takeTrap_tutor e u 9 0 (d.entryOf t.kind)
    rw [htrap]
    exact hstarted
  · exact hstarted

/-- G1 of a task that starts is its handle. -/
theorem startedTutor_g_one (d : Dev) (t : TaskRec) (u : Nat) : (d.startedTutor t u).g 1 = t.handle % 2 ^ 64 := by
  have hfirst : SMap.get zeroReg (startRegs d t) 1 = BitVec.ofNat 64 t.handle := by
    unfold startRegs
    dsimp only [List.foldl]
    simp only [SMap.get_set_other _ _ _ _ _ (show (1 : Nat) ≠ 2 by decide), SMap.get_set_other _ _ _ _ _ (show (1 : Nat) ≠ 3 by decide),
      SMap.get_set_other _ _ _ _ _ (show (1 : Nat) ≠ 4 by decide), SMap.get_set_other _ _ _ _ _ (show (1 : Nat) ≠ 5 by decide),
      SMap.get_set_other _ _ _ _ _ (show (1 : Nat) ≠ 6 by decide), SMap.get_set_other _ _ _ _ _ (show (1 : Nat) ≠ 7 by decide),
      SMap.get_set_other _ _ _ _ _ (show (1 : Nat) ≠ 8 by decide), SMap.get_set_other _ _ _ _ _ (show (1 : Nat) ≠ 9 by decide),
      SMap.get_set_other _ _ _ _ _ (show (1 : Nat) ≠ 10 by decide), SMap.get_set_same]
  exact (congrArg BitVec.toNat hfirst).trans (BitVec.toNat_ofNat ..)

theorem taskDispatch_of_idle (hgoes : d.dispatchStopped = false) (hawake : d.asleep = false) (hhead : d.readyHead pipe = some t)
    (hidle : d.idleTutorFor t = some u) : taskDispatch pipe now d = startTask now d t u := by
  unfold taskDispatch
  rw [if_neg (by simp [hgoes, hawake]), hhead]
  dsimp only
  rw [hidle]

/-! ## Pre-emption (R372) -/

/-- The frame of a running task's level. -/
def Tutor.savedAs (x : Tutor) (slot : Nat) : Saved :=
  { pc := x.pc, z := x.z, n := x.n, c := x.c, v := x.v, stack := x.stack, regs := x.regs, status := x.status, slot, cycles := b2n x.budget,
    trapping := x.trapping, due := x.due }

theorem saveTask_levels (now : BellSt) (d : Dev) (t : TaskRec) (u slot : Nat) :
    SMap.get (fun _ => none) ((saveTask now d t u slot).tutor u).levels t.prio = some ((d.tutor u).savedAs t.slot) := by
  have hset : (saveTask now d t u slot).tutor u = { d.tutor u with
      levels := SMap.set (fun _ => none) (d.tutor u).levels t.prio (some ((d.tutor u).savedAs t.slot)), preempt := none, task := none } := by
    unfold saveTask
    dsimp only
    rw [(traceTask_traced ..).keepsRunners.tutor]
    exact Dev.tutor_setTutor_same ..
  rw [hset]
  exact SMap.get_set_same (fun _ => none) (d.tutor u).levels t.prio (some ((d.tutor u).savedAs t.slot))

/-- A victim is a tutor of the cluster, with a running task of a lower level and nothing that waits for its word boundary. -/
theorem victimTutor_spec {prio : Nat} (h : d.victimTutor pipe prio = some u) : clusterOf u = pipe ∧ ∃ r, d.running u = some r ∧ r.prio < prio ∧
    (d.tutor u).double = false ∧ ((d.tutor u).trapping = true ∨ (d.tutor u).due = []) := by
  unfold Dev.victimTutor at h
  dsimp only at h
  obtain ⟨⟨p, u'⟩, hlast, hu⟩ := Option.map_eq_some_iff.mp h
  obtain rfl : u' = u := hu
  obtain ⟨u, hcluster, hsome⟩ := List.mem_filterMap.mp (List.mem_of_mem_filter (List.mem_of_getLast? hlast))
  split at hsome
  · next r hrunning =>
    split at hsome
    · next hvictim =>
      obtain ⟨hprio, -, hdue, hdouble, -⟩ := hvictim
      obtain ⟨-, rfl⟩ := Prod.mk.inj (Option.some.inj hsome)
      have hpipe : clusterOf u = pipe := by
        unfold clusterTutors at hcluster
        unfold clusterOf
        simp only [List.mem_cons, List.not_mem_nil, or_false] at hcluster
        omega
      exact ⟨hpipe, r, hrunning, hprio, hdouble, by simpa [or_comm] using hdue⟩
    · exact absurd hsome (by simp)
  · exact absurd hsome (by simp)

theorem Dev.running_setTutor {x : Tutor} (h : x.task = (d.tutor u).task) : (d.setTutor u x).running u = d.running u := by
  unfold Dev.running
  rw [Dev.tutor_setTutor_same, h]
  rfl

theorem doPreempt_of_head {r : TaskRec} (hrunning : d.running u = some r) (hhead : d.readyHead (clusterOf u) = some t) (hprio : r.prio < t.prio)
    (hgoes : d.dispatchStopped = false) : doPreempt now d u =
      startTask now (saveTask now (d.setTutor u { d.tutor u with preempt := none }) r u t.slot) t u := by
  have hsame : (d.setTutor u { d.tutor u with preempt := none }).running u = some r := 
    (Dev.running_setTutor (x := { d.tutor u with preempt := none }) rfl).trans hrunning
  have hready : (d.setTutor u { d.tutor u with preempt := none }).readyHead (clusterOf u) = some t := hhead
  unfold doPreempt
  dsimp only
  rw [hsame, hready]
  exact if_pos ⟨hprio, hgoes⟩

theorem settleTutor_of_preempt (hops : (d.tutor u).ops = []) (htask : (d.tutor u).task.isSome = true) (hwaiting : (d.tutor u).waiting = false)
    (hdouble : (d.tutor u).double = false) (hdue : (d.tutor u).trapping = true ∨ (d.tutor u).due = []) (hpreempt : (d.tutor u).preempt.isSome = true) :
    settleTutor now d u = doPreempt now (d.setTutor u (d.tutor u)) u := by
  have hnone : (if (d.tutor u).trapping = true then [] else (d.tutor u).due) = [] := by
    rcases hdue with htrapping | hdue
    · rw [if_pos htrapping]
    · rw [hdue, ite_self]
  unfold settleTutor
  dsimp only
  rw [if_neg (by simp [hops, Option.isNone_iff_eq_none, Option.isSome_iff_ne_none.mp htask])]
  simp [hwaiting, hdouble, hnone, hpreempt]

/-- A task that finds a victim starts there, over the running task saved in its level's frame. -/
theorem taskPreempt_of_victim {r : TaskRec} (hgoes : d.dispatchStopped = false) (hawake : d.asleep = false) (hhead : d.readyHead pipe = some t)
    (hidle : d.idleTutorFor t = none) (hvictim : d.victimTutor pipe t.prio = some u) (hrunning : d.running u = some r) (hops : (d.tutor u).ops = [])
    (hwaiting : (d.tutor u).waiting = false) : ∃ e, e.tutor u = { d.tutor u with preempt := none } ∧
      taskPreempt pipe now d = startTask now (saveTask now e r u t.slot) t u := by
  obtain ⟨rfl, r', hrunning', hprio, hdouble, hdue⟩ := victimTutor_spec hvictim
  obtain rfl : r = r' := Option.some.inj (hrunning.symm.trans hrunning')
  have htask : (d.tutor u).task.isSome = true := by
    by_contra hnone
    unfold Dev.running at hrunning
    simp [Option.not_isSome_iff_eq_none.mp hnone] at hrunning
  have hset : (d.setTutor u { d.tutor u with preempt := some t.prio }).tutor u = { d.tutor u with preempt := some t.prio } := Dev.tutor_setTutor_same ..
  have hpreempt : taskPreempt (clusterOf u) now d = doPreempt now
      ((d.setTutor u { d.tutor u with preempt := some t.prio }).setTutor u ((d.setTutor u { d.tutor u with preempt := some t.prio }).tutor u)) u := by
    unfold taskPreempt
    rw [if_neg (by simp [hgoes, hawake]), hhead]
    dsimp only
    rw [hidle, if_neg (by simp), hvictim]
    refine settleTutor_of_preempt ?_ ?_ ?_ ?_ ?_ ?_
    all_goals rw [hset]
    exacts [hops, htask, hwaiting, hdouble, hdue, rfl]
  rw [hpreempt, hset]
  refine ⟨_, ?_, doPreempt_of_head ?_ hhead hprio hgoes⟩
  · rw [Dev.tutor_setTutor_same, Dev.tutor_setTutor_same]
  · rw [Dev.running_setTutor (by rw [hset])]
    exact (Dev.running_setTutor (x := { d.tutor u with preempt := some t.prio }) rfl).trans hrunning

/-! ## Resumption (R372) -/

/-- A tutor that goes on with the task of a frame. -/
def Tutor.resumed (x : Tutor) (f : Saved) (slot prio : Nat) : Tutor :=
  { x with task := some slot, pc := f.pc, z := f.z, n := f.n, c := f.c, v := f.v, stack := f.stack, regs := f.regs, status := f.status,
           budget := f.cycles == 1, trapping := f.trapping, due := f.due, levels := SMap.erase x.levels prio }

theorem taskResume_of_saved {f : Saved} (hawake : d.asleep = false) (htask : (d.tutor u).task = none) (hpre : d.preemptedOn u = some t)
    (hhead : d.readyHead (clusterOf u) = none) (hsaved : SMap.get (fun _ => none) (d.tutor u).levels t.prio = some f) (hlive : t.cancelled = false) :
    taskResume u now d = settleTutor now (traceTask now ((d.setTutor u ((d.tutor u).resumed f t.slot t.prio)).setTask { t with state := .running u })
      4 t u 0) u := by
  unfold taskResume
  rw [if_neg (by simp [hawake]), htask, hpre]
  dsimp only
  rw [hhead, hsaved, hlive]
  rfl

theorem taskResume_tutor {f : Saved} (hawake : d.asleep = false) (htask : (d.tutor u).task = none) (hpre : d.preemptedOn u = some t)
    (hhead : d.readyHead (clusterOf u) = none) (hsaved : SMap.get (fun _ => none) (d.tutor u).levels t.prio = some f) (hlive : t.cancelled = false)
    (hdue : f.trapping = true ∨ f.due = []) (hdouble : (d.tutor u).double = false) (hpreempt : (d.tutor u).preempt = none)
    (hwaiting : (d.tutor u).waiting = false) : (taskResume u now d).tutor u = (d.tutor u).resumed f t.slot t.prio := by
  have htraced := (traceTask_traced now ((d.setTutor u ((d.tutor u).resumed f t.slot t.prio)).setTask { t with state := .running u })
    4 t u 0).keepsRunners.tutor u
  have hresumed : (traceTask now ((d.setTutor u ((d.tutor u).resumed f t.slot t.prio)).setTask { t with state := .running u }) 4 t u 0).tutor u =
      (d.tutor u).resumed f t.slot t.prio := htraced.trans (Dev.tutor_setTutor_same ..)
  rw [taskResume_of_saved hawake htask hpre hhead hsaved hlive, (settleTutor_of_quiet (by rw [hresumed]; exact ⟨hwaiting, hdouble, hdue, hpreempt⟩)).tutor]
  exact hresumed

/-! ## Held releases (R373) -/

theorem taskHeldRelease_of_only (htasks : d.tutors.tasks = [t]) (hstate : t.state = .held v) (hlive : t.cancelled = false) :
    taskHeldRelease t.pipe now d = makeRelease now d t 0 v := by
  have hfirst : d.orderBlocked t = false := by
    unfold Dev.orderBlocked
    rw [htasks]
    cases t.order <;> simp
  unfold taskHeldRelease
  simp [htasks, hfirst, hstate, hlive]

/-- The release of a task that holds nothing frees its slot and counts it. -/
theorem makeRelease_of_bare {tutor : Nat} (hdesc : t.desc = none) (hhost : t.host = none) (hrelease : d.services.natRelease = [])
    (hqueue : d.services.exportQueue = []) (hslots : ∀ x ∈ d.descs, x.wait ≠ .slot) :
    (makeRelease now d t tutor v).tutors.tasks = d.tutors.tasks.filter (fun x => !(x.pipe == t.pipe && x.slot == t.slot)) ∧
      (makeRelease now d t tutor v).rd (M.CNT_TASK_RELEASE t.pipe) = (d.rd (M.CNT_TASK_RELEASE t.pipe) + 1) % 2 ^ 64 := by
  obtain ⟨e, hcounted, hmade⟩ := makeRelease_of_noDesc (now := now) (d := d) (tutor := tutor) (v := v) hdesc
  obtain ⟨f, hfreed, hend⟩ := endSlot_of_noHost (now := now) (d := e) (st := St.OK) hhost (by rw [hcounted.services]; exact hrelease)
  have hcounter : M.CNT_TASK_RELEASE t.pipe ≠ M.CNT_TASK_TRACE t.pipe := by grind
  have hquiet : ({ f with services := { f.services with natRelease := [] } } : Dev).services.exportQueue = [] := by
    rw [hfreed.services]
    exact (congrArg Services.exportQueue hcounted.services).trans hqueue
  have hdescs : f.descs = d.descs := hfreed.descs.trans hcounted.descs
  rw [hmade, hend, exportTask_of_empty hquiet, wakeSlots_of_none _ (by rw [hdescs]; exact hslots)]
  refine ⟨hfreed.tasks.trans ?_, (hfreed.rd _ hcounter).trans ((hcounted.rd _ hcounter).trans (Dev.rd_bump_same ..))⟩
  exact congrArg (List.filter _) hcounted.tasks

end Sys2Proof.Machine

namespace Sys2Proof

open Sys2Proof.Machine

/-- Settles O44. Every command does its work on one tutor or one task; the word boundary behind a pre-emption is where the frame is saved. -/
theorem tasksAreScheduled : Obligations.TasksAreScheduled := by
  refine ⟨fun pipe u t im s hruns hawake hgoes hhead hidle himage hlive => ?_,
    fun pipe u t r s hruns hawake hgoes hhead hidle hvictim hrunning hops hwaiting => ?_,
    fun u t f s hruns hawake htask hpre hhead hsaved hlive hdue hdouble hpreempt hwaiting => ?_,
    fun pipe v t s hruns _ htasks hpipe hstate hlive hdesc hhost hrelease hqueue hslots => ?_,
    fun pipe g s hruns hgrams hpipe hage => ?_, fun pipe slot made u t x g s hruns htask hdesc hstate hgrams hpipe hports hwaiting hage => ?_⟩
  · obtain ⟨htutors, hready⟩ := startTask_of_live (now := s.bell) (d := s.dev) (u := u) hlive
    refine ⟨_, gives_of_onDie (f := taskDispatch pipe) rfl hruns, ?_⟩
    beta_reduce
    rw [taskDispatch_of_idle hgoes hawake hhead hidle, htutors u, if_pos rfl]
    refine ⟨rfl, ?_, rfl, startedTutor_g_one .., rfl, fun v hv => (htutors v).trans (if_neg hv), hready⟩
    simp only [Dev.startedTutor, Dev.entryOf, himage]
  · obtain ⟨e, htutor, hpreempt⟩ := taskPreempt_of_victim (now := s.bell) hgoes hawake hhead hidle hvictim hrunning hops hwaiting
    obtain ⟨hstarted, hlevels⟩ := startTask_tutor_task s.bell (saveTask s.bell e r u t.slot) t u
    refine ⟨_, gives_of_onDie (f := taskPreempt pipe) rfl hruns, ?_⟩
    beta_reduce
    rw [hpreempt, hlevels, saveTask_levels, htutor]
    exact ⟨hstarted, _, rfl, rfl, rfl, rfl, rfl⟩
  · refine ⟨_, gives_of_onDie (f := taskResume u) rfl hruns, ?_⟩
    beta_reduce
    rw [taskResume_tutor hawake htask hpre hhead hsaved hlive hdue.symm hdouble hpreempt hwaiting]
    exact ⟨rfl, rfl, rfl, rfl⟩
  · subst hpipe
    obtain ⟨hfreed, hcounted⟩ := makeRelease_of_bare (now := s.bell) (tutor := 0) (v := v) hdesc hhost hrelease hqueue hslots
    refine ⟨_, gives_of_onDie (f := taskHeldRelease t.pipe) rfl hruns, ?_⟩
    rw [taskHeldRelease_of_only htasks hstate hlive]
    exact ⟨by rw [hfreed, htasks]; simp, hcounted⟩
  · refine (gives_of_onDie (f := fragmentEntryExpire pipe) rfl hruns).trans ?_
    unfold fragmentEntryExpire
    simp [hgrams, hpipe, hage]
  · refine (gives_of_onDie (f := fragmentWaitTimeout pipe slot) rfl hruns).trans ?_
    unfold fragmentWaitTimeout
    simp [htask, hgrams, hpipe, hports, hwaiting, hdesc, hstate, Nat.not_lt.mpr hage]

end Sys2Proof

/-! Traps at the limits, hangs, and the load of an image. -/

namespace Sys2Proof.Machine

variable {d e : Dev} {now : BellSt} {u v : Nat} {t : TaskRec} {x : Tutor}

/-! ## Limits (R362, R366) -/

/-- A tutor in which only a trap waits for its word boundary. -/
structure Tutor.Traps (x : Tutor) (cause info pc : Nat) : Prop where
  ops : x.ops = []
  task : x.task.isSome = true
  waiting : x.waiting = false
  double : x.double = false
  trapping : x.trapping = false
  due : x.due = [(cause, info, pc)]

/-- A tutor written with a trap that waits takes it at once. -/
theorem settleTutor_setTutor_of_traps {cause info pc : Nat} (h : x.Traps cause info pc) : ∃ e, e.tutor u = { x with due := [] } ∧
    settleTutor now (d.setTutor u x) u = takeTrap e u cause info pc := by
  have hset : (d.setTutor u x).tutor u = x := Dev.tutor_setTutor_same ..
  refine ⟨_, ?_, settleTutor_of_due (rest := []) (by rw [hset, h.ops]) (by rw [hset, h.task]) (by rw [hset, h.waiting]) (by rw [hset, h.double])
    (by rw [hset, h.trapping]) (by rw [hset, h.due])⟩
  rw [Dev.tutor_setTutor_same, hset]

theorem trapDue_of_free {cause info pc : Nat} (htrapping : x.trapping = false) (hdue : x.due = []) :
    x.trapDue cause info pc = { x with due := [(cause, info, pc)] } := by
  unfold Tutor.trapDue
  rw [if_neg (by simp [htrapping]), hdue]
  rfl

/-! ## Hangs (R371) -/

theorem raiseOpen_tutors (d : Dev) (now : BellSt) (code object : Nat) : (d.raiseOpen now code object).tutors = d.tutors := by
  unfold Dev.raiseOpen
  dsimp only [Dev.fresh_eq]
  rw [Dev.raise_frame]

theorem raiseOpenIf_tutors (d : Dev) (c : Bool) (now : BellSt) (code object : Nat) : (d.raiseOpenIf c now code object).tutors = d.tutors := by
  unfold Dev.raiseOpenIf
  split
  · exact raiseOpen_tutors ..
  · rfl

/-- The tutor that a hang leaves (R371). -/
def Dev.hungTutor (d : Dev) (u : Nat) : Tutor :=
  let x := d.tutor u
  { Tutor.init with localMem := x.localMem, hangs := x.hangs + 1, offline := x.offline || decide (3 ≤ x.hangs + 1) || !d.on (M.TUTOR_ENABLE u) }

theorem hang_eq (now : BellSt) (d : Dev) (u : Nat) :
    ∃ e, e.tutors = (d.setTutor u (d.hungTutor u)).tutors ∧ hang now d u = (d.tasksOn u).foldl (reissue now u) e := by
  refine ⟨_, ?_, rfl⟩
  rw [raiseOpenIf_tutors, raiseOpen_tutors]
  rfl

theorem reissue_of_first (h : t.reissue = 0) : ((d.putBack { t with reissue := 1, avoid := u :: t.avoid }).bump (M.CNT_TASK_REISSUE t.pipe)).Traced
    (reissue now u d t) t.pipe := by
  unfold reissue
  rw [if_neg (by omega), h]
  exact traceTask_traced ..

/-- A tutor's only task goes back to its list, reissued. -/
theorem hang_of_only (htasks : d.tutors.tasks = [t]) (hstate : t.state = .running u) (hfirst : t.reissue = 0) :
    (hang now d u).tutor u = d.hungTutor u ∧ (hang now d u).tutors.tasks = [{ t with state := .ready, reissue := 1, avoid := u :: t.avoid }] ∧
      (hang now d u).tutors.ready = t.handle :: d.tutors.ready := by
  obtain ⟨e, htutors, hhang⟩ := hang_eq now d u
  have hon : d.tasksOn u = [t] := by
    unfold Dev.tasksOn
    rw [htasks]
    simp [hstate]
  have hback := reissue_of_first (d := e) (now := now) (u := u) hfirst
  rw [hhang, hon, List.foldl_cons, List.foldl_nil]
  refine ⟨?_, ?_, ?_⟩
  · rw [hback.keepsRunners.tutor]
    exact (Dev.tutor_of_tutors htutors u).trans (Dev.tutor_setTutor_same ..)
  · have hput : (e.putBack { t with reissue := 1, avoid := u :: t.avoid }).tutors.tasks = e.tutors.tasks.map (fun y =>
        if y.pipe = t.pipe ∧ y.slot = t.slot then { t with state := .ready, reissue := 1, avoid := u :: t.avoid } else y) := rfl
    rw [hback.tasks, Dev.bump_tutors, hput, htutors]
    exact congrArg (List.map _) htasks |>.trans (by rw [List.map_singleton, if_pos ⟨rfl, rfl⟩])
  · have hput : (e.putBack { t with reissue := 1, avoid := u :: t.avoid }).tutors.ready = t.handle :: e.tutors.ready := rfl
    rw [hback.ready, Dev.bump_tutors, hput, htutors]
    rfl

/-! ## The stop of every task (R378) -/

/-- Whether a task stands on a tutor, running or pre-empted. -/
def TaskRec.StandsOn (t : TaskRec) (u : Nat) : Prop := t.state = .running u ∨ t.state = .preempted u

theorem mem_tasksOn : t ∈ d.tasksOn u ↔ t ∈ d.tutors.tasks ∧ t.StandsOn u := by
  unfold Dev.tasksOn TaskRec.StandsOn
  rw [List.mem_filter]
  cases t.state <;> simp

/-- What a task of `e` was in `d`: it is ready, or it was there already and is none of `ts`. -/
def Dev.PutBack (d e : Dev) (ts : List TaskRec) : Prop := ∀ t ∈ e.tutors.tasks, t.state = .ready ∨ t ∈ d.tutors.tasks ∧ t ∉ ts

theorem Dev.putBack_tasks (d : Dev) (x : TaskRec) : d.PutBack (d.putBack x) [x] := by
  intro t ht
  have hput : (d.putBack x).tutors.tasks = d.tutors.tasks.map (fun y => if y.pipe = x.pipe ∧ y.slot = x.slot then { x with state := .ready } else y) := rfl
  rw [hput] at ht
  obtain ⟨y, hy, rfl⟩ := List.mem_map.mp ht
  split
  · exact .inl rfl
  · next hother =>
    refine .inr ⟨hy, fun hin => hother ?_⟩
    rw [List.mem_singleton.mp hin]
    exact ⟨rfl, rfl⟩

theorem Dev.PutBack.trans {f : Dev} {ts us : List TaskRec} (h : d.PutBack e ts) (h' : e.PutBack f us) : d.PutBack f (ts ++ us) := by
  intro t ht
  rcases h' t ht with hready | ⟨hmem, hus⟩
  · exact .inl hready
  · rcases h t hmem with hready | ⟨hmem, hts⟩
    · exact .inl hready
    · exact .inr ⟨hmem, by simp [hts, hus]⟩

theorem foldl_putBack (ts : List TaskRec) (d : Dev) : d.PutBack (ts.foldl Dev.putBack d) ts := by
  induction ts generalizing d with
  | nil => exact fun t ht => .inr ⟨ht, List.not_mem_nil⟩
  | cons x ts ih => exact (d.putBack_tasks x).trans (ih _)

/-- A tutor that is stopped leaves no task on itself, and puts none on another. -/
theorem stopTutor_tasks (d : Dev) (u : Nat) (ht : t ∈ (stopTutor d u).tutors.tasks) : t.state = .ready ∨ t ∈ d.tutors.tasks ∧ ¬t.StandsOn u := by
  unfold stopTutor at ht
  dsimp only at ht
  split at ht
  · next hnone =>
    refine .inr ⟨ht, fun hon => ?_⟩
    have hmem := mem_tasksOn.mpr ⟨ht, hon⟩
    rw [List.isEmpty_iff.mp hnone] at hmem
    exact List.not_mem_nil hmem
  · rcases foldl_putBack _ _ t ht with hready | ⟨hmem, hout⟩
    · exact .inl hready
    · exact .inr ⟨hmem, fun hon => hout (mem_tasksOn.mpr ⟨hmem, hon⟩)⟩

theorem foldl_stopTutor_tasks (us : List Nat) (d : Dev) (ht : t ∈ (us.foldl stopTutor d).tutors.tasks) :
    t.state = .ready ∨ t ∈ d.tutors.tasks ∧ ∀ u ∈ us, ¬t.StandsOn u := by
  induction us generalizing d with
  | nil => exact .inr ⟨ht, by simp⟩
  | cons u us ih =>
    rcases ih _ ht with hready | ⟨hmem, hothers⟩
    · exact .inl hready
    · rcases stopTutor_tasks d u hmem with hready | ⟨hmem, hthis⟩
      · exact .inl hready
      · exact .inr ⟨hmem, List.forall_mem_cons.mpr ⟨hthis, hothers⟩⟩

theorem mem_allTutors (h : u < 64) : u ∈ allTutors := List.mem_range.mpr h

theorem foldl_putBack_image (ts : List TaskRec) (d : Dev) : (ts.foldl Dev.putBack d).tutors.image = d.tutors.image := by
  induction ts generalizing d with
  | nil => rfl
  | cons x ts ih => exact ih _

theorem stopTutor_image (d : Dev) (u : Nat) : (stopTutor d u).tutors.image = d.tutors.image := by
  unfold stopTutor
  dsimp only
  split
  · rfl
  · rw [foldl_putBack_image]
    rfl

theorem foldl_stopTutor_image (us : List Nat) (d : Dev) : (us.foldl stopTutor d).tutors.image = d.tutors.image := by
  induction us generalizing d with
  | nil => rfl
  | cons u us ih => exact (ih _).trans (stopTutor_image d u)

end Sys2Proof.Machine

namespace Sys2Proof

open Sys2Proof.Machine

theorem admits_of_passes {d : Dev} {a : Acc} {id : Nat} (h : Passes d a id) : Admits d a id := by
  obtain ⟨hgate, hup, hstatus, -⟩ := h
  exact ⟨hgate, hup, hstatus⟩

/-- Settles O45. Each limit raises a trap that its word boundary takes at once; a hang resets the tutor and puts its task back. -/
theorem tutorsTrapAndHang : Obligations.TutorsTrapAndHang := by
  refine ⟨fun u s hruns htask hbudget hdue hdouble hops hwaiting htrapping => ?_, fun u s hruns htask hmasked hdue hdouble hops hwaiting htrapping => ?_,
    fun u t s hruns htask hbudget htasks hstate hfirst => ?_⟩
  · refine ⟨_, gives_of_onDie (f := taskBudgetTrap u) rfl hruns, ?_⟩
    obtain ⟨e, htutor, hsettled⟩ := settleTutor_setTutor_of_traps (d := s.dev) (now := s.bell) (u := u)
      (x := { s.dev.tutor u with budget := true, due := [(8, 0, (s.dev.tutor u).pc)] }) ⟨hops, htask, hwaiting, hdouble, htrapping, rfl⟩
    have hrun : taskBudgetTrap u s.bell s.dev = takeTrap e u 8 0 (s.dev.tutor u).pc := by
      rw [← hsettled]
      unfold taskBudgetTrap
      dsimp only
      rw [if_neg (by simp [Option.isNone_iff_eq_none, Option.isSome_iff_ne_none.mp htask, hbudget]), trapDue_of_free]
      exacts [htrapping, hdue]
    obtain ⟨_, htrap⟩ := takeTrap_tutor e u 8 0 (s.dev.tutor u).pc
    rw [hrun, htrap, takeTrap_rd_lastTrap, htutor]
    exact ⟨rfl, rfl, rfl, rfl, rfl, rfl⟩
  · refine ⟨_, gives_of_onDie (f := maskLimitTrap u) rfl hruns, ?_⟩
    obtain ⟨e, htutor, hsettled⟩ := settleTutor_setTutor_of_traps (d := s.dev) (now := s.bell) (u := u)
      (x := { s.dev.tutor u with masked := false, due := [(7, 0, (s.dev.tutor u).pc)] }) ⟨hops, htask, hwaiting, hdouble, htrapping, rfl⟩
    have hrun : maskLimitTrap u s.bell s.dev = takeTrap e u 7 0 (s.dev.tutor u).pc := by
      rw [← hsettled]
      unfold maskLimitTrap
      dsimp only
      rw [if_neg (by simp [Option.isNone_iff_eq_none, Option.isSome_iff_ne_none.mp htask, hmasked]), trapDue_of_free]
      exacts [htrapping, hdue]
    obtain ⟨_, htrap⟩ := takeTrap_tutor e u 7 0 (s.dev.tutor u).pc
    rw [hrun, htrap, takeTrap_rd_lastTrap, htutor]
    exact ⟨rfl, rfl, rfl, rfl⟩
  · have hhang : tutorHang u s.bell s.dev = hang s.bell s.dev u := if_pos ⟨htask, .inl hbudget⟩
    obtain ⟨htutor, hback, hready⟩ := hang_of_only (now := s.bell) htasks hstate hfirst
    refine ⟨_, gives_of_onDie (f := tutorHang u) rfl hruns, ?_⟩
    beta_reduce
    rw [hhang, htutor]
    exact ⟨rfl, rfl, rfl, hback, hready⟩

/-- Settles O46. Stopping a tutor puts every task that stands on it back, and a task that is put back stands on none. -/
theorem tutorImagesLoad : Obligations.TutorImagesLoad := by
  refine ⟨fun a s h hidle hready => ?_, fun s hruns hload hgood => ?_, fun s hruns hload hbad => ?_, fun s hruns hload => ?_, fun u a s h hone => ?_⟩
  · refine ⟨_, gives_of_trigger_ok (f := fun _ => tutorImageLoad) rfl h (if_neg (by simp [hidle, hready])), rfl, ?_⟩
    exact Dev.rd_wr_same s.dev M.TUTOR_IMAGE_STATUS St.PENDING
  · refine (gives_of_onDie (f := fun _ => tutorImageChecked) rfl hruns).trans ?_
    unfold tutorImageChecked
    rw [if_neg (by simp [hload])]
    dsimp only
    rw [if_pos hgood]
  · refine ⟨_, gives_of_onDie (f := fun _ => tutorImageChecked) rfl hruns, ?_⟩
    have hchecked : tutorImageChecked s.dev =
        { s.dev.wr M.TUTOR_IMAGE_STATUS (imageStatus s.dev.imageBytes.2) with tutors := { s.dev.tutors with load := .idle } } := by
      unfold tutorImageChecked
      rw [if_neg (by simp [hload])]
      exact if_neg hbad
    beta_reduce
    rw [hchecked]
    exact ⟨rfl, Dev.rd_wr_same ..⟩
  · have himage := foldl_stopTutor_image allTutors s.dev
    have htasks (t : TaskRec) := foldl_stopTutor_tasks (t := t) allTutors s.dev
    have hstop : tutorImageTaskStop s.dev =
        { allTutors.foldl stopTutor s.dev with tutors := { (allTutors.foldl stopTutor s.dev).tutors with load := .resumeDue } } :=
      if_neg (by simp [hload])
    refine ⟨_, gives_of_onDie (f := fun _ => tutorImageTaskStop) rfl hruns, ?_⟩
    beta_reduce
    rw [hstop]
    generalize allTutors.foldl stopTutor s.dev = e at himage htasks ⊢
    refine ⟨rfl, himage, fun t ht u hu => ?_⟩
    rcases htasks t ht with hready | ⟨-, hnone⟩
    · simp [hready]
    · exact not_or.mp (hnone u (mem_allTutors hu))
  · have hwritten : tutorEnable u (storedValue (M.TUTOR_ENABLE u) a.val) s.dev =
        (St.OK, (s.dev.wr (M.TUTOR_ENABLE u) 1).setTutor u { s.dev.tutor u with offline := false }) := by
      rw [hone]
      rfl
    refine ⟨_, gives_of_accept_ok (f := fun _ => tutorEnable u) rfl (admits_of_passes h) hwritten, ?_, Dev.tutor_setTutor_same ..⟩
    exact Dev.rd_wr_same s.dev (M.TUTOR_ENABLE u) 1

end Sys2Proof

/-! Memory operations of tutors that complete. -/

namespace Sys2Proof.Machine

variable {d e : Dev} {now : BellSt} {u : Nat} {t : TaskRec} {m : MemOp} {x : Tutor}

/-! ## The end of an operation (R361) -/

/-- A tutor whose operation ended: its status reaches G31, and what it loads its register. -/
def Tutor.ended (x : Tutor) (m : MemOp) (st v : Nat) : Tutor :=
  let y := { x with status := st }
  if st = St.OK ∧ memLoads m.op = true then y.setG m.reg v else y

theorem memEnd_eq (d : Dev) (u : Nat) (m : MemOp) (st v : Nat) : memEnd d u m st v = d.setTutor u ((d.tutor u).ended m st v) := rfl

theorem Tutor.ended_eq (x : Tutor) (m : MemOp) (st v : Nat) : x.ended m st v = { x with status := st, regs := (x.ended m st v).regs } := by
  unfold Tutor.ended
  dsimp only
  split
  · rw [Tutor.setG_eq]
  · rfl

theorem Tutor.ended_status (x : Tutor) (m : MemOp) {st : Nat} (v : Nat) (h : st < 2 ^ 16) : (x.ended m st v).g 31 = st := by
  rw [Tutor.ended_eq]
  exact Nat.mod_eq_of_lt (a := st) h

theorem Tutor.ended_regs (x : Tutor) {m : MemOp} {st : Nat} (v : Nat) (h : ¬(st = St.OK ∧ memLoads m.op = true)) : (x.ended m st v).regs = x.regs := by
  unfold Tutor.ended
  rw [if_neg h]

theorem Tutor.ended_of_load (x : Tutor) {m : MemOp} (v : Nat) (hload : memLoads m.op = true) :
    x.ended m St.OK v = Tutor.setG { x with status := St.OK } m.reg v := if_pos ⟨rfl, hload⟩

/-- A tutor of which one operation is outstanding, and for whose word nothing else waits. -/
structure Completes (d : Dev) (u : Nat) (m : MemOp) (t : TaskRec) : Prop where
  ops : (d.tutor u).ops = [m]
  running : d.running u = some t
  quiet : (d.tutor u).Quiet

/-- The tutor's oldest operation has ended, and its word may go on. -/
theorem memOpComplete_of_done {o : MemOutcome} {localMem : List Host.Cell} {st v : Nat} (h : Completes d u m t)
    (hrun : memRun now d u m o false = (true, memEnd e u m st v)) (htutor : e.tutor u = { d.tutor u with localMem }) :
    (popOp (memEnd e u m st v) u).SameTutors (memOpComplete u o now d) := by
  have hdone : memOpComplete u o now d = settleTutor now (popOp (memEnd e u m st v) u) u := by
    unfold memOpComplete
    rw [h.ops]
    dsimp only
    rw [hrun]
  rw [hdone]
  refine settleTutor_of_quiet ?_
  obtain ⟨hwaiting, hdouble, hdue, hpreempt⟩ := h.quiet
  rw [popOp, Dev.tutor_setTutor_same, memEnd_eq, Dev.tutor_setTutor_same, Tutor.ended_eq, htutor]
  exact ⟨hwaiting, hdouble, hdue, hpreempt⟩

/-- What the tutor is when its only operation has ended. -/
theorem popOp_memEnd_tutor {localMem : List Host.Cell} {st v : Nat} (hops : (d.tutor u).ops = [m])
    (htutor : e.tutor u = { d.tutor u with localMem }) :
    (popOp (memEnd e u m st v) u).tutor u = Tutor.ended { d.tutor u with ops := [], localMem } m st v := by
  rw [popOp, Dev.tutor_setTutor_same, memEnd_eq, Dev.tutor_setTutor_same, htutor]
  rw [Tutor.ended_eq, Tutor.ended_eq { d.tutor u with ops := [], localMem }]
  simp only [hops, List.drop_one, List.tail_cons]
  unfold Tutor.ended
  dsimp only
  split
  · unfold Tutor.setG
    split <;> rfl
  · rfl

/-! ## The tutor data region (R335, R361) -/

theorem Dev.tdByte_tdPut_same (d : Dev) (f a : Nat) (b : Byte) : (d.tdPut a b).tdByte f a = b := by
  unfold Dev.tdPut Dev.tdByte
  by_cases h : tdOpen a = true
  · simp [h]
  · simp [h]

theorem Dev.tdByte_tdPut_other (d : Dev) (f : Nat) {a k : Nat} (b : Byte) (hk : k ≠ a) : (d.tdPut a b).tdByte f k = d.tdByte f k := by
  unfold Dev.tdPut Dev.tdByte
  by_cases h : tdOpen a = true
  · simp [h, SMap.get_set_other _ _ _ _ _ hk]
  · simp [h, Memory.read_write_other _ _ _ _ hk]

/-- A write of the region from its byte 0 up. -/
theorem foldl_tdPut_tdByte (d : Dev) (f a : Nat) (b : Nat → Byte) (n k : Nat) :
    ((List.range n).foldl (fun d i => d.tdPut (a + i) (b i)) d).tdByte f k = if a ≤ k ∧ k < a + n then b (k - a) else d.tdByte f k := by
  induction n with
  | zero => rw [if_neg (by omega)]; rfl
  | succ n ih =>
    rw [List.range_succ, List.foldl_append, List.foldl_cons, List.foldl_nil]
    by_cases hk : k = a + n
    · subst hk
      rw [Dev.tdByte_tdPut_same, if_pos (by omega), Nat.add_sub_cancel_left]
    · rw [Dev.tdByte_tdPut_other _ _ _ hk, ih]
      exact if_congr (by omega) rfl rfl

theorem tdWrite_tdByte (d : Dev) (f a n v k : Nat) :
    (tdWrite d a n v).tdByte f k = if a ≤ k ∧ k < a + n then (toLE n v).getD (k - a) 0 else d.tdByte f k :=
  foldl_tdPut_tdByte d f a (fun i => (toLE n v).getD i 0) n k

/-- What a write of the region changes: its bytes. -/
theorem Dev.tdPut_frame (d : Dev) (a : Nat) (b : Byte) : ∃ data tdKnown, d.tdPut a b = { d with tutors := { d.tutors with data, tdKnown } } := by
  unfold Dev.tdPut
  split
  · exact ⟨_, _, rfl⟩
  · exact ⟨_, _, rfl⟩

theorem foldl_tdPut_frame (a : Nat) (b : Nat → Byte) (is : List Nat) (d : Dev) :
    ∃ data tdKnown, is.foldl (fun d i => d.tdPut (a + i) (b i)) d = { d with tutors := { d.tutors with data, tdKnown } } := by
  induction is generalizing d with
  | nil => exact ⟨_, _, rfl⟩
  | cons i is ih =>
    obtain ⟨_, _, hput⟩ := d.tdPut_frame (a + i) (b i)
    obtain ⟨_, _, hrest⟩ := ih (d.tdPut (a + i) (b i))
    rw [List.foldl_cons, hrest, hput]
    exact ⟨_, _, rfl⟩

theorem tdWrite_frame (d : Dev) (a n v : Nat) : ∃ data tdKnown, tdWrite d a n v = { d with tutors := { d.tutors with data, tdKnown } } :=
  foldl_tdPut_frame ..

theorem tdWrite_tutor (d : Dev) (a n v u : Nat) : (tdWrite d a n v).tutor u = d.tutor u := by
  obtain ⟨_, _, h⟩ := tdWrite_frame d a n v
  rw [h]
  rfl

theorem tdRead_tutors (d : Dev) (a n : Nat) : (tdRead d a n).2.tutors = d.tutors := by
  unfold tdRead
  dsimp only
  split <;> rfl

theorem Dev.tdByte_of_tutors (h : e.tutors = d.tutors) (f a : Nat) : e.tdByte f a = d.tdByte f a := by
  unfold Dev.tdByte
  rw [h]

/-- Beyond the stores of R335 the region is a memory. -/
theorem tdOpen_of_beyond {a : Nat} (h : 168296448 ≤ a) : tdOpen a = false := by
  unfold tdOpen inDeltaStore
  simp only [Bool.or_eq_false_iff, Bool.and_eq_false_iff, decide_eq_false_iff_not]
  omega

theorem tdByte_of_beyond (d : Dev) (f : Nat) {a : Nat} (h : 168296448 ≤ a) : d.tdByte f a = Memory.read d.tutors.data a := by
  unfold Dev.tdByte
  rw [if_neg (by simp [tdOpen_of_beyond h])]

theorem tdRead_of_beyond (d : Dev) {a : Nat} (n : Nat) (h : 168296448 ≤ a) : (tdRead d a n).1 = leVal (Memory.readBytes d.tutors.data a n) := by
  have hbytes (f : Nat) (e : Dev) (he : e.tutors = d.tutors) : (List.range n).map (fun i => e.tdByte (f / 256 ^ i) (a + i)) = Memory.readBytes d.tutors.data a n :=
    List.map_congr_left fun i _ => by rw [tdByte_of_beyond _ _ (by omega), he]
  unfold tdRead
  dsimp only [Dev.fresh_eq]
  split
  · exact congrArg leVal (hbytes _ _ rfl)
  · exact congrArg leVal (hbytes _ _ rfl)

/-! ## The accesses of an operation (R361, R439) -/

theorem Dev.bumpIf_tutors (d : Dev) (c : Bool) (id : Nat) : (d.bumpIf c id).tutors = d.tutors := by
  cases c <;> rfl

theorem Dev.raiseTo_tutors (d : Dev) (id v : Nat) : (d.raiseTo id v).tutors = d.tutors := by
  unfold Dev.raiseTo
  split <;> rfl

theorem endReq_of_clean_tutors (now : BellSt) (d : Dev) (ch : Nat) (q : MemReq) (t : Nat) : (endReq now d ch q t (.clean, .clean)).tutors = d.tutors := by
  unfold endReq
  dsimp only
  rw [eccRead_of_clean]
  split
  · rw [Dev.addTo_tutors, Dev.raiseTo_tutors, Dev.bumpIf_tutors, Dev.setChannel_tutors]
  · rw [Dev.bumpIf_tutors, Dev.addTo_tutors, Dev.raiseTo_tutors, Dev.bumpIf_tutors, Dev.setChannel_tutors]

theorem endAccess_tutors {ch unit port : Nat} {write : Bool} {o : MemOutcome} {r : MemOutcome × Dev} (ho : o ≠ .uncorrectable)
    (h : endAccess now d ch unit port write o = some r) : r.2.tutors = d.tutors := by
  unfold endAccess at h
  dsimp only at h
  split at h
  · split at h
    · obtain rfl := Option.some.inj h
      rfl
    · split at h
      · exact absurd h (by simp)
      · obtain rfl := Option.some.inj h
        exact endReq_of_clean_tutors ..
  · split at h
    · obtain rfl := Option.some.inj h
      rfl
    · obtain rfl := Option.some.inj h
      rfl

/-- One of an operation's accesses ends, or the operation ends without it (R361, R439). -/
def tdEnds (now : BellSt) (ch unit : Nat) (must : Bool) (d : Dev) (write : Bool) (o : MemOutcome) : Option (MemOutcome × Dev) :=
  match endAccess now d ch unit 1 write o with
  | some x => some x
  | none => if must then some (o, d) else none

theorem tdEnd_eq (now : BellSt) (d : Dev) (m : MemOp) (o : MemOutcome) (must : Bool) : tdEnd now d m o must =
    let p := d.regionPlace (.tutor m.addr)
    (tdEnds now p.1 p.2 must d false (if d.chServes p.1 then o else .unavailable)).bind fun r => if m.op = 8 then some r else
      (tdEnds now p.1 p.2 must r.2 true (if r.1 = .unavailable then r.1 else .ok)).map fun x => (r.1, x.2) := by
  have hmatch : tdEnd now d m o must =
      match tdEnds now (d.regionPlace (.tutor m.addr)).1 (d.regionPlace (.tutor m.addr)).2 must d false
        (if d.chServes (d.regionPlace (.tutor m.addr)).1 then o else MemOutcome.unavailable) with
      | none => none
      | some (r, e) => if m.op = 8 then some (r, e) else (tdEnds now (d.regionPlace (.tutor m.addr)).1 (d.regionPlace (.tutor m.addr)).2 must e true
        (if r = MemOutcome.unavailable then r else .ok)).map fun x : MemOutcome × Dev => (r, x.2) := rfl
  rw [hmatch]
  dsimp only
  cases tdEnds now (d.regionPlace (.tutor m.addr)).1 (d.regionPlace (.tutor m.addr)).2 must d false
    (if d.chServes (d.regionPlace (.tutor m.addr)).1 then o else MemOutcome.unavailable) <;> rfl

theorem tdEnds_tutors {ch unit : Nat} {write : Bool} {o : MemOutcome} {r : MemOutcome × Dev} (ho : o ≠ .uncorrectable)
    (h : tdEnds now ch unit false d write o = some r) : r.2.tutors = d.tutors := by
  unfold tdEnds at h
  split at h
  · next hend =>
    obtain rfl := Option.some.inj h
    exact endAccess_tutors ho hend
  · exact absurd h (by simp)

/-- What an operation's accesses change is no tutor's. -/
theorem tdEnd_tutors {o : MemOutcome} {r : MemOutcome × Dev} (ho : o ≠ .uncorrectable) (h : tdEnd now d m o false = some r) :
    r.2.tutors = d.tutors := by
  rw [tdEnd_eq] at h
  obtain ⟨r', hread, hrest⟩ := Option.bind_eq_some_iff.mp h
  have hfirst : r'.2.tutors = d.tutors := tdEnds_tutors (by split <;> simp [ho]) hread
  split at hrest
  · rw [← Option.some.inj hrest, hfirst]
  · obtain ⟨x, hwrite, rfl⟩ := Option.map_eq_some_iff.mp hrest
    exact (tdEnds_tutors (by split <;> simp_all) hwrite).trans hfirst

/-- A read of memory that is not available ends at once. -/
theorem tdEnd_of_unavailable (hop : m.op = 8) : ∃ e, tdEnd now d m .unavailable false = some (.unavailable, e) := by
  have hread (ch unit : Nat) : ∃ e, tdEnds now ch unit false d false .unavailable = some (.unavailable, e) := by
    unfold tdEnds endAccess
    dsimp only
    split
    · next x hx =>
      split at hx
      · exact ⟨_, (congrArg some (Option.some.inj hx)).symm⟩
      · split at hx
        · exact ⟨_, (congrArg some (Option.some.inj hx)).symm⟩
        · exact ⟨_, (congrArg some (Option.some.inj hx)).symm⟩
    · next hx =>
      split at hx
      · exact absurd hx (by simp)
      · split at hx <;> exact absurd hx (by simp)
  obtain ⟨e, he⟩ := hread (d.regionPlace (.tutor m.addr)).1 (d.regionPlace (.tutor m.addr)).2
  refine ⟨e, ?_⟩
  rw [tdEnd_eq]
  dsimp only
  rw [ite_self, he, Option.bind_some, if_pos hop]

/-! ## The operations (R361, R365) -/

/-- A task with a copy of its record and the bits it has written of it. -/
def TaskRec.withRecord (t : TaskRec) (recCopy recMask : Nat) : TaskRec := { t with recCopy, recMask }

theorem TaskRec.withRecord_place (t : TaskRec) (c k : Nat) : (t.withRecord c k).pipe = t.pipe ∧ (t.withRecord c k).slot = t.slot := ⟨rfl, rfl⟩

/-- A task after REC_WRITE. -/
def TaskRec.recWritten (t : TaskRec) (m : MemOp) : TaskRec :=
  t.withRecord (recClean (setFld t.recCopy (8 * m.addr) (8 * m.width) m.value)) (t.recMask ||| ((256 ^ m.width - 1) * 256 ^ m.addr))

section

variable {o : MemOutcome} (hrunning : d.running u = some t)
include hrunning

theorem memRun_localRead (hop : m.op = 1) : memRun now d u m o false =
    (true, memEnd d u m St.OK (leVal (Memory.readBytes (d.tutor u).localMem m.addr m.width))) := by
  simp only [memRun, hrunning, hop]

theorem memRun_localWrite (hop : m.op = 2) : memRun now d u m o false =
    (true, memEnd (d.setTutor u { d.tutor u with localMem := Memory.writeBytes (d.tutor u).localMem m.addr (toLE m.width m.value) }) u m St.OK 0) := by
  simp only [memRun, hrunning, hop]

theorem memRun_recWrite (hop : m.op = 5) : memRun now d u m o false = (true, memEnd (d.setTask (t.recWritten m)) u m St.OK 0) := by
  simp only [memRun, hrunning, hop, TaskRec.recWritten, TaskRec.withRecord]

theorem memRun_of_td (hop : m.op = 8 ∨ m.op = 9 ∨ m.op = 0xA) {r : MemOutcome} (hend : tdEnd now d m o false = some (r, e)) :
    memRun now d u m o false = (true, tdRun e u m r) := by
  rcases hop with hop | hop | hop <;> simp only [memRun, hrunning, hop, hend]

end

theorem tdRun_of_write (hop : m.op = 9) : tdRun e u m .ok = memEnd (tdWrite e m.addr m.width m.value) u m St.OK 0 := by
  unfold tdRun
  simp only [hop, if_true]
  rfl

theorem tdRun_of_add (hop : m.op = 0xA) : tdRun e u m .ok =
    memEnd (tdWrite (tdRead e m.addr m.width).2 m.addr m.width (((tdRead e m.addr m.width).1 + m.value) % 256 ^ m.width)) u m St.OK
      (tdRead e m.addr m.width).1 := by
  unfold tdRun
  simp only [hop]
  rfl

theorem tdRun_of_unavailable (hop : m.op = 8) : tdRun e u m .unavailable =
    memEnd (tdRead e m.addr m.width).2 u m St.UNAVAILABLE (tdRead e m.addr m.width).1 := by
  unfold tdRun
  simp only [hop]
  rfl

theorem Dev.taskRec_setTask_same {pipe slot : Nat} (t' : TaskRec) (h : d.taskRec pipe slot = some t) (hpipe : t'.pipe = t.pipe) (hslot : t'.slot = t.slot) :
    (d.setTask t').taskRec pipe slot = some t' := by
  unfold Dev.taskRec at h
  have hkey := List.find?_some h
  simp only [Bool.and_eq_true, beq_iff_eq] at hkey
  obtain ⟨hp, hs⟩ := hkey
  have hmapped : ((fun y : TaskRec => y.pipe == pipe && y.slot == slot) ∘ fun y => if y.pipe = t'.pipe ∧ y.slot = t'.slot then t' else y) =
      fun y : TaskRec => y.pipe == pipe && y.slot == slot := by
    funext y
    dsimp only [Function.comp]
    split
    · next hy => rw [hpipe, hslot, hy.1, hy.2, hpipe, hslot]
    · rfl
  unfold Dev.taskRec Dev.setTask
  dsimp only
  rw [List.find?_map, hmapped, h, Option.map_some, if_pos ⟨hpipe.symm, hslot.symm⟩]

end Sys2Proof.Machine

/-! The operations of tutors that complete, one by one. -/

namespace Sys2Proof.Machine

variable {d e : Dev} {now : BellSt} {u : Nat} {t : TaskRec} {m : MemOp} {x : Tutor}

theorem popOp_tutors_data (d : Dev) (u : Nat) (m : MemOp) (st v : Nat) :
    (popOp (memEnd d u m st v) u).tutors.data = d.tutors.data ∧ (popOp (memEnd d u m st v) u).tutors.tdKnown = d.tutors.tdKnown ∧
      (popOp (memEnd d u m st v) u).tutors.tasks = d.tutors.tasks ∧ (popOp (memEnd d u m st v) u).roll = d.roll := ⟨rfl, rfl, rfl, rfl⟩

theorem TaskRec.recWritten_place (t : TaskRec) (m : MemOp) : (t.recWritten m).pipe = t.pipe ∧ (t.recWritten m).slot = t.slot :=
  t.withRecord_place _ _

theorem Dev.tutor_setTask (d : Dev) (t : TaskRec) (u : Nat) : (d.setTask t).tutor u = d.tutor u := rfl

/-- Reading the region looks at its bytes and at what the tutors wrote where its form is open. -/
theorem Dev.tdByte_of_data (hdata : e.tutors.data = d.tutors.data) (hknown : e.tutors.tdKnown = d.tutors.tdKnown) (f a : Nat) :
    e.tdByte f a = d.tdByte f a := by
  unfold Dev.tdByte
  rw [hdata, hknown]

namespace Dev.SameTutors

variable (h : d.SameTutors e)
include h

theorem data : e.tutors.data = d.tutors.data := by obtain ⟨_, rfl⟩ := h.frame; rfl
theorem tdKnown : e.tutors.tdKnown = d.tutors.tdKnown := by obtain ⟨_, rfl⟩ := h.frame; rfl
theorem roll : e.roll = d.roll := by obtain ⟨_, rfl⟩ := h.frame; rfl
theorem running (u : Nat) : e.running u = d.running u := by
  unfold Dev.running Dev.taskRec
  rw [h.tutor, h.tasks]

end Dev.SameTutors

theorem Dev.tdPut_data (d : Dev) {a : Nat} (b : Byte) (h : 168296448 ≤ a) : (d.tdPut a b).tutors.data = Memory.write d.tutors.data a b := by
  unfold Dev.tdPut
  rw [if_neg (by simp [tdOpen_of_beyond h])]

/-- A write beyond the stores of R335 changes its bytes of the memory. -/
theorem tdWrite_data (d : Dev) {a : Nat} (n v k : Nat) (h : 168296448 ≤ a) :
    Memory.read (tdWrite d a n v).tutors.data k = if a ≤ k ∧ k < a + n then (toLE n v).getD (k - a) 0 else Memory.read d.tutors.data k := by
  have hfold (b : Nat → Byte) (n : Nat) : Memory.read ((List.range n).foldl (fun d i => d.tdPut (a + i) (b i)) d).tutors.data k =
      if a ≤ k ∧ k < a + n then b (k - a) else Memory.read d.tutors.data k := by
    induction n with
    | zero => rw [if_neg (by omega)]; rfl
    | succ n ih =>
      rw [List.range_succ, List.foldl_append, List.foldl_cons, List.foldl_nil, Dev.tdPut_data _ _ (by omega)]
      by_cases hk : k = a + n
      · subst hk
        rw [Memory.read_write_same, if_pos (by omega), Nat.add_sub_cancel_left]
      · rw [Memory.read_write_other _ _ _ _ hk, ih]
        exact if_congr (by omega) rfl rfl
  exact hfold _ n

theorem tdWrite_readBytes (d : Dev) {a : Nat} (n v : Nat) (h : 168296448 ≤ a) : Memory.readBytes (tdWrite d a n v).tutors.data a n = toLE n v := by
  refine List.ext_getElem (by simp [Memory.readBytes, length_toLE]) fun i hi hi' => ?_
  have hlt : i < n := by rwa [length_toLE] at hi'
  simp only [Memory.readBytes, List.getElem_map, List.getElem_range]
  rw [tdWrite_data _ _ _ _ h, if_pos (by omega), Nat.add_sub_cancel_left, List.getD_eq_getElem _ _ hi']

end Sys2Proof.Machine

namespace Sys2Proof

open Sys2Proof.Machine

/-- The command of an operation that ends leaves its tutor with the operation's end and the rest of the device as the operation left it. -/
theorem reaches_of_done {u : Nat} {m : MemOp} {t : TaskRec} {s : State} {o : MemOutcome} {e : Dev} {localMem : List Host.Cell} {st v : Nat}
    (hruns : s.dev.dieRuns = true) (h : Completes s.dev u m t) (hrun : memRun s.bell s.dev u m o false = (true, memEnd e u m st v))
    (htutor : e.tutor u = { s.dev.tutor u with localMem }) :
    Reaches (.memOpComplete u o) s (fun d => d.tutor u = Tutor.ended { s.dev.tutor u with ops := [], localMem } m st v ∧
      (popOp (memEnd e u m st v) u).SameTutors d) := by
  have hsame := memOpComplete_of_done h hrun htutor
  exact ⟨_, gives_of_onDie (f := memOpComplete u o) rfl hruns, (hsame.tutor u).trans (popOp_memEnd_tutor h.ops htutor), hsame⟩

section

variable {u : Nat} {m : MemOp} {t : TaskRec} {s : State} (hruns : s.dev.dieRuns = true) (h : Completes s.dev u m t)
include hruns h

theorem reaches_localRead (hop : m.op = 1) (h0 : m.reg ≠ 0) (h31 : m.reg ≠ 31) :
    Reaches (.memOpComplete u .ok) s (fun d => (d.tutor u).ops = [] ∧ (d.tutor u).g 31 = St.OK ∧ (d.tutor u).localMem = (s.dev.tutor u).localMem ∧
      (d.tutor u).g m.reg = leVal (Memory.readBytes (s.dev.tutor u).localMem m.addr m.width) % 2 ^ 64 ∧
      ∀ i, i ≠ m.reg → i ≠ 31 → (d.tutor u).g i = (s.dev.tutor u).g i) := by
  refine (reaches_of_done hruns h (memRun_localRead h.running hop) (localMem := (s.dev.tutor u).localMem) rfl).imp fun d ⟨htutor, _⟩ => ?_
  rw [htutor]
  refine ⟨by rw [Tutor.ended_eq], Tutor.ended_status _ _ _ (by decide), by rw [Tutor.ended_eq], ?_, fun i hi hi31 => ?_⟩
  · rw [Tutor.ended_of_load _ _ (by simp [memLoads, hop]), Tutor.g_setG_same _ _ h0 h31]
  · rw [Tutor.ended_of_load _ _ (by simp [memLoads, hop]), Tutor.g_setG_other _ _ hi]
    unfold Tutor.g
    simp only [hi31, if_false]

theorem reaches_localWrite (hop : m.op = 2) :
    Reaches (.memOpComplete u .ok) s (fun d => (d.tutor u).ops = [] ∧ (d.tutor u).g 31 = St.OK ∧ (d.tutor u).regs = (s.dev.tutor u).regs ∧
      Memory.readBytes (d.tutor u).localMem m.addr m.width = toLE m.width m.value ∧
      ∀ a, (a < m.addr ∨ m.addr + m.width ≤ a) → Memory.read (d.tutor u).localMem a = Memory.read (s.dev.tutor u).localMem a) := by
  refine (reaches_of_done hruns h (memRun_localWrite h.running hop)
    (localMem := Memory.writeBytes (s.dev.tutor u).localMem m.addr (toLE m.width m.value)) (Dev.tutor_setTutor_same ..)).imp fun d ⟨htutor, _⟩ => ?_
  have hmem : (d.tutor u).localMem = Memory.writeBytes (s.dev.tutor u).localMem m.addr (toLE m.width m.value) := by
    rw [htutor, Tutor.ended_eq]
  refine ⟨by rw [htutor, Tutor.ended_eq], ?_, ?_, ?_, fun a ha => ?_⟩
  · rw [htutor]
    exact Tutor.ended_status _ _ _ (by decide)
  · rw [htutor, Tutor.ended_regs _ _ (by simp [memLoads, hop])]
  · have hread := Memory.readBytes_writeBytes_all (s.dev.tutor u).localMem m.addr (toLE m.width m.value)
    rwa [length_toLE, ← hmem] at hread
  · rw [hmem, Memory.read_writeBytes_outside _ _ _ _ (by rwa [length_toLE])]

theorem reaches_tdWrite (hop : m.op = 9) (hends : ∃ e, tdEnd s.bell s.dev m .ok false = some (.ok, e)) :
    Reaches (.memOpComplete u .ok) s (fun d => (d.tutor u).g 31 = St.OK ∧ (d.tutor u).regs = (s.dev.tutor u).regs ∧
      (∀ i f, i < m.width → d.tdByte f (m.addr + i) = (toLE m.width m.value).getD i 0) ∧
      ∀ a f, (a < m.addr ∨ m.addr + m.width ≤ a) → d.tdByte f a = s.dev.tdByte f a) := by
  obtain ⟨e, hend⟩ := hends
  have hrun := memRun_of_td h.running (.inr (.inl hop)) hend
  have htutors : e.tutors = s.dev.tutors := tdEnd_tutors (r := (.ok, e)) (by simp) hend
  rw [tdRun_of_write hop] at hrun
  refine (reaches_of_done hruns h hrun (localMem := (s.dev.tutor u).localMem)
    ((tdWrite_tutor ..).trans (Dev.tutor_of_tutors htutors u))).imp fun d ⟨htutor, hsame⟩ => ?_
  have hbyte (f a : Nat) : d.tdByte f a = if m.addr ≤ a ∧ a < m.addr + m.width then (toLE m.width m.value).getD (a - m.addr) 0 else s.dev.tdByte f a := by
    rw [Dev.tdByte_of_data hsame.data hsame.tdKnown, ← Dev.tdByte_of_tutors htutors, ← tdWrite_tdByte]
    rfl
  refine ⟨?_, ?_, fun i f hi => ?_, fun a f ha => ?_⟩
  · rw [htutor]
    exact Tutor.ended_status _ _ _ (by decide)
  · rw [htutor, Tutor.ended_regs _ _ (by simp [memLoads, hop])]
  · rw [hbyte, if_pos (by omega), Nat.add_sub_cancel_left]
  · rw [hbyte, if_neg (by omega)]

theorem reaches_tdAdd (hop : m.op = 0xA) (h0 : m.reg ≠ 0) (h31 : m.reg ≠ 31) (haddr : 168296448 ≤ m.addr)
    (hends : ∃ e, tdEnd s.bell s.dev m .ok false = some (.ok, e)) :
    Reaches (.memOpComplete u .ok) s (fun d => (d.tutor u).g 31 = St.OK ∧
      (d.tutor u).g m.reg = leVal (Memory.readBytes s.dev.tutors.data m.addr m.width) % 2 ^ 64 ∧
      Memory.readBytes d.tutors.data m.addr m.width =
        toLE m.width ((leVal (Memory.readBytes s.dev.tutors.data m.addr m.width) + m.value) % 256 ^ m.width) ∧
      ∀ a, (a < m.addr ∨ m.addr + m.width ≤ a) → Memory.read d.tutors.data a = Memory.read s.dev.tutors.data a) := by
  obtain ⟨e, hend⟩ := hends
  have hrun := memRun_of_td h.running (.inr (.inr hop)) hend
  have htutors : e.tutors = s.dev.tutors := tdEnd_tutors (r := (.ok, e)) (by simp) hend
  rw [tdRun_of_add hop, tdRead_of_beyond e m.width haddr, htutors] at hrun
  refine (reaches_of_done hruns h hrun (localMem := (s.dev.tutor u).localMem)
    ((tdWrite_tutor ..).trans (Dev.tutor_of_tutors ((tdRead_tutors ..).trans htutors) u))).imp fun d ⟨htutor, hsame⟩ => ?_
  refine ⟨?_, ?_, ?_, fun a ha => ?_⟩
  · rw [htutor]
    exact Tutor.ended_status _ _ _ (by decide)
  · rw [htutor, Tutor.ended_of_load _ _ (by simp [memLoads, hop]), Tutor.g_setG_same _ _ h0 h31]
  · rw [hsame.data]
    exact tdWrite_readBytes _ _ _ haddr
  · have hread : (tdRead e m.addr m.width).2.tutors.data = s.dev.tutors.data := by rw [tdRead_tutors, htutors]
    rw [hsame.data, ← hread]
    exact (tdWrite_data _ _ _ _ haddr).trans (if_neg (by omega))

theorem reaches_tdRead_of_unavailable (hop : m.op = 8) :
    Reaches (.memOpComplete u .unavailable) s (fun d => (d.tutor u).g 31 = St.UNAVAILABLE ∧ (d.tutor u).regs = (s.dev.tutor u).regs) := by
  obtain ⟨e, hend⟩ := tdEnd_of_unavailable (now := s.bell) (d := s.dev) hop
  have hrun := memRun_of_td h.running (.inl hop) hend
  have htutors : e.tutors = s.dev.tutors := tdEnd_tutors (r := (.unavailable, e)) (by simp) hend
  rw [tdRun_of_unavailable hop] at hrun
  refine (reaches_of_done hruns h hrun (localMem := (s.dev.tutor u).localMem)
    (Dev.tutor_of_tutors ((tdRead_tutors ..).trans htutors) u)).imp fun d ⟨htutor, _⟩ => ?_
  rw [htutor, Tutor.ended_regs _ _ (fun hst => absurd hst.1 (by decide))]
  exact ⟨Tutor.ended_status _ _ _ (by decide), rfl⟩

theorem reaches_recWrite (hop : m.op = 5) :
    Reaches (.memOpComplete u .ok) s (fun d => (d.tutor u).g 31 = St.OK ∧ d.roll = s.dev.roll ∧ d.running u = some (t.recWritten m)) := by
  refine (reaches_of_done hruns h (memRun_recWrite h.running hop) (localMem := (s.dev.tutor u).localMem) (Dev.tutor_setTask ..)).imp fun d ⟨htutor, hsame⟩ => ?_
  obtain ⟨-, -, htasks, hroll⟩ := popOp_tutors_data (s.dev.setTask (t.recWritten m)) u m St.OK 0
  have hdev : (s.dev.setTask (t.recWritten m)).roll = s.dev.roll := by simp only [Dev.setTask]
  refine ⟨?_, hsame.roll.trans (hroll.trans hdev), ?_⟩
  · rw [htutor]
    exact Tutor.ended_status _ _ _ (by decide)
  · obtain ⟨slot, htask, hrec⟩ := Option.bind_eq_some_iff.mp h.running
    have hended : (d.tutor u).task = some slot := by rw [htutor, Tutor.ended_eq]; exact htask
    unfold Dev.running
    rw [hended, Option.bind_some]
    obtain ⟨hpipe, hslot⟩ := t.recWritten_place m
    have hset := Dev.taskRec_setTask_same (t.recWritten m) hrec hpipe hslot
    unfold Dev.taskRec at hset ⊢
    rw [hsame.tasks, htasks]
    exact hset

end

/-- Settles O41. An operation whose accesses have ended reads or writes its own space; the word boundary after it leaves the device so. -/
theorem memoryOperationsComplete : Obligations.MemoryOperationsComplete := by
  have hcompletes {d : Dev} {u : Nat} {m : MemOp} {t : TaskRec} (hops : (d.tutor u).ops = [m]) (hrunning : d.running u = some t)
      (hdue : (d.tutor u).due = []) (hdouble : (d.tutor u).double = false) (hpreempt : (d.tutor u).preempt = none)
      (hwaiting : (d.tutor u).waiting = false) : Completes d u m t := ⟨hops, hrunning, hwaiting, hdouble, .inr hdue, hpreempt⟩
  refine ⟨fun u m t s hruns hops hrunning hdue hdouble hpreempt hwaiting hop h0 h31 => ?_,
    fun u m t s hruns hops hrunning hdue hdouble hpreempt hwaiting hop => ?_,
    fun u m t s hruns hops hrunning hdue hdouble hpreempt hwaiting hop hends => ?_,
    fun u m t s hruns hops hrunning hdue hdouble hpreempt hwaiting hop h0 h31 haddr hends => ?_,
    fun u m t s hruns hops hrunning hdue hdouble hpreempt hwaiting hop => ?_,
    fun u m t s hruns hops hrunning hdue hdouble hpreempt hwaiting hop => ?_⟩
  all_goals have h := hcompletes hops hrunning hdue hdouble hpreempt hwaiting
  · exact reaches_localRead hruns h hop h0 h31
  · exact reaches_localWrite hruns h hop
  · exact reaches_tdWrite hruns h hop hends
  · exact reaches_tdAdd hruns h hop h0 h31 haddr hends
  · exact reaches_tdRead_of_unavailable hruns h hop
  · simpa only [TaskRec.recWritten, TaskRec.withRecord] using reaches_recWrite hruns h hop

end Sys2Proof

/-! The host's allocation from a buffer pool. -/

namespace Sys2Proof.Machine

variable {d e : Dev} {i : Nat}

theorem poolMin_pools (d : Dev) (p : Nat) : (d.poolMin p).pools = d.pools := by
  unfold Dev.poolMin
  dsimp only
  split <;> rfl

theorem grant_hostFree (d : Dev) (p i owner : Nat) : (d.grant p i owner).pools.hostFree = d.pools.hostFree := by
  unfold Dev.grant
  dsimp only
  rw [poolMin_pools]
  rfl

theorem poolAlloc_of_free {owner size : Nat} (hpos : 1 ≤ size) (hsize : size ≤ 65536) (hserves : d.pools.resizing.contains (poolFor size) = false)
    (hfree : d.findFree (poolFor size) (if poolFor size = 3 then 16 else 0) (d.poolCount (poolFor size)) = some i) :
    poolAlloc d owner size = (St.OK, poolFor size * 2 ^ 61 + i * poolBytes (poolFor size), d.grant (poolFor size) i owner) := by
  unfold poolAlloc
  rw [if_neg (by omega)]
  dsimp only
  rw [if_neg (by rw [hserves]; exact Bool.false_ne_true), hfree]

theorem poolHostAnswer_of_alloc {size st ptr : Nat} (halloc : d.pools.hostAlloc = some size)
    (hanswer : poolAlloc d 0x20 size = (st, ptr, e)) (hkeeps : e.pools.hostFree = none) :
    poolHostAnswer d = { e.wr M.POOL_HOST_RESULT (ptr + st * 2 ^ 40) with pools := { e.pools with hostAlloc := none } } := by
  unfold poolHostAnswer
  simp only [halloc, hanswer, hkeeps]

theorem Dev.hostAnswered_rd (d : Dev) (v : Nat) (pools : Pools) :
    ({ d.wr M.POOL_HOST_RESULT v with pools } : Dev).rd M.POOL_HOST_RESULT = v % 2 ^ 64 := Dev.rd_wr_same ..

/-- The answer to the host's allocation holds the pointer and, in STATUS, the code ST_OK (R403). -/
theorem poolHostAnswer_rd_result {size : Nat} (halloc : d.pools.hostAlloc = some size) (hfree : d.pools.hostFree = none) (hpos : 1 ≤ size)
    (hsize : size ≤ 65536) (hserves : d.pools.resizing.contains (poolFor size) = false)
    (hfound : d.findFree (poolFor size) (if poolFor size = 3 then 16 else 0) (d.poolCount (poolFor size)) = some i) :
    (poolHostAnswer d).rd M.POOL_HOST_RESULT = (poolFor size * 2 ^ 61 + i * poolBytes (poolFor size) + St.OK * 2 ^ 40) % 2 ^ 64 := by
  rw [poolHostAnswer_of_alloc halloc (poolAlloc_of_free hpos hsize hserves hfound) ((grant_hostFree ..).trans hfree), Dev.hostAnswered_rd]

/-- A device that runs, whose host asks for one byte of pool 1, to which a share of 2 is given. -/
def hostAsks : Dev :=
  let d := (Dev.init BootStore.init).wr (M.POOL_SHARE 1) 2
  { d with start := { d.start with island := .running, state := .ready }
           pins := { d.pins with ready := true, vcorePg := true, perstHigh := true, lifeRuns := true }
           pools := { d.pools with hostAlloc := some 1 } }

theorem hostAsks_runs : hostAsks.dieRuns = true := by decide

theorem hostAsks_finds : hostAsks.findFree 1 0 (hostAsks.poolCount 1) = some 0 := by decide

end Sys2Proof.Machine

namespace Sys2Proof

open Sys2Proof.Machine

/-- Refutes O48: the answer to an allocation that is granted holds ST_OK, which is 1, in POOL_HOST_RESULT bits [55:40] (R403), where the
statement has zeros. -/
theorem not_poolsGrantAndFree : ¬Obligations.PoolsGrantAndFree := by
  rintro ⟨-, -, -, halloc, -⟩
  obtain ⟨d, hgives, hresult, -⟩ := halloc 1 0 { State.reset with dev := hostAsks } hostAsks_runs rfl rfl (by decide) (by decide) rfl hostAsks_finds
  have hanswer := gives_of_onDie (c := .poolHostAnswer) (s := { State.reset with dev := hostAsks }) (f := fun _ => poolHostAnswer) rfl hostAsks_runs
  have hdev : poolHostAnswer hostAsks = d := congrArg State.dev (Host.Outcome.next.inj (hanswer.symm.trans hgives))
  have hvalue := poolHostAnswer_rd_result (d := hostAsks) (size := 1) rfl rfl (by decide) (by decide) rfl hostAsks_finds
  rw [hdev, hresult] at hvalue
  exact absurd hvalue (by decide)

end Sys2Proof

/-! Memory channels: refresh, self-refresh, training and calibration. -/

namespace Sys2Proof.Machine

variable {d e f : Dev} {now : BellSt} {ch bank t : Nat}

/-! ## Refresh (R445, R448) -/

theorem memchRefresh_of_idle {late : Bool} (h : (d.channel ch).reqs.any (fun q => unitBank q.unit == bank) = false) :
    memchRefresh ch bank late d = d.setChannel ch { d.channel ch with postponed := SMap.set zeroAt (d.channel ch).postponed bank 0 } := if_pos h

theorem memchRefresh_of_busy (h : (d.channel ch).reqs.any (fun q => unitBank q.unit == bank) = true) :
    memchRefresh ch bank false d = d.setChannel ch { d.channel ch with
      postponed := SMap.set zeroAt (d.channel ch).postponed bank (SMap.get zeroAt (d.channel ch).postponed bank + 1) } := by
  unfold memchRefresh
  dsimp only
  rw [if_neg (by simp [h]), if_neg (by simp)]

theorem memchRefresh_of_limit (h : (d.channel ch).reqs.any (fun q => unitBank q.unit == bank) = true) :
    memchRefresh ch bank true d = (d.setChannel ch { (d.channel ch).move with
      postponed := SMap.set zeroAt (d.channel ch).postponed bank 0 }).bump (M.CNT_MEMCH_REFRESH_FORCED ch) := by
  unfold memchRefresh
  dsimp only
  rw [if_neg (by simp [h]), if_pos rfl]

/-- One sub-channel's write delay is moved, if its move waits. -/
def Channel.moveOne (c : Channel) (s : Nat) : Channel :=
  match SMap.get (fun _ => none) c.due s with
  | some x => { c with adjusted := SMap.set (fun _ => (0 : Int)) c.adjusted s x, due := SMap.set (fun _ => none) c.due s none }
  | none => c

theorem Channel.move_eq (c : Channel) : c.move = (c.moveOne 0).moveOne 1 := rfl

theorem Channel.moveOne_reqs (c : Channel) (s : Nat) : (c.moveOne s).reqs = c.reqs := by
  unfold Channel.moveOne
  split <;> rfl

/-- A sub-channel's delay after one that is the same, or another. -/
theorem Channel.moveOne_get {c : Channel} {s : Nat} {x : Int} (h : SMap.get (fun _ => none) c.due s = some x) :
    SMap.get (fun _ => (0 : Int)) (c.moveOne s).adjusted s = x ∧ SMap.get (fun _ => none) (c.moveOne s).due s = none := by
  unfold Channel.moveOne
  rw [h]
  exact ⟨SMap.get_set_same .., SMap.get_set_same (fun _ => (none : Option Int)) c.due s none⟩

theorem Channel.moveOne_get_other (c : Channel) {s i : Nat} (h : i ≠ s) :
    SMap.get (fun _ => (0 : Int)) (c.moveOne s).adjusted i = SMap.get (fun _ => (0 : Int)) c.adjusted i ∧
      SMap.get (fun _ => none) (c.moveOne s).due i = SMap.get (fun _ => none) c.due i := by
  unfold Channel.moveOne
  split
  · exact ⟨SMap.get_set_other _ _ _ _ _ h, SMap.get_set_other (fun _ => (none : Option Int)) c.due s i none h⟩
  · exact ⟨rfl, rfl⟩

theorem Channel.move_get {c : Channel} {i : Nat} {x : Int} (hi : i < 2) (h : SMap.get (fun _ => none) c.due i = some x) :
    SMap.get (fun _ => (0 : Int)) c.move.adjusted i = x ∧ SMap.get (fun _ => none) c.move.due i = none := by
  rw [Channel.move_eq]
  obtain rfl | rfl : i = 0 ∨ i = 1 := by omega
  · obtain ⟨hadjusted, hdue⟩ := (c.moveOne 0).moveOne_get_other (s := 1) (i := 0) (by decide)
    obtain ⟨hmoved, hgone⟩ := Channel.moveOne_get h
    exact ⟨hadjusted.trans hmoved, hdue.trans hgone⟩
  · obtain ⟨-, hdue⟩ := c.moveOne_get_other (s := 0) (i := 1) (by decide)
    exact Channel.moveOne_get (hdue.trans h)

/-! ## Self-refresh (R446) -/

theorem sleepChannel_eq (d : Dev) (ch : Nat) : ∃ patrol, sleepChannel d ch = ((d.setChannel ch { d.channel ch with
    reqs := (d.channel ch).reqs.filter (fun q => !(q.port == 7 && !q.issued)), patrol }).wr (M.MEMCH_STATE ch) 3).bump (M.CNT_MEMCH_SR_ENTRY ch) :=
  ⟨_, rfl⟩

/-- All that an idle channel has is put off. -/
theorem Channel.idle_filter {c : Channel} (h : c.idle = true) : c.reqs.filter (fun q => !(q.port == 7 && !q.issued)) = [] := by
  refine List.filter_eq_nil_iff.mpr fun q hq => ?_
  have := List.all_eq_true.mp h q hq
  simp only [this, Bool.not_true, Bool.false_eq_true, not_false_eq_true]

theorem memchSrEnter_of_awake (h : d.on (M.MEMCH_CLASS ch) = false ∨ d.rd (M.MEMCH_STATE ch) ≠ 2 ∨ (d.channel ch).idle = false ∨ d.start.zeroing = true) :
    memchSrEnter ch t d = d := by
  refine if_neg ?_
  rintro ⟨hclass, hstate, hidle, hzeroing, -⟩
  rcases h with h | h | h | h
  · simp [h] at hclass
  · exact h hstate
  · simp [h] at hidle
  · simp [h] at hzeroing

/-! ## Calibration (R448) -/

theorem zqCalibrationLatch_of_due (h : ∀ l, (d.channel ch).zqLesson = some l → 64 ≤ (now.lesson.toNat + 2 ^ 24 - l % 2 ^ 24) % 2 ^ 24) :
    zqCalibrationLatch ch now d = { d with free := d.free + 1 }.setChannel ch { d.channel ch with
      zq := Config.freeValue d.free, zqLesson := some now.lesson.toNat } := by
  unfold zqCalibrationLatch
  cases hl : (d.channel ch).zqLesson with
  | none => rfl
  | some l => exact if_pos (decide_eq_true (h l hl))

theorem zqCalibrationLatch_of_early {l : Nat} (hl : (d.channel ch).zqLesson = some l)
    (h : (now.lesson.toNat + 2 ^ 24 - l % 2 ^ 24) % 2 ^ 24 < 64) : zqCalibrationLatch ch now d = d := by
  unfold zqCalibrationLatch
  rw [hl]
  exact if_neg (by simpa using h)

/-! ## Requests that a channel takes (R280, R444) -/

/-- `e` is `d` but for requests at the channels, and what that leaves of the Roll. -/
structure Dev.SameChannels (d e : Dev) : Prop where
  reg : e.reg = d.reg
  buddy : e.buddy = d.buddy
  channel : ∀ k, ∃ reqs lastReq, e.channel k = { d.channel k with reqs, lastReq }

namespace Dev.SameChannels

theorem refl (d : Dev) : d.SameChannels d := ⟨rfl, rfl, fun _ => ⟨_, _, rfl⟩⟩

theorem trans (h : d.SameChannels e) (h' : e.SameChannels f) : d.SameChannels f := by
  refine ⟨h'.reg.trans h.reg, h'.buddy.trans h.buddy, fun k => ?_⟩
  obtain ⟨_, _, hk⟩ := h.channel k
  obtain ⟨_, _, hk'⟩ := h'.channel k
  exact ⟨_, _, by rw [hk', hk]⟩

theorem rd (h : d.SameChannels e) (k : Nat) : e.rd k = d.rd k := Dev.rd_of_reg h.reg k

end Dev.SameChannels

theorem memRequest_sameChannels (d : Dev) (ch : Nat) (q : MemReq) : d.SameChannels (memRequest d ch q) := by
  unfold memRequest
  split
  · exact .refl d
  · dsimp only
    split
    · exact .refl d
    · refine ⟨rfl, rfl, fun k => ?_⟩
      by_cases hk : k = ch
      · subst hk
        exact ⟨_, _, Dev.channel_setChannel_same ..⟩
      · exact ⟨_, _, Dev.channel_setChannel_other _ _ _ _ hk⟩

theorem requestWrite_sameChannels (now : BellSt) (d : Dev) (slot : Nat) : d.SameChannels (requestWrite now d slot) := by
  have hstamped : d.SameChannels (Dev.stamp now d).2 := ⟨rfl, rfl, fun _ => ⟨_, _, rfl⟩⟩
  exact hstamped.trans (memRequest_sameChannels ..)

theorem foldl_requestWrite_sameChannels (now : BellSt) (slots : List Nat) (d : Dev) : d.SameChannels (slots.foldl (requestWrite now) d) := by
  induction slots generalizing d with
  | nil => exact .refl d
  | cons slot slots ih => exact (requestWrite_sameChannels now d slot).trans (ih _)

theorem wbReissue_sameChannels (now : BellSt) (d : Dev) : d.SameChannels (wbReissue now d) := by
  have hissued (roll : RollSt) : d.SameChannels { d with roll } := ⟨rfl, rfl, fun _ => ⟨_, _, rfl⟩⟩
  exact (hissued _).trans (foldl_requestWrite_sameChannels ..)

/-! ## Training (R447, R449) -/

theorem trainChannel_rd (d : Dev) (p ch : Nat) (results : Bytes) :
    (trainChannel d p ch results).rd (M.MEMCH_STATE ch) = 2 ∧ (trainChannel d p ch results).rd (M.MEMCH_TRAIN_STATUS ch) = St.OK := by
  unfold trainChannel
  dsimp only
  constructor
  · rw [Dev.rd_wr_other _ _ _ _ (by grind), Dev.rd_wr_same]
    rfl
  · rw [Dev.rd_wr_other _ _ _ _ (by grind), Dev.rd_wr_other _ _ _ _ (by grind), Dev.rd_wr_same]
    rfl

/-- The device as training ends well, before the repair sweep of a pair. -/
def Dev.trained (d : Dev) (now : BellSt) (ch : Nat) (i : TrainIn) : Dev :=
  ((trainChannel d d.palette ch i.results).setChannel ch { d.channel ch with failures := 0, adjusted := [], due := [] }).raiseOpen now Ev.MEMCH_UP (oid 0x50 ch)

theorem raiseOpen_frame (d : Dev) (now : BellSt) (code object : Nat) : ∃ reg events sessions free, d.raiseOpen now code object =
    { d with reg, rings := { d.rings with events }, denlys := { d.denlys with sessions }, free } := by
  unfold Dev.raiseOpen
  dsimp only [Dev.fresh_eq]
  rw [Dev.raise_frame]
  exact ⟨_, _, _, _, rfl⟩

theorem trainChannel_buddy (d : Dev) (p ch : Nat) (results : Bytes) : (trainChannel d p ch results).buddy = d.buddy := by
  simp only [trainChannel, Dev.wr_buddy, Dev.awr_buddy]

/-- A channel that is written, with the event of it, leaves every other state and member. -/
theorem Dev.setChannel_raiseOpen (d : Dev) (now : BellSt) (ch : Nat) (c : Channel) (code object : Nat) :
    ((d.setChannel ch c).raiseOpen now code object).buddy = d.buddy ∧ ((d.setChannel ch c).raiseOpen now code object).channel ch = c ∧
      ∀ k, k ≠ M.CNT_EVENT_MERGED → ((d.setChannel ch c).raiseOpen now code object).rd k = d.rd k := by
  refine ⟨?_, ?_, fun k hk => Dev.raiseOpen_rd (d.setChannel ch c) now code object k hk⟩
  all_goals
    obtain ⟨_, _, _, _, hraised⟩ := raiseOpen_frame (d.setChannel ch c) now code object
    rw [hraised]
  · rfl
  · exact Dev.channel_setChannel_same d ch c

theorem Dev.trained_frame (d : Dev) (now : BellSt) (ch : Nat) (i : TrainIn) :
    (d.trained now ch i).buddy = d.buddy ∧ (d.trained now ch i).channel ch = { d.channel ch with failures := 0, adjusted := [], due := [] } ∧
      (∀ k, k ≠ M.CNT_EVENT_MERGED → (d.trained now ch i).rd k = (trainChannel d d.palette ch i.results).rd k) := by
  obtain ⟨hbuddy, hchannel, hrd⟩ := (trainChannel d d.palette ch i.results).setChannel_raiseOpen now ch
    { d.channel ch with failures := 0, adjusted := [], due := [] } Ev.MEMCH_UP (oid 0x50 ch)
  exact ⟨hbuddy.trans (trainChannel_buddy d d.palette ch i.results), hchannel, hrd⟩

theorem Dev.trained_rollChannels (d : Dev) (now : BellSt) (ch : Nat) (i : TrainIn) : (d.trained now ch i).rollChannels = d.rollChannels := by
  obtain ⟨-, -, hrd⟩ := d.trained_frame now ch i
  have hpalette : (d.trained now ch i).rd M.PALETTE_ACTIVE = d.rd M.PALETTE_ACTIVE := by
    rw [hrd _ (by decide)]
    unfold trainChannel
    dsimp only
    rw [Dev.rd_wr_other _ _ _ _ (by grind), Dev.rd_wr_other _ _ _ _ (by grind), Dev.rd_wr_other _ _ _ _ (by grind)]
    exact Dev.rd_of_reg (Dev.awr_reg ..) _
  unfold Dev.rollChannels Dev.palette
  rw [hpalette]

/-- Training that ends well returns the channel to service, and in a pair its slots are swept. -/
theorem memchRetrainDone_of_good {i : TrainIn} (hstate : d.rd (M.MEMCH_STATE ch) = 1) (hcode : i.code = 0) : memchRetrainDone ch i now d =
    if d.buddy.mode = .paired ∧ ch < d.rollChannels then
      { d.trained now ch i with buddy := { d.buddy with sweep := d.buddy.sweep ++ [(ch, 0)] } } else d.trained now ch i := by
  obtain ⟨hbuddy, -, -⟩ := d.trained_frame now ch i
  rw [← hbuddy, ← d.trained_rollChannels now ch i]
  unfold memchRetrainDone
  rw [if_neg (by simp [hstate]), if_neg (by simp [hcode])]
  rfl

theorem memchRetrainDone_of_bad {i : TrainIn} (hstate : d.rd (M.MEMCH_STATE ch) = 1) (hcode : i.code ≠ 0) :
    memchRetrainDone ch i now d = (d.wr (M.MEMCH_STATE ch) 4).wr (M.MEMCH_TRAIN_STATUS ch) i.code := by
  unfold memchRetrainDone
  rw [if_neg (by simp [hstate]), if_pos hcode]

end Sys2Proof.Machine

namespace Sys2Proof

open Sys2Proof.Machine

/-- Training that ends well, with its reads and its repair sweep. -/
theorem reaches_retrained {ch : Nat} {i : TrainIn} {s : State} (hruns : s.dev.dieRuns = true) (hstate : s.dev.rd (M.MEMCH_STATE ch) = 1)
    (hcode : i.code = 0) : Reaches (.memchRetrainDone ch i) s (fun d => d.rd (M.MEMCH_STATE ch) = 2 ∧ d.rd (M.MEMCH_TRAIN_STATUS ch) = St.OK ∧
      (d.channel ch).failures = 0 ∧ (d.channel ch).adjusted = [] ∧
      (s.dev.buddy.mode = .paired → ch < s.dev.rollChannels → d.buddy.sweep = s.dev.buddy.sweep ++ [(ch, 0)])) := by
  have hsame := wbReissue_sameChannels s.bell (memchRetrainDone ch i s.bell s.dev)
  obtain ⟨hbuddy, hchannel, hrd⟩ := s.dev.trained_frame s.bell ch i
  obtain ⟨hserves, hstatus⟩ := trainChannel_rd s.dev s.dev.palette ch i.results
  have hdone := memchRetrainDone_of_good (now := s.bell) hstate hcode
  have hreg : (memchRetrainDone ch i s.bell s.dev).reg = (s.dev.trained s.bell ch i).reg := by
    rw [hdone]
    split <;> rfl
  have hch : (memchRetrainDone ch i s.bell s.dev).channel ch = (s.dev.trained s.bell ch i).channel ch := by
    rw [hdone]
    split <;> rfl
  obtain ⟨_, _, hafter⟩ := hsame.channel ch
  refine ⟨_, gives_of_onDie (f := fun now d => wbReissue now (memchRetrainDone ch i now d)) rfl hruns, ?_, ?_, ?_, ?_, fun hpaired hroll => ?_⟩
  · rw [hsame.rd, Dev.rd_of_reg hreg, hrd _ (by grind), hserves]
  · rw [hsame.rd, Dev.rd_of_reg hreg, hrd _ (by grind), hstatus]
  · rw [hafter, hch, hchannel]
  · rw [hafter, hch, hchannel]
  · rw [hsame.buddy, hdone, if_pos ⟨hpaired, hroll⟩]

/-- Settles O50, channel by channel; the requests that a trained channel takes at once change neither its service nor its delays. -/
theorem memoryChannelsChangeState : Obligations.MemoryChannelsChangeState := by
  refine ⟨fun ch bank late s hruns _ hidle => ?_, fun ch bank late s hruns _ hbusy => ?_, fun ch t s hruns _ hclass hstate hidle hzeroing hlong => ?_,
    fun ch t s hawake => ?_, fun ch s hruns hdue => ?_, fun ch l s hl hearly => ?_, fun ch a s _ h hstate => ?_, fun ch a s _ h hstate => ?_,
    fun ch i s hruns _ hstate hcode => reaches_retrained hruns hstate hcode, fun ch i s hruns _ hstate hcode => ?_⟩
  · rw [← memchRefresh_of_idle (late := late) hidle]
    exact gives_of_onDie (f := fun _ => memchRefresh ch bank late) rfl hruns
  · refine ⟨_, gives_of_onDie (f := fun _ => memchRefresh ch bank late) rfl hruns, ?_⟩
    beta_reduce
    cases late with
    | false =>
      rw [memchRefresh_of_busy hbusy, Dev.channel_setChannel_same]
      refine ⟨rfl, SMap.get_set_same zeroAt (s.dev.channel ch).postponed bank (SMap.get zeroAt (s.dev.channel ch).postponed bank + 1), by simp,
        fun b hb => SMap.get_set_other zeroAt (s.dev.channel ch).postponed bank b
          (SMap.get zeroAt (s.dev.channel ch).postponed bank + 1) hb, ?_⟩
      exact (Nat.mod_eq_of_lt (Dev.rd_lt ..)).symm
    | true =>
      have hchannel : ((s.dev.setChannel ch { (s.dev.channel ch).move with
          postponed := SMap.set zeroAt (s.dev.channel ch).postponed bank 0 }).bump (M.CNT_MEMCH_REFRESH_FORCED ch)).channel ch =
          { (s.dev.channel ch).move with postponed := SMap.set zeroAt (s.dev.channel ch).postponed bank 0 } := Dev.channel_setChannel_same ..
      rw [memchRefresh_of_limit hbusy, hchannel]
      refine ⟨?_, SMap.get_set_same zeroAt (s.dev.channel ch).postponed bank 0, fun _ i x hi hdue => Channel.move_get hi hdue, 
        fun b hb => SMap.get_set_other zeroAt (s.dev.channel ch).postponed bank b 0 hb, Dev.rd_bump_same ..⟩
      exact (Channel.moveOne_reqs _ 1).trans (Channel.moveOne_reqs _ 0)
  · obtain ⟨patrol, hsleep⟩ := sleepChannel_eq s.dev ch
    have henter : memchSrEnter ch t s.dev = sleepChannel s.dev ch := if_pos ⟨hclass, hstate, hidle, hzeroing, hlong⟩
    refine ⟨_, gives_of_onDie (f := fun _ => memchSrEnter ch t) rfl hruns, ?_⟩
    beta_reduce
    rw [henter, hsleep, Channel.idle_filter hidle]
    refine ⟨?_, ?_, ?_⟩
    · exact (Dev.rd_bump_other _ _ _ (by grind)).trans (Dev.rd_wr_same ..)
    · exact congrArg Channel.reqs (Dev.channel_setChannel_same s.dev ch { s.dev.channel ch with reqs := [], patrol })
    · rw [Dev.rd_bump_same, Dev.rd_wr_other _ _ _ _ (by grind)]
      rfl
  · exact exec_of_onDie_keeps (f := fun _ => memchSrEnter ch t) rfl (memchSrEnter_of_awake hawake)
  · rw [← zqCalibrationLatch_of_due hdue]
    exact gives_of_onDie (f := zqCalibrationLatch ch) rfl hruns
  · exact exec_of_onDie_keeps (f := zqCalibrationLatch ch) rfl (zqCalibrationLatch_of_early hl hearly)
  · exact gives_of_trigger_ok (f := fun _ => memchRetrain ch) rfl h (if_pos hstate)
  · exact gives_of_trigger (f := fun _ => memchRetrain ch) rfl h (if_neg hstate)
  · have hsame := wbReissue_sameChannels s.bell (memchRetrainDone ch i s.bell s.dev)
    refine ⟨_, gives_of_onDie (f := fun now d => wbReissue now (memchRetrainDone ch i now d)) rfl hruns, ?_, ?_⟩
    · rw [hsame.rd, memchRetrainDone_of_bad hstate hcode, Dev.rd_wr_other _ _ _ _ (by grind), Dev.rd_wr_same]
      rfl
    · rw [hsame.rd, memchRetrainDone_of_bad hstate hcode, Dev.rd_wr_same]

end Sys2Proof

/-! Memory requests: the choice of a channel. -/

namespace Sys2Proof.Machine

variable {d e f : Dev} {now : BellSt} {ch unit t : Nat} {q x : MemReq} {allowed : List Nat} {c : Channel}

/-! ## The best of a list (R442, R443) -/

theorem lexBetter_le (key : MemReq → List Nat) (a b : MemReq) : key (lexBetter key a b) ≤ key a ∧ key (lexBetter key a b) ≤ key b := by
  unfold lexBetter
  split
  · next h => exact ⟨h.le, le_refl _⟩
  · next h => exact ⟨le_refl _, not_lt.mp h⟩

theorem lexBetter_mem (key : MemReq → List Nat) (a b : MemReq) : lexBetter key a b = a ∨ lexBetter key a b = b := by
  unfold lexBetter
  split
  · exact .inr rfl
  · exact .inl rfl

theorem foldl_lexBetter (key : MemReq → List Nat) (qs : List MemReq) (a : MemReq) :
    qs.foldl (lexBetter key) a ∈ a :: qs ∧ ∀ x ∈ a :: qs, key (qs.foldl (lexBetter key) a) ≤ key x := by
  induction qs generalizing a with
  | nil => simp
  | cons b qs ih =>
    obtain ⟨hmem, hle⟩ := ih (lexBetter key a b)
    obtain ⟨hlea, hleb⟩ := lexBetter_le key a b
    have hfirst := hle _ List.mem_cons_self
    refine ⟨?_, fun x hx => ?_⟩
    · rcases List.mem_cons.mp hmem with hbest | hrest
      · rw [List.foldl_cons, hbest]
        rcases lexBetter_mem key a b with h | h <;> simp [h]
      · exact List.mem_cons_of_mem _ (List.mem_cons_of_mem _ hrest)
    · rcases List.mem_cons.mp hx with rfl | hx
      · exact hfirst.trans hlea
      · rcases List.mem_cons.mp hx with rfl | hx
        · exact hfirst.trans hleb
        · exact hle x (List.mem_cons_of_mem _ hx)

theorem bestOf_spec {key : MemReq → List Nat} {qs : List MemReq} (h : bestOf key qs = some q) : q ∈ qs ∧ ∀ x ∈ qs, key q ≤ key x := by
  cases qs with
  | nil => exact absurd h (by simp [bestOf])
  | cons a qs =>
    obtain rfl := Option.some.inj h
    exact foldl_lexBetter key qs a

theorem shade_le (d : Dev) (t : Nat) (q : MemReq) : d.shade t q ≤ 7 := by
  unfold Dev.shade
  split
  · exact le_refl _
  · exact min_le_left ..

/-- A key whose first criterion is the shade orders by it first. -/
theorem shade_le_of_key {rest rest' : List Nat} (h : (7 - d.shade t q) :: rest ≤ (7 - d.shade t x) :: rest') : d.shade t x ≤ d.shade t q := by
  have hq := shade_le d t q
  have hx := shade_le d t x
  have hhead : 7 - d.shade t q ≤ 7 - d.shade t x := by
    by_contra hlt
    exact absurd (List.Lex.rel (by omega : 7 - d.shade t x < 7 - d.shade t q)) (not_lt.mpr h)
  omega

theorem mem_of_mem_queuedReqs {bulk : Bool} {before qs : List MemReq} (h : q ∈ queuedReqs bulk before qs) : q ∈ qs := by
  induction qs generalizing before with
  | nil => exact absurd h (by simp [queuedReqs])
  | cons a qs ih =>
    unfold queuedReqs at h
    split at h
    · exact List.mem_cons_of_mem _ (ih h)
    · rcases List.mem_cons.mp h with rfl | h
      · exact List.mem_cons_self
      · exact List.mem_cons_of_mem _ (ih h)

theorem mem_bankHeads (h : q ∈ bankHeads c allowed) : q ∈ c.reqs ∧ q.issued = false ∧ unitBank q.unit ∈ allowed := by
  unfold bankHeads at h
  obtain ⟨b, hb, hfind⟩ := List.mem_filterMap.mp h
  have hq := List.find?_some hfind
  simp only [Bool.and_eq_true, Bool.not_eq_true', beq_iff_eq] at hq
  obtain ⟨hissued, rfl⟩ := hq
  exact ⟨mem_of_mem_queuedReqs (List.mem_of_find?_eq_some hfind), hissued, List.mem_eraseDups.mp hb⟩

theorem pickRoll_spec (h : pickRoll d c allowed t = some q) :
    q ∈ c.reqs ∧ q.issued = false ∧ unitBank q.unit ∈ allowed ∧ ∀ x ∈ bankHeads c allowed, d.shade t x ≤ d.shade t q := by
  obtain ⟨hmem, hbest⟩ := bestOf_spec h
  obtain ⟨hin, hissued, hbank⟩ := mem_bankHeads hmem
  exact ⟨hin, hissued, hbank, fun x hx => shade_le_of_key (hbest x hx)⟩

theorem pickBulk_spec (h : pickBulk d c allowed t = some q) :
    q ∈ c.reqs.take 256 ∧ q.issued = false ∧ unitBank q.unit ∈ allowed ∧ c.reqs.find? (fun x => !x.issued && x.unit == q.unit) = some q ∧
    ∀ x ∈ c.reqs.take 256, x.issued = false → unitBank x.unit ∈ allowed → c.reqs.find? (fun y => !y.issued && y.unit == x.unit) = some x →
      d.shade t x ≤ d.shade t q := by
  obtain ⟨hmem, hbest⟩ := bestOf_spec h
  obtain ⟨hin, hmay⟩ := List.mem_filter.mp hmem
  simp only [Bool.and_eq_true, Bool.not_eq_true', List.contains_iff_mem, beq_iff_eq] at hmay
  obtain ⟨⟨hissued, hbank⟩, hfirst⟩ := hmay
  refine ⟨hin, hissued, hbank, hfirst, fun x hx hxissued hxbank hxfirst => shade_le_of_key (hbest x (List.mem_filter.mpr ⟨hx, ?_⟩))⟩
  simp [hxissued, hxbank, hxfirst]

/-! ## The issue (R442, R446) -/

theorem chServes_iff : d.chServes ch = true ↔ d.rd (M.MEMCH_STATE ch) = 2 ∨ d.rd (M.MEMCH_STATE ch) = 3 := by
  simp [Dev.chServes]

/-- A channel after the issue of a request. -/
def Channel.issues (c : Channel) (bulk : Bool) (q : MemReq) (t : Nat) : Channel :=
  { c with reqs := markIssued c.reqs q t, lastBank := unitBank q.unit,
           openRow := if bulk then SMap.set (fun _ => none) c.openRow (unitBank q.unit) (some (unitRow q.unit, t)) else c.openRow }

theorem memchIssue_of_pick (hserves : d.chServes ch = true)
    (hpick : (if d.on (M.MEMCH_CLASS ch) then pickBulk d (d.channel ch) allowed t else pickRoll d (d.channel ch) allowed t) = some q) :
    memchIssue ch allowed t d =
      let e := (d.setChannel ch ((d.channel ch).issues (d.on (M.MEMCH_CLASS ch)) q t)).bumpIf q.corrective (M.CNT_MEMCH_CORRECTIVE_WRITE ch)
      if e.rd (M.MEMCH_STATE ch) = 3 then e.wr (M.MEMCH_STATE ch) 2 else e := by
  unfold memchIssue
  rw [if_neg (by simp [hserves])]
  dsimp only
  rw [hpick]
  rfl

theorem Dev.channel_bumpIf (d : Dev) (c : Bool) (id k : Nat) : (d.bumpIf c id).channel k = d.channel k := by cases c <;> rfl

theorem memchIssue_spec (hserves : d.chServes ch = true)
    (hpick : (if d.on (M.MEMCH_CLASS ch) then pickBulk d (d.channel ch) allowed t else pickRoll d (d.channel ch) allowed t) = some q) :
    (memchIssue ch allowed t d).channel ch = (d.channel ch).issues (d.on (M.MEMCH_CLASS ch)) q t ∧
      (memchIssue ch allowed t d).rd (M.MEMCH_STATE ch) = 2 := by
  rw [memchIssue_of_pick hserves hpick]
  dsimp only
  generalize hc : (d.channel ch).issues (d.on (M.MEMCH_CLASS ch)) q t = c
  have hstate : ((d.setChannel ch c).bumpIf q.corrective (M.CNT_MEMCH_CORRECTIVE_WRITE ch)).rd (M.MEMCH_STATE ch) = d.rd (M.MEMCH_STATE ch) :=
    Dev.rd_bumpIf_other _ _ _ (by grind)
  have hchannel : ((d.setChannel ch c).bumpIf q.corrective (M.CNT_MEMCH_CORRECTIVE_WRITE ch)).channel ch = c :=
    (Dev.channel_bumpIf ..).trans (Dev.channel_setChannel_same ..)
  rw [hstate]
  split
  · exact ⟨hchannel, Dev.rd_wr_same ..⟩
  · next hnot => exact ⟨hchannel, hstate.trans ((chServes_iff.mp hserves).resolve_right hnot)⟩

end Sys2Proof.Machine

/-! Memory requests that end at their controller. -/

namespace Sys2Proof.Machine

variable {d e f : Dev} {now : BellSt} {ch unit t : Nat} {q x : MemReq}

/-! ## What the end of a request leaves (R441, R444) -/

theorem foldl_keeps {α β : Type} {g : β → α → β} {b : β} {l : List α} (h : ∀ a ∈ l, g b a = b) : l.foldl g b = b := by
  induction l with
  | nil => rfl
  | cons a l ih => rw [List.foldl_cons, h a List.mem_cons_self, ih fun x hx => h x (List.mem_cons_of_mem a hx)]

/-- Pipes without reads have none to lose. -/
theorem endLost_of_idle (h : ∀ p, p < 16 → (d.pipe p).reads = []) : endLost now d = d := by
  refine foldl_keeps fun p hp => ?_
  rw [h p (List.mem_range.mp hp)]
  rfl

/-- The age of a request as it ends. -/
def MemReq.age (q : MemReq) (t : Nat) : Nat := (t + 2 ^ 32 - q.since % 2 ^ 32) % 2 ^ 32

theorem MemReq.age_lt (q : MemReq) (t : Nat) : q.age t < 2 ^ 64 := by
  unfold MemReq.age
  omega

/-- The device as a request has left its channel and is counted. -/
def Dev.reqEnded (d : Dev) (ch : Nat) (q : MemReq) (age : Nat) : Dev :=
  let d := d.setChannel ch { d.channel ch with reqs := (d.channel ch).reqs.erase q }
  let d := (d.bumpIf (decide (d.memTarget q.port < age)) (M.CNT_MEMCH_LATE ch)).raiseTo (M.MEMCH_LATENCY_MAX ch) (age)
  if q.write then d.addTo (M.CNT_MEMCH_WRITE_BYTES ch) 64
  else (d.addTo (M.CNT_MEMCH_READ_BYTES ch) 64).bumpIf (q.port == 7) (M.CNT_MEMCH_SCRUB ch)

theorem endReq_eq (now : BellSt) (d : Dev) (ch : Nat) (q : MemReq) (t : Nat) (w : Decoded × Decoded) : endReq now d ch q t w =
    if q.write then d.reqEnded ch q (q.age t) else eccRead now (d.reqEnded ch q (q.age t)) ch q.unit t q.overtaken w := by
  have hended (age : Nat) (hage : (t + 2 ^ 32 - q.since % 2 ^ 32) % 2 ^ 32 = age) : endReq now d ch q t w =
      if q.write then d.reqEnded ch q age else eccRead now (d.reqEnded ch q age) ch q.unit t q.overtaken w := by
    unfold endReq
    dsimp only
    rw [hage]
    unfold Dev.reqEnded
    cases q.write <;> rfl
  exact hended _ rfl

theorem Dev.channel_raiseTo (d : Dev) (id v k : Nat) : (d.raiseTo id v).channel k = d.channel k := by
  unfold Dev.raiseTo
  split <;> rfl

theorem Dev.channel_addTo (d : Dev) (id v k : Nat) : (d.addTo id v).channel k = d.channel k := rfl

theorem Dev.reqEnded_channel (d : Dev) (ch : Nat) (q : MemReq) (age : Nat) :
    (d.reqEnded ch q age).channel ch = { d.channel ch with reqs := (d.channel ch).reqs.erase q } := by
  unfold Dev.reqEnded
  dsimp only
  split
  · rw [Dev.channel_addTo, Dev.channel_raiseTo, Dev.channel_bumpIf, Dev.channel_setChannel_same]
  · rw [Dev.channel_bumpIf, Dev.channel_addTo, Dev.channel_raiseTo, Dev.channel_bumpIf, Dev.channel_setChannel_same]

theorem Dev.reqEnded_pipes (d : Dev) (ch : Nat) (q : MemReq) (age : Nat) : (d.reqEnded ch q age).pipes = d.pipes := by
  unfold Dev.reqEnded
  dsimp only
  split
  · rw [Dev.addTo_pipes, Dev.raiseTo_pipes, Dev.bumpIf_pipes, Dev.setChannel_pipes]
  · rw [Dev.bumpIf_pipes, Dev.addTo_pipes, Dev.raiseTo_pipes, Dev.bumpIf_pipes, Dev.setChannel_pipes]

/-- The members a request that ends may write. -/
theorem Dev.reqEnded_rd (d : Dev) (q : MemReq) (age : Nat) {k : Nat} (hlate : k ≠ M.CNT_MEMCH_LATE ch) (hage : k ≠ M.MEMCH_LATENCY_MAX ch)
    (hwritten : k ≠ M.CNT_MEMCH_WRITE_BYTES ch) (hread : k ≠ M.CNT_MEMCH_READ_BYTES ch) (hscrub : k ≠ M.CNT_MEMCH_SCRUB ch) :
    (d.reqEnded ch q age).rd k = d.rd k := by
  unfold Dev.reqEnded
  dsimp only
  split
  · rw [Dev.addTo_eq, Dev.rd_wr_other _ _ _ _ hwritten, Dev.raiseTo_rd_other _ _ _ hage, Dev.rd_bumpIf_other _ _ _ hlate, Dev.rd_setChannel]
  · rw [Dev.rd_bumpIf_other _ _ _ hscrub, Dev.addTo_eq, Dev.rd_wr_other _ _ _ _ hread, Dev.raiseTo_rd_other _ _ _ hage, Dev.rd_bumpIf_other _ _ _ hlate,
      Dev.rd_setChannel]

theorem Dev.reqEnded_rd_age (d : Dev) (ch : Nat) (q : MemReq) {age : Nat} (hage : age < 2 ^ 64) :
    (d.reqEnded ch q age).rd (M.MEMCH_LATENCY_MAX ch) = max (d.rd (M.MEMCH_LATENCY_MAX ch)) (age) := by
  unfold Dev.reqEnded
  dsimp only
  split
  · rw [Dev.addTo_eq, Dev.rd_wr_other _ _ _ _ (by grind), Dev.raiseTo_rd_same _ _ hage, Dev.rd_bumpIf_other _ _ _ (by grind), Dev.rd_setChannel]
  · rw [Dev.rd_bumpIf_other _ _ _ (by grind), Dev.addTo_eq, Dev.rd_wr_other _ _ _ _ (by grind), Dev.raiseTo_rd_same _ _ hage,
      Dev.rd_bumpIf_other _ _ _ (by grind), Dev.rd_setChannel]

theorem Dev.reqEnded_rd_bytes (d : Dev) (ch : Nat) (q : MemReq) (age : Nat) :
    (d.reqEnded ch q age).rd (if q.write then M.CNT_MEMCH_WRITE_BYTES ch else M.CNT_MEMCH_READ_BYTES ch) =
      (d.rd (if q.write then M.CNT_MEMCH_WRITE_BYTES ch else M.CNT_MEMCH_READ_BYTES ch) + 64) % 2 ^ 64 := by
  unfold Dev.reqEnded
  dsimp only
  split
  · rw [Dev.addTo_eq, Dev.rd_wr_same, Dev.raiseTo_rd_other _ _ _ (by grind), Dev.rd_bumpIf_other _ _ _ (by grind), Dev.rd_setChannel]
  · rw [Dev.rd_bumpIf_other _ _ _ (by grind), Dev.addTo_eq, Dev.rd_wr_same, Dev.raiseTo_rd_other _ _ _ (by grind), Dev.rd_bumpIf_other _ _ _ (by grind),
      Dev.rd_setChannel]

/-- A bad read of a fetch or a tutor is noted for its requester (R439). -/
def Dev.badNoted (d : Dev) (ch : Nat) (q : MemReq) (w : Decoded × Decoded) : Dev :=
  if unitBad w ∧ q.write = false ∧ q.port < 2 then d.setChannel ch { d.channel ch with badReads := (d.channel ch).badReads ++ [(q.port, q.unit)] } else d

theorem Dev.badNoted_frame (d : Dev) (ch : Nat) (q : MemReq) (w : Decoded × Decoded) : (d.badNoted ch q w).reg = d.reg ∧
    (d.badNoted ch q w).pipes = d.pipes ∧ ∃ badReads, (d.badNoted ch q w).channel ch = { d.channel ch with badReads } := by
  unfold Dev.badNoted
  split
  · exact ⟨rfl, rfl, _, Dev.channel_setChannel_same ..⟩
  · exact ⟨rfl, rfl, _, rfl⟩

theorem memAccessComplete_of_issued {i : EccIn} (hq : (d.channel ch).oldest unit = some q) (hissued : q.issued = true) :
    memAccessComplete ch unit i t now d = endReq now (d.badNoted ch q (q.found i)) ch q t (q.found i) := by
  have hunit : q.unit = unit := by simpa using List.find?_some hq
  unfold memAccessComplete
  rw [hq]
  dsimp only
  rw [if_neg (by simp [hissued])]
  unfold Dev.badNoted
  rw [hunit]

/-- Where no judgement of the roll call waits for the unit, its request ends at its controller alone. -/
theorem memAccess_of_plain {i : EccIn} (hq : (d.channel ch).oldest unit = some q) (hissued : q.issued = true)
    (hplain : q.port ≠ 3 ∨ d.roll.reads.all (fun r => decide (d.slotPlace r.slot ≠ (ch, unit))) = true) :
    memAccess ch unit i t now d = endReq now (d.badNoted ch q (q.found i)) ch q t (q.found i) := by
  have hnone : (if q.issued ∧ q.port = 3 ∧ q.write = false then d.roll.reads.find? (fun (r : RollRead) => decide (d.slotPlace r.slot = (ch, unit)))
      else none) = none := by
    split
    · next hroll =>
      obtain ⟨-, hport, -⟩ := hroll
      have hall := hplain.resolve_left (not_not.mpr hport)
      refine List.find?_eq_none.mpr fun r hr => ?_
      have := List.all_eq_true.mp hall r hr
      simpa using this
    · rfl
  unfold memAccess
  rw [hq]
  dsimp only
  rw [hnone, memAccessComplete_of_issued hq hissued]

/-! ## What the decoder found (R437 to R439, R449) -/

theorem recordError_frame (d : Dev) (ch kind symbol unit : Nat) : ∃ recorded, (recordError d ch kind symbol unit).channel ch = { d.channel ch with recorded } ∧
    (recordError d ch kind symbol unit).pipes = d.pipes ∧
    ∀ k, k ≠ M.MEMCH_LAST_ERROR ch → (recordError d ch kind symbol unit).rd k = d.rd k := by
  unfold recordError
  dsimp only
  split
  · exact ⟨_, rfl, rfl, fun _ _ => rfl⟩
  · refine ⟨true, Dev.channel_setChannel_same .., ?_, fun k hk => ?_⟩
    · rw [Dev.setChannel_pipes, Dev.wr_pipes]
    · rw [Dev.rd_setChannel, Dev.rd_wr_other _ _ _ _ hk]

/-- A unit of which one data symbol is corrected. -/
theorem eccRead_of_symbol {k v : Nat} {overtaken : Bool} (hk : k < 32) : eccRead now d ch unit t overtaken (.symbol k v, .clean) =
    if overtaken then recordError (d.bump (M.CNT_MEM_CORRECTED ch)) ch 1 k unit
    else correctiveWrite (recordError (d.bump (M.CNT_MEM_CORRECTED ch)) ch 1 k unit) ch unit t := by
  unfold eccRead countWord unitBad
  dsimp only
  rw [if_pos hk]
  cases overtaken <;> simp

theorem eccRead_of_bad {overtaken : Bool} : eccRead now d ch unit t overtaken (.uncorrectable, .clean) =
    accessFailed now (recordError ({ d with free := d.free + 1 }.bump (M.CNT_MEM_UNCORRECTABLE ch)) ch 3 (Config.freeValue d.free) unit) ch unit := by
  unfold eccRead countWord unitBad
  dsimp only [Dev.fresh_eq]
  rw [if_pos (by simp)]

/-- A corrected unit's write stands last in its channel. -/
theorem correctiveWrite_of_serves (hserves : d.chServes ch = true) : ∃ reqs lastReq, correctiveWrite d ch unit t =
    d.setChannel ch { d.channel ch with
      reqs := reqs ++ [{ MemReq.new 6 unit true (d.unitInRoll ch unit) t with corrective := true }], lastReq } := by
  unfold correctiveWrite memRequest
  rw [if_neg (by simp [hserves])]
  exact ⟨_, _, if_neg (by simp [MemReq.new])⟩

/-! ## Service (R449) -/

theorem outOfService_spec (now : BellSt) (d : Dev) (ch : Nat) : ((outOfService now d ch).channel ch).reqs = [] ∧
    (outOfService now d ch).rd (M.MEMCH_STATE ch) = 4 ∧ (outOfService now d ch).pipes = d.pipes ∧
    ∀ k, k ≠ M.MEMCH_STATE ch → k ≠ M.CNT_EVENT_MERGED → (outOfService now d ch).rd k = d.rd k := by
  unfold outOfService
  dsimp only
  refine ⟨?_, ?_, ?_, fun k hstate hmerged => ?_⟩
  · obtain ⟨_, _, _, _, hraised⟩ := raiseOpen_frame _ now Ev.MEMCH_DOWN (oid 0x50 ch)
    rw [hraised]
    exact congrArg Channel.reqs (Dev.channel_setChannel_same d ch { d.channel ch with reqs := [], badReads := [] })
  · rw [Dev.raiseOpen_rd _ _ _ _ _ (by grind), Dev.rd_wr_same]
    rfl
  · obtain ⟨_, _, _, _, hraised⟩ := raiseOpen_frame _ now Ev.MEMCH_DOWN (oid 0x50 ch)
    rw [hraised]
    rfl
  · rw [Dev.raiseOpen_rd _ _ _ _ _ hmerged, Dev.rd_wr_other _ _ _ _ hstate]
    rfl

end Sys2Proof.Machine

/-! Memory requests, from their issue to their end. -/

namespace Sys2Proof.Machine

variable {d e f : Dev} {now : BellSt} {ch unit t : Nat} {q x : MemReq}

theorem Dev.raiseIf_frame (d : Dev) (c : Bool) (now : BellSt) (code object detail : Nat) : (d.raiseIf c now code object detail).pipes = d.pipes ∧
    ∀ k, k ≠ M.CNT_EVENT_MERGED → (d.raiseIf c now code object detail).rd k = d.rd k := by
  cases c
  · exact ⟨rfl, fun _ _ => rfl⟩
  · refine ⟨?_, fun k hk => Dev.raise_rd _ _ _ _ _ _ hk⟩
    exact (congrArg Dev.pipes (Dev.raise_frame ..)).trans rfl

theorem Dev.chServes_of_rd (h : e.rd (M.MEMCH_STATE ch) = d.rd (M.MEMCH_STATE ch)) : e.chServes ch = d.chServes ch := by
  unfold Dev.chServes
  rw [h]

/-- A failure past the limit takes the channel out of service. -/
theorem accessFailed_spec (now : BellSt) (unit : Nat) (hserves : d.chServes ch = true) : (accessFailed now d ch unit).pipes = d.pipes ∧
    (∀ k, k ≠ M.MEMCH_STATE ch → k ≠ M.CNT_EVENT_MERGED → (accessFailed now d ch unit).rd k = d.rd k) ∧
    (d.rd (M.MEMCH_FAIL_LIMIT ch) < (d.channel ch).failures + 1 →
      (accessFailed now d ch unit).rd (M.MEMCH_STATE ch) = 4 ∧ ((accessFailed now d ch unit).channel ch).reqs = []) ∧
    ((d.channel ch).failures + 1 ≤ d.rd (M.MEMCH_FAIL_LIMIT ch) → (accessFailed now d ch unit).rd (M.MEMCH_STATE ch) = d.rd (M.MEMCH_STATE ch)) := by
  unfold accessFailed
  dsimp only
  generalize ch + unit * 64 % 2 ^ 31 * 2 ^ 32 = detail
  obtain ⟨hpipes, hrd⟩ := (d.setChannel ch { d.channel ch with failures := (d.channel ch).failures + 1, raised := true }).raiseIf_frame
    (!(d.channel ch).raised) now Ev.MEM_UNCORRECTABLE (oid 0x50 ch) detail
  generalize (d.setChannel ch { d.channel ch with failures := (d.channel ch).failures + 1, raised := true }).raiseIf
    (!(d.channel ch).raised) now Ev.MEM_UNCORRECTABLE (oid 0x50 ch) detail = e at hpipes hrd ⊢
  have hlimit := hrd (M.MEMCH_FAIL_LIMIT ch) (by grind)
  have hstate := hrd (M.MEMCH_STATE ch) (by grind)
  rw [Dev.rd_setChannel] at hlimit hstate
  rw [Dev.setChannel_pipes] at hpipes
  rw [hlimit, Dev.chServes_of_rd hstate, hserves]
  obtain ⟨hended, hout, hkept, hothers⟩ := outOfService_spec now e ch
  by_cases hfails : d.rd (M.MEMCH_FAIL_LIMIT ch) < (d.channel ch).failures + 1
  · rw [if_pos ⟨hfails, rfl⟩]
    exact ⟨hkept.trans hpipes, fun k hs hm => (hothers k hs hm).trans (hrd k hm), fun _ => ⟨hout, hended⟩, fun hle => by omega⟩
  · rw [if_neg (fun h => hfails h.1)]
    exact ⟨hpipes, fun k _ hm => hrd k hm, fun h => absurd h hfails, fun _ => hstate⟩

/-! ## The device as a read has ended, before what the decoder found is dealt with -/

/-- The device that a request to a unit leaves as it ends, with its bad read noted. -/
def Dev.readEnded (d : Dev) (ch : Nat) (q : MemReq) (t : Nat) (w : Decoded × Decoded) : Dev := (d.badNoted ch q w).reqEnded ch q (q.age t)

theorem Dev.readEnded_frame (d : Dev) (ch : Nat) (q : MemReq) (t : Nat) (w : Decoded × Decoded) : (d.readEnded ch q t w).pipes = d.pipes ∧
    (∃ badReads, (d.readEnded ch q t w).channel ch = { d.channel ch with reqs := (d.channel ch).reqs.erase q, badReads }) := by
  obtain ⟨-, hpipes, _, hchannel⟩ := d.badNoted_frame ch q w
  unfold Dev.readEnded
  rw [Dev.reqEnded_pipes, Dev.reqEnded_channel, hchannel]
  exact ⟨hpipes, _, rfl⟩

theorem Dev.readEnded_rd (d : Dev) (q : MemReq) (t : Nat) (w : Decoded × Decoded) {k : Nat} (hlate : k ≠ M.CNT_MEMCH_LATE ch)
    (hage : k ≠ M.MEMCH_LATENCY_MAX ch) (hwritten : k ≠ M.CNT_MEMCH_WRITE_BYTES ch) (hread : k ≠ M.CNT_MEMCH_READ_BYTES ch)
    (hscrub : k ≠ M.CNT_MEMCH_SCRUB ch) : (d.readEnded ch q t w).rd k = d.rd k := by
  obtain ⟨hreg, -⟩ := d.badNoted_frame ch q w
  unfold Dev.readEnded
  rw [Dev.reqEnded_rd _ _ _ hlate hage hwritten hread hscrub, Dev.rd_of_reg hreg]

end Sys2Proof.Machine

namespace Sys2Proof

open Sys2Proof.Machine

section

variable {ch unit t : Nat} {i : EccIn} {q : MemReq} {s : State} (hruns : s.dev.dieRuns = true) (hq : (s.dev.channel ch).oldest unit = some q)
  (hissued : q.issued = true)
  (hplain : q.port ≠ 3 ∨ s.dev.roll.reads.all (fun r => decide (s.dev.slotPlace r.slot ≠ (ch, unit))) = true)
  (hidle : ∀ p, p < 16 → (s.dev.pipe p).reads = [])
include hruns hq hissued hplain hidle

/-- A completion that keeps the pipes is the end of its request at the controller. -/
theorem gives_memAccessComplete
    (hpipes : (endReq s.bell (s.dev.badNoted ch q (q.found i)) ch q t (q.found i)).pipes = s.dev.pipes) :
    Gives (.memAccessComplete ch unit i t) s s.bell (endReq s.bell (s.dev.badNoted ch q (q.found i)) ch q t (q.found i)) := by
  have hgives := gives_of_onDie (c := .memAccessComplete ch unit i t) (s := s) (f := fun now d => endLost now (memAccess ch unit i t now d)) rfl hruns
  rwa [memAccess_of_plain hq hissued hplain, endLost_of_idle fun p hp => by rw [Dev.pipe_of_pipes hpipes]; exact hidle p hp] at hgives

theorem reaches_memAccess_clean (hclean : q.write = true ∨ q.found i = (.clean, .clean)) :
    Reaches (.memAccessComplete ch unit i t) s (fun d => (d.channel ch).reqs = (s.dev.channel ch).reqs.erase q ∧
      d.rd (M.MEMCH_LATENCY_MAX ch) = max (s.dev.rd (M.MEMCH_LATENCY_MAX ch)) (q.age t) ∧
      d.rd (if q.write then M.CNT_MEMCH_WRITE_BYTES ch else M.CNT_MEMCH_READ_BYTES ch) =
        (s.dev.rd (if q.write then M.CNT_MEMCH_WRITE_BYTES ch else M.CNT_MEMCH_READ_BYTES ch) + 64) % 2 ^ 64) := by
  have hend : endReq s.bell (s.dev.badNoted ch q (q.found i)) ch q t (q.found i) = s.dev.readEnded ch q t (q.found i) := by
    rw [endReq_eq]
    rcases hclean with hwrite | hfound
    · exact if_pos hwrite
    · rw [hfound, eccRead_of_clean, ite_self]
      rfl
  obtain ⟨hpipes, _, hchannel⟩ := s.dev.readEnded_frame ch q t (q.found i)
  obtain ⟨hreg, -⟩ := s.dev.badNoted_frame ch q (q.found i)
  have hgives := gives_memAccessComplete (t := t) (i := i) hruns hq hissued hplain hidle (by rw [hend, hpipes])
  rw [hend] at hgives
  refine ⟨_, hgives, ?_, ?_, ?_⟩
  · rw [hchannel]
  · rw [Dev.readEnded, Dev.reqEnded_rd_age _ _ _ (q.age_lt t), Dev.rd_of_reg hreg]
  · rw [Dev.readEnded, Dev.reqEnded_rd_bytes, Dev.rd_of_reg hreg]

theorem reaches_memAccess_symbol {k v : Nat} (hread : q.write = false) (hfound : q.found i = (.symbol k v, .clean)) (hk : k < 32)
    (hserves : s.dev.chServes ch = true) : Reaches (.memAccessComplete ch unit i t) s (fun d =>
      d.rd (M.CNT_MEM_CORRECTED ch) = (s.dev.rd (M.CNT_MEM_CORRECTED ch) + 1) % 2 ^ 64 ∧
      d.rd (M.CNT_MEM_UNCORRECTABLE ch) = s.dev.rd (M.CNT_MEM_UNCORRECTABLE ch) ∧
      (q.overtaken = true → (d.channel ch).reqs = (s.dev.channel ch).reqs.erase q) ∧
      (q.overtaken = false → ∃ x ∈ (d.channel ch).reqs, x.unit = unit ∧ x.write = true ∧ x.corrective = true ∧ x.port = 6)) := by
  have hunit : q.unit = unit := by simpa using List.find?_some hq
  obtain ⟨hpipes, _, hchannel⟩ := s.dev.readEnded_frame ch q t (q.found i)
  have hcorrected := s.dev.readEnded_rd (ch := ch) q t (q.found i) (k := M.CNT_MEM_CORRECTED ch) (by grind) (by grind) (by grind) (by grind) (by grind)
  have huncorrectable := s.dev.readEnded_rd (ch := ch) q t (q.found i) (k := M.CNT_MEM_UNCORRECTABLE ch) (by grind) (by grind) (by grind) (by grind) (by grind)
  have hstate := s.dev.readEnded_rd (ch := ch) q t (q.found i) (k := M.MEMCH_STATE ch) (by grind) (by grind) (by grind) (by grind) (by grind)
  have hend : endReq s.bell (s.dev.badNoted ch q (q.found i)) ch q t (q.found i) =
      eccRead s.bell (s.dev.readEnded ch q t (q.found i)) ch q.unit t q.overtaken (q.found i) := by
    rw [endReq_eq, if_neg (by simp [hread])]
    rfl
  generalize s.dev.readEnded ch q t (q.found i) = e at hpipes hchannel hcorrected huncorrectable hstate hend
  rw [hfound, eccRead_of_symbol hk, hunit] at hend
  obtain ⟨_, hrecorded, hkept, hothers⟩ := recordError_frame (e.bump (M.CNT_MEM_CORRECTED ch)) ch 1 k unit
  have hcount := hothers (M.CNT_MEM_CORRECTED ch) (by grind)
  have hsame := hothers (M.CNT_MEM_UNCORRECTABLE ch) (by grind)
  have hstill := hothers (M.MEMCH_STATE ch) (by grind)
  rw [Dev.rd_bump_same, hcorrected] at hcount
  rw [Dev.rd_bump_other _ _ _ (by grind), huncorrectable] at hsame
  rw [Dev.rd_bump_other _ _ _ (by grind), hstate] at hstill
  rw [Dev.bump_pipes, hpipes] at hkept
  generalize recordError (e.bump (M.CNT_MEM_CORRECTED ch)) ch 1 k unit = g at hrecorded hkept hcount hsame hstill hend
  cases hovertaken : q.overtaken with
  | true =>
    rw [hovertaken, if_pos rfl] at hend
    have hgives := gives_memAccessComplete (t := t) (i := i) hruns hq hissued hplain hidle (by rw [hfound, hend, hkept])
    rw [hfound, hend] at hgives
    exact ⟨_, hgives, hcount, hsame, fun _ => (congrArg Channel.reqs hrecorded).trans (congrArg Channel.reqs hchannel), by simp⟩
  | false =>
    obtain ⟨reqs, lastReq, hwrites⟩ := correctiveWrite_of_serves (unit := unit) (t := t) ((Dev.chServes_of_rd hstill).trans hserves)
    rw [hovertaken, if_neg Bool.false_ne_true, hwrites] at hend
    have hgives := gives_memAccessComplete (t := t) (i := i) hruns hq hissued hplain hidle (by rw [hfound, hend, Dev.setChannel_pipes, hkept])
    rw [hfound, hend] at hgives
    refine ⟨_, hgives, hcount, hsame, by simp,
      fun _ => ⟨{ MemReq.new 6 unit true (g.unitInRoll ch unit) t with corrective := true }, ?_, ?_⟩⟩
    · rw [Dev.channel_setChannel_same]
      exact List.mem_append_right _ List.mem_cons_self
    · exact ⟨rfl, rfl, rfl, rfl⟩

theorem reaches_memAccess_bad (hread : q.write = false) (hfound : q.found i = (.uncorrectable, .clean)) (hserves : s.dev.chServes ch = true) :
    Reaches (.memAccessComplete ch unit i t) s (fun d =>
      d.rd (M.CNT_MEM_UNCORRECTABLE ch) = (s.dev.rd (M.CNT_MEM_UNCORRECTABLE ch) + 1) % 2 ^ 64 ∧
      (s.dev.rd (M.MEMCH_FAIL_LIMIT ch) < (s.dev.channel ch).failures + 1 → d.rd (M.MEMCH_STATE ch) = 4 ∧ (d.channel ch).reqs = []) ∧
      ((s.dev.channel ch).failures + 1 ≤ s.dev.rd (M.MEMCH_FAIL_LIMIT ch) → d.rd (M.MEMCH_STATE ch) = s.dev.rd (M.MEMCH_STATE ch))) := by
  have hunit : q.unit = unit := by simpa using List.find?_some hq
  obtain ⟨hpipes, _, hchannel⟩ := s.dev.readEnded_frame ch q t (q.found i)
  have huncorrectable := s.dev.readEnded_rd (ch := ch) q t (q.found i) (k := M.CNT_MEM_UNCORRECTABLE ch) (by grind) (by grind) (by grind) (by grind) (by grind)
  have hlimit := s.dev.readEnded_rd (ch := ch) q t (q.found i) (k := M.MEMCH_FAIL_LIMIT ch) (by grind) (by grind) (by grind) (by grind) (by grind)
  have hstate := s.dev.readEnded_rd (ch := ch) q t (q.found i) (k := M.MEMCH_STATE ch) (by grind) (by grind) (by grind) (by grind) (by grind)
  have hend : endReq s.bell (s.dev.badNoted ch q (q.found i)) ch q t (q.found i) =
      eccRead s.bell (s.dev.readEnded ch q t (q.found i)) ch q.unit t q.overtaken (q.found i) := by
    rw [endReq_eq, if_neg (by simp [hread])]
    rfl
  generalize s.dev.readEnded ch q t (q.found i) = e at hpipes hchannel huncorrectable hlimit hstate hend
  rw [hfound, eccRead_of_bad, hunit] at hend
  obtain ⟨_, hrecorded, hkept, hothers⟩ := recordError_frame ({ e with free := e.free + 1 }.bump (M.CNT_MEM_UNCORRECTABLE ch)) ch 3 (Config.freeValue e.free) unit
  have hcount := (hothers (M.CNT_MEM_UNCORRECTABLE ch) (by grind)).trans (Dev.rd_bump_same ..)
  have hstillLimit := (hothers (M.MEMCH_FAIL_LIMIT ch) (by grind)).trans (Dev.rd_bump_other _ _ _ (by grind))
  have hstill := (hothers (M.MEMCH_STATE ch) (by grind)).trans (Dev.rd_bump_other _ _ _ (by grind))
  generalize recordError ({ e with free := e.free + 1 }.bump (M.CNT_MEM_UNCORRECTABLE ch)) ch 3 (Config.freeValue e.free) unit = g
    at hrecorded hkept hcount hstillLimit hstill hend
  have hfailed : (e.channel ch).failures = (s.dev.channel ch).failures := by rw [hchannel]
  have hfailures : (g.channel ch).failures = (s.dev.channel ch).failures :=
    (congrArg Channel.failures hrecorded).trans hfailed
  have hserving : g.chServes ch = true := (Dev.chServes_of_rd (hstill.trans hstate)).trans hserves
  obtain ⟨hpiped, hrd, hout, hin⟩ := accessFailed_spec s.bell unit hserving
  have hgives := gives_memAccessComplete (t := t) (i := i) hruns hq hissued hplain hidle (by rw [hfound, hend, hpiped, hkept]; exact hpipes)
  have hlimits : g.rd (M.MEMCH_FAIL_LIMIT ch) = s.dev.rd (M.MEMCH_FAIL_LIMIT ch) := hstillLimit.trans hlimit
  rw [hfound, hend] at hgives
  rw [hlimits, hfailures] at hout hin
  refine ⟨_, hgives, ?_, hout, fun hle => (hin hle).trans (hstill.trans hstate)⟩
  rw [hrd _ (by grind) (by grind), hcount]
  exact congrArg (fun n => (n + 1) % 2 ^ 64) huncorrectable

end

theorem memchCommandTimeout_of_late {ch : Nat} {q : MemReq} {now : BellSt} {d : Dev} (hserves : d.chServes ch = true) (hq : q ∈ (d.channel ch).reqs)
    (hissued : q.issued = true) (hlate : 65536 ≤ (now.time.toNat + 1024 + 2 ^ 32 - q.issuedAt % 2 ^ 32) % 2 ^ 32) :
    memchCommandTimeout ch now d = outOfService now d ch :=
  if_pos ⟨hserves, List.any_eq_true.mpr ⟨q, hq, Bool.and_eq_true_iff.mpr ⟨hissued, decide_eq_true hlate⟩⟩⟩

theorem memchCommandTimeout_of_timely {ch : Nat} {now : BellSt} {d : Dev}
    (h : ∀ q ∈ (d.channel ch).reqs, q.issued = true → (now.time.toNat + 1024 + 2 ^ 32 - q.issuedAt % 2 ^ 32) % 2 ^ 32 < 65536) :
    memchCommandTimeout ch now d = d := by
  refine if_neg fun ⟨_, hany⟩ => ?_
  obtain ⟨q, hq, hlate⟩ := List.any_eq_true.mp hany
  obtain ⟨hissued, hover⟩ := Bool.and_eq_true_iff.mp hlate
  exact absurd (of_decide_eq_true hover) (Nat.not_le.mpr (h q hq hissued))

/-- Settles O49. The choice is the least by a key whose first part is the shade; an end is traced through its counts to what the decoder found. -/
theorem memoryRequestsIssueAndComplete : Obligations.MemoryRequestsIssueAndComplete := by
  refine ⟨fun d c allowed t q h => pickRoll_spec h, fun d c allowed t q h => pickBulk_spec h, fun ch t allowed q s hruns _ hserves hpick => ?_,
    fun ch unit t i q s hruns _ hq hissued hplain hidle hclean => reaches_memAccess_clean hruns hq hissued hplain hidle hclean,
    fun ch unit t k v i q s hruns _ hq hissued hplain hidle hread hfound hk hserves =>
      reaches_memAccess_symbol hruns hq hissued hplain hidle hread hfound hk hserves,
    fun ch unit t i q s hruns _ hq hissued hplain hidle hread hfound hserves =>
      reaches_memAccess_bad hruns hq hissued hplain hidle hread hfound hserves,
    fun ch q s hruns _ hserves hidle hq hissued hlate => ?_, fun ch s hidle htimely => ?_⟩
  · obtain ⟨hchannel, hstate⟩ := memchIssue_spec hserves hpick
    refine ⟨_, gives_of_onDie (f := fun _ => memchIssue ch allowed t) rfl hruns, ?_, ?_, hstate⟩
    · rw [hchannel]
      rfl
    · rw [hchannel]
      rfl
  · obtain ⟨hended, hstate, hpipes, -⟩ := outOfService_spec s.bell s.dev ch
    have hgives := gives_of_onDie (c := .memchCommandTimeout ch) (s := s) (f := fun now d => endLost now (memchCommandTimeout ch now d)) rfl hruns
    rw [memchCommandTimeout_of_late hserves hq hissued hlate,
      endLost_of_idle fun p hp => by rw [Dev.pipe_of_pipes hpipes]; exact hidle p hp] at hgives
    exact ⟨_, hgives, hstate, hended⟩
  · refine exec_of_onDie_keeps (f := fun now d => endLost now (memchCommandTimeout ch now d)) rfl ?_
    rw [memchCommandTimeout_of_timely htimely, endLost_of_idle hidle]

end Sys2Proof

/-! Doorbells and pushes of descriptor rings. -/

namespace Sys2Proof.Machine

variable {d e : Dev} {r n i : Nat}

/-! ## What a doorbell takes (R465, R466, R468) -/

/-- Positions that entries fill. -/
def positionsOf (es : List REntry) : Nat := (es.map (fun e => e.positions)).sum

/-- `es` are entries fetched from index `i` up that fill at most `n` positions, `j` is the index behind them, and those that break the
descriptor rules are started at once. -/
structure Fetched (d : Dev) (r n i : Nat) (es : List REntry) (j : Nat) : Prop where
  next : j = (i + positionsOf es) % 65536
  fits : positionsOf es ≤ n
  started : ∀ e ∈ es, e.started = !descOk r (d.rd (M.RING_FORMAT r)) e.bytes

theorem Fetched.nil (d : Dev) (r n : Nat) (hi : i < 65536) : Fetched d r n i [] i where
  next := (Nat.mod_eq_of_lt hi).symm
  fits := Nat.zero_le n
  started := by simp

theorem Fetched.cons {x : REntry} {es : List REntry} {j : Nat} (hfits : x.positions ≤ n)
    (hstarted : x.started = !descOk r (d.rd (M.RING_FORMAT r)) x.bytes)
    (h : Fetched d r (n - x.positions) ((i + x.positions) % 65536) es j) : Fetched d r n i (x :: es) j where
  next := by
    have hnext := h.next
    have hsum : positionsOf (x :: es) = x.positions + positionsOf es := List.sum_cons
    omega
  fits := by
    have hrest := h.fits
    have hsum : positionsOf (x :: es) = x.positions + positionsOf es := List.sum_cons
    omega
  started := by simpa [hstarted] using h.started

/-- A fetched entry as the doorbell takes it: finished at once where it breaks the descriptor rules. -/
def REntry.judged (e : REntry) (r format : Nat) : REntry :=
  if descOk r format e.bytes then e
  else { e with started := true, fin := some (St.RING_BAD_DESC, donePos e.bytes St.RING_BAD_DESC) }

theorem REntry.judged_positions (x : REntry) (r format : Nat) : (x.judged r format).positions = x.positions := by
  unfold REntry.judged
  split <;> rfl

theorem REntry.judged_started {x : REntry} (hx : x.started = false) (r format : Nat) :
    (x.judged r format).started = !descOk r format (x.judged r format).bytes := by
  unfold REntry.judged
  by_cases h : descOk r format x.bytes = true
  · rw [if_pos h, hx, h]
    rfl
  · rw [if_neg h]
    simp [h]

/-- A doorbell appends whole descriptors. -/
theorem takeEntries_fetched (d : Dev) (r fuel : Nat) : ∀ (n i : Nat) (mem : Bytes) (used : List Nat) (acc : List REntry), i < 65536 →
    ∃ es, (takeEntries fuel d r n i mem used acc).1 = acc ++ es ∧ Fetched d r n i es (takeEntries fuel d r n i mem used acc).2.1 := by
  induction fuel with
  | zero => exact fun n i mem used acc hi => ⟨[], (List.append_nil acc).symm, .nil d r n hi⟩
  | succ fuel ih =>
    intro n i mem used acc hi
    have hstop : ∃ es, acc = acc ++ es ∧ Fetched d r n i es i := ⟨[], (List.append_nil acc).symm, .nil d r n hi⟩
    unfold takeEntries
    dsimp only
    split
    · exact hstop
    split
    · exact hstop
    rename_i b0 _
    split
    · exact hstop
    rename_i hlen
    split
    · exact hstop
    rename_i ps _
    let x : REntry := { index := i, positions := pos0Len b0 + 1, bytes := ps.flatMap Prod.snd, started := false, fin := none }
    obtain ⟨es, hes, h⟩ := ih (n - (pos0Len b0 + 1)) ((i + (pos0Len b0 + 1)) % 65536) (mem.drop (16 * (pos0Len b0 + 1)))
      (used ++ ps.filterMap Prod.fst) (acc ++ [x.judged r (d.rd (M.RING_FORMAT r))]) (Nat.mod_lt _ (by decide))
    refine ⟨x.judged r (d.rd (M.RING_FORMAT r)) :: es, ?_, .cons ?_ ?_ ?_⟩
    · exact hes.trans (List.append_assoc ..)
    · rw [REntry.judged_positions]
      exact not_lt.mp (not_or.mp hlen).2
    · exact REntry.judged_started rfl ..
    · rw [REntry.judged_positions]
      exact h

theorem ringFetch_fetched (v : Nat) (mem : Bytes) (h : (d.ring r).fetch < 65536) :
    ∃ es, ((ringFetch r v mem d).ring r).entries = (d.ring r).entries ++ es ∧ ((ringFetch r v mem d).ring r).pushes = [] ∧
      Fetched d r (d.covered r v) (d.ring r).fetch es ((ringFetch r v mem d).ring r).fetch := by
  obtain ⟨es, hes, hfetched⟩ := takeEntries_fetched d r (d.ringSize r) (d.covered r v) (d.ring r).fetch mem [] [] h
  have hring : (ringFetch r v mem d).ring r = { d.ring r with
      entries := (d.ring r).entries ++ (takeEntries (d.ringSize r) d r (d.covered r v) (d.ring r).fetch mem [] []).1,
      fetch := (takeEntries (d.ringSize r) d r (d.covered r v) (d.ring r).fetch mem [] []).2.1, pushes := [], waiting := none } :=
    Dev.ring_setRing_same ..
  rw [hring]
  exact ⟨es, by rw [hes]; rfl, rfl, hfetched⟩

/-! ## Doorbells (R464 to R466, R372) -/

/-- The device as the doorbell's value reaches RING_PROD. -/
def Dev.produced (d : Dev) (r v : Nat) : Dev := if d.rd (M.RING_OWNERSHIP r) = 1 then d.wr (M.RING_PROD r) v else d

theorem Dev.produced_ring (d : Dev) (r v : Nat) : (d.produced r v).ring r = d.ring r := by
  unfold Dev.produced
  split <;> rfl

theorem Dev.produced_format (d : Dev) (r v : Nat) : (d.produced r v).rd (M.RING_FORMAT r) = d.rd (M.RING_FORMAT r) := by
  unfold Dev.produced
  split
  · exact Dev.rd_wr_other _ _ _ _ (by grind)
  · rfl

theorem ringDoorbell_of_ignored {offset : Nat} {data mem : Bytes} (h : d.rd (M.RING_STATE r) ≠ 1 ∨ 256 ≤ r ∨ offset ≠ 0 ∨ data.length ≠ 4) :
    ringDoorbell r offset data mem d = d := if_pos h

theorem ringDoorbell_of_event {data mem : Bytes} (hlo : 240 ≤ r) (hhi : r < 256) (hstate : d.rd (M.RING_STATE r) = 1) (hdata : data.length = 4) :
    ringDoorbell r 0 data mem d = d.wr (M.RING_CONS r) (leVal data % 65536) := by
  have hev : evRing r = true := by simp [evRing, hlo, hhi]
  have htaken : ¬(d.rd (M.RING_STATE r) ≠ 1 ∨ 256 ≤ r ∨ (0 : Nat) ≠ 0 ∨ data.length ≠ 4) := by omega
  exact (if_neg htaken).trans (if_pos hev)

theorem ringDoorbell_of_taken {data mem : Bytes} (hr : r < 240) (hstate : d.rd (M.RING_STATE r) = 1) (hdata : data.length = 4) :
    ringDoorbell r 0 data mem d =
      if (d.produced r (leVal data % 65536)).taskStalled r then
        (d.produced r (leVal data % 65536)).setRing r { (d.produced r (leVal data % 65536)).ring r with waiting := some (leVal data % 65536, mem) }
      else ringFetch r (leVal data % 65536) mem (d.produced r (leVal data % 65536)) := by
  have hev : ¬evRing r = true := by simp [evRing]; omega
  have htaken : ¬(d.rd (M.RING_STATE r) ≠ 1 ∨ 256 ≤ r ∨ (0 : Nat) ≠ 0 ∨ data.length ≠ 4) := by omega
  exact (if_neg htaken).trans (if_neg hev)

/-! ## Pushes (R465, R466) -/

variable {data : Bytes} {single : Bool}

theorem ringPush_of_held (j : Nat) (hr : r < 240) (hstate : d.rd (M.RING_STATE r) = 1) (hdata : data.length = 64)
    (hroom : (d.ring r).pushes.length < 8) :
    ringPush r j data true d = d.setRing r { d.ring r with pushes := (d.ring r).pushes ++ [(j % 32, data)] } := by
  have hring : ¬(d.rd (M.RING_STATE r) ≠ 1 ∨ 240 ≤ r) := by omega
  have hwhole : ¬(true = false ∨ data.length ≠ 64 ∨ 8 ≤ (d.ring r).pushes.length) := by simp [hdata, hroom]
  exact (if_neg hring).trans (if_neg hwhole)

theorem ringPush_of_discarded (j : Nat) (hr : r < 240) (hstate : d.rd (M.RING_STATE r) = 1)
    (h : single = false ∨ data.length ≠ 64 ∨ 8 ≤ (d.ring r).pushes.length) :
    ringPush r j data single d = d.bump (M.CNT_RING_PUSH_DISCARD r) := by
  have hring : ¬(d.rd (M.RING_STATE r) ≠ 1 ∨ 240 ≤ r) := by omega
  exact (if_neg hring).trans (if_pos h)

theorem ringDoorbell_gives (r offset : Nat) (data mem : Bytes) {s : State} (h : s.dev.dieRuns = true) :
    Gives (.ringDoorbell r offset data mem) s s.bell (ringDoorbell r offset data mem s.dev) :=
  gives_of_onDie (f := fun _ => ringDoorbell r offset data mem) rfl h

theorem ringPush_gives (r j : Nat) (data : Bytes) (single : Bool) {s : State} (h : s.dev.dieRuns = true) :
    Gives (.ringPush r j data single) s s.bell (ringPush r j data single s.dev) :=
  gives_of_onDie (f := fun _ => ringPush r j data single) rfl h

end Sys2Proof.Machine

namespace Sys2Proof

open Sys2Proof.Machine

/-- Settles O51, clause by clause; what a doorbell takes is `takeEntries_fetched`, by induction on the ring's size. -/
theorem ringDoorbellsAndPushes : Obligations.RingDoorbellsAndPushes := by
  refine ⟨fun r offset data mem s h => ?_, fun r data mem s hruns hlo hhi hstate hdata => ?_,
    fun r data mem s hruns hr hstate hdata hfetch => ?_, fun r j data s hruns hr hstate hdata hroom => ?_,
    fun r j data single s hruns hr hstate h => ?_⟩
  · exact exec_of_onDie_keeps (f := fun _ => ringDoorbell r offset data mem) rfl (ringDoorbell_of_ignored h)
  · have hgives := ringDoorbell_gives r 0 data mem hruns
    rwa [ringDoorbell_of_event hlo hhi hstate hdata] at hgives
  · intro d0
    have hd0 : d0 = s.dev.produced r (leVal data % 65536) := rfl
    clear_value d0
    have hring : d0.ring r = s.dev.ring r := by rw [hd0, Dev.produced_ring]
    have hgives := ringDoorbell_gives r 0 data mem hruns
    rw [ringDoorbell_of_taken hr hstate hdata, ← hd0] at hgives
    refine ⟨_, hgives, ?_⟩
    beta_reduce
    by_cases hstalled : d0.taskStalled r = true
    · rw [if_pos hstalled, Dev.ring_setRing_same, hring]
      exact ⟨[], (List.append_nil _).symm, (Nat.mod_eq_of_lt hfetch).symm, Nat.zero_le _, by simp, by simp [hstalled], fun _ => ⟨rfl, rfl, rfl⟩⟩
    · rw [if_neg hstalled, ← hring]
      obtain ⟨es, hentries, hpushes, h⟩ := ringFetch_fetched (d := d0) (r := r) (leVal data % 65536) mem (by rwa [hring])
      have hformat : d0.rd (M.RING_FORMAT r) = s.dev.rd (M.RING_FORMAT r) := by rw [hd0, Dev.produced_format]
      exact ⟨es, hentries, h.next, h.fits, fun e he => by rw [h.started e he, hformat], fun _ => hpushes, fun hyes => absurd hyes hstalled⟩
  · have hgives := ringPush_gives r j data true hruns
    rwa [ringPush_of_held j hr hstate hdata hroom] at hgives
  · have hgives := ringPush_gives r j data single hruns
    rwa [ringPush_of_discarded j hr hstate h] at hgives

end Sys2Proof

/-! Completion of ring entries, event records and interrupts. -/

namespace Sys2Proof.Machine

variable {d : Dev} {now : BellSt} {r : Nat}

/-! ## Completion (R473, R474) -/

theorem ringCompletion_of_fin {e : REntry} {rest : List REntry} {st : Nat} {bs : Bytes} (hring : (d.ring r).entries = e :: rest)
    (hfin : e.fin = some (st, bs)) : ringCompletion r d =
      ((((d.emit (.dma (d.ringAddr r e.index) bs false)).setRing r { d.announced r (d.ring r) with entries := rest }).wr (M.RING_CONS r)
        ((e.index + e.positions) % 65536)).bump (M.CNT_RING_DONE r)) := by
  unfold ringCompletion
  dsimp only
  rw [hring]
  dsimp only
  rw [hfin]

theorem ringCompletion_keeps (h : (d.ring r).entries.head?.bind (fun e => e.fin) = none) : ringCompletion r d = d := by
  unfold ringCompletion
  dsimp only
  split
  · rfl
  · rename_i e rest hring
    rw [hring] at h
    have hfin : e.fin = none := h
    rw [hfin]

/-! ## Event records (R462, R477, R479) -/

/-- The index of the next record of an event ring: a last single position is passed over. -/
def Dev.recordIndex (d : Dev) (r : Nat) : Nat :=
  if d.rd (M.RING_PROD r) % d.ringSize r + 2 > d.ringSize r then (d.rd (M.RING_PROD r) + 1) % 65536 else d.rd (M.RING_PROD r)

theorem Dev.recordIndex_add (d : Dev) (r : Nat) : (d.recordIndex r + 2) % 65536 =
    (if d.rd (M.RING_PROD r) % d.ringSize r + 2 > d.ringSize r then (d.rd (M.RING_PROD r) + 1) % 65536 + 2 else d.rd (M.RING_PROD r) + 2) % 65536 := by
  unfold Dev.recordIndex
  split <;> rfl

/-- What a record leaves of its ring: its index moves on by two, the record is counted, the overflow is told, and an event signals at once. -/
structure Dev.Recorded (d : Dev) (r : Nat) (isEvent : Bool) (e : Dev) : Prop where
  events : e.rings.events = d.rings.events
  irqNow : (e.ring r).irqNow = ((d.ring r).irqNow || isEvent)
  overflow : (e.ring r).overflow = 0
  done : e.rd (M.CNT_RING_DONE r) = (d.rd (M.CNT_RING_DONE r) + 1) % 2 ^ 64
  prod : e.rd (M.RING_PROD r) = (d.recordIndex r + 2) % 65536

theorem Dev.writeRecord_eq (d : Dev) (r : Nat) (x : EvRec) (isEvent : Bool) : ∃ (f : Dev) (y : Ring),
    d.writeRecord r x isEvent = ((f.wr (M.RING_PROD r) ((d.recordIndex r + 2) % 65536)).bump (M.CNT_RING_DONE r)).setRing r y ∧
    f.reg = d.reg ∧ f.rings = d.rings ∧ y.overflow = 0 ∧ y.irqNow = ((d.ring r).irqNow || isEvent) := by
  unfold Dev.writeRecord Dev.recordIndex
  dsimp only
  split <;> exact ⟨_, _, rfl, rfl, rfl, rfl, rfl⟩

theorem Dev.writeRecord_recorded (d : Dev) (r : Nat) (x : EvRec) (isEvent : Bool) : d.Recorded r isEvent (d.writeRecord r x isEvent) := by
  obtain ⟨f, y, heq, hreg, hrings, hoverflow, hnow⟩ := d.writeRecord_eq r x isEvent
  rw [heq]
  constructor
  · exact (rfl : _ = f.rings.events).trans (congrArg Rings.events hrings)
  · rw [Dev.ring_setRing_same, hnow]
  · rw [Dev.ring_setRing_same, hoverflow]
  · rw [Dev.rd_setRing, Dev.rd_bump_same, Dev.rd_wr_other _ _ _ _ (by grind), Dev.rd_of_reg hreg]
  · rw [Dev.rd_setRing, Dev.rd_bump_other _ _ _ (by grind), Dev.rd_wr_same]
    exact Nat.mod_eq_of_lt (by omega)

theorem eventRing_bounds {cat : Nat} (h : d.eventRing cat = some r) : 240 ≤ r ∧ r < 256 := by
  have hmem := List.mem_of_find?_eq_some h
  obtain ⟨k, hk, rfl⟩ := List.mem_map.mp hmem
  have hlt := List.mem_range.mp hk
  omega

theorem writeEvents_one {e : EvRec} {rest : List EvRec} (hevents : d.rings.events = e :: rest) (hring : d.eventRing 0 = some r)
    (hroom : 2 + b2n (d.rd (M.RING_PROD r) % d.ringSize r + 2 > d.ringSize r) ≤ d.eventRoom r) :
    writeEvents 1 d = { d with rings := { d.rings with events := rest } }.writeRecord r e true := by
  unfold writeEvents
  rw [hevents, hring]
  exact if_neg (not_lt.mpr hroom)

theorem writeEvents_keeps (n : Nat) (h : d.rings.events = [] ∨ d.eventRing 0 = none) : writeEvents n d = d := by
  cases n with
  | zero => rfl
  | succ n =>
    unfold writeEvents
    split
    · rename_i hevents hring
      rcases h with h | h
      · rw [h] at hevents
        cases hevents
      · rw [h] at hring
        cases hring
    · rfl

/-! ## Interrupts (R474, R481) -/

/-- A ring's interrupt is due: by an event, by the count, or as its timer ends. -/
def Ring.irqDue (x : Ring) (timer : Bool) : Prop :=
  x.irqLimit ≠ 0 ∧ (x.irqNow = true ∨ (x.irqCount ≠ 0 ∧ x.irqLimit ≤ x.irqCount) ∨ (timer && x.irqTimer) = true)

/-- A ring once its interrupt is signalled. -/
def Ring.irqDone (x : Ring) : Ring := { x with irqCount := 0, irqTimer := false, irqNow := false }

theorem ringIrq_of_due {timer : Bool} (h : (d.ring r).irqDue timer) : ringIrq r timer now d =
    signal (headRecord now (d.setRing r (d.ring r).irqDone) r (d.rd (M.RING_STATE r) == 0)) r (d.ring r).vector := if_pos h

theorem ringIrq_keeps {timer : Bool} (h : ¬(d.ring r).irqDue timer) : ringIrq r timer now d = d := if_neg h

theorem headRecord_emits (now : BellSt) (d : Dev) (r : Nat) (disabled : Bool) : ∃ o, headRecord now d r disabled = d.emits o := by
  unfold headRecord
  dsimp only
  split
  · exact ⟨[], by rw [Dev.emits, List.append_nil]⟩
  · exact ⟨[_], rfl⟩

theorem signal_of_unmasked {v : Nat} (h : v ∈ d.rings.unmasked) : signal d r v = (d.emit (.msix v)).bump (M.CNT_RING_IRQ r) :=
  if_pos (List.contains_iff_mem.mpr h)

theorem signal_of_masked {v : Nat} (h : v ∉ d.rings.unmasked) : ∃ ps, signal d r v = { d with rings := { d.rings with pendingVec := ps } } ∧
    (∃ p ∈ ps, p.1 = v) ∧ ((∀ p ∈ d.rings.pendingVec, p.1 ≠ v) → (v, r) ∈ ps) := by
  unfold signal
  rw [if_neg (by simpa using h)]
  by_cases hpending : d.rings.pendingVec.any (fun x => x.1 == v) = true
  · obtain ⟨p, hp, hv⟩ := List.any_eq_true.mp hpending
    rw [if_pos hpending]
    exact ⟨_, rfl, ⟨p, hp, by simpa using hv⟩, fun hnone => absurd (by simpa using hv) (hnone p hp)⟩
  · rw [if_neg hpending]
    exact ⟨_, rfl, ⟨(v, r), by simp, rfl⟩, fun _ => by simp⟩

end Sys2Proof.Machine

namespace Sys2Proof

open Sys2Proof.Machine

/-- Settles O53, clause by clause. -/
theorem ringEntriesCompleteInOrder : Obligations.RingEntriesCompleteInOrder := by
  refine ⟨fun r st bs e rest s hruns hr hring hfin => ?_, fun r s h => ?_, fun r e rest s hruns hevents hring hroom => ?_, fun s h => ?_,
    fun r timer s hruns hr hlimit hdue => ?_, fun r timer s h => ?_⟩
  · refine ⟨_, gives_of_onDie (f := fun _ => ringCompletion r) rfl hruns, ?_⟩
    beta_reduce
    rw [ringCompletion_of_fin hring hfin]
    refine ⟨rfl, ?_, ?_, ?_, ?_, ?_, ?_⟩
    · exact congrArg Ring.entries (Dev.ring_setRing_same ..)
    · exact congrArg Ring.irqCount (Dev.ring_setRing_same ..)
    · exact congrArg Ring.irqLimit (Dev.ring_setRing_same ..)
    · exact congrArg Ring.vector (Dev.ring_setRing_same ..)
    · rw [Dev.rd_bump_other _ _ _ (by grind), Dev.rd_wr_same]
      exact Nat.mod_eq_of_lt (by omega)
    · rw [Dev.rd_bump_same, Dev.rd_wr_other _ _ _ _ (by grind)]
      rfl
  · exact exec_of_onDie_keeps (f := fun _ => ringCompletion r) rfl (ringCompletion_keeps h)
  · refine ⟨_, gives_of_onDie (f := fun _ => writeEvents 1) rfl hruns, ?_⟩
    beta_reduce
    rw [writeEvents_one hevents hring hroom]
    have h := Dev.writeRecord_recorded { s.dev with rings := { s.dev.rings with events := rest } } r e true
    obtain ⟨hlo, hhi⟩ := eventRing_bounds hring
    exact ⟨h.events, hlo, hhi, h.irqNow.trans (Bool.or_true _), h.overflow, h.done, h.prod.trans (s.dev.recordIndex_add r)⟩
  · exact exec_of_onDie_keeps (f := fun _ => writeEvents 1) rfl (writeEvents_keeps 1 h)
  · have hdue' : (s.dev.ring r).irqDue timer := ⟨hlimit, by simpa using hdue⟩
    refine ⟨_, gives_of_onDie (f := ringIrq r timer) rfl hruns, ?_⟩
    rw [ringIrq_of_due hdue']
    obtain ⟨o, ho⟩ := headRecord_emits s.bell (s.dev.setRing r (s.dev.ring r).irqDone) r (s.dev.rd (M.RING_STATE r) == 0)
    rw [ho]
    have hring : (s.dev.setRing r (s.dev.ring r).irqDone).ring r = (s.dev.ring r).irqDone := Dev.ring_setRing_same ..
    by_cases hmask : (s.dev.ring r).vector ∈ s.dev.rings.unmasked
    · rw [signal_of_unmasked (d := (s.dev.setRing r (s.dev.ring r).irqDone).emits o) hmask]
      refine ⟨congrArg Ring.irqCount hring, congrArg Ring.irqNow hring, congrArg Ring.irqTimer hring, fun _ => ⟨o, rfl, ?_⟩,
        fun hno => absurd hmask hno⟩
      exact Dev.rd_bump_same ..
    · obtain ⟨ps, hps, hin, hnew⟩ := signal_of_masked (d := (s.dev.setRing r (s.dev.ring r).irqDone).emits o) (r := r) hmask
      rw [hps]
      exact ⟨congrArg Ring.irqCount hring, congrArg Ring.irqNow hring, congrArg Ring.irqTimer hring, fun hyes => absurd hyes hmask,
        fun _ => ⟨hin, rfl, hnew⟩⟩
  · refine exec_of_onDie_keeps (f := ringIrq r timer) rfl (ringIrq_keeps fun ⟨hlimit, hdue⟩ => ?_)
    rcases h with h | ⟨hnow, hcount, htimer⟩
    · exact hlimit h
    · rcases htimer with htimer | htimer <;> simp [hnow, hcount, htimer] at hdue

end Sys2Proof

/-! Enable, disable and fault of descriptor rings. -/

namespace Sys2Proof.Machine

variable {d e : Dev} {now : BellSt} {r : Nat}

/-! ## Enable (R476) -/

theorem ringEnableWrite_of_ok (h : d.ringEnableStatus r = St.OK) : ringEnableWrite r 1 d = (St.OK,
    (((d.wr (M.RING_STATUS r) St.OK).wr (M.RING_STATE r) 1).wr (M.RING_ENABLE r) 1).setRing r { d.ring r with
      entries := [], fetch := d.rd (M.RING_CONS r), pushes := [], faulting := false, waiting := none }) := by
  have hcons : (((d.wr (M.RING_STATUS r) St.OK).wr (M.RING_STATE r) 1).wr (M.RING_ENABLE r) 1).rd (M.RING_CONS r) = d.rd (M.RING_CONS r) := by
    rw [Dev.rd_wr_other _ _ _ _ (by grind), Dev.rd_wr_other _ _ _ _ (by grind), Dev.rd_wr_other _ _ _ _ (by grind)]
  rw [← hcons]
  unfold ringEnableWrite
  dsimp only
  rw [if_pos rfl, if_neg (not_not.mpr h)]
  rfl

theorem ringEnableWrite_of_bad (h : d.ringEnableStatus r ≠ St.OK) :
    ringEnableWrite r 1 d = (St.OK, d.wr (M.RING_STATUS r) (d.ringEnableStatus r)) := by
  unfold ringEnableWrite
  dsimp only
  rw [if_pos rfl, if_pos h]

theorem Dev.ringEnableStatus_of_ok (h : d.ringEnableStatus r = St.OK) : d.rd (M.RING_STATE r) = 0 ∧ 64 ≤ d.rd (M.RING_SIZE r) ∧
    d.rd (M.RING_SIZE r) ≤ 32768 ∧ (∃ n, d.rd (M.RING_SIZE r) = 2 ^ n) ∧ d.rd (M.RING_BASE r) % 4096 = 0 ∧ d.rd (M.RING_HEAD_ADDR r) % 8 = 0 := by
  unfold Dev.ringEnableStatus at h
  dsimp only at h
  split at h
  · cases h
  split at h
  · cases h
  rename_i hstate hplace
  push Not at hstate hplace
  obtain ⟨hmin, hmax, hpower, hbase, hhead⟩ := hplace
  exact ⟨hstate, hmin, hmax, ⟨_, hpower⟩, hbase, hhead⟩

/-! ## Disable (R474) -/

/-- What a disable keeps: the entries from the head up that are finished, or that have started on a ring that does not receive. -/
def Ring.kept (x : Ring) (r : Nat) : List REntry := x.entries.takeWhile (fun e => e.fin.isSome || (e.started && !rxRing r))

theorem Ring.kept_prefix (x : Ring) (r : Nat) : ∃ rest, x.entries = x.kept r ++ rest := by
  obtain ⟨rest, hrest⟩ := List.takeWhile_prefix (l := x.entries) (fun e => e.fin.isSome || (e.started && !rxRing r))
  exact ⟨rest, hrest.symm⟩

theorem Ring.kept_started {x : Ring} {y : REntry} (h : y ∈ x.kept r) : y.fin.isSome = true ∨ (y.started = true ∧ 120 ≤ r) := by
  have hy := List.mem_takeWhile_imp h
  simpa [rxRing] using hy

/-- The entries and pushes that a disable discards. -/
def Ring.discarded (x : Ring) (r : Nat) : Nat := x.entries.length - (x.kept r).length + x.pushes.length

theorem Ring.discarded_add (x : Ring) (r : Nat) : x.discarded r + (x.kept r).length = x.entries.length + x.pushes.length := by
  obtain ⟨rest, hrest⟩ := x.kept_prefix r
  have hlen := congrArg List.length hrest
  rw [List.length_append] at hlen
  unfold Ring.discarded
  omega

theorem discardEntries_eq (d : Dev) (r : Nat) : discardEntries d r =
    (d.setRing r { d.ring r with entries := (d.ring r).kept r, pushes := [], waiting := none }).addTo (M.CNT_RING_DISCARDED r) ((d.ring r).discarded r) := rfl

theorem Dev.ring_setRing_addTo (d : Dev) (r : Nat) (x : Ring) (id n : Nat) : ((d.setRing r x).addTo id n).ring r = x := d.ring_setRing_same r x

theorem discardEntries_ring (d : Dev) (r : Nat) :
    (discardEntries d r).ring r = { d.ring r with entries := (d.ring r).kept r, pushes := [], waiting := none } := Dev.ring_setRing_addTo ..

theorem ringEnableWrite_of_disable (h : d.rd (M.RING_STATE r) = 1) :
    ringEnableWrite r 0 d = (St.OK, (discardEntries (d.wr (M.RING_ENABLE r) 0) r).wr (M.RING_STATE r) 2) := by
  unfold ringEnableWrite
  dsimp only
  rw [if_neg (by decide), if_pos h]

theorem ringEnableWrite_of_fault (h : d.rd (M.RING_STATE r) = 3) :
    ringEnableWrite r 0 d = (St.OK, (d.wr (M.RING_ENABLE r) 0).wr (M.RING_STATE r) 0) := by
  unfold ringEnableWrite
  dsimp only
  rw [if_neg (by decide), if_neg (by omega), if_pos h]

/-! ## The end of a disable, and faults (R474, R475) -/

theorem Dev.raise_ring (d : Dev) (now : BellSt) (code object detail k : Nat) : (d.raise now code object detail).ring k = d.ring k := by
  have hrings : (d.raise now code object detail).rings.rings = d.rings.rings := by
    unfold Dev.raise Dev.queueEvent
    dsimp only
    split <;> rfl
  unfold Dev.ring
  rw [hrings]

theorem ringDisableComplete_keeps (h : d.rd (M.RING_STATE r) ≠ 2 ∨ (d.ring r).entries ≠ []) : ringDisableComplete r now d = d :=
  if_pos (h.imp_right fun hne => by simpa using hne)

theorem ringDisableComplete_of_drained (hstate : d.rd (M.RING_STATE r) = 2) (hring : (d.ring r).entries = []) :
    ∃ o, ringDisableComplete r now d =
      if (d.ring r).faulting then ((((d.emits o).setRing r { d.ring r with faulting := false }).wr (M.RING_STATE r) 3).wr (M.RING_STATUS r) St.RING_DMA).raise now
        Ev.RING_FAULT (oid 0x58 r) (r + d.rd (M.RING_CONS r) * 2 ^ 32)
      else (d.emits o).wr (M.RING_STATE r) 0 := by
  obtain ⟨o, ho⟩ := headRecord_emits now d r true
  refine ⟨o, ?_⟩
  unfold ringDisableComplete
  dsimp only
  rw [if_neg (by simp [hstate, hring]), ho]
  rfl

/-- A failed access ends the segmentation request that reads its payload, and every entry from its own on. -/
def Dev.faulted (d : Dev) (r : Nat) : Dev :=
  match d.segs.find? (fun s => s.ring == r && decide (s.seq < s.count)) with
  | some s =>
    let x := d.ring r
    let gone := x.entries.dropWhile (fun e => e.index != s.index)
    let d := { d with segs := d.segs.map (fun (q : SegReq) => if q.ring = r ∧ gone.any (fun e => e.index == q.index) = true then q.orphan else q) }
    (d.setRing r { x with entries := x.entries.takeWhile (fun e => e.index != s.index) }).addTo (M.CNT_RING_DISCARDED r) gone.length
  | none => d

theorem Dev.faulted_prefix (d : Dev) (r : Nat) : ∃ rest, (d.ring r).entries = ((d.faulted r).ring r).entries ++ rest := by
  unfold Dev.faulted
  split
  · rename_i s _
    obtain ⟨rest, hrest⟩ := List.takeWhile_prefix (l := (d.ring r).entries) (fun e => e.index != s.index)
    refine ⟨rest, ?_⟩
    dsimp only
    rw [Dev.ring_setRing_addTo, hrest]
  · exact ⟨[], (List.append_nil _).symm⟩

theorem ringDmaFault_keeps (h1 : d.rd (M.RING_STATE r) ≠ 1) (h2 : d.rd (M.RING_STATE r) ≠ 2) : ringDmaFault r d = d := if_pos ⟨h1, h2⟩

theorem ringDmaFault_of_open (h : d.rd (M.RING_STATE r) = 1 ∨ d.rd (M.RING_STATE r) = 2) : ringDmaFault r d =
    ((discardEntries (d.faulted r) r).wr (M.RING_STATE r) 2).setRing r { (discardEntries (d.faulted r) r).ring r with faulting := true } :=
  if_neg (by omega)

end Sys2Proof.Machine

namespace Sys2Proof

open Sys2Proof.Machine

/-- Settles O54, clause by clause. -/
theorem ringsEnableDisableFault : Obligations.RingsEnableDisableFault := by
  refine ⟨fun r a s hr h hval hok => ?_, fun r a s hr h hval hbad => ?_, fun d r h => Dev.ringEnableStatus_of_ok h, fun r a s hr h hval hstate => ?_,
    fun r a s hr h hval hstate => ?_, fun r s hruns hr hstate hring => ?_, fun r s h => ?_, fun r s hruns hr h => ?_, fun r s h1 h2 => ?_⟩
  · have hgives : Gives (.ringEnable r a) s s.bell _ := gives_of_accept_ok (f := fun _ => ringEnableWrite r) rfl h
      (by rw [hval]; exact ringEnableWrite_of_ok hok)
    refine ⟨_, hgives, ?_⟩
    beta_reduce
    rw [Dev.ring_setRing_same, Dev.rd_setRing, Dev.rd_setRing, Dev.rd_setRing]
    refine ⟨?_, ?_, Dev.rd_wr_same .., rfl, rfl, rfl⟩
    · rw [Dev.rd_wr_other _ _ _ _ (by grind), Dev.rd_wr_same]
      rfl
    · rw [Dev.rd_wr_other _ _ _ _ (by grind), Dev.rd_wr_other _ _ _ _ (by grind), Dev.rd_wr_same]
      rfl
  · exact gives_of_accept_ok (f := fun _ => ringEnableWrite r) rfl h (by rw [hval]; exact ringEnableWrite_of_bad hbad)
  · have hgives : Gives (.ringDisable r a) s s.bell _ := gives_of_accept_ok (f := fun _ => ringEnableWrite r) rfl h
      (by rw [hval]; exact ringEnableWrite_of_disable hstate)
    refine ⟨_, hgives, Dev.rd_wr_same .., ?_, ?_⟩
    · rw [Dev.rd_wr_other _ _ _ _ (by grind), discardEntries_eq, Dev.rd_addTo_other _ _ _ _ (by grind), Dev.rd_setRing, Dev.rd_wr_same]
      rfl
    · have hring : (((discardEntries (s.dev.wr (M.RING_ENABLE r) 0) r).wr (M.RING_STATE r) 2).ring r) =
          { s.dev.ring r with entries := (s.dev.ring r).kept r, pushes := [], waiting := none } := discardEntries_ring ..
      rw [hring]
      refine ⟨rfl, (s.dev.ring r).discarded r, ?_, (s.dev.ring r).discarded_add r, (s.dev.ring r).kept_prefix r, fun e he => Ring.kept_started he⟩
      rw [Dev.rd_wr_other _ _ _ _ (by grind), discardEntries_eq, Dev.rd_addTo_same, Dev.rd_setRing, Dev.rd_wr_other _ _ _ _ (by grind)]
      rfl
  · have hgives : Gives (.ringDisable r a) s s.bell _ := gives_of_accept_ok (f := fun _ => ringEnableWrite r) rfl h
      (by rw [hval]; exact ringEnableWrite_of_fault hstate)
    refine ⟨_, hgives, Dev.rd_wr_same .., ?_⟩
    rw [Dev.rd_wr_other _ _ _ _ (by grind), Dev.rd_wr_same]
    rfl
  · refine ⟨_, gives_of_onDie (f := ringDisableComplete r) rfl hruns, ?_⟩
    beta_reduce
    obtain ⟨o, ho⟩ := ringDisableComplete_of_drained (now := s.bell) hstate hring
    rw [ho]
    by_cases hfault : (s.dev.ring r).faulting = true
    · rw [if_pos hfault, if_pos hfault]
      refine ⟨?_, ?_, ?_⟩
      · rw [Dev.raise_rd _ _ _ _ _ _ (by grind), Dev.rd_wr_other _ _ _ _ (by grind), Dev.rd_wr_same]
        rfl
      · rw [Dev.raise_rd _ _ _ _ _ _ (by grind), Dev.rd_wr_same]
        rfl
      · rw [Dev.raise_ring]
        exact congrArg Ring.faulting (Dev.ring_setRing_same ..)
    · rw [if_neg hfault, if_neg hfault]
      exact ⟨Dev.rd_wr_same .., Dev.rd_wr_other _ _ _ _ (by grind)⟩
  · exact exec_of_onDie_keeps (f := ringDisableComplete r) rfl (ringDisableComplete_keeps h)
  · refine ⟨_, gives_of_onDie (f := fun _ => ringDmaFault r) rfl hruns, ?_⟩
    beta_reduce
    rw [ringDmaFault_of_open h, Dev.ring_setRing_same, discardEntries_ring]
    obtain ⟨rest, hrest⟩ := s.dev.faulted_prefix r
    obtain ⟨tail, htail⟩ := ((s.dev.faulted r).ring r).kept_prefix r
    refine ⟨Dev.rd_wr_same .., rfl, rfl, tail ++ rest, ?_⟩
    rw [hrest, htail, List.append_assoc]
  · exact exec_of_onDie_keeps (f := fun _ => ringDmaFault r) rfl (ringDmaFault_keeps h1 h2)

end Sys2Proof

/-! The check-value unit: the start of a job, its scan and its end. -/

namespace Sys2Proof.Machine

variable {d : Dev} {now : BellSt} {c n : Nat}

/-! ## The state of a context -/

@[simp] theorem Dev.chkState_setChk (d : Dev) (c n : Nat) : (d.setChk c n).chkState c = n := SMap.get_set_same ..

theorem Dev.chkState_bumpIf (d : Dev) (b : Bool) (id c : Nat) : (d.bumpIf b id).chkState c = d.chkState c := by
  cases b <;> rfl

theorem Dev.rd_setChk (d : Dev) (c n k : Nat) : (d.setChk c n).rd k = d.rd k := rfl

/-- `e` has the settings of context `c` of `d`. -/
structure SameChkSettings (c : Nat) (d e : Dev) : Prop where
  width : e.rd (M.CHK_WIDTH c) = d.rd (M.CHK_WIDTH c)
  flags : e.rd (M.CHK_FLAGS c) = d.rd (M.CHK_FLAGS c)
  compare : e.rd (M.CHK_COMPARE c) = d.rd (M.CHK_COMPARE c)
  expect : e.rd (M.CHK_EXPECT c) = d.rd (M.CHK_EXPECT c)

theorem SameChkSettings.chkOut {d e : Dev} (h : SameChkSettings c d e) (reg : Nat) : chkOut e c reg = chkOut d c reg := by
  unfold Machine.chkOut
  rw [h.width, h.flags]

theorem SameChkSettings.on_compare {d e : Dev} (h : SameChkSettings c d e) : e.on (M.CHK_COMPARE c) = d.on (M.CHK_COMPARE c) := by
  unfold Dev.on
  rw [h.compare]

/-! ## The end of a job (R485, R493, R494) -/

/-- A job of context `c` of `d` has ended with a status. -/
structure ChkEnded (d : Dev) (c st : Nat) (e : Dev) : Prop where
  idle : e.chkState c = 0
  status : e.rd (M.CHK_STATUS c) = st % 2 ^ 64
  jobs : e.rd (M.CNT_CHK_JOBS c) = (d.rd (M.CNT_CHK_JOBS c) + 1) % 2 ^ 64
  running : e.rd (M.CHK_RUNNING c) = d.rd (M.CHK_RUNNING c)
  result : e.rd (M.CHK_RESULT c) = d.rd (M.CHK_RESULT c)
  doneBytes : e.rd (M.CHK_DONE_BYTES c) = d.rd (M.CHK_DONE_BYTES c)

theorem chkEnd_ended (d : Dev) (c st : Nat) : ChkEnded d c st (chkEnd d c st) := by
  unfold chkEnd
  constructor
  · exact Dev.chkState_setChk ..
  · rw [Dev.rd_setChk, Dev.rd_bump_other _ _ _ (by grind), Dev.rd_wr_same]
  · rw [Dev.rd_setChk, Dev.rd_bump_same, Dev.rd_wr_other _ _ _ _ (by grind)]
  · rw [Dev.rd_setChk, Dev.rd_bump_other _ _ _ (by grind), Dev.rd_wr_other _ _ _ _ (by grind)]
  · rw [Dev.rd_setChk, Dev.rd_bump_other _ _ _ (by grind), Dev.rd_wr_other _ _ _ _ (by grind)]
  · rw [Dev.rd_setChk, Dev.rd_bump_other _ _ _ (by grind), Dev.rd_wr_other _ _ _ _ (by grind)]

/-- The status of a job that fed all its bytes, from its REG. -/
def chkJudged (d : Dev) (c reg : Nat) : Nat :=
  if d.on (M.CHK_COMPARE c) = true ∧ chkOut d c reg ≠ d.rd (M.CHK_EXPECT c) then St.CHK_MISMATCH else St.OK

theorem chkJudged_lt (d : Dev) (c reg : Nat) : chkJudged d c reg % 2 ^ 64 = chkJudged d c reg := by
  unfold chkJudged
  split <;> decide

theorem chkFinish_eq (d : Dev) (c : Nat) : ∃ miss : Bool, chkFinish d c =
    (chkEnd (d.wr (M.CHK_RESULT c) (chkOut d c (d.rd (M.CHK_RUNNING c)))) c (chkJudged d c (d.rd (M.CHK_RUNNING c)))).bumpIf miss (M.CNT_CHK_MISMATCH c) := by
  have hon : (d.wr (M.CHK_RESULT c) (chkOut d c (d.rd (M.CHK_RUNNING c)))).on (M.CHK_COMPARE c) = d.on (M.CHK_COMPARE c) := by
    unfold Dev.on
    rw [Dev.rd_wr_other _ _ _ _ (by grind)]
  refine ⟨d.on (M.CHK_COMPARE c) && chkOut d c (d.rd (M.CHK_RUNNING c)) != d.rd (M.CHK_EXPECT c), ?_⟩
  unfold chkFinish chkJudged
  dsimp only
  rw [hon, Dev.rd_wr_other _ _ _ _ (by grind)]
  simp only [Bool.and_eq_true, bne_iff_ne]

theorem chkFinish_ended (d : Dev) (c : Nat) : (chkFinish d c).chkState c = 0 ∧ (chkFinish d c).rd (M.CHK_RUNNING c) = d.rd (M.CHK_RUNNING c) ∧
    (chkFinish d c).rd (M.CHK_RESULT c) = chkOut d c (d.rd (M.CHK_RUNNING c)) % 2 ^ 64 ∧
    (chkFinish d c).rd (M.CHK_DONE_BYTES c) = d.rd (M.CHK_DONE_BYTES c) ∧
    (chkFinish d c).rd (M.CHK_STATUS c) = chkJudged d c (d.rd (M.CHK_RUNNING c)) := by
  obtain ⟨miss, heq⟩ := chkFinish_eq d c
  have h := chkEnd_ended (d.wr (M.CHK_RESULT c) (chkOut d c (d.rd (M.CHK_RUNNING c)))) c (chkJudged d c (d.rd (M.CHK_RUNNING c)))
  rw [heq]
  refine ⟨?_, ?_, ?_, ?_, ?_⟩
  · rw [Dev.chkState_bumpIf, h.idle]
  · rw [Dev.rd_bumpIf_other _ _ _ (by grind), h.running, Dev.rd_wr_other _ _ _ _ (by grind)]
  · rw [Dev.rd_bumpIf_other _ _ _ (by grind), h.result, Dev.rd_wr_same]
  · rw [Dev.rd_bumpIf_other _ _ _ (by grind), h.doneBytes, Dev.rd_wr_other _ _ _ _ (by grind)]
  · rw [Dev.rd_bumpIf_other _ _ _ (by grind), h.status, chkJudged_lt]

/-! ## The start of a job (R487, R489, R491) -/

/-- Where a starting job takes REG from (R491). -/
def chkInitial (fresh : Bool) (c : Nat) : Nat := if fresh then M.CHK_INIT c else M.CHK_RUNNING c

theorem chkStart_of_ok (fresh : Bool) (v : Nat) (hidle : d.chkState c = 0) (hset : chkSettingsOk d c = true)
    (hspace : d.rd (M.CHK_START_ADDR c) + d.rd (M.CHK_LENGTH c) ≤ chkSpaceSize d c) (hlen : d.rd (M.CHK_LENGTH c) ≠ 0) :
    chkStart fresh c v d = (St.OK, (((d.wr (M.CHK_RUNNING c) (d.rd (chkInitial fresh c) % 2 ^ d.rd (M.CHK_WIDTH c))).wr (M.CHK_DONE_BYTES c) 0).wr
      (M.CHK_STATUS c) St.PENDING).setChk c 1) := by
  unfold chkStart
  rw [if_neg (by simp [hidle]), if_neg (by simp [hset]), if_neg (by omega)]
  dsimp only
  rw [Dev.rd_wr_other _ _ _ _ (by grind), Dev.rd_wr_other _ _ _ _ (by grind), Dev.rd_wr_other _ _ _ _ (by grind), if_neg hlen]
  rfl

theorem chkStart_of_bad (fresh : Bool) (v : Nat) (hidle : d.chkState c = 0)
    (hbad : chkSettingsOk d c = false ∨ chkSpaceSize d c < d.rd (M.CHK_START_ADDR c) + d.rd (M.CHK_LENGTH c)) :
    chkStart fresh c v d = (St.OK, chkEnd d c St.RANGE) := by
  unfold chkStart
  rw [if_neg (by simp [hidle])]
  rcases hbad with hset | hspace
  · rw [if_pos hset]
  · rw [if_pos hspace, ite_self]

theorem chkStart_of_busy (fresh : Bool) (v : Nat) (h : d.chkState c ≠ 0) : chkStart fresh c v d = (St.BUSY, d) := if_pos h

theorem chkStarted (fresh : Bool) (d : Dev) (c : Nat) :
    let e := (((d.wr (M.CHK_RUNNING c) (d.rd (chkInitial fresh c) % 2 ^ d.rd (M.CHK_WIDTH c))).wr (M.CHK_DONE_BYTES c) 0).wr
      (M.CHK_STATUS c) St.PENDING).setChk c 1
    e.chkState c = 1 ∧ e.rd (M.CHK_RUNNING c) = d.rd (chkInitial fresh c) % 2 ^ d.rd (M.CHK_WIDTH c) ∧ e.rd (M.CHK_DONE_BYTES c) = 0 ∧
      e.rd (M.CHK_STATUS c) = St.PENDING := by
  have hlt : d.rd (chkInitial fresh c) % 2 ^ d.rd (M.CHK_WIDTH c) < 2 ^ 64 := (Nat.mod_le ..).trans_lt (d.rd_lt _)
  refine ⟨Dev.chkState_setChk .., ?_, ?_, ?_⟩
  · rw [Dev.rd_setChk, Dev.rd_wr_other _ _ _ _ (by grind), Dev.rd_wr_other _ _ _ _ (by grind), Dev.rd_wr_same, Nat.mod_eq_of_lt hlt]
  · rw [Dev.rd_setChk, Dev.rd_wr_other _ _ _ _ (by grind), Dev.rd_wr_same]
    rfl
  · rw [Dev.rd_setChk, Dev.rd_wr_same]
    rfl

theorem init_lt_of_settingsOk (h : chkSettingsOk d c = true) : d.rd (M.CHK_INIT c) % 2 ^ d.rd (M.CHK_WIDTH c) = d.rd (M.CHK_INIT c) := by
  refine Nat.mod_eq_of_lt ?_
  simp only [chkSettingsOk, Bool.and_eq_true, decide_eq_true_eq] at h
  tauto

theorem chkAbort_eq (v : Nat) : chkAbort c v d = (St.OK, if d.chkState c = 1 then d.setChk c 2 else d) := by
  unfold chkAbort
  split <;> rfl

/-! ## The scan (R486, R491, R492) -/

theorem chkFed_le (d : Dev) (c n : Nat) : chkFed d c n ≤ d.rd (M.CHK_LENGTH c) := by
  unfold chkFed
  dsimp only
  split
  · exact le_rfl
  · omega

/-- A job that stops has fed whole units only. -/
theorem chkFed_whole (hlt : chkFed d c n < d.rd (M.CHK_LENGTH c)) (hne : chkFed d c n ≠ 0) :
    (d.rd (M.CHK_START_ADDR c) + chkFed d c n) % 64 = 0 := by
  unfold chkFed at hlt hne ⊢
  dsimp only at hlt hne ⊢
  by_cases hn : d.rd (M.CHK_LENGTH c) ≤ n
  · rw [if_pos hn] at hlt
    omega
  · rw [if_neg hn] at hne ⊢
    omega

theorem chkFed_mod (d : Dev) (c n : Nat) : chkFed d c n % 2 ^ 64 = chkFed d c n :=
  Nat.mod_eq_of_lt ((chkFed_le d c n).trans_lt (d.rd_lt _))

/-- REG after the first `n` bytes of a job's range. -/
def chkReg (d : Dev) (c n : Nat) : Nat :=
  chkFeed d c (d.rd (M.CHK_RUNNING c)) ((List.range n).map (fun i => chkByte d c (d.rd (M.CHK_START_ADDR c) + i)))

theorem chkScan_reg (d : Dev) (c n : Nat) : (chkScan d c n).reg = ((d.wr (M.CHK_RUNNING c) (chkReg d c n)).wr (M.CHK_DONE_BYTES c) n).reg := by
  unfold chkScan
  dsimp only
  split <;> rfl

theorem chkScan_rd_running (d : Dev) (c n : Nat) : (chkScan d c n).rd (M.CHK_RUNNING c) = chkReg d c n % 2 ^ 64 := by
  rw [Dev.rd_of_reg (chkScan_reg d c n), Dev.rd_wr_other _ _ _ _ (by grind), Dev.rd_wr_same]

theorem chkScan_rd_done (d : Dev) (c n : Nat) : (chkScan d c n).rd (M.CHK_DONE_BYTES c) = n % 2 ^ 64 := by
  rw [Dev.rd_of_reg (chkScan_reg d c n), Dev.rd_wr_same]

theorem chkScan_settings (d : Dev) (c n : Nat) : SameChkSettings c d (chkScan d c n) := by
  constructor <;> rw [Dev.rd_of_reg (chkScan_reg d c n), Dev.rd_wr_other _ _ _ _ (by grind), Dev.rd_wr_other _ _ _ _ (by grind)]

theorem SameChkSettings.chkJudged {d e : Dev} (h : SameChkSettings c d e) (reg : Nat) : chkJudged e c reg = chkJudged d c reg := by
  unfold Machine.chkJudged
  rw [h.on_compare, h.chkOut, h.expect]

/-! ## The end of a scan (R490, R492, R493) -/

theorem chkRequest_frame (now : BellSt) (d : Dev) (c n : Nat) (bad : Bool) : (chkRequest now d c n bad).reg = d.reg ∧ (chkRequest now d c n bad).chk = d.chk := by
  unfold chkRequest
  dsimp only
  split
  · exact ⟨rfl, rfl⟩
  · obtain ⟨channels, h⟩ := Dev.unitAccess_channels (Dev.stamp now d).2 4 false (Dev.stamp now d).1 _
    rw [h]
    exact ⟨rfl, rfl⟩

theorem chkJobComplete_of_done (h : d.chkState c = 1) : chkJobComplete c .done now d =
    chkRequest now (chkFinish (chkScan d c (d.rd (M.CHK_LENGTH c))) c) c (d.rd (M.CHK_LENGTH c)) false :=
  (if_neg (by omega)).trans (if_neg (by omega))

theorem chkJobComplete_of_aborted (h : d.chkState c = 2) (n : Nat) : chkJobComplete c (.aborted n) now d =
    chkRequest now (chkEnd (chkScan d c (chkFed d c n)) c St.CHK_ABORTED) c (chkFed d c n) false :=
  (if_neg (by omega)).trans (if_pos h)

theorem chkJobComplete_of_uncorrectable (h : d.chkState c ≠ 0) (n : Nat) : chkJobComplete c (.uncorrectable n) now d =
    chkRequest now (chkEnd (chkScan d c (chkFed d c n)) c St.UNCORRECTABLE) c (min (d.rd (M.CHK_LENGTH c)) (chkFed d c n + 64)) true :=
  if_neg h

/-- A job that stops early ends with its status, and has fed what it fed. -/
theorem chkStopped (now : BellSt) (d : Dev) (c n m st : Nat) (bad : Bool) :
    let e := chkRequest now (chkEnd (chkScan d c (chkFed d c n)) c st) c m bad
    e.chkState c = 0 ∧ e.rd (M.CHK_STATUS c) = st % 2 ^ 64 ∧ e.rd (M.CHK_DONE_BYTES c) = chkFed d c n := by
  intro e
  obtain ⟨hreg, hchk⟩ := chkRequest_frame now (chkEnd (chkScan d c (chkFed d c n)) c st) c m bad
  have h := chkEnd_ended (chkScan d c (chkFed d c n)) c st
  refine ⟨?_, ?_, ?_⟩
  · rw [← h.idle]
    exact congrArg (fun x => SMap.get zeroAt x c) hchk
  · rw [Dev.rd_of_reg hreg, h.status]
  · rw [Dev.rd_of_reg hreg, h.doneBytes, chkScan_rd_done, chkFed_mod]

end Sys2Proof.Machine

namespace Sys2Proof

open Sys2Proof.Machine

/-- Settles O56, clause by clause. -/
theorem checkJobsRunToTheirResult : Obligations.CheckJobsRunToTheirResult := by
  refine ⟨fun c a s hc h hidle hset hspace hlen => ?_, fun c a s hc h hidle hset hspace hlen => ?_, fun c a s hc h hidle hbad => ?_,
    fun c a s h hbusy => ?_, fun c a s h => ?_, fun c s hruns hc hstate => ?_, fun c n s hruns hc hstate => ?_, fun c n s hruns hc hstate => ?_,
    fun d c n => ⟨chkFed_le d c n, fun hlt hne => chkFed_whole hlt hne⟩⟩
  · have hgives : Gives (.chkRun c a) s s.bell _ := gives_of_trigger_ok (f := fun _ => chkStart true c) rfl h (chkStart_of_ok true _ hidle hset hspace hlen)
    obtain ⟨hrun, hreg, hdone, hstatus⟩ := chkStarted true s.dev c
    exact ⟨_, hgives, hrun, hreg.trans (init_lt_of_settingsOk hset), hdone, hstatus⟩
  · have hgives : Gives (.chkContinue c a) s s.bell _ :=
      gives_of_trigger_ok (f := fun _ => chkStart false c) rfl h (chkStart_of_ok false _ hidle hset hspace hlen)
    exact ⟨_, hgives, chkStarted false s.dev c⟩
  · have hgives : Gives (.chkRun c a) s s.bell _ := gives_of_trigger_ok (f := fun _ => chkStart true c) rfl h (chkStart_of_bad true _ hidle hbad)
    have hend := chkEnd_ended s.dev c St.RANGE
    exact ⟨_, hgives, hend.idle, hend.status, hend.jobs, hend.running⟩
  · exact gives_of_trigger (f := fun _ => chkStart true c) rfl h (chkStart_of_busy true _ hbusy)
  · exact gives_of_trigger_ok (f := fun _ => chkAbort c) rfl h (chkAbort_eq _)
  · intro reg
    have hreg : reg = chkReg s.dev c (s.dev.rd (M.CHK_LENGTH c)) % 2 ^ 64 := rfl
    clear_value reg
    refine ⟨_, gives_of_onDie (f := chkJobComplete c .done) rfl hruns, ?_⟩
    rw [chkJobComplete_of_done hstate]
    obtain ⟨hframe, hchk⟩ := chkRequest_frame s.bell (chkFinish (chkScan s.dev c (s.dev.rd (M.CHK_LENGTH c))) c) c (s.dev.rd (M.CHK_LENGTH c)) false
    obtain ⟨hidle, hrunning, hresult, hdone, hstatus⟩ := chkFinish_ended (chkScan s.dev c (s.dev.rd (M.CHK_LENGTH c))) c
    have hset := chkScan_settings s.dev c (s.dev.rd (M.CHK_LENGTH c))
    rw [chkScan_rd_running, ← hreg] at hrunning hresult hstatus
    refine ⟨(congrArg (fun x => SMap.get zeroAt x c) hchk).trans hidle, ?_, ?_, ?_, ?_⟩
    · rw [Dev.rd_of_reg hframe, hrunning]
    · rw [Dev.rd_of_reg hframe, hresult, hset.chkOut]
    · rw [Dev.rd_of_reg hframe, hdone, chkScan_rd_done, Nat.mod_eq_of_lt (s.dev.rd_lt _)]
    · rw [Dev.rd_of_reg hframe, hstatus, hset.chkJudged]
      rfl
  · refine ⟨_, gives_of_onDie (f := chkJobComplete c (.aborted n)) rfl hruns, ?_⟩
    rw [chkJobComplete_of_aborted hstate]
    exact chkStopped ..
  · refine ⟨_, gives_of_onDie (f := chkJobComplete c (.uncorrectable n)) rfl hruns, ?_⟩
    rw [chkJobComplete_of_uncorrectable hstate]
    exact chkStopped ..

end Sys2Proof

/-! Buddy pairs: joining, takeover and hand-back. -/

namespace Sys2Proof.Machine

variable {d d0 : Dev} {now : BellSt} {f p : Bytes}

theorem beVal_lt (bs : Bytes) : beVal bs < 256 ^ bs.length := by
  rw [beVal_eq_leVal_reverse, ← List.length_reverse]
  exact leVal_lt bs.reverse

theorem beAt_four_lt (bs : Bytes) (off : Nat) : beAt bs off 4 < 2 ^ 32 := by
  have h := beVal_lt (slice bs off 4)
  rw [length_slice] at h
  exact h

/-! ## Joining (R517, R518) -/

/-- A member that no check of a HELLO reads. -/
theorem helloCheck_wr (now : BellSt) (d : Dev) (p : Bytes) (v : Nat) : helloCheck now (d.wr M.BUDDY_PEER_PERIOD v) p = helloCheck now d p := by
  unfold helloCheck Dev.palette
  rw [Dev.rd_wr_other _ _ _ _ (by decide), Dev.rd_wr_other _ _ _ _ (by decide)]
  rfl

theorem helloCheck_lt (now : BellSt) (d : Dev) (p : Bytes) : helloCheck now d p < 2 ^ 64 := by
  unfold helloCheck
  split_ifs <;> decide

theorem buddyHelloRx_of_none (h : takeWalger d 1 = none) : buddyHelloRx now d = d := by
  unfold buddyHelloRx
  rw [h]

theorem buddyHelloRx_of_joined (h : takeWalger d 1 = some (f, d0)) (hjoining : d0.buddy.mode ≠ .joining) (halone : d0.buddy.mode ≠ .alone) :
    buddyHelloRx now d = d0 := by
  unfold buddyHelloRx
  rw [h]
  exact if_pos ⟨hjoining, halone⟩

theorem buddyHelloRx_of_refused (h : takeWalger d 1 = some (f, d0)) (hmode : d0.buddy.mode = .joining ∨ d0.buddy.mode = .alone)
    (hbad : helloCheck now d0 (walgerPayload f) ≠ St.OK) : buddyHelloRx now d =
      (d0.wr M.BUDDY_PEER_PERIOD (beAt (walgerPayload f) 16 4)).wr M.BUDDY_REFUSE_REASON (helloCheck now d0 (walgerPayload f)) := by
  unfold buddyHelloRx
  rw [h]
  dsimp only
  rw [if_neg (by tauto), helloCheck_wr, if_pos hbad]

theorem buddyHelloRx_of_passed (h : takeWalger d 1 = some (f, d0)) (hmode : d0.buddy.mode = .joining ∨ d0.buddy.mode = .alone)
    (hok : helloCheck now d0 (walgerPayload f) = St.OK) : ∃ returning, buddyHelloRx now d =
      { (d0.wr M.BUDDY_PEER_PERIOD (beAt (walgerPayload f) 16 4)).wr M.BUDDY_VERSION (min 2 (byteAt (walgerPayload f) 1)) with
        buddy := { d0.buddy with joinDue := some returning } } := by
  unfold buddyHelloRx
  rw [h]
  dsimp only
  rw [if_neg (by tauto), helloCheck_wr, if_neg (not_not.mpr hok)]
  exact ⟨_, rfl⟩

/-! ## Takeover (R530) -/

theorem releaseCreated_of_empty (h : d.descs = []) : releaseCreated now d = d := by
  unfold releaseCreated
  dsimp only
  rw [h]
  rfl

theorem relayLost_of_none (h : d.buddy.relayPart = none) : relayLost now d = d := by
  unfold relayLost
  rw [h]

/-- A device that enters ALONE. -/
def takenOver (now : BellSt) (d : Dev) : Dev :=
  ({ d with buddy := { Buddy.init with mode := .alone, rx := d.buddy.rx, lostRaised := d.buddy.lostRaised } }.wr M.BUDDY_TAKEOVER_PERIOD
    now.period.toNat).bump M.CNT_BUDDY_TAKEOVER

theorem buddyTakeover_of_due (hdue : d.buddy.takeoverDue = true) (hrelay : d.buddy.relayPart = none) (hawaiting : d.buddy.awaiting = [])
    (hdescs : d.descs = []) : buddyTakeover now d = (takenOver now d).raise now Ev.BUDDY_TAKEOVER (oid 0x70 0) now.period.toNat := by
  have hempty : ((takenOver now d).raise now Ev.BUDDY_TAKEOVER (oid 0x70 0) now.period.toNat).descs = [] := by
    rw [Dev.raise_frame]
    exact hdescs
  unfold buddyTakeover
  rw [if_neg (by simp [hdue]), relayLost_of_none hrelay]
  dsimp only
  rw [hawaiting]
  exact releaseCreated_of_empty hempty

theorem takenOver_raise_buddy (now : BellSt) (d : Dev) (code object detail : Nat) : ((takenOver now d).raise now code object detail).buddy =
    { Buddy.init with mode := .alone, rx := d.buddy.rx, lostRaised := d.buddy.lostRaised } := by
  rw [Dev.raise_frame]
  rfl

/-! ## Hand-back (R532) -/

theorem buddyHandback_of_syncing (h : d.buddy.mode = .syncing) (v : Nat) :
    buddyHandback v d = (St.OK, { d with buddy := { d.buddy with wantHandback := true } }) := if_pos h

theorem buddyHandback_of_other (h : d.buddy.mode ≠ .syncing) (v : Nat) : buddyHandback v d = (St.NOT_ALLOWED, d) := if_neg h

theorem buddyHandbackRx_of_none (h : takePart now d 6 = (none, d0)) : buddyHandbackRx now d = d0 := by
  unfold buddyHandbackRx
  rw [h]

theorem buddyHandbackRx_of_returning (h : takePart now d 6 = (some (p, f), d0)) (hmode : d0.buddy.mode = .syncing) (hback : d0.buddy.returning = true) :
    buddyHandbackRx now d = { d0 with buddy := { d0.buddy with handback := some (beAt p 0 4) } } := by
  unfold buddyHandbackRx
  rw [h]
  exact if_pos ⟨hmode, hback⟩

end Sys2Proof.Machine

namespace Sys2Proof

open Sys2Proof.Machine

/-- Settles O59, clause by clause. -/
theorem buddiesJoinTakeOverAndHandBack : Obligations.BuddiesJoinTakeOverAndHandBack := by
  refine ⟨fun f d0 s hruns h hmode => ?_, fun f d0 s hruns h hjoining halone => ?_, fun s h => ?_,
    fun s hruns hdue hrelay hawaiting hdescs => ?_, fun s h => ?_, fun a s h hmode => ?_, fun a s h hmode => ?_,
    fun p f d0 s hruns h hmode hback => ?_, fun d0 s hruns h => ?_⟩
  · intro p
    refine ⟨_, gives_of_onDie (f := buddyHelloRx) rfl hruns, ?_⟩
    have hperiod : beAt p 16 4 % 2 ^ 64 = beAt p 16 4 := Nat.mod_eq_of_lt ((beAt_four_lt p 16).trans (by decide))
    by_cases hok : helloCheck s.bell d0 p = St.OK
    · obtain ⟨returning, hrx⟩ := buddyHelloRx_of_passed h hmode hok
      rw [hrx]
      refine ⟨?_, fun hbad => absurd hok hbad, fun _ => ⟨?_, rfl, rfl⟩⟩
      · show ((d0.wr M.BUDDY_PEER_PERIOD (beAt p 16 4)).wr M.BUDDY_VERSION _).rd _ = _
        rw [Dev.rd_wr_other _ _ _ _ (by decide), Dev.rd_wr_same, hperiod]
      · show ((d0.wr M.BUDDY_PEER_PERIOD _).wr M.BUDDY_VERSION (min 2 (byteAt p 1))).rd _ = _
        rw [Dev.rd_wr_same]
        exact Nat.mod_eq_of_lt (by omega)
    · rw [buddyHelloRx_of_refused h hmode hok]
      refine ⟨?_, fun _ => ⟨?_, rfl⟩, fun hyes => absurd hyes hok⟩
      · rw [Dev.rd_wr_other _ _ _ _ (by decide), Dev.rd_wr_same, hperiod]
      · rw [Dev.rd_wr_same, Nat.mod_eq_of_lt (helloCheck_lt ..)]
  · have hgives : Gives .buddyHelloRx s s.bell (buddyHelloRx s.bell s.dev) := gives_of_onDie (f := buddyHelloRx) rfl hruns
    rwa [buddyHelloRx_of_joined h hjoining halone] at hgives
  · exact exec_of_onDie_keeps (f := buddyHelloRx) rfl (buddyHelloRx_of_none h)
  · refine ⟨_, gives_of_onDie (f := buddyTakeover) rfl hruns, ?_⟩
    rw [buddyTakeover_of_due hdue hrelay hawaiting hdescs]
    beta_reduce
    rw [takenOver_raise_buddy]
    refine ⟨rfl, rfl, rfl, rfl, rfl, ?_, ?_⟩
    · rw [Dev.raise_rd _ _ _ _ _ _ (by decide), takenOver, Dev.rd_bump_other _ _ _ (by decide), Dev.rd_wr_same]
      exact Nat.mod_eq_of_lt (s.bell.period.isLt.trans (by decide))
    · rw [Dev.raise_rd _ _ _ _ _ _ (by decide), takenOver, Dev.rd_bump_same, Dev.rd_wr_other _ _ _ _ (by decide)]
      rfl
  · exact exec_of_onDie_keeps (f := buddyTakeover) rfl (if_pos h)
  · exact gives_of_trigger_ok (f := fun _ => buddyHandback) rfl h (buddyHandback_of_syncing hmode _)
  · exact gives_of_trigger (f := fun _ => buddyHandback) rfl h (buddyHandback_of_other hmode _)
  · have hgives : Gives .buddyHandbackRx s s.bell (buddyHandbackRx s.bell s.dev) := gives_of_onDie (f := buddyHandbackRx) rfl hruns
    rwa [buddyHandbackRx_of_returning h hmode hback] at hgives
  · have hgives : Gives .buddyHandbackRx s s.bell (buddyHandbackRx s.bell s.dev) := gives_of_onDie (f := buddyHandbackRx) rfl hruns
    rwa [buddyHandbackRx_of_none h] at hgives

end Sys2Proof

/-! Buddy pairs: batches, requests for records, relayed frames. -/

namespace Sys2Proof.Machine

variable {d d0 e : Dev} {now : BellSt} {f p : Bytes}

/-! ## Entries as they are written and read (R519, R520) -/

theorem byteAt_eq (bs : Bytes) (i : Nat) : byteAt bs i = beAt bs i 1 := by simp [byteAt, beAt, slice, beVal]

/-- What stands in front of an entry's body. -/
def WEntry.head (x : WEntry) : Bytes := toBE 1 x.kind ++ toBE 1 x.flags ++ toBE 2 x.body.length ++ toBE 4 x.slot

theorem WEntry.bytes_eq (x : WEntry) : x.bytes = x.head ++ x.body := rfl

theorem WEntry.length_head (x : WEntry) : x.head.length = 8 := by simp [WEntry.head]

/-- The fields of an entry's head, as a reader finds them. -/
theorem WEntry.head_fields (x : WEntry) (r : Bytes) : byteAt (x.head ++ r) 0 = x.kind % 256 ^ 1 ∧ byteAt (x.head ++ r) 1 = x.flags % 256 ^ 1 ∧
    beAt (x.head ++ r) 2 2 = x.body.length % 256 ^ 2 ∧ beAt (x.head ++ r) 4 4 = x.slot % 256 ^ 4 := by
  rw [byteAt_eq, byteAt_eq]
  unfold WEntry.head
  refine ⟨?_, ?_, ?_, ?_⟩ <;> simp (disch := simp) only [List.append_assoc, beAt_append_left, beAt_append_right, length_toBE, Nat.reduceSub, beAt_toBE]

/-- An entry whose fields fit their places. -/
structure WEntry.Fits (x : WEntry) : Prop where
  kind : x.kind < 256
  flags : x.flags < 256
  slot : x.slot < 2 ^ 32
  body : x.body.length < 65536

theorem readEntries_cons {x : WEntry} (hx : x.Fits) (n : Nat) (r : Bytes) : readEntries (n + 1) (x.bytes ++ r) = x :: readEntries n r := by
  have hlen := x.length_head
  obtain ⟨hkind, hflags, hbody, hslot⟩ := x.head_fields (x.body ++ r)
  replace hkind := hkind.trans (Nat.mod_eq_of_lt hx.kind)
  replace hflags := hflags.trans (Nat.mod_eq_of_lt hx.flags)
  replace hbody := hbody.trans (Nat.mod_eq_of_lt hx.body)
  replace hslot := hslot.trans (Nat.mod_eq_of_lt hx.slot)
  have hhead : (x.head ++ (x.body ++ r)).drop 8 = x.body ++ r := List.drop_left' hlen
  have hrest : (x.head ++ (x.body ++ r)).drop (8 + x.body.length) = r := by
    rw [← List.drop_drop, hhead, List.drop_left]
  rw [WEntry.bytes_eq, List.append_assoc]
  rw [readEntries, if_neg (by rw [List.length_append, hlen]; omega)]
  dsimp only
  rw [hkind, hflags, hbody, hslot, hrest, hhead, List.take_left]

/-- Entries read back as they were written. -/
theorem readEntries_written {es : List WEntry} (h : ∀ x ∈ es, x.Fits) : readEntries es.length (es.flatMap WEntry.bytes) = es := by
  induction es with
  | nil => rfl
  | cons x es ih =>
    have hrest := ih fun y hy => h y (List.mem_cons_of_mem _ hy)
    rw [List.flatMap_cons, List.length_cons, readEntries_cons (h x List.mem_cons_self), hrest]

/-! ## Batches (R522) -/

theorem notePart_of_before {r : Nat} (es : List WEntry) (h : d.buddy.received = some r) (hbefore : periodAfter (beAt f 4 4) r = false) :
    notePart d f es = (false, d) := by
  unfold notePart
  dsimp only
  rw [h]
  exact if_pos (.inl hbefore)

/-- A part of a batch that has come is not taken again. -/
theorem notePart_of_known (es : List WEntry) (hparts : ∀ b ∈ d.buddy.early, b.parts.any (fun p => p.1 == byteAt f 3) = true)
    (hperiod : ∃ b ∈ d.buddy.early, b.period = beAt f 4 4) : notePart d f es = (false, d) := by
  unfold notePart
  dsimp only
  obtain ⟨b, hb, hb_period⟩ := hperiod
  obtain ⟨x, hx⟩ := Option.isSome_iff_exists.mp (List.find?_isSome (p := fun x : WBatch => x.period == beAt f 4 4).mpr ⟨b, hb, beq_iff_eq.mpr hb_period⟩)
  rw [hx]
  exact if_pos (.inr (hparts x (List.mem_of_find?_eq_some hx)))

theorem buddyPeriodRx_of_none (h : takeWalger d 2 = none) : buddyPeriodRx now d = d := by
  unfold buddyPeriodRx
  rw [h]

/-- What a PERIOD frame leaves before its part is noted: the peer is heard, and the batches it acknowledges are forgotten. -/
def heardPeriod (d : Dev) (f : Bytes) : Dev :=
  ackBatches { d.wr M.BUDDY_PEER_PERIOD (beAt f 4 4) with buddy := { d.buddy with heard := true } } (beAt f 8 4)

theorem heardPeriod_buddy (d : Dev) (f : Bytes) : (heardPeriod d f).buddy =
    { d.buddy with heard := true, sent := d.buddy.sent.filter (fun b => periodAfter b.1 (beAt f 8 4)) } := rfl

theorem buddyPeriodRx_of_known (h : takeWalger d 2 = some (f, d0)) (hjoined : d0.joined = true) (hdescs : d0.descs = [])
    (hparts : ∀ b ∈ d0.buddy.early, b.parts.any (fun p => p.1 == byteAt f 3) = true) (hperiod : ∃ b ∈ d0.buddy.early, b.period = beAt f 4 4) :
    buddyPeriodRx now d = heardPeriod d0 f := by
  have hrelease : releaseCreated now (heardPeriod d0 f) = heardPeriod d0 f := releaseCreated_of_empty hdescs
  have hnoted : notePart (heardPeriod d0 f) f (readEntries (beAt f 12 2) (walgerPayload f)) = (false, heardPeriod d0 f) :=
    notePart_of_known _ hparts hperiod
  unfold heardPeriod at hnoted hrelease ⊢
  unfold buddyPeriodRx
  rw [h]
  -- an opaque name for `notePart`, whose arithmetic of periods the kernel would unfold
  obtain ⟨note, hnote⟩ : ∃ g, g = notePart := ⟨_, rfl⟩
  rw [← hnote] at hnoted ⊢
  dsimp only at hnoted hrelease ⊢
  rw [if_neg (by simp [hjoined]), hrelease, hnoted]
  rfl

/-! ## Requests and answers (R440, R529) -/

/-- `e` is `d` after reads of memory: only the requests of channels and the model's own counter change. -/
def Dev.Asked (d e : Dev) : Prop := ∃ channels free, e = { d with memories := { d.memories with channels }, free }

theorem Dev.Asked.refl (d : Dev) : d.Asked d := ⟨_, _, rfl⟩

theorem Dev.Asked.trans {e' : Dev} (h : d.Asked e) (h' : e.Asked e') : d.Asked e' := by
  obtain ⟨channels, free, rfl⟩ := h
  obtain ⟨channels', free', rfl⟩ := h'
  exact ⟨channels', free', rfl⟩

theorem readSlot_asked (now : BellSt) (d : Dev) (slot port : Nat) (known : Option Bool) : d.Asked (readSlot now d slot port known) := by
  obtain ⟨channels, h⟩ := memRequest_channels (Dev.stamp now d).2 (d.placeOf slot).1
    { MemReq.new port (d.placeOf slot).2 false (decide (slot < epSlotBase)) (Dev.stamp now d).1 with known }
  exact ⟨channels, _, h⟩

/-- Reads asked one after the other. -/
theorem foldl_asked {α : Type} {g : Dev → α → Dev} (hg : ∀ (x : Dev) (a : α), x.Asked (g x a)) (as : List α) (d : Dev) : d.Asked (as.foldl g d) :=
  List.foldlRecOn as g (motive := d.Asked) (.refl d) fun x hx a _ => hx.trans (hg x a)

theorem mirrorRead_asked (now : BellSt) (d : Dev) (slot : Nat) : d.Asked (mirrorRead now d slot) := by
  refine foldl_asked (fun x s => ?_) _ d
  split
  · exact .refl x
  · exact readSlot_asked ..

theorem fetchAnswer_kind (d : Dev) (x : WEntry) : (fetchAnswer d x).kind = 9 ∨ (fetchAnswer d x).kind = 10 := by
  unfold fetchAnswer
  split
  · dsimp only
    generalize (if recKind (d.recordAt _) = 3 then recPrimary (d.recordAt _) else _) = s
    by_cases hread : d.cachedRec s = none ∧ d.readable s = false
    · rw [if_pos hread]
      exact .inr rfl
    · rw [if_neg hread]
      exact .inl rfl
  · exact .inr rfl

/-- The requests in a payload of `n` entries. -/
def fetchRequests (n : Nat) (p : Bytes) : List WEntry := (readEntries n p).filter (fun x => x.kind == 8)

theorem buddyFetchRx_of_part (h : takePart now d 3 = (some (p, f), d0)) : ∃ e, d0.Asked e ∧ buddyFetchRx now d =
    { e with buddy := { e.buddy with replyOut := e.buddy.replyOut ++ (fetchRequests (beAt f 12 2) p).map (fetchAnswer d0) } } := by
  unfold buddyFetchRx
  rw [h]
  refine ⟨_, foldl_asked (fun x a => ?_) _ d0, rfl⟩
  split
  · exact mirrorRead_asked ..
  · exact .refl x

theorem wakeAsked_of_empty (h : d.descs = []) (k : FlowKey) (missing : Bool) : wakeAsked now d k missing = d := by
  unfold wakeAsked
  dsimp only
  rw [h]
  rfl

/-- MISSING ends what was awaited for no slot. -/
theorem fillMissing_of_empty (key : Bytes) (h : d.descs = []) (haw : d.buddy.awaiting = [(key, none)]) :
    fillMissing now d key (key, none) = { d with buddy := { d.buddy with awaiting := [] } } := by
  have hanswered : answered d key none = { d with buddy := { d.buddy with awaiting := [] } } := by
    unfold answered
    rw [haw, List.erase_cons_head]
  unfold fillMissing
  dsimp only
  rw [hanswered]
  exact wakeAsked_of_empty (d := { d with buddy := { d.buddy with awaiting := [] } }) h ..

theorem buddyReplyRx_of_missing {x : WEntry} (h : takePart now d 4 = (some (p, f), d0)) (hone : readEntries (beAt f 12 2) p = [x]) (hkind : x.kind = 10)
    (haw : d0.buddy.awaiting = [(x.body, none)]) (hdescs : d0.descs = []) :
    buddyReplyRx now d = { d0 with buddy := { d0.buddy with awaiting := [] } } := by
  have hnine : ¬x.kind = 9 := by omega
  have hnamed : [(x.body, (none : Option Nat))].filter (fun a => a.1 == x.body) = [(x.body, none)] :=
    List.filter_cons_of_pos (beq_self_eq_true x.body)
  unfold buddyReplyRx
  rw [h]
  dsimp only
  rw [hone, List.foldl_cons, List.foldl_nil, haw, if_neg hnine, hnamed, if_neg (by simp),
    List.foldl_cons, List.foldl_nil, if_neg hnine, if_pos hkind]
  exact fillMissing_of_empty _ hdescs haw

/-! ## Relayed frames (R524, R525) -/

theorem buddyRelayRx_of_first (h : takePart now d 5 = (some (p, f), d0)) (hfirst : bitOf (byteAt f 2) 2 = true) :
    buddyRelayRx now d = { d0 with buddy := { d0.buddy with relayPart := some (beAt f 4 4, beAt p 0 2, p.drop 4) } } := by
  unfold buddyRelayRx
  rw [h]
  exact if_pos hfirst

theorem buddyRelayRx_of_second {lead : Bytes} (h : takePart now d 5 = (some (p, f), d0)) (hlast : bitOf (byteAt f 2) 2 = false)
    (hpart : d0.buddy.relayPart = some (beAt f 4 4, beAt p 0 2, lead)) : buddyRelayRx now d =
      relayedFrame now { d0 with buddy := { d0.buddy with relayPart := none } } (beAt p 0 2) (lead ++ p.drop 4) := by
  unfold buddyRelayRx
  rw [h]
  dsimp only
  rw [if_neg (by simp [hlast]), hpart]
  exact if_pos ⟨rfl, rfl⟩

theorem buddyCreateTimeout_of_empty (h : d.descs = []) : buddyCreateTimeout now d = d := by
  unfold buddyCreateTimeout
  dsimp only
  rw [h]
  rfl

theorem buddyCreateTimeout_of_relayed {x : Desc} {n : Nat} (h : d.descs = [x]) (hwait : x.wait = .relay n)
    (hlate : d.rd M.BUDDY_CREATE_WAIT ≤ periodsSince now.period.toNat n) : buddyCreateTimeout now d =
      refuseAll now ((d.unpark x.id).bump M.CNT_BUDDY_CREATE_TIMEOUT) x 10 := by
  unfold buddyCreateTimeout
  dsimp only
  rw [h, List.find?_cons_of_pos (by rw [hwait]; exact decide_eq_true hlate)]

end Sys2Proof.Machine

namespace Sys2Proof

open Sys2Proof.Machine

/-- Settles O60, clause by clause. -/
theorem buddiesExchangeBatches : Obligations.BuddiesExchangeBatches := by
  refine ⟨fun es h => ?_, fun f d0 s hruns h hjoined hdescs hcount hparts hperiod => ?_, fun s h => ?_, fun d f es r hr hbefore => ?_,
    fun p f d0 s hruns h => ?_, fun p f x d0 s hruns h hone hkind haw hdescs => ?_, fun p f d0 s hruns h hfirst => ?_,
    fun p f lead d0 s hruns h hlast hpart => ?_, fun x n s hruns h hwait hlate => ?_, fun s h => ?_⟩
  · refine readEntries_written fun x hx => ?_
    obtain ⟨hkind, hflags, hslot, hbody⟩ := h x hx
    exact ⟨hkind, hflags, hslot, hbody⟩
  · refine ⟨_, gives_of_onDie (f := buddyPeriodRx) rfl hruns, ?_⟩
    rw [buddyPeriodRx_of_known h hjoined hdescs hparts hperiod]
    refine ⟨rfl, ?_, rfl, fun b hb => ?_⟩
    · show (d0.wr M.BUDDY_PEER_PERIOD (beAt f 4 4)).rd M.BUDDY_PEER_PERIOD = _
      rw [Dev.rd_wr_same]
      exact Nat.mod_eq_of_lt ((beAt_four_lt f 4).trans (by decide))
    · exact List.mem_filter.mp (heardPeriod_buddy d0 f ▸ hb)
  · exact exec_of_onDie_keeps (f := buddyPeriodRx) rfl (buddyPeriodRx_of_none h)
  · exact notePart_of_before es hr hbefore
  · obtain ⟨e, ⟨channels, free, rfl⟩, hrx⟩ := buddyFetchRx_of_part h
    refine ⟨_, gives_of_onDie (f := buddyFetchRx) rfl hruns, ?_⟩
    rw [hrx]
    refine ⟨(fetchRequests (beAt f 12 2) p).map (fetchAnswer d0), rfl, rfl, rfl, List.length_map _, fun x hx => ?_⟩
    obtain ⟨y, -, rfl⟩ := List.mem_map.mp hx
    exact fetchAnswer_kind d0 y
  · have hgives : Gives .buddyReplyRx s s.bell (buddyReplyRx s.bell s.dev) := gives_of_onDie (f := buddyReplyRx) rfl hruns
    rwa [buddyReplyRx_of_missing h hone hkind haw hdescs] at hgives
  · have hgives : Gives .buddyRelayRx s s.bell (buddyRelayRx s.bell s.dev) := gives_of_onDie (f := buddyRelayRx) rfl hruns
    rwa [buddyRelayRx_of_first h hfirst] at hgives
  · have hgives : Gives .buddyRelayRx s s.bell (buddyRelayRx s.bell s.dev) := gives_of_onDie (f := buddyRelayRx) rfl hruns
    rwa [buddyRelayRx_of_second h hlast hpart] at hgives
  · have hgives : Gives .buddyCreateTimeout s s.bell (buddyCreateTimeout s.bell s.dev) := gives_of_onDie (f := buddyCreateTimeout) rfl hruns
    rwa [buddyCreateTimeout_of_relayed h hwait hlate] at hgives
  · exact exec_of_onDie_keeps (f := buddyCreateTimeout) rfl (buddyCreateTimeout_of_empty h)

end Sys2Proof
